-- ==== Sys2Proof/Word.lean ====
section
/-! DEFINITION. The word and byte types of the device's registers (R5) and their plainest field arithmetic. -/

namespace Sys2Proof

/-- A register word (R5). -/
abbrev Word := BitVec 32

/-- A byte of a table, a frame or the frame store (R4). -/
abbrev Byte := BitVec 8

/-- The field of width `wd` whose lowest bit is `lo`. -/
def wget (w : Word) (lo wd : Nat) : Nat := (w.extractLsb' lo wd).toNat

/-- The word with ones in that field. -/
def wmask (lo wd : Nat) : Word := (BitVec.ofNat 32 (2 ^ wd - 1)) <<< lo

/-- The word with that field replaced by `v` modulo `2 ^ wd`. -/
def wput (w : Word) (lo wd v : Nat) : Word :=
  (w &&& ~~~ wmask lo wd) ||| ((BitVec.ofNat 32 (v % 2 ^ wd)) <<< lo)

/-- Bit `i` of a word. -/
def wbit (w : Word) (i : Nat) : Bool := w.getLsbD i

end Sys2Proof
end

