-- ==== Sys2Proof/Syntax.lean ====
section
/-! DEFINITION. The commands: one constructor of `Instr` for every row of spec/opcode_table.json, in the table's
order, with the row's operands. An operand is what comes from outside the block: who sends a command and what it
carries, and, for an event, what the block reads from its surroundings at that instant (a level, a sample, the
content of the flash, a head's reply, the outcome of a test). -/

namespace Sys2Proof

/-- Who sends a command: a seat (R42) or the service console, which is not a seat (R46). -/
inductive Src where
  | seat (s : Fin 4)
  | console
  deriving DecidableEq, Repr

/-- The header of a command frame as it reaches execution (R47): its sender, the queue class 0 to 3 of the
command queue it came by, its sequence number, its NOACK and IRQ flags, and the length of the reply buffer of its
descriptor in bytes (R53; on Ethernet and the console there is none). -/
structure CmdHdr where
  src : Src
  q : Fin 4
  seq : Nat
  noack : Bool
  irq : Bool
  replyLen : Nat
  deriving DecidableEq, Repr

/-- The header of a feed frame (R47, R87): the seat it came by, its head port, its sequence number, its flags and
its reply buffer. -/
structure FeedHdr where
  seat : Fin 4
  port : Fin 32
  seq : Nat
  noack : Bool
  irq : Bool
  replyLen : Nat
  deriving DecidableEq, Repr

/-- The path by which a register or table write arrives: a PCIe memory write to BAR0 of a function (R52), a WR32 frame
with this one pair (R50), or a WR line of the console (R389). -/
inductive Writer where
  | mmio (fn : Fin 2)
  | frame (h : CmdHdr)
  | console
  deriving DecidableEq, Repr

/-- The commit record of R64: BAY, the FLAGS bits, EXPGEN and TARGET. -/
structure CommitRec where
  bay : Nat
  next : Bool
  expect : Bool
  now : Bool
  expgen : Nat
  target : Nat
  deriving DecidableEq, Repr

/-- The commit slots: the host slot of a bay, the internal slot of a bay (R71), and the device-wide commit (R73). -/
inductive Slot where
  | host (b : Fin 4)
  | internal (b : Fin 4)
  | device
  deriving DecidableEq, Repr

/-- What arrives at an Ethernet port (R44). -/
inductive EthFrame where
  /-- An ARP request for an address, from a sender. -/
  | arpRequest (target sender : Word)
  /-- An ARP reply: the address it resolves, and the address it is for. -/
  | arpReply (sender target : Word)
  /-- An ICMP echo request with its echo data. -/
  | icmpEcho (srcIp dstIp : Word) (data : List Byte)
  /-- A UDP datagram: addresses, ports, whether it is an unfragmented IPv4 packet without options, whether a
  non-zero checksum matches, and its payload, the CRC-32 trailer included. -/
  | udp (srcIp dstIp : Word) (srcPort dstPort : Nat) (plain checksumOk : Bool) (data : List Byte)
  /-- Anything outside the subset of R44. -/
  | other
  deriving DecidableEq, Repr

/-- A descriptor fetched from host memory: the length of its reply buffer, and the frame fetched from its address (R53). -/
structure Descriptor where
  replyLen : Nat
  frame : List Byte
  deriving DecidableEq, Repr

/-- A mortar queue entry that a parity error discards (R16): the oldest trigger message of a bay, or the oldest error signal. -/
inductive MqEntry where
  | trigger (b : Fin 4)
  | signal
  deriving DecidableEq, Repr

/-- An error signal on its way to the collector (R293): the source, the unit index or 0xFF, the bay it belongs to
where the source itself says so (SRAM_UE, FS_UE, HP_OVERSPEED: R295), its stamp, the course of its bay at the
stamp, whether a perturbation forced it (R407), and for MQ_PARITY the entry that failed, where the model holds it (R16). -/
structure FaultSig where
  source : Nat
  unit : Nat
  bay : Option (Fin 4)
  stamp : Nat
  course : Nat
  forced : Bool
  lost : Option MqEntry := none
  deriving DecidableEq, Repr

/-- A unit that can be fenced (R302). -/
inductive FUnit where
  | port (xx : Nat)
  | engine (xx : Nat)
  | ps (n : Nat)
  | cam (n : Nat)
  | thermal (c : Nat)
  | seat (s : Nat)
  deriving DecidableEq, Repr

/-- What a thermal channel measures in one conversion: the forward voltages of a diode in µV (R272), or the ratio of a
thermistor in units of 2^-20 (R273). -/
inductive Reading where
  | diode (v1 v2 v3 : Nat)
  | ratio (rho : Nat)
  deriving DecidableEq, Repr

/-- What SFDP lists of the flash (R327): the 4-byte opcodes 0xEC, 0x34, 0xDC and 0x21, a 1-4-4 read, a 1-1-4 program, and 64 KiB
erase. -/
structure FlashCaps where
  fourByte : Bool := true
  read144 : Bool := true
  quadProgram : Bool := true
  erase64 : Bool := true
  deriving DecidableEq, Repr

/-- What the flash answers at the start of LOAD (R327, R330): its density in MiB, or none where it has no valid
SFDP signature, the first 256 bytes of copies A and B, and what SFDP lists. -/
structure FlashHeads where
  densityMiB : Option Nat
  a : List Byte
  b : List Byte
  caps : FlashCaps := {}
  deriving DecidableEq, Repr

/-- What the device samples in one attempt of a transaction on a head's identity line (R363): the acknowledgement (low) at 470 µs, the
high line at 530 µs, and of each cell the head sends whether its early and its late position read low. -/
structure IdTry where
  ack : Bool
  high : Bool
  cells : List (Bool × Bool)
  deriving DecidableEq, Repr

/-- What a head's identity memory answers in one read (R365, R367): the attempts of READ_ID and of READ_USE, and the tally words a head
change writes that do not verify, with what they hold (R377, R379). -/
structure HeadReply where
  id : List IdTry
  use : List IdTry
  failed : List (Nat × Nat) := []
  deriving DecidableEq, Repr

/-- The observations of one hourly sample (R381) that come from outside the wear block: the largest fall of the ring
oscillators in 10 ppm, and the smallest eyes of the frame store, PCIe and Ethernet in 1/128 UI (0xFF not
measured); and the tally words of the sample that do not verify, with what they hold (R379). -/
structure TrendObs where
  ring : Int
  ddr : Nat
  pcie : Nat
  eth : Nat
  failed : List (Nat × Nat) := []
  deriving DecidableEq, Repr

/-- A console line the device does not execute as a command (R387, R388): too long, malformed, completed while a
command runs, or before LOAD completes. -/
inductive LineReject where
  | long
  | syntaxError
  | busy
  | notYet
  deriving DecidableEq, Repr

/-- The SHOW commands (R396) with what the block reads at its pins: PS n; CAM n with the line states of the clock lane
and D0 to D3 (0 LP00, 1 LP01, 2 LP10, 3 LP11, 4 HS); SN xx with its 256 samples. -/
inductive ShowWhat where
  | ps (n : Fin 8)
  | cam (n : Fin 4) (lanes : List (Fin 5))
  | sn (xx : Fin 32) (samples : List Nat)
  deriving DecidableEq, Repr

/-- The commands, in the order of the table. -/
inductive Instr where
  /-- REGISTER_WRITE. A PCIe memory write to BAR0 of a function: address, bytes, whether every byte enable is set, and the value (R52). -/
  | registerWrite (fn : Fin 2) (addr size : Nat) (enables : Bool) (value : Nat)
  /-- POWER_ESTIMATE_UPDATE. The nine estimates in mW (R33). -/
  | powerEstimateUpdate (mw : List Nat)
  /-- ETH_FRAME_RECEIVED. An Ethernet frame at port A or B with its destination address (R44). -/
  | ethFrameReceived (port : Fin 2) (dstMac : Nat) (f : EthFrame)
  /-- LINK_UP. A seat's link comes up at a speed and width (R58, R81). -/
  | linkUp (seat : Fin 4) (speed width : Nat)
  /-- LINK_DOWN. A seat's link goes down (R58). -/
  | linkDown (seat : Fin 4)
  /-- LINK_LOSS_TIMEOUT. The link-loss timer of an Ethernet seat (R46). -/
  | linkLossTimeout (seat : Fin 4)
  /-- FUNCTION_LEVEL_RESET. A Function Level Reset (R46). -/
  | functionLevelReset (fn : Fin 2)
  /-- PERST_ASSERT. nPE_PERST asserted (R46). -/
  | perstAssert
  /-- PCIE_CONFIG_REQUEST. A configuration request (R311): a write with its dword, or a read. -/
  | pcieConfigRequest (fn : Fin 2) (write : Option Word) (dword : Nat)
  /-- CQ_DOORBELL. A write to HS_CQTAIL of a function's queue (R53). -/
  | cqDoorbell (w : Writer) (fn : Fin 2) (q : Fin 4) (value : Word)
  /-- DESCRIPTOR_FETCH. A descriptor and its frame arrive: from the command ring served next, or from the feed ring of a port (R53, R88). -/
  | descriptorFetch (fn : Fin 2) (feed : Option (Fin 32)) (desc : Descriptor)
  /-- EQ_HEAD_WRITE. A write to HS_EQHEAD (R54). -/
  | eqHeadWrite (w : Writer) (fn : Fin 2) (q : Fin 4) (value : Word)
  /-- HELD_EVENT_DELIVERY. The oldest held entry that finds space (R55). -/
  | heldEventDelivery (seat : Fin 2)
  /-- RING_ENABLE_WRITE. A write to HS_CQSIZE or HS_EQSIZE (R81). -/
  | ringEnableWrite (w : Writer) (fn : Fin 2) (event : Bool) (q : Fin 4) (value : Word)
  /-- NOP. R49. -/
  | nop (h : CmdHdr)
  /-- RD32. R50. -/
  | rd32 (h : CmdHdr) (offs : List Nat)
  /-- WR32. R50. -/
  | wr32 (h : CmdHdr) (pairs : List (Nat × Word))
  /-- RDBLK. R447. -/
  | rdblk (h : CmdHdr) (off len : Nat)
  /-- WRBLK. R447. -/
  | wrblk (h : CmdHdr) (off : Nat) (data : List Word)
  /-- COMMIT. R65. -/
  | commit (h : CmdHdr) (rec : CommitRec)
  /-- COMMIT_ARMED. Every prepare acknowledgement has arrived (R65). -/
  | commitArmed (slot : Slot)
  /-- PREPARE_TIMEOUT. R65. -/
  | prepareTimeout (slot : Slot)
  /-- CANCEL. R70. -/
  | cancel (h : CmdHdr) (bay : Nat)
  /-- INTERNAL_COMMIT_START. R264. -/
  | internalCommitStart (b : Fin 4)
  /-- SNAP. R76. -/
  | snap (h : CmdHdr) (bay flags target : Nat)
  /-- SNAPRD. R77. -/
  | snaprd (h : CmdHdr) (bay buffer off len : Nat)
  /-- SNAPREL. R77. -/
  | snaprel (h : CmdHdr) (bay buffer : Nat)
  /-- STOP. R61. -/
  | stop (h : CmdHdr) (bay : Nat)
  /-- NSTOP_FALL. A filtered fall of nSTOPb; how long the pin stays low in CK_POS cycles, `none` while no rise is foreseen (R61, R62). -/
  | nstopFall (b : Fin 4) (lowFor : Option Nat)
  /-- CDATA. The feed header of R90 and the course data (R94). -/
  | cdata (h : FeedHdr) (raster count offset pixels format reserved value : Nat) (data : List Byte)
  /-- CFILL. The feed header of R90 and the frame's LENGTH (R89). -/
  | cfill (h : FeedHdr) (raster count offset pixels format reserved value len : Nat)
  /-- FFLUSH. The raster, LENGTH and bytes 6–7 (R89, R96). -/
  | fflush (h : FeedHdr) (raster : Nat) (len reserved : Nat)
  /-- FQ_DOORBELL. A write to RI_FQTAIL (R87). -/
  | fqDoorbell (w : Writer) (xx : Fin 32) (value : Word)
  /-- FEED_FRAME_RESUME. R99. -/
  | feedFrameResume (xx : Fin 32)
  /-- SLOT_COMPLETE. The acknowledgement of the last write of a full slot (R95). -/
  | slotComplete (xx : Fin 32) (raster : Nat)
  /-- APERTURE_WRITE. A write through the BAR0 window or BAR2 (R107). -/
  | apertureWrite (fn : Fin 2) (bar2 : Bool) (off : Nat)
  /-- BAR2_READ. A read through BAR2 (R107). -/
  | bar2Read (fn : Fin 2) (off len : Nat)
  /-- PATROL_SCRUB. The block read and the error found there: corrected (false) or uncorrectable (true) (R86). -/
  | patrolScrub (addr : Nat) (err : Option Bool)
  /-- DQS_TRACKING. R82. -/
  | dqsTracking (channel : Fin 2)
  /-- CURVE_HEAD_WRITE. A write that changes SC_CVSTG.HEAD (R121). -/
  | curveHeadWrite (w : Writer) (b : Fin 4) (head : Fin 32)
  /-- CURVE_CLAIM. A write of 1 to SC_CVSTG.CLAIM (R121). -/
  | curveClaim (w : Writer) (b : Fin 4)
  /-- CURVE_COPY_DONE. The copy that CLAIM started ends (R121). -/
  | curveCopyDone (b : Fin 4)
  /-- CURVE_ARM. A write of 1 to SC_CVSTG.ARM (R121). -/
  | curveArm (w : Writer) (b : Fin 4)
  /-- TABLE_WRITE. A write to a threshold array, level table, ramp table, bond or the curve staging window (R134). -/
  | tableWrite (w : Writer) (off : Nat) (value : Word)
  /-- POSITION_EDGE. The levels IN2 to IN0 at the pins and after the filter (R143). -/
  | positionEdge (n : Fin 8) (raw pins : Fin 8)
  /-- Z_EDGE. An accepted rising edge of Z (R152). -/
  | zEdge (n : Fin 8)
  /-- OVERRATE_SUBWINDOW. A sub-window of 10 µs ends (R145). -/
  | overrateSubwindow (n : Fin 8)
  /-- SSI_FRAME_START. An SSI frame starts; whether PSn_IN0 is low there (R149). -/
  | ssiFrameStart (n : Fin 8) (idleLow : Bool)
  /-- SSI_WORD_DECODED. The word sampled (R150). -/
  | ssiWordDecoded (n : Fin 8) (raw : Nat)
  /-- SPEED_WINDOW_END. R154. -/
  | speedWindowEnd (n : Fin 8)
  /-- STALL_TIMEOUT. R155. -/
  | stallTimeout (n : Fin 8)
  /-- PRELOAD. A write of 1 to PS_CMD.PRELOAD (R152). -/
  | preload (w : Writer) (n : Fin 8)
  /-- MOVE. A write to PS_CMD.MOVE (R155). -/
  | move (w : Writer) (n : Fin 8) (v : Bool)
  /-- INTERPOLATED_TRIGGER. R159. -/
  | interpolatedTrigger (b : Fin 4)
  /-- GENERATOR_TRIGGER. R162. -/
  | generatorTrigger (b : Fin 4)
  /-- PACER_RATE_UPDATE. R163. -/
  | pacerRateUpdate (b : Fin 4)
  /-- DELAYED_TRIGGER_ISSUE. R405. -/
  | delayedTriggerIssue (b : Fin 4)
  /-- COURSE_BOUNDARY. The oldest course trigger message of the bay is processed (R316). -/
  | courseBoundary (b : Fin 4)
  /-- COMPARE_MATCH. R166. -/
  | compareMatch (e : Fin 8)
  /-- COMPARE_PULSE_END. The pulse of an engine at an output ends (R167). -/
  | comparePulseEnd (e : Fin 8) (o : Fin 16)
  /-- EMULATION_EDGE. R168. -/
  | emulationEdge (n : Fin 4)
  /-- CODE_LOAD. The last LD frame of a course's codes has been sent (R179). -/
  | codeLoad (xx : Fin 32)
  /-- LATCH. R190. -/
  | latch (xx : Fin 32)
  /-- LATCH_TRAILING_EDGE. R180. -/
  | latchTrailingEdge (xx : Fin 32)
  /-- CONFIG_REPEAT_DUE. R189. -/
  | configRepeatDue (xx : Fin 32)
  /-- HEAD_POWER_REQUEST. A write to HP_PWR.REQ (R196). -/
  | headPowerRequest (w : Writer) (xx : Fin 32) (req : Bool)
  /-- HEAD_SETTLE_DONE. TPON has passed; whether the loopback of R197 matched (R196). -/
  | headSettleDone (xx : Fin 32) (loopback : Bool)
  /-- HEAD_POWER_DOWN_TIMER. R196. -/
  | headPowerDownTimer (xx : Fin 32)
  /-- WAVEFORM_BANK_WRITE. A write to a waveform bank (R182). -/
  | waveformBankWrite (w : Writer) (off : Nat) (value : Word)
  /-- SOUNDING_CAPTURE_DONE. The 256 codes of the sense ADC (R210). -/
  | soundingCaptureDone (xx : Fin 32) (samples : List Nat)
  /-- HM_DECLARE. HM_DECL.GO with ACT 0 (R216). -/
  | hmDeclare (w : Writer) (b : Fin 4) (head : Fin 32) (noz : Fin 8192)
  /-- HM_CLEAR. HM_DECL.GO with ACT 1 (R216). -/
  | hmClear (w : Writer) (b : Fin 4) (head : Fin 32) (noz : Fin 8192)
  /-- HM_FORCE_GOOD. HM_DECL.GO with ACT 2 (R216). -/
  | hmForceGood (w : Writer) (b : Fin 4) (head : Fin 32) (noz : Fin 8192)
  /-- AGING_PASS. The pass visits a nozzle (R215). -/
  | agingPass (xx : Fin 32) (noz : Fin 4096)
  /-- FOOTPRINT_WRITE. A write to a footprint (R225). -/
  | footprintWrite (w : Writer) (off : Nat) (value : Word)
  /-- LEARN_START. A write of 1 to SN_LEARN.START (R226). -/
  | learnStart (w : Writer) (xx : Fin 32)
  /-- FRAME_START. A Frame Start packet on a virtual channel with the sensor's frame number (R235). -/
  | frameStart (cam : Fin 4) (vc : Fin 4) (sensorFn : Nat)
  /-- FRAME_END. A Frame End packet (R235). -/
  | frameEnd (cam : Fin 4) (vc : Fin 4)
  /-- ROW_PACKET. A long packet: channel, data type, whether its header is beyond correction, word count, CRC, and its pixels (R233). -/
  | rowPacket (cam : Fin 4) (vc : Fin 4) (dt : Nat) (hdrBad : Bool) (wc : Nat) (crcOk : Bool) (pixels : List Nat)
  /-- FRAME_TIMEOUT. R235. -/
  | frameTimeout (cam : Fin 4)
  /-- CM_CLOCK. R266. -/
  | cmClock (cam : Fin 4) (started : Bool)
  /-- CAMERA_TRIGGER_TIMER. R237. -/
  | cameraTriggerTimer (cam : Fin 4)
  /-- CAMERA_TRIG_PULSE_END. R237. -/
  | cameraTrigPulseEnd (cam : Fin 4)
  /-- I2C_TRANSACTION_DONE. The outcome of the transaction under way, with the byte read (R238). -/
  | i2cTransactionDone (cam : Fin 4) (ack : Option (Fin 3)) (data : Fin 256)
  /-- I2C_HOST_TRANSACTION. A write of 1 to CM_I2CCMD.GO (R240). -/
  | i2cHostTransaction (w : Writer) (cam : Fin 4) (rd : Bool) (reg : Fin 65536) (data : Fin 256)
  /-- TILE_GRANT. R243. -/
  | tileGrant
  /-- TILE_DONE. R243. -/
  | tileDone
  /-- STATS_COMPLETE. R254. -/
  | statsComplete (cam : Fin 4)
  /-- CAMERA_FS_TIMEOUT. R258. -/
  | cameraFsTimeout (cam : Fin 4)
  /-- CAMERA_TABLE_WRITE. A write to a tone, defect or mark table (R256). -/
  | cameraTableWrite (w : Writer) (off : Nat) (value : Word)
  /-- NC_JOB_GO. A write of 1 to IN_NCCFG.GO (R259). -/
  | ncJobGo (w : Writer) (cam : Fin 4) (k : Fin 2) (head : Fin 32) (rungs : Fin 64) (rh : Fin 256)
  /-- NC_JOB_CANCEL. A write of 1 to IN_NCCFG.CANCEL (R259). -/
  | ncJobCancel (w : Writer) (cam : Fin 4) (k : Fin 2)
  /-- IN_NC_DONE. R260. -/
  | inNcDone (cam : Fin 4) (k : Fin 2)
  /-- REGISTRATION_RESET. A write of 1 to IN_RCTL.RESET (R262). -/
  | registrationReset (w : Writer) (b : Fin 4)
  /-- THERMAL_CONVERSION. A conversion of the earliest due channel (R277). -/
  | thermalConversion (c : Fin 74) (r : Reading)
  /-- SHUT_RELEASE. A write to TM_SHUTST (R286). -/
  | shutRelease (w : Writer) (mask : Word)
  /-- FAULT_LATCH. The signals that reach the collector in one CK_MON cycle: those given, or the oldest one on its way (R293). -/
  | faultLatch (sigs : List FaultSig)
  /-- DEGRADE_REQUEST_RETRY. R298. -/
  | degradeRequestRetry (b : Fin 4)
  /-- FC_REARM. A write of 1 to FC_CMD.REARM (R293). -/
  | fcRearm (w : Writer)
  /-- FC_RELEASE. A write to FC_CMD.RELEASE (R301). -/
  | fcRelease (w : Writer) (mask : Fin 32)
  /-- QUIET_EXPIRY. R300. -/
  | quietExpiry (k : Fin 5)
  /-- SELF_CHECK_TEST. R300. -/
  | selfCheckTest (k : Fin 5) (unit : FUnit) (pass : Bool)
  /-- LOCK_WINDOW_EXPIRY. R301. -/
  | lockWindowExpiry (k : Fin 5)
  /-- NERR_PULSE_END. R303. -/
  | nerrPulseEnd
  /-- NERR_HOLD_WRITE. A write to FC_NERR.HOLD (R303). -/
  | nerrHoldWrite (w : Writer) (hold : Bool)
  /-- RESET_ASSERT. nRESET is low, for how long in ns (R308). -/
  | resetAssert (ns : Nat)
  /-- RESET_RELEASE. R309. -/
  | resetRelease
  /-- AON_STABLE. R309. -/
  | aonStable
  /-- OTP_INTEGRITY_CHECK_DONE. Whether the array gives reads and its reference self-test passes (R357). -/
  | otpIntegrityCheckDone (arrayReads selfTest : Bool)
  /-- PLL_LOCKED. R309. -/
  | pllLocked
  /-- SRAM_CLEAR_DONE. R309. -/
  | sramClearDone
  /-- IMAGE_HEADERS_READ. R330. -/
  | imageHeadersRead (f : FlashHeads)
  /-- IMAGE_BODY_READ. The bytes of the body of the copy tried (R331). -/
  | imageBodyRead (body : List Byte)
  /-- FRAME_STORE_TRAINED. Which channels trained, and the density code of MR8 (R83). -/
  | frameStoreTrained (ok0 ok1 : Bool) (mr8 : Fin 5)
  /-- LOAD_COMPLETE. The indices of the tally words that read uncorrectable (R311, R379). -/
  | loadComplete (tallyUe : List Nat)
  /-- SUPPLY_TRIP. A rail monitor trips, for how long in µs (R416). -/
  | supplyTrip (rail : Nat) (us : Nat)
  /-- AON_POWER_ON_RESET. R416. -/
  | aonPowerOnReset
  /-- SEALED_STATUS_LINE. R315. -/
  | sealedStatusLine
  /-- IMGRELOAD. R323. -/
  | imgreload (h : CmdHdr) (sel : Nat)
  /-- WRITEBACK_ABANDON. R326. -/
  | writebackAbandon
  /-- ORDERLY_CHECKPOINT. R325. -/
  | orderlyCheckpoint
  /-- PERIODIC_CHECKPOINT. R378. -/
  | periodicCheckpoint
  /-- CHECKPOINT_DONE. The tally words that did not verify, with what each was left holding (R378, R379). -/
  | checkpointDone (failed : List (Nat × Nat))
  /-- IMGSTAGE_ERASE. R343. -/
  | imgstageErase (h : CmdHdr) (copy : Nat)
  /-- IMGSTAGE_WRITE. R343. -/
  | imgstageWrite (h : CmdHdr) (copy off : Nat) (data : List Byte)
  /-- IMGSTAGE_VERIFY. R344. -/
  | imgstageVerify (h : CmdHdr) (copy : Nat)
  /-- IMGSTAGE_QUERY. R345. -/
  | imgstageQuery (h : CmdHdr)
  /-- IMGSTAGE_ADVANCE. R343. -/
  | imgstageAdvance (h : CmdHdr)
  /-- FLASH_OPERATION_DONE. Whether the flash succeeded, and the body where a VERIFY reads it (R343). -/
  | flashOperationDone (ok : Bool) (body : List Byte)
  /-- OTP_PROGRAM_WORD. OT_PCMD.GO with OP 0 (R360). -/
  | otpProgramWord (w : Writer) (rec : Fin 16)
  /-- OTP_LOCK_FULL. OT_PCMD.GO with OP 1 (R360). -/
  | otpLockFull (w : Writer) (rec : Fin 16)
  /-- OTP_SEAL_AS_IS. OT_PCMD.GO with OP 2 (R360). -/
  | otpSealAsIs (w : Writer) (rec : Fin 16)
  /-- OTP_WORD_PROGRAMMED. VDD_OTP in mV, and the strict and lenient reads that each pulse adds (R359). -/
  | otpWordProgrammed (mv : Nat) (pulses : List (BitVec 39 × BitVec 39))
  /-- OTP_RAW_READ. A write to OT_RAWSEL (R373). -/
  | otpRawRead (w : Writer) (word : Fin 2048)
  /-- ID_POLL. R367. -/
  | idPoll (xx : Fin 32) (ack : Bool)
  /-- HEAD_READ. R367. -/
  | headRead (xx : Fin 32) (r : HeadReply)
  /-- WRITE_BACK. The attempts of WRITE_USE and of the READ_USE that reads it back (R364, R370). -/
  | writeBack (xx : Fin 32) (wr rd : List IdTry)
  /-- WEAR_RESET. A write of 1 to WR_HSTAT.RESET (R377). -/
  | wearReset (w : Writer) (xx : Fin 32)
  /-- TREND_SAMPLE. R381. -/
  | trendSample (o : TrendObs)
  /-- CONSOLE_STAT. R389. -/
  | consoleStat
  /-- CONSOLE_RD. R389. -/
  | consoleRd (a n : Nat)
  /-- CONSOLE_WR. R389. -/
  | consoleWr (a : Nat) (v : Word)
  /-- CONSOLE_F. R389. -/
  | consoleF (frame : List Byte)
  /-- CONSOLE_STOP. A bay, or every present bay (R389). -/
  | consoleStop (bay : Option (Fin 4))
  /-- CONSOLE_SERVICE. R321. -/
  | consoleService
  /-- CONSOLE_RUN. R322. -/
  | consoleRun
  /-- CONSOLE_PARK. A pair DL0 to DL3, CK, LAT or WV of a port: 0 normal, 1 parked +, 2 parked − (R392). -/
  | consolePark (xx : Fin 32) (pin : Fin 7) (code : Fin 3)
  /-- CONSOLE_ID. R393. -/
  | consoleId (xx : Fin 32) (low : Bool)
  /-- CONSOLE_TEMP. R394. -/
  | consoleTemp (c : Fin 128) (on : Bool)
  /-- CONSOLE_OUT. An output: 0 normal, 1 low, 2 high, 3 released (R395). -/
  | consoleOut (p : Nat) (code : Fin 4)
  /-- CONSOLE_SHOW. R396. -/
  | consoleShow (what : ShowWhat) (watch : Bool)
  /-- SHOW_WATCH_UPDATE. The watched state changes; the lanes of a camera port (R389). -/
  | showWatchUpdate (lanes : List (Fin 5))
  /-- CONSOLE_PEN. R397. -/
  | consolePen (xx : Fin 32) (on : Bool)
  /-- CONSOLE_PLUMB. R400. -/
  | consolePlumb (sel : Nat) (arg : Fin 256) (level : BitVec 16)
  /-- CONSOLE_OTP_PROG. R360. -/
  | consoleOtpProg (word : Fin 2048) (data : Word)
  /-- CONSOLE_OTP_LOCK. R360. -/
  | consoleOtpLock (rec : Fin 16)
  /-- CONSOLE_OTP_SEAL. R360. -/
  | consoleOtpSeal (rec : Fin 16)
  /-- CONSOLE_RELOAD. R346. -/
  | consoleReload (sel : Nat)
  /-- CONSOLE_BAUD. R386. -/
  | consoleBaud (r : Nat)
  /-- CONSOLE_TEST. R389. -/
  | consoleTest (test : Fin 10) (arg : Fin 256)
  /-- CONSOLE_LINE_REJECTED. R387. -/
  | consoleLineRejected (r : LineReject)
  /-- TEST_ALL. R390. -/
  | testAll
  /-- TEST_SRAM. The SRAM byte address of a mismatch (R390). -/
  | testSram (bad : Option Nat)
  /-- TEST_PLL. The PLLs that did not stay locked (R390). -/
  | testPll (lost : Fin 512)
  /-- TEST_OTP. R390. -/
  | testOtp (arrayReads selfTest : Bool)
  /-- TEST_TALLY. How many tally words read uncorrectable (R390). -/
  | testTally (ue : Nat)
  /-- TEST_LINK. The pairs whose loopback does not match (R390). -/
  | testLink (bad : Fin 128)
  /-- TEST_SNADC. The two means (R390). -/
  | testSnadc (short step : Nat)
  /-- TEST_TEMP. The two ratios in 1/4,096 (R390). -/
  | testTemp (first second : Nat)
  /-- TEST_FSMEM. The MiB that failed (R390). -/
  | testFsmem (failing : Option Nat)
  /-- TEST_CAM. Whether the CRC-32 obtained matches, and its value (R390). -/
  | testCam (pass : Bool) (crc : Word)
  /-- SV_TEST_DONE. R391. -/
  | svTestDone
  /-- PT_CLEAR. A write of 1 to PT_CFG.CLEAR (R401). -/
  | ptClear (w : Writer)
  /-- PT_CREDIT_WRITE. A write to PT_CREDIT: bits for Q1 to Q3, and FEED (R403). -/
  | ptCreditWrite (w : Writer) (seat : Fin 4) (q : Fin 8) (feed : Bool)
  /-- PT_CAMSTALL. A write to PT_CAMSTALL (R404). -/
  | ptCamstall (w : Writer) (mask : Fin 16) (us : Fin 65536)
  /-- CAMSTALL_END. R404. -/
  | camstallEnd (cam : Fin 4)
  /-- PT_FORCE. A write of 1 to PT_FORCE.GO (R407). -/
  | ptForce (w : Writer) (src : Fin 64) (unit : Fin 256)
  /-- PLL_LOCK_LOSS. R291. -/
  | pllLockLoss
  /-- SEAT_FETCH_TIMEOUT. R291. -/
  | seatFetchTimeout (seat : Fin 2)
  /-- PCIE_FATAL_ERROR. R291. -/
  | pcieFatalError (fn : Fin 2)
  /-- CONSOLE_BYTE_RECEIVED. A byte, and whether it has a framing error (R387). -/
  | consoleByteReceived (b : Byte) (framing : Bool)
  /-- ISLAND_WAKE_COMPLETE. R32. -/
  | islandWakeComplete (island : Fin 13)
  /-- EMULATION_PULSE_END. R169. -/
  | emulationPulseEnd (n : Fin 4)
  /-- POWER_ON_RESET_RELEASE. R416. -/
  | powerOnResetRelease
  /-- REGISTER_READ. A PCIe memory read of BAR0 (R52). -/
  | registerRead (fn : Fin 2) (addr size : Nat) (enables : Bool)
  deriving DecidableEq, Repr

end Sys2Proof
end

