-- ==== Sys2Proof/Config.lean ====
section
/-! DEFINITION. What the specification leaves open: free values. Each is an opaque constant with no body, so no
proof can see its value; a statement that mentions one holds whatever it is. -/

namespace Sys2Proof.Config

/-- The bay generation carried by an event that belongs to no bay (R56 gives the field to a bay's generation
only), by event code. DESIGN CHOICE: free value (log 4). -/
opaque deviceEventGen : Nat → Nat

/-- The course number carried by an event that belongs to no bay (R56), by event code. DESIGN CHOICE: free
value (log 4). -/
opaque deviceEventCourse : Nat → Nat

/-- A PCIe configuration dword whose content the specification does not give (R42, R311), by 1,024 × function + dword and a count of
the free values taken. DESIGN CHOICE: free value (log 5). -/
opaque pcieConfigWord : Nat → Nat → BitVec 32

/-- The dword of configuration space at which a function's capability lies (R42 names the capabilities and not their places): 0 power
management, 1 MSI-X, 2 PCI Express, 3 AER. DESIGN CHOICE: free value (log 185). -/
opaque pcieCapAt : Nat → Nat → Nat

/-- A dword of a read of the MSI-X range that is no aligned access of four or eight bytes (R52 leaves them to the PCIe specification, which
gives it no value), by address and a count of the free values taken. DESIGN CHOICE: free value (log 185). -/
opaque msixOther : Nat → Nat → BitVec 32

/-- Whether a thermistor temperature that lies between two steps of 1/16 °C, both within the error bound of R273, is
reported as the upper one, by ratio, RNOM and BETA. DESIGN CHOICE: free value (log 7). -/
opaque thermistorUp : Nat → Nat → Nat → Bool

/-- The reading of a thermistor channel where the formula of R273 gives no temperature (RNOM or BETA of 0, a ratio
of 1, no positive temperature), by ratio, RNOM and BETA. DESIGN CHOICE: free value (log 7). -/
opaque thermistorNone : Nat → Nat → Nat → Int

/-- The course that the trigger logic of a camera port holds before its first pulse (R237), by port. DESIGN CHOICE:
free value (log 8). -/
opaque noPulseTag : Nat → Nat

/-- A colour value that a frame too short to hold a pixel of its channel leaves open (R249), by channel, column and
row. DESIGN CHOICE: free value (log 8). -/
opaque demosaicNone : Nat → Nat → Nat → Nat

/-- The centroid of a mark without weight (R253), by mark window and axis. DESIGN CHOICE: free value (log 8). -/
opaque markNone : Nat → Nat → Nat

/-- Word j of the scramble value of the part, fixed at manufacture and readable nowhere (R361). DESIGN CHOICE: free value (log 10). -/
opaque otpScramble : Nat → BitVec 32

/-- What a tally word that reads uncorrectable at LOAD restores, where R379 does not say (every word that is no nozzle entry), by
word index. DESIGN CHOICE: free value (log 11). -/
opaque tallyLost : Nat → Nat

/-- The footprint drift of a head without a VALID footprint (R381), by port. DESIGN CHOICE: free value (log 11). -/
opaque driftNone : Nat → Nat

/-- The drift of a nozzle whose learned frequency is 0 (R381 divides by it), by port and nozzle. DESIGN CHOICE: free value (log 11). -/
opaque driftZero : Nat → Nat → Nat

/-- The target course in the result of a refused COMMIT, which R64 does not state, by bay and reason. DESIGN CHOICE: free value (log 12). -/
opaque refusedTarget : Nat → Nat → Nat

/-- The generation in the result of a refused COMMIT, which R64 does not state, by bay and reason. DESIGN CHOICE: free value (log 12). -/
opaque refusedGen : Nat → Nat → Nat

/-- CAP in MiB with more than 32 GiB installed, which R82 does not support, by installed MiB. DESIGN CHOICE: free value (log 13). -/
opaque capUnsupported : Nat → Nat

/-- Whether a low pulse on nRESET of 100 ns to 1 µs resets the device (R308 allows both), by a count of the free values taken.
DESIGN CHOICE: free value (log 14). -/
opaque shortReset : Nat → Bool

/-- What the memory test of R390 leaves in the frame-store bytes of its range (R391 says only that it overwrites them), by a count of the
free values taken and the address. DESIGN CHOICE: free value (log 3). -/
opaque testPattern : Nat → Nat → BitVec 8

/-- The word that the OTP self-test names in DETAIL when no single word fails (R390 names the lowest failing one), by the condition of
R357. DESIGN CHOICE: free value (log 15). -/
opaque otpNoWord : Nat → Nat

/-- The level at compare output o while SV_FORCE releases it (R395): that of the surroundings. DESIGN CHOICE: free value (log 17). -/
opaque releasedLevel : Nat → Bool

end Sys2Proof.Config
end

