-- ==== Sys2Proof/Machine/Regs.lean ====
section
/-! DEFINITION. The BAR0 register map: every register of the index R449 with its instance base, strides
and counts, and every field with its bits, access code and reset column as the field maps of the defining
chapters give them (R5 to R8, R37 to R41, R78 to R81 and the register tables of each chapter). -/

namespace Sys2Proof.Machine

/-- The registers of R449, by name; instances are numbered by up to two indices. -/
inductive RegName where
  | GL_ID | GL_MODE | GL_STEWARD | GL_TBLO | GL_TBHI | GL_CCLO
  | GL_CCHI | GL_BAYPORT | GL_BAYRES | GL_BAYCMP | GL_ISLAND | GL_PWR
  | KS_STATUS | KS_GEN | KS_TGTLO | KS_TGTHI | KS_REFOFF | KS_STAGED
  | KS_BAYCTL | KS_CNT | KS_SNAPGEN | KS_SNAPCCLO | KS_SNAPCCHI | KS_SNAPPT
  | KS_GENDEV | KS_DSTATUS | FC_SPALLLO | FC_SPALLHI | FC_FIRST | FC_FTBLO
  | FC_FTBHI | FC_FCCLO | FC_FCCHI | FC_CFG | FC_LOCK | FC_NERR
  | FC_CMD | FC_REC | FC_RSRCLO | FC_RSRCHI | FC_RCNT | FC_FENCE0
  | FC_FENCE1 | FC_FENCE2 | FC_FENCE3 | FC_FENCE4 | FC_FENCE5 | FC_SRC
  | TM_CH | TM_THM | TM_THR0 | TM_THR1 | TM_NB | TM_VAL
  | TM_OFF | TM_STAT | TM_TACT | TM_TTHIN | TM_BSTAT | TM_TCNT
  | TM_SCOPE | TM_CFG | TM_SHUTST | TM_SCAN | TM_ENF | OT_CHK
  | OT_FIRST | OT_CNT | OT_OWNER | OT_OWNERID | OT_PADDR | OT_PDATA
  | OT_PCMD | OT_PRES | OT_PENV | OT_RAWSEL | OT_RAWS | OT_RAWL
  | OT_RAWC | TR_STAT | TR_SERLO | TR_SERHI | TR_TYPE | TR_USELO
  | TR_USEHI | TR_EN | TR_CFG | TR_KEY | WR_CFG | WR_CKPT
  | WR_CKTBLO | WR_CKTBHI | WR_TSTAT | WR_HOURS | WR_RO | WR_MARG
  | WR_DLIM | WR_DLIFE | WR_HCNTLO | WR_HCNTHI | WR_HWBLO | WR_HWBHI
  | WR_HRATE | WR_HLIFE | WR_HIND | WR_HILIM | WR_HLIFEP | WR_HSTAT
  | SV_CFG | SV_STAT | SV_TEST | SV_TESTD | SV_TARG | SV_PLUMB
  | SV_PEN | SV_MTEMP | SV_PARK | SV_FORCE | PT_CFG | PT_ACTIVE
  | PT_MQDLY | PT_CREDIT | PT_CAMSTALL | PT_TRIGDLY | PT_ECC | PT_FORCE
  | PS_CFG | PS_RATE | PS_LIMLO | PS_LIMHI | PS_DB | PS_SPDWIN
  | PS_STALL | PS_SSI | PS_SSIT | PS_CMD | PS_PREVAL | PS_POS
  | PS_ZLAT | PS_SPEED | PS_SPDTBLO | PS_SPDTBHI | PS_STAT | PS_ERRCNT
  | PC_CTL | PC_RATLO | PC_RATHI | PC_GEN | PC_STAT | PC_PERIOD
  | PC_RATE | PC_SPEED | PC_MARKLO | PC_MARKHI | CP_CTL | CP_PERIOD
  | CP_STAT | CP_CNT | CP_OUT | EM_CFG | EM_RATIO | EM_ZPER
  | EM_STAT | EM_LOST | EM_POS | HS_CTL | HS_LINK | HS_IPADDR
  | HS_UDPPORT | HS_PEERIP | HS_BOUNDIP | HS_BOUNDPORT | HS_MACLO | HS_MACHI
  | HS_CQBLO | HS_CQBHI | HS_CQSIZE | HS_CQTAIL | HS_CQHEAD | HS_CQSEQ
  | HS_EQBLO | HS_EQBHI | HS_EQSIZE | HS_EQHEAD | HS_EQTAIL | HS_ERRCNT
  | HS_EVLOST | HS_ERRLAST | RI_FQBLO | RI_FQBHI | RI_FQSIZE | RI_FQTAIL
  | RI_FQHEAD | RI_FQSEQ | RI_FMT | RI_RBASE | RI_RSLOTS | RI_DELAY
  | RI_STAT | RI_LATECNT | RI_STALECNT | RI_CNT | RI_NEXTLO | RI_NEXTHI
  | RI_BAYCTL | RI_BAYRATE | RI_RNLO | RI_RNHI | RI_JOBLO | RI_JOBHI
  | RI_FSCFG | RI_FSSTAT | RI_BWUSE | RI_ECC | RI_ECCALO | RI_ECCAHI
  | RI_SCRUB | RI_WIN | RI_B2BASE | HP_PROF | HP_LANE | HP_LATCH
  | HP_GRP | HP_GSTEP | HP_RECIPE0 | HP_RECIPE1 | HP_RECIPE2 | HP_RECIPE3
  | HP_CFGX | HP_PWR | HP_STAT | HP_CNT | HP_PMIN | WV_CTL
  | WV_AMP | WV_REST | WV_STAT | HP_OSCTL | HP_BAYSTAT | HP_BAYCNT
  | HP_OSRUN | SC_CTL | SC_LEVELS | SC_CODEMAP0 | SC_CODEMAP1 | SC_ARRSEL0
  | SC_ARRSEL1 | SC_ARRPOS | SC_ED | SC_SHIFT | SC_RSHIFT | SC_BAR
  | SC_STAT | SC_CNT | SC_RATE | SC_CVSTG | BD_CFG | BD_PASS
  | BD_POS | BD_LVLSEL0 | BD_LVLSEL1 | BD_CNT | SC_ARROWN0 | SC_ARROWN1
  | SN_CFG | SN_THR0 | SN_THR1 | SN_LEARN | SN_LAST0 | SN_LAST1
  | SN_CNT | SN_SWEEP | HM_CFG | HM_VOL0 | HM_VOL1 | HM_VOL2
  | HM_VOL3 | HM_SUM | HM_CNT | HM_RPCNT | HM_LIMIT | HM_DECL
  | CM_CFG | CM_GEOM | CM_RATE | CM_ROWT | CM_TRIG | CM_TRIGP
  | CM_SENS | CM_EXPREG | CM_GAINREG | CM_HOLDREG | CM_EXP | CM_GAIN
  | CM_I2CCMD | CM_BUF | CM_BUFN | CM_STAT | CM_FRAME | CM_CNT
  | CM_ERRCNT | CM_FIFO | IP_CFG | IP_BLK0 | IP_BLK1 | IP_NGAIN
  | IP_WB0 | IP_WB1 | IP_CM0 | IP_CM1 | IP_CM2 | IP_CM3
  | IP_CM4 | IP_CM5 | IP_HROIX | IP_HROIY | IP_BAND | IP_STLOCK
  | IN_REG | IN_REF | IN_SCALE | IN_LIM | IN_VIEW | IN_RPH
  | IN_RLAST | IN_RCNT | IN_RCTL | IN_RTGTLO | IN_RTGTHI | IN_NCCFG
  | IN_NCTAGLO | IN_NCTAGHI | IN_NCROW | IN_NCX | IN_NCP | IN_NCTHR
  | IN_NCRES
  deriving DecidableEq, Repr

/-- Who may access an instance (R24 to R28, R80): a device-wide block, a bay's registers, the Keystone's
device-wide pair, a head port, a position channel, a compare engine, a compare output, an emulation output,
a camera port, a seat's own registers, a register shared by all seats and written by the steward, a register
indexed by the seat that owns it. -/
inductive Owner where
  | dev | bay | ksdev | port | ps | cpe | cmp | em | cam | seat | shared | ownseat
  deriving DecidableEq, Repr

/-- Access codes of R7. -/
inductive Acc where
  | ro | rw | st | w1c | w1s | rc | wo | sv | img
  deriving DecidableEq, Repr

/-- A register's place in BAR0: base offset, the stride and number of its first index, the stride and
number of its second, and its owner. -/
structure RegInfo where
  base : Nat
  stride1 : Nat
  count1 : Nat
  stride2 : Nat
  count2 : Nat
  owner : Owner
  deriving DecidableEq, Repr

/-- A field of a register: its register, lowest bit and width. -/
structure Fld where
  reg : RegName
  lo : Nat
  width : Nat
  deriving DecidableEq, Repr

/-- A row of a field map: the field, its access code, its reset value, and whether the reset column reads
"img (v)" (R8). -/
structure FieldRow where
  fld : Fld
  acc : Acc
  dflt : Nat
  img : Bool
  deriving DecidableEq, Repr

/-- The instance bases, strides and counts of R449 and the defining chapters. -/
def RegName.info : RegName → RegInfo
  | .GL_ID => ⟨0x0, 0x0, 1, 0x0, 1, .dev⟩
  | .GL_MODE => ⟨0x4, 0x0, 1, 0x0, 1, .dev⟩
  | .GL_STEWARD => ⟨0x8, 0x0, 1, 0x0, 1, .dev⟩
  | .GL_TBLO => ⟨0x10, 0x0, 1, 0x0, 1, .dev⟩
  | .GL_TBHI => ⟨0x14, 0x0, 1, 0x0, 1, .dev⟩
  | .GL_CCLO => ⟨0x20, 0x8, 4, 0x0, 1, .dev⟩
  | .GL_CCHI => ⟨0x24, 0x8, 4, 0x0, 1, .dev⟩
  | .GL_BAYPORT => ⟨0x60, 0x10, 4, 0x0, 1, .dev⟩
  | .GL_BAYRES => ⟨0x64, 0x10, 4, 0x0, 1, .dev⟩
  | .GL_BAYCMP => ⟨0x68, 0x10, 4, 0x0, 1, .dev⟩
  | .GL_ISLAND => ⟨0xA0, 0x0, 1, 0x0, 1, .dev⟩
  | .GL_PWR => ⟨0xC0, 0x4, 9, 0x0, 1, .dev⟩
  | .KS_STATUS => ⟨0x10000, 0x100, 4, 0x0, 1, .bay⟩
  | .KS_GEN => ⟨0x10004, 0x100, 4, 0x0, 1, .bay⟩
  | .KS_TGTLO => ⟨0x10008, 0x100, 4, 0x0, 1, .bay⟩
  | .KS_TGTHI => ⟨0x1000C, 0x100, 4, 0x0, 1, .bay⟩
  | .KS_REFOFF => ⟨0x10010, 0x100, 4, 0x0, 1, .bay⟩
  | .KS_STAGED => ⟨0x10014, 0x100, 4, 0x0, 1, .bay⟩
  | .KS_BAYCTL => ⟨0x10020, 0x100, 4, 0x0, 1, .bay⟩
  | .KS_CNT => ⟨0x10030, 0x100, 4, 0x0, 1, .bay⟩
  | .KS_SNAPGEN => ⟨0x10040, 0x100, 4, 0x10, 2, .bay⟩
  | .KS_SNAPCCLO => ⟨0x10044, 0x100, 4, 0x10, 2, .bay⟩
  | .KS_SNAPCCHI => ⟨0x10048, 0x100, 4, 0x10, 2, .bay⟩
  | .KS_SNAPPT => ⟨0x1004C, 0x100, 4, 0x10, 2, .bay⟩
  | .KS_GENDEV => ⟨0x10400, 0x0, 1, 0x0, 1, .ksdev⟩
  | .KS_DSTATUS => ⟨0x10404, 0x0, 1, 0x0, 1, .ksdev⟩
  | .FC_SPALLLO => ⟨0x20000, 0x0, 1, 0x0, 1, .dev⟩
  | .FC_SPALLHI => ⟨0x20004, 0x0, 1, 0x0, 1, .dev⟩
  | .FC_FIRST => ⟨0x20008, 0x0, 1, 0x0, 1, .dev⟩
  | .FC_FTBLO => ⟨0x20010, 0x0, 1, 0x0, 1, .dev⟩
  | .FC_FTBHI => ⟨0x20014, 0x0, 1, 0x0, 1, .dev⟩
  | .FC_FCCLO => ⟨0x20018, 0x0, 1, 0x0, 1, .dev⟩
  | .FC_FCCHI => ⟨0x2001C, 0x0, 1, 0x0, 1, .dev⟩
  | .FC_CFG => ⟨0x20020, 0x0, 1, 0x0, 1, .dev⟩
  | .FC_LOCK => ⟨0x20024, 0x0, 1, 0x0, 1, .dev⟩
  | .FC_NERR => ⟨0x20028, 0x0, 1, 0x0, 1, .dev⟩
  | .FC_CMD => ⟨0x2002C, 0x0, 1, 0x0, 1, .dev⟩
  | .FC_REC => ⟨0x20040, 0x10, 5, 0x0, 1, .dev⟩
  | .FC_RSRCLO => ⟨0x20044, 0x10, 5, 0x0, 1, .dev⟩
  | .FC_RSRCHI => ⟨0x20048, 0x10, 5, 0x0, 1, .dev⟩
  | .FC_RCNT => ⟨0x2004C, 0x10, 5, 0x0, 1, .dev⟩
  | .FC_FENCE0 => ⟨0x200C0, 0x0, 1, 0x0, 1, .dev⟩
  | .FC_FENCE1 => ⟨0x200C4, 0x0, 1, 0x0, 1, .dev⟩
  | .FC_FENCE2 => ⟨0x200C8, 0x0, 1, 0x0, 1, .dev⟩
  | .FC_FENCE3 => ⟨0x200CC, 0x0, 1, 0x0, 1, .dev⟩
  | .FC_FENCE4 => ⟨0x200D0, 0x0, 1, 0x0, 1, .dev⟩
  | .FC_FENCE5 => ⟨0x200D4, 0x0, 1, 0x0, 1, .dev⟩
  | .FC_SRC => ⟨0x20100, 0x4, 64, 0x0, 1, .dev⟩
  | .TM_CH => ⟨0x30000, 0x20, 74, 0x0, 1, .dev⟩
  | .TM_THM => ⟨0x30004, 0x20, 74, 0x0, 1, .dev⟩
  | .TM_THR0 => ⟨0x30008, 0x20, 74, 0x0, 1, .dev⟩
  | .TM_THR1 => ⟨0x3000C, 0x20, 74, 0x0, 1, .dev⟩
  | .TM_NB => ⟨0x30010, 0x20, 74, 0x0, 1, .dev⟩
  | .TM_VAL => ⟨0x30014, 0x20, 74, 0x0, 1, .dev⟩
  | .TM_OFF => ⟨0x30018, 0x20, 74, 0x0, 1, .dev⟩
  | .TM_STAT => ⟨0x3001C, 0x20, 74, 0x0, 1, .dev⟩
  | .TM_TACT => ⟨0x31000, 0x20, 4, 0x0, 1, .dev⟩
  | .TM_TTHIN => ⟨0x31004, 0x20, 4, 0x0, 1, .dev⟩
  | .TM_BSTAT => ⟨0x31008, 0x20, 4, 0x0, 1, .dev⟩
  | .TM_TCNT => ⟨0x3100C, 0x20, 4, 0x0, 1, .dev⟩
  | .TM_SCOPE => ⟨0x31100, 0x4, 10, 0x0, 1, .dev⟩
  | .TM_CFG => ⟨0x31200, 0x0, 1, 0x0, 1, .dev⟩
  | .TM_SHUTST => ⟨0x31204, 0x0, 1, 0x0, 1, .dev⟩
  | .TM_SCAN => ⟨0x31208, 0x0, 1, 0x0, 1, .dev⟩
  | .TM_ENF => ⟨0x31400, 0x4, 32, 0x0, 1, .dev⟩
  | .OT_CHK => ⟨0x40000, 0x0, 1, 0x0, 1, .dev⟩
  | .OT_FIRST => ⟨0x40004, 0x0, 1, 0x0, 1, .dev⟩
  | .OT_CNT => ⟨0x40008, 0x0, 1, 0x0, 1, .dev⟩
  | .OT_OWNER => ⟨0x4000C, 0x0, 1, 0x0, 1, .dev⟩
  | .OT_OWNERID => ⟨0x40010, 0x0, 1, 0x0, 1, .dev⟩
  | .OT_PADDR => ⟨0x40020, 0x0, 1, 0x0, 1, .dev⟩
  | .OT_PDATA => ⟨0x40024, 0x0, 1, 0x0, 1, .dev⟩
  | .OT_PCMD => ⟨0x40028, 0x0, 1, 0x0, 1, .dev⟩
  | .OT_PRES => ⟨0x4002C, 0x0, 1, 0x0, 1, .dev⟩
  | .OT_PENV => ⟨0x40030, 0x0, 1, 0x0, 1, .dev⟩
  | .OT_RAWSEL => ⟨0x40040, 0x0, 1, 0x0, 1, .dev⟩
  | .OT_RAWS => ⟨0x40044, 0x0, 1, 0x0, 1, .dev⟩
  | .OT_RAWL => ⟨0x40048, 0x0, 1, 0x0, 1, .dev⟩
  | .OT_RAWC => ⟨0x4004C, 0x0, 1, 0x0, 1, .dev⟩
  | .TR_STAT => ⟨0x48000, 0x20, 32, 0x0, 1, .dev⟩
  | .TR_SERLO => ⟨0x48004, 0x20, 32, 0x0, 1, .dev⟩
  | .TR_SERHI => ⟨0x48008, 0x20, 32, 0x0, 1, .dev⟩
  | .TR_TYPE => ⟨0x4800C, 0x20, 32, 0x0, 1, .dev⟩
  | .TR_USELO => ⟨0x48010, 0x20, 32, 0x0, 1, .dev⟩
  | .TR_USEHI => ⟨0x48014, 0x20, 32, 0x0, 1, .dev⟩
  | .TR_EN => ⟨0x48800, 0x0, 1, 0x0, 1, .dev⟩
  | .TR_CFG => ⟨0x48804, 0x0, 1, 0x0, 1, .dev⟩
  | .TR_KEY => ⟨0x48808, 0x0, 1, 0x0, 1, .dev⟩
  | .WR_CFG => ⟨0x50000, 0x0, 1, 0x0, 1, .dev⟩
  | .WR_CKPT => ⟨0x50004, 0x0, 1, 0x0, 1, .dev⟩
  | .WR_CKTBLO => ⟨0x50008, 0x0, 1, 0x0, 1, .dev⟩
  | .WR_CKTBHI => ⟨0x5000C, 0x0, 1, 0x0, 1, .dev⟩
  | .WR_TSTAT => ⟨0x50010, 0x0, 1, 0x0, 1, .dev⟩
  | .WR_HOURS => ⟨0x50014, 0x0, 1, 0x0, 1, .dev⟩
  | .WR_RO => ⟨0x50018, 0x0, 1, 0x0, 1, .dev⟩
  | .WR_MARG => ⟨0x5001C, 0x0, 1, 0x0, 1, .dev⟩
  | .WR_DLIM => ⟨0x50020, 0x0, 1, 0x0, 1, .dev⟩
  | .WR_DLIFE => ⟨0x50024, 0x0, 1, 0x0, 1, .dev⟩
  | .WR_HCNTLO => ⟨0x51000, 0x40, 32, 0x0, 1, .dev⟩
  | .WR_HCNTHI => ⟨0x51004, 0x40, 32, 0x0, 1, .dev⟩
  | .WR_HWBLO => ⟨0x51008, 0x40, 32, 0x0, 1, .dev⟩
  | .WR_HWBHI => ⟨0x5100C, 0x40, 32, 0x0, 1, .dev⟩
  | .WR_HRATE => ⟨0x51010, 0x40, 32, 0x0, 1, .dev⟩
  | .WR_HLIFE => ⟨0x51014, 0x40, 32, 0x0, 1, .dev⟩
  | .WR_HIND => ⟨0x51018, 0x40, 32, 0x0, 1, .dev⟩
  | .WR_HILIM => ⟨0x5101C, 0x40, 32, 0x0, 1, .dev⟩
  | .WR_HLIFEP => ⟨0x51020, 0x40, 32, 0x0, 1, .dev⟩
  | .WR_HSTAT => ⟨0x51024, 0x40, 32, 0x0, 1, .dev⟩
  | .SV_CFG => ⟨0x60000, 0x0, 1, 0x0, 1, .dev⟩
  | .SV_STAT => ⟨0x60004, 0x0, 1, 0x0, 1, .dev⟩
  | .SV_TEST => ⟨0x60010, 0x0, 1, 0x0, 1, .dev⟩
  | .SV_TESTD => ⟨0x60014, 0x0, 1, 0x0, 1, .dev⟩
  | .SV_TARG => ⟨0x60018, 0x0, 1, 0x0, 1, .dev⟩
  | .SV_PLUMB => ⟨0x60020, 0x0, 1, 0x0, 1, .dev⟩
  | .SV_PEN => ⟨0x60024, 0x0, 1, 0x0, 1, .dev⟩
  | .SV_MTEMP => ⟨0x60028, 0x0, 1, 0x0, 1, .dev⟩
  | .SV_PARK => ⟨0x60040, 0x4, 32, 0x0, 1, .dev⟩
  | .SV_FORCE => ⟨0x600C0, 0x4, 4, 0x0, 1, .dev⟩
  | .PT_CFG => ⟨0x61000, 0x0, 1, 0x0, 1, .dev⟩
  | .PT_ACTIVE => ⟨0x61004, 0x0, 1, 0x0, 1, .dev⟩
  | .PT_MQDLY => ⟨0x61010, 0x4, 4, 0x0, 1, .dev⟩
  | .PT_CREDIT => ⟨0x61020, 0x4, 4, 0x0, 1, .dev⟩
  | .PT_CAMSTALL => ⟨0x61030, 0x0, 1, 0x0, 1, .dev⟩
  | .PT_TRIGDLY => ⟨0x61034, 0x4, 4, 0x0, 1, .dev⟩
  | .PT_ECC => ⟨0x61044, 0x0, 1, 0x0, 1, .dev⟩
  | .PT_FORCE => ⟨0x61048, 0x0, 1, 0x0, 1, .dev⟩
  | .PS_CFG => ⟨0x80000, 0x1000, 8, 0x0, 1, .ps⟩
  | .PS_RATE => ⟨0x80004, 0x1000, 8, 0x0, 1, .ps⟩
  | .PS_LIMLO => ⟨0x80008, 0x1000, 8, 0x0, 1, .ps⟩
  | .PS_LIMHI => ⟨0x8000C, 0x1000, 8, 0x0, 1, .ps⟩
  | .PS_DB => ⟨0x80010, 0x1000, 8, 0x0, 1, .ps⟩
  | .PS_SPDWIN => ⟨0x80014, 0x1000, 8, 0x0, 1, .ps⟩
  | .PS_STALL => ⟨0x80018, 0x1000, 8, 0x0, 1, .ps⟩
  | .PS_SSI => ⟨0x8001C, 0x1000, 8, 0x0, 1, .ps⟩
  | .PS_SSIT => ⟨0x80020, 0x1000, 8, 0x0, 1, .ps⟩
  | .PS_CMD => ⟨0x80024, 0x1000, 8, 0x0, 1, .ps⟩
  | .PS_PREVAL => ⟨0x80028, 0x1000, 8, 0x0, 1, .ps⟩
  | .PS_POS => ⟨0x80030, 0x1000, 8, 0x0, 1, .ps⟩
  | .PS_ZLAT => ⟨0x80034, 0x1000, 8, 0x0, 1, .ps⟩
  | .PS_SPEED => ⟨0x80038, 0x1000, 8, 0x0, 1, .ps⟩
  | .PS_SPDTBLO => ⟨0x8003C, 0x1000, 8, 0x0, 1, .ps⟩
  | .PS_SPDTBHI => ⟨0x80040, 0x1000, 8, 0x0, 1, .ps⟩
  | .PS_STAT => ⟨0x80044, 0x1000, 8, 0x0, 1, .ps⟩
  | .PS_ERRCNT => ⟨0x80048, 0x1000, 8, 0x0, 1, .ps⟩
  | .PC_CTL => ⟨0x90000, 0x100, 4, 0x0, 1, .bay⟩
  | .PC_RATLO => ⟨0x90004, 0x100, 4, 0x0, 1, .bay⟩
  | .PC_RATHI => ⟨0x90008, 0x100, 4, 0x0, 1, .bay⟩
  | .PC_GEN => ⟨0x9000C, 0x100, 4, 0x0, 1, .bay⟩
  | .PC_STAT => ⟨0x90010, 0x100, 4, 0x0, 1, .bay⟩
  | .PC_PERIOD => ⟨0x90014, 0x100, 4, 0x0, 1, .bay⟩
  | .PC_RATE => ⟨0x90018, 0x100, 4, 0x0, 1, .bay⟩
  | .PC_SPEED => ⟨0x9001C, 0x100, 4, 0x0, 1, .bay⟩
  | .PC_MARKLO => ⟨0x90020, 0x100, 4, 0x0, 1, .bay⟩
  | .PC_MARKHI => ⟨0x90024, 0x100, 4, 0x0, 1, .bay⟩
  | .CP_CTL => ⟨0x91000, 0x40, 8, 0x0, 1, .cpe⟩
  | .CP_PERIOD => ⟨0x91004, 0x40, 8, 0x0, 1, .cpe⟩
  | .CP_STAT => ⟨0x91008, 0x40, 8, 0x0, 1, .cpe⟩
  | .CP_CNT => ⟨0x9100C, 0x40, 8, 0x0, 1, .cpe⟩
  | .CP_OUT => ⟨0x91800, 0x4, 16, 0x0, 1, .cmp⟩
  | .EM_CFG => ⟨0x92000, 0x40, 4, 0x0, 1, .em⟩
  | .EM_RATIO => ⟨0x92004, 0x40, 4, 0x0, 1, .em⟩
  | .EM_ZPER => ⟨0x92008, 0x40, 4, 0x0, 1, .em⟩
  | .EM_STAT => ⟨0x9200C, 0x40, 4, 0x0, 1, .em⟩
  | .EM_LOST => ⟨0x92010, 0x40, 4, 0x0, 1, .em⟩
  | .EM_POS => ⟨0x92014, 0x40, 4, 0x0, 1, .em⟩
  | .HS_CTL => ⟨0xC0000, 0x1000, 4, 0x0, 1, .seat⟩
  | .HS_LINK => ⟨0xC0004, 0x1000, 4, 0x0, 1, .seat⟩
  | .HS_IPADDR => ⟨0xC0010, 0x1000, 4, 0x0, 1, .seat⟩
  | .HS_UDPPORT => ⟨0xC0014, 0x1000, 4, 0x0, 1, .seat⟩
  | .HS_PEERIP => ⟨0xC0018, 0x1000, 4, 0x0, 1, .seat⟩
  | .HS_BOUNDIP => ⟨0xC001C, 0x1000, 4, 0x0, 1, .seat⟩
  | .HS_BOUNDPORT => ⟨0xC0020, 0x1000, 4, 0x0, 1, .seat⟩
  | .HS_MACLO => ⟨0xC0024, 0x1000, 4, 0x0, 1, .seat⟩
  | .HS_MACHI => ⟨0xC0028, 0x1000, 4, 0x0, 1, .seat⟩
  | .HS_CQBLO => ⟨0xC0100, 0x1000, 4, 0x20, 4, .seat⟩
  | .HS_CQBHI => ⟨0xC0104, 0x1000, 4, 0x20, 4, .seat⟩
  | .HS_CQSIZE => ⟨0xC0108, 0x1000, 4, 0x20, 4, .seat⟩
  | .HS_CQTAIL => ⟨0xC010C, 0x1000, 4, 0x20, 4, .seat⟩
  | .HS_CQHEAD => ⟨0xC0110, 0x1000, 4, 0x20, 4, .seat⟩
  | .HS_CQSEQ => ⟨0xC0114, 0x1000, 4, 0x20, 4, .seat⟩
  | .HS_EQBLO => ⟨0xC0200, 0x1000, 4, 0x20, 4, .seat⟩
  | .HS_EQBHI => ⟨0xC0204, 0x1000, 4, 0x20, 4, .seat⟩
  | .HS_EQSIZE => ⟨0xC0208, 0x1000, 4, 0x20, 4, .seat⟩
  | .HS_EQHEAD => ⟨0xC020C, 0x1000, 4, 0x20, 4, .seat⟩
  | .HS_EQTAIL => ⟨0xC0210, 0x1000, 4, 0x20, 4, .seat⟩
  | .HS_ERRCNT => ⟨0xC0800, 0x1000, 4, 0x0, 1, .seat⟩
  | .HS_EVLOST => ⟨0xC0804, 0x1000, 4, 0x0, 1, .seat⟩
  | .HS_ERRLAST => ⟨0xC0808, 0x1000, 4, 0x0, 1, .seat⟩
  | .RI_FQBLO => ⟨0x100000, 0x100, 32, 0x0, 1, .port⟩
  | .RI_FQBHI => ⟨0x100004, 0x100, 32, 0x0, 1, .port⟩
  | .RI_FQSIZE => ⟨0x100008, 0x100, 32, 0x0, 1, .port⟩
  | .RI_FQTAIL => ⟨0x10000C, 0x100, 32, 0x0, 1, .port⟩
  | .RI_FQHEAD => ⟨0x100010, 0x100, 32, 0x0, 1, .port⟩
  | .RI_FQSEQ => ⟨0x100014, 0x100, 32, 0x0, 1, .port⟩
  | .RI_FMT => ⟨0x100020, 0x100, 32, 0x0, 1, .port⟩
  | .RI_RBASE => ⟨0x100024, 0x100, 32, 0x0, 1, .port⟩
  | .RI_RSLOTS => ⟨0x100028, 0x100, 32, 0x0, 1, .port⟩
  | .RI_DELAY => ⟨0x10002C, 0x100, 32, 0x0, 1, .port⟩
  | .RI_STAT => ⟨0x100030, 0x100, 32, 0x0, 1, .port⟩
  | .RI_LATECNT => ⟨0x100034, 0x100, 32, 0x0, 1, .port⟩
  | .RI_STALECNT => ⟨0x100038, 0x100, 32, 0x0, 1, .port⟩
  | .RI_CNT => ⟨0x10003C, 0x100, 32, 0x0, 1, .port⟩
  | .RI_NEXTLO => ⟨0x100040, 0x100, 32, 0x0, 1, .port⟩
  | .RI_NEXTHI => ⟨0x100044, 0x100, 32, 0x0, 1, .port⟩
  | .RI_BAYCTL => ⟨0x104000, 0x40, 4, 0x0, 1, .bay⟩
  | .RI_BAYRATE => ⟨0x104004, 0x40, 4, 0x0, 1, .bay⟩
  | .RI_RNLO => ⟨0x104008, 0x40, 4, 0x0, 1, .bay⟩
  | .RI_RNHI => ⟨0x10400C, 0x40, 4, 0x0, 1, .bay⟩
  | .RI_JOBLO => ⟨0x104010, 0x40, 4, 0x0, 1, .bay⟩
  | .RI_JOBHI => ⟨0x104014, 0x40, 4, 0x0, 1, .bay⟩
  | .RI_FSCFG => ⟨0x108000, 0x0, 1, 0x0, 1, .shared⟩
  | .RI_FSSTAT => ⟨0x108004, 0x0, 1, 0x0, 1, .shared⟩
  | .RI_BWUSE => ⟨0x108008, 0x0, 1, 0x0, 1, .shared⟩
  | .RI_ECC => ⟨0x10800C, 0x0, 1, 0x0, 1, .shared⟩
  | .RI_ECCALO => ⟨0x108010, 0x0, 1, 0x0, 1, .shared⟩
  | .RI_ECCAHI => ⟨0x108014, 0x0, 1, 0x0, 1, .shared⟩
  | .RI_SCRUB => ⟨0x108018, 0x0, 1, 0x0, 1, .shared⟩
  | .RI_WIN => ⟨0x108020, 0x4, 4, 0x0, 1, .ownseat⟩
  | .RI_B2BASE => ⟨0x108030, 0x4, 2, 0x0, 1, .ownseat⟩
  | .HP_PROF => ⟨0x200000, 0x8000, 32, 0x0, 1, .port⟩
  | .HP_LANE => ⟨0x200004, 0x8000, 32, 0x0, 1, .port⟩
  | .HP_LATCH => ⟨0x200008, 0x8000, 32, 0x0, 1, .port⟩
  | .HP_GRP => ⟨0x20000C, 0x8000, 32, 0x0, 1, .port⟩
  | .HP_GSTEP => ⟨0x200010, 0x8000, 32, 0x0, 1, .port⟩
  | .HP_RECIPE0 => ⟨0x200014, 0x8000, 32, 0x0, 1, .port⟩
  | .HP_RECIPE1 => ⟨0x200018, 0x8000, 32, 0x0, 1, .port⟩
  | .HP_RECIPE2 => ⟨0x20001C, 0x8000, 32, 0x0, 1, .port⟩
  | .HP_RECIPE3 => ⟨0x200020, 0x8000, 32, 0x0, 1, .port⟩
  | .HP_CFGX => ⟨0x200030, 0x8000, 32, 0x4, 8, .port⟩
  | .HP_PWR => ⟨0x200050, 0x8000, 32, 0x0, 1, .port⟩
  | .HP_STAT => ⟨0x200054, 0x8000, 32, 0x0, 1, .port⟩
  | .HP_CNT => ⟨0x200058, 0x8000, 32, 0x0, 1, .port⟩
  | .HP_PMIN => ⟨0x20005C, 0x8000, 32, 0x0, 1, .port⟩
  | .WV_CTL => ⟨0x200400, 0x8000, 32, 0x0, 1, .port⟩
  | .WV_AMP => ⟨0x200404, 0x8000, 32, 0x0, 1, .port⟩
  | .WV_REST => ⟨0x200408, 0x8000, 32, 0x0, 1, .port⟩
  | .WV_STAT => ⟨0x20040C, 0x8000, 32, 0x0, 1, .port⟩
  | .HP_OSCTL => ⟨0x300000, 0x100, 4, 0x0, 1, .bay⟩
  | .HP_BAYSTAT => ⟨0x300004, 0x100, 4, 0x0, 1, .bay⟩
  | .HP_BAYCNT => ⟨0x300008, 0x100, 4, 0x0, 1, .bay⟩
  | .HP_OSRUN => ⟨0x30000C, 0x100, 4, 0x0, 1, .bay⟩
  | .SC_CTL => ⟨0x400000, 0x8000, 32, 0x0, 1, .port⟩
  | .SC_LEVELS => ⟨0x400004, 0x8000, 32, 0x0, 1, .port⟩
  | .SC_CODEMAP0 => ⟨0x400008, 0x8000, 32, 0x0, 1, .port⟩
  | .SC_CODEMAP1 => ⟨0x40000C, 0x8000, 32, 0x0, 1, .port⟩
  | .SC_ARRSEL0 => ⟨0x400010, 0x8000, 32, 0x0, 1, .port⟩
  | .SC_ARRSEL1 => ⟨0x400014, 0x8000, 32, 0x0, 1, .port⟩
  | .SC_ARRPOS => ⟨0x400018, 0x8000, 32, 0x0, 1, .port⟩
  | .SC_ED => ⟨0x40001C, 0x8000, 32, 0x0, 1, .port⟩
  | .SC_SHIFT => ⟨0x400020, 0x8000, 32, 0x0, 1, .port⟩
  | .SC_RSHIFT => ⟨0x400024, 0x8000, 32, 0x0, 1, .port⟩
  | .SC_BAR => ⟨0x400028, 0x8000, 32, 0x0, 1, .port⟩
  | .SC_STAT => ⟨0x40002C, 0x8000, 32, 0x0, 1, .port⟩
  | .SC_CNT => ⟨0x400030, 0x8000, 32, 0x0, 1, .port⟩
  | .SC_RATE => ⟨0x400034, 0x8000, 32, 0x0, 1, .port⟩
  | .SC_CVSTG => ⟨0x500000, 0x100, 4, 0x0, 1, .bay⟩
  | .BD_CFG => ⟨0x500010, 0x100, 4, 0x0, 1, .bay⟩
  | .BD_PASS => ⟨0x500014, 0x100, 4, 0x0, 1, .bay⟩
  | .BD_POS => ⟨0x500018, 0x100, 4, 0x0, 1, .bay⟩
  | .BD_LVLSEL0 => ⟨0x50001C, 0x100, 4, 0x0, 1, .bay⟩
  | .BD_LVLSEL1 => ⟨0x500020, 0x100, 4, 0x0, 1, .bay⟩
  | .BD_CNT => ⟨0x500024, 0x100, 4, 0x0, 1, .bay⟩
  | .SC_ARROWN0 => ⟨0x501000, 0x0, 1, 0x0, 1, .shared⟩
  | .SC_ARROWN1 => ⟨0x501004, 0x0, 1, 0x0, 1, .shared⟩
  | .SN_CFG => ⟨0x600000, 0x100, 32, 0x0, 1, .port⟩
  | .SN_THR0 => ⟨0x600004, 0x100, 32, 0x0, 1, .port⟩
  | .SN_THR1 => ⟨0x600008, 0x100, 32, 0x0, 1, .port⟩
  | .SN_LEARN => ⟨0x60000C, 0x100, 32, 0x0, 1, .port⟩
  | .SN_LAST0 => ⟨0x600010, 0x100, 32, 0x0, 1, .port⟩
  | .SN_LAST1 => ⟨0x600014, 0x100, 32, 0x0, 1, .port⟩
  | .SN_CNT => ⟨0x600018, 0x100, 32, 0x0, 1, .port⟩
  | .SN_SWEEP => ⟨0x60001C, 0x100, 32, 0x0, 1, .port⟩
  | .HM_CFG => ⟨0x600040, 0x100, 32, 0x0, 1, .port⟩
  | .HM_VOL0 => ⟨0x600044, 0x100, 32, 0x0, 1, .port⟩
  | .HM_VOL1 => ⟨0x600048, 0x100, 32, 0x0, 1, .port⟩
  | .HM_VOL2 => ⟨0x60004C, 0x100, 32, 0x0, 1, .port⟩
  | .HM_VOL3 => ⟨0x600050, 0x100, 32, 0x0, 1, .port⟩
  | .HM_SUM => ⟨0x600054, 0x100, 32, 0x0, 1, .port⟩
  | .HM_CNT => ⟨0x600058, 0x100, 32, 0x0, 1, .port⟩
  | .HM_RPCNT => ⟨0x60005C, 0x100, 32, 0x0, 1, .port⟩
  | .HM_LIMIT => ⟨0x600060, 0x100, 32, 0x0, 1, .port⟩
  | .HM_DECL => ⟨0x604000, 0x100, 4, 0x0, 1, .bay⟩
  | .CM_CFG => ⟨0x800000, 0x1000, 4, 0x0, 1, .cam⟩
  | .CM_GEOM => ⟨0x800004, 0x1000, 4, 0x0, 1, .cam⟩
  | .CM_RATE => ⟨0x800008, 0x1000, 4, 0x0, 1, .cam⟩
  | .CM_ROWT => ⟨0x80000C, 0x1000, 4, 0x0, 1, .cam⟩
  | .CM_TRIG => ⟨0x800010, 0x1000, 4, 0x0, 1, .cam⟩
  | .CM_TRIGP => ⟨0x800014, 0x1000, 4, 0x0, 1, .cam⟩
  | .CM_SENS => ⟨0x800018, 0x1000, 4, 0x0, 1, .cam⟩
  | .CM_EXPREG => ⟨0x80001C, 0x1000, 4, 0x0, 1, .cam⟩
  | .CM_GAINREG => ⟨0x800020, 0x1000, 4, 0x0, 1, .cam⟩
  | .CM_HOLDREG => ⟨0x800024, 0x1000, 4, 0x0, 1, .cam⟩
  | .CM_EXP => ⟨0x800028, 0x1000, 4, 0x0, 1, .cam⟩
  | .CM_GAIN => ⟨0x80002C, 0x1000, 4, 0x0, 1, .cam⟩
  | .CM_I2CCMD => ⟨0x800030, 0x1000, 4, 0x0, 1, .cam⟩
  | .CM_BUF => ⟨0x800034, 0x1000, 4, 0x0, 1, .cam⟩
  | .CM_BUFN => ⟨0x800038, 0x1000, 4, 0x0, 1, .cam⟩
  | .CM_STAT => ⟨0x80003C, 0x1000, 4, 0x0, 1, .cam⟩
  | .CM_FRAME => ⟨0x800040, 0x1000, 4, 0x0, 1, .cam⟩
  | .CM_CNT => ⟨0x800044, 0x1000, 4, 0x0, 1, .cam⟩
  | .CM_ERRCNT => ⟨0x800048, 0x1000, 4, 0x0, 1, .cam⟩
  | .CM_FIFO => ⟨0x80004C, 0x1000, 4, 0x0, 1, .cam⟩
  | .IP_CFG => ⟨0x880000, 0x400, 4, 0x0, 1, .cam⟩
  | .IP_BLK0 => ⟨0x880004, 0x400, 4, 0x0, 1, .cam⟩
  | .IP_BLK1 => ⟨0x880008, 0x400, 4, 0x0, 1, .cam⟩
  | .IP_NGAIN => ⟨0x88000C, 0x400, 4, 0x0, 1, .cam⟩
  | .IP_WB0 => ⟨0x880010, 0x400, 4, 0x0, 1, .cam⟩
  | .IP_WB1 => ⟨0x880014, 0x400, 4, 0x0, 1, .cam⟩
  | .IP_CM0 => ⟨0x880018, 0x400, 4, 0x0, 1, .cam⟩
  | .IP_CM1 => ⟨0x88001C, 0x400, 4, 0x0, 1, .cam⟩
  | .IP_CM2 => ⟨0x880020, 0x400, 4, 0x0, 1, .cam⟩
  | .IP_CM3 => ⟨0x880024, 0x400, 4, 0x0, 1, .cam⟩
  | .IP_CM4 => ⟨0x880028, 0x400, 4, 0x0, 1, .cam⟩
  | .IP_CM5 => ⟨0x88002C, 0x400, 4, 0x0, 1, .cam⟩
  | .IP_HROIX => ⟨0x880030, 0x400, 4, 0x0, 1, .cam⟩
  | .IP_HROIY => ⟨0x880034, 0x400, 4, 0x0, 1, .cam⟩
  | .IP_BAND => ⟨0x880038, 0x400, 4, 0x4, 4, .cam⟩
  | .IP_STLOCK => ⟨0x880048, 0x400, 4, 0x0, 1, .cam⟩
  | .IN_REG => ⟨0xA00000, 0x40, 32, 0x0, 1, .port⟩
  | .IN_REF => ⟨0xA00004, 0x40, 32, 0x0, 1, .port⟩
  | .IN_SCALE => ⟨0xA00008, 0x40, 32, 0x0, 1, .port⟩
  | .IN_LIM => ⟨0xA0000C, 0x40, 32, 0x0, 1, .port⟩
  | .IN_VIEW => ⟨0xA00010, 0x40, 32, 0x0, 1, .port⟩
  | .IN_RPH => ⟨0xA00014, 0x40, 32, 0x0, 1, .port⟩
  | .IN_RLAST => ⟨0xA00018, 0x40, 32, 0x0, 1, .port⟩
  | .IN_RCNT => ⟨0xA0001C, 0x40, 32, 0x0, 1, .port⟩
  | .IN_RCTL => ⟨0xA01000, 0x40, 4, 0x0, 1, .bay⟩
  | .IN_RTGTLO => ⟨0xA01004, 0x40, 4, 0x0, 1, .bay⟩
  | .IN_RTGTHI => ⟨0xA01008, 0x40, 4, 0x0, 1, .bay⟩
  | .IN_NCCFG => ⟨0xA02000, 0x80, 4, 0x40, 2, .cam⟩
  | .IN_NCTAGLO => ⟨0xA02004, 0x80, 4, 0x40, 2, .cam⟩
  | .IN_NCTAGHI => ⟨0xA02008, 0x80, 4, 0x40, 2, .cam⟩
  | .IN_NCROW => ⟨0xA0200C, 0x80, 4, 0x40, 2, .cam⟩
  | .IN_NCX => ⟨0xA02010, 0x80, 4, 0x40, 2, .cam⟩
  | .IN_NCP => ⟨0xA02014, 0x80, 4, 0x40, 2, .cam⟩
  | .IN_NCTHR => ⟨0xA02018, 0x80, 4, 0x40, 2, .cam⟩
  | .IN_NCRES => ⟨0xA0201C, 0x80, 4, 0x40, 2, .cam⟩

abbrev Fld.GL_ID_COMPAT : Fld := ⟨.GL_ID, 0, 8⟩
abbrev Fld.GL_ID_STEP : Fld := ⟨.GL_ID, 8, 8⟩
abbrev Fld.GL_ID_PART : Fld := ⟨.GL_ID, 16, 16⟩
abbrev Fld.GL_MODE_DEV : Fld := ⟨.GL_MODE, 0, 2⟩
abbrev Fld.GL_MODE_BAY0 : Fld := ⟨.GL_MODE, 4, 3⟩
abbrev Fld.GL_MODE_BAY1 : Fld := ⟨.GL_MODE, 8, 3⟩
abbrev Fld.GL_MODE_BAY2 : Fld := ⟨.GL_MODE, 12, 3⟩
abbrev Fld.GL_MODE_BAY3 : Fld := ⟨.GL_MODE, 16, 3⟩
abbrev Fld.GL_STEWARD_SEAT : Fld := ⟨.GL_STEWARD, 0, 2⟩
abbrev Fld.GL_TBLO_TB : Fld := ⟨.GL_TBLO, 0, 32⟩
abbrev Fld.GL_TBHI_TB : Fld := ⟨.GL_TBHI, 0, 32⟩
abbrev Fld.GL_CCLO_CC : Fld := ⟨.GL_CCLO, 0, 32⟩
abbrev Fld.GL_CCHI_CC : Fld := ⟨.GL_CCHI, 0, 16⟩
abbrev Fld.GL_BAYPORT_HP : Fld := ⟨.GL_BAYPORT, 0, 32⟩
abbrev Fld.GL_BAYRES_PS : Fld := ⟨.GL_BAYRES, 0, 8⟩
abbrev Fld.GL_BAYRES_CAM : Fld := ⟨.GL_BAYRES, 8, 4⟩
abbrev Fld.GL_BAYRES_CPE : Fld := ⟨.GL_BAYRES, 12, 8⟩
abbrev Fld.GL_BAYRES_EM : Fld := ⟨.GL_BAYRES, 20, 4⟩
abbrev Fld.GL_BAYCMP_CMP : Fld := ⟨.GL_BAYCMP, 0, 16⟩
abbrev Fld.GL_ISLAND_HCI : Fld := ⟨.GL_ISLAND, 0, 4⟩
abbrev Fld.GL_ISLAND_CAMI : Fld := ⟨.GL_ISLAND, 4, 4⟩
abbrev Fld.GL_ISLAND_PIPE : Fld := ⟨.GL_ISLAND, 8, 1⟩
abbrev Fld.GL_ISLAND_MEM : Fld := ⟨.GL_ISLAND, 9, 2⟩
abbrev Fld.GL_ISLAND_ETH : Fld := ⟨.GL_ISLAND, 11, 2⟩
abbrev Fld.GL_PWR_MW : Fld := ⟨.GL_PWR, 0, 16⟩
abbrev Fld.GL_PWR_AGE : Fld := ⟨.GL_PWR, 16, 16⟩
abbrev Fld.KS_STATUS_STATE : Fld := ⟨.KS_STATUS, 0, 2⟩
abbrev Fld.KS_STATUS_INTPEND : Fld := ⟨.KS_STATUS, 2, 1⟩
abbrev Fld.KS_STATUS_SNAPFULL : Fld := ⟨.KS_STATUS, 8, 2⟩
abbrev Fld.KS_STATUS_REASON : Fld := ⟨.KS_STATUS, 16, 16⟩
abbrev Fld.KS_GEN_GEN : Fld := ⟨.KS_GEN, 0, 32⟩
abbrev Fld.KS_TGTLO_TGT : Fld := ⟨.KS_TGTLO, 0, 32⟩
abbrev Fld.KS_TGTHI_TGT : Fld := ⟨.KS_TGTHI, 0, 16⟩
abbrev Fld.KS_REFOFF_OFF : Fld := ⟨.KS_REFOFF, 0, 32⟩
abbrev Fld.KS_STAGED_STAGED : Fld := ⟨.KS_STAGED, 0, 16⟩
abbrev Fld.KS_STAGED_PENDING : Fld := ⟨.KS_STAGED, 16, 16⟩
abbrev Fld.KS_BAYCTL_MODE : Fld := ⟨.KS_BAYCTL, 0, 3⟩
abbrev Fld.KS_BAYCTL_NSTOPEN : Fld := ⟨.KS_BAYCTL, 8, 1⟩
abbrev Fld.KS_CNT_APPLIED : Fld := ⟨.KS_CNT, 0, 16⟩
abbrev Fld.KS_CNT_REFUSED : Fld := ⟨.KS_CNT, 16, 16⟩
abbrev Fld.KS_SNAPGEN_GEN : Fld := ⟨.KS_SNAPGEN, 0, 32⟩
abbrev Fld.KS_SNAPCCLO_CC : Fld := ⟨.KS_SNAPCCLO, 0, 32⟩
abbrev Fld.KS_SNAPCCHI_CC : Fld := ⟨.KS_SNAPCCHI, 0, 16⟩
abbrev Fld.KS_SNAPCCHI_VALID : Fld := ⟨.KS_SNAPCCHI, 16, 1⟩
abbrev Fld.KS_SNAPCCHI_NOW : Fld := ⟨.KS_SNAPCCHI, 17, 1⟩
abbrev Fld.KS_SNAPPT_PTACT : Fld := ⟨.KS_SNAPPT, 0, 32⟩
abbrev Fld.KS_GENDEV_GEN : Fld := ⟨.KS_GENDEV, 0, 32⟩
abbrev Fld.KS_DSTATUS_STATE : Fld := ⟨.KS_DSTATUS, 0, 2⟩
abbrev Fld.KS_DSTATUS_REASON : Fld := ⟨.KS_DSTATUS, 16, 16⟩
abbrev Fld.FC_SPALLLO_SPALL : Fld := ⟨.FC_SPALLLO, 0, 32⟩
abbrev Fld.FC_SPALLHI_SPALL : Fld := ⟨.FC_SPALLHI, 0, 32⟩
abbrev Fld.FC_FIRST_SRC : Fld := ⟨.FC_FIRST, 0, 6⟩
abbrev Fld.FC_FIRST_VALID : Fld := ⟨.FC_FIRST, 6, 1⟩
abbrev Fld.FC_FIRST_OVF : Fld := ⟨.FC_FIRST, 7, 1⟩
abbrev Fld.FC_FIRST_UNIT : Fld := ⟨.FC_FIRST, 8, 8⟩
abbrev Fld.FC_FIRST_BAY : Fld := ⟨.FC_FIRST, 16, 3⟩
abbrev Fld.FC_FIRST_FORCED : Fld := ⟨.FC_FIRST, 19, 1⟩
abbrev Fld.FC_FTBLO_TB : Fld := ⟨.FC_FTBLO, 0, 32⟩
abbrev Fld.FC_FTBHI_TB : Fld := ⟨.FC_FTBHI, 0, 32⟩
abbrev Fld.FC_FCCLO_CC : Fld := ⟨.FC_FCCLO, 0, 32⟩
abbrev Fld.FC_FCCHI_CC : Fld := ⟨.FC_FCCHI, 0, 16⟩
abbrev Fld.FC_FCCHI_NOCC : Fld := ⟨.FC_FCCHI, 16, 1⟩
abbrev Fld.FC_CFG_QUIET : Fld := ⟨.FC_CFG, 0, 16⟩
abbrev Fld.FC_CFG_LOCKN : Fld := ⟨.FC_CFG, 16, 8⟩
abbrev Fld.FC_LOCK_LOCKWIN : Fld := ⟨.FC_LOCK, 0, 16⟩
abbrev Fld.FC_LOCK_OTPLOG : Fld := ⟨.FC_LOCK, 16, 1⟩
abbrev Fld.FC_NERR_WIDTH : Fld := ⟨.FC_NERR, 0, 14⟩
abbrev Fld.FC_NERR_AUTOHOLD : Fld := ⟨.FC_NERR, 14, 1⟩
abbrev Fld.FC_NERR_HOLD : Fld := ⟨.FC_NERR, 16, 1⟩
abbrev Fld.FC_NERR_PULSE : Fld := ⟨.FC_NERR, 17, 1⟩
abbrev Fld.FC_NERR_LOW : Fld := ⟨.FC_NERR, 18, 1⟩
abbrev Fld.FC_CMD_REARM : Fld := ⟨.FC_CMD, 0, 1⟩
abbrev Fld.FC_CMD_RELEASE : Fld := ⟨.FC_CMD, 1, 5⟩
abbrev Fld.FC_REC_STATE : Fld := ⟨.FC_REC, 0, 2⟩
abbrev Fld.FC_REC_CLASS : Fld := ⟨.FC_REC, 2, 2⟩
abbrev Fld.FC_REC_REACT : Fld := ⟨.FC_REC, 4, 4⟩
abbrev Fld.FC_REC_SCPASS : Fld := ⟨.FC_REC, 8, 1⟩
abbrev Fld.FC_REC_QLEFT : Fld := ⟨.FC_REC, 16, 16⟩
abbrev Fld.FC_RSRCLO_SRC : Fld := ⟨.FC_RSRCLO, 0, 32⟩
abbrev Fld.FC_RSRCHI_SRC : Fld := ⟨.FC_RSRCHI, 0, 32⟩
abbrev Fld.FC_RCNT_RECOV : Fld := ⟨.FC_RCNT, 0, 16⟩
abbrev Fld.FC_RCNT_WCOUNT : Fld := ⟨.FC_RCNT, 16, 8⟩
abbrev Fld.FC_RCNT_MERGED : Fld := ⟨.FC_RCNT, 24, 8⟩
abbrev Fld.FC_FENCE0_HP : Fld := ⟨.FC_FENCE0, 0, 32⟩
abbrev Fld.FC_FENCE1_SC : Fld := ⟨.FC_FENCE1, 0, 32⟩
abbrev Fld.FC_FENCE2_PS : Fld := ⟨.FC_FENCE2, 0, 8⟩
abbrev Fld.FC_FENCE2_CAM : Fld := ⟨.FC_FENCE2, 8, 4⟩
abbrev Fld.FC_FENCE2_SEAT : Fld := ⟨.FC_FENCE2, 12, 4⟩
abbrev Fld.FC_FENCE3_TM : Fld := ⟨.FC_FENCE3, 0, 32⟩
abbrev Fld.FC_FENCE4_TM : Fld := ⟨.FC_FENCE4, 0, 32⟩
abbrev Fld.FC_FENCE5_TM : Fld := ⟨.FC_FENCE5, 0, 10⟩
abbrev Fld.FC_SRC_CLASS : Fld := ⟨.FC_SRC, 0, 2⟩
abbrev Fld.FC_SRC_REACT : Fld := ⟨.FC_SRC, 2, 4⟩
abbrev Fld.FC_SRC_NERR : Fld := ⟨.FC_SRC, 6, 1⟩
abbrev Fld.FC_SRC_EN : Fld := ⟨.FC_SRC, 7, 1⟩
abbrev Fld.FC_SRC_CNT : Fld := ⟨.FC_SRC, 16, 16⟩
abbrev Fld.TM_CH_MODE : Fld := ⟨.TM_CH, 0, 2⟩
abbrev Fld.TM_CH_XCHK : Fld := ⟨.TM_CH, 2, 1⟩
abbrev Fld.TM_CH_TOL : Fld := ⟨.TM_CH, 4, 4⟩
abbrev Fld.TM_CH_IDEAL : Fld := ⟨.TM_CH, 8, 13⟩
abbrev Fld.TM_THM_RNOM : Fld := ⟨.TM_THM, 0, 16⟩
abbrev Fld.TM_THM_BETA : Fld := ⟨.TM_THM, 16, 16⟩
abbrev Fld.TM_THR0_WARN : Fld := ⟨.TM_THR0, 0, 16⟩
abbrev Fld.TM_THR0_THROT : Fld := ⟨.TM_THR0, 16, 16⟩
abbrev Fld.TM_THR1_SHUT : Fld := ⟨.TM_THR1, 0, 16⟩
abbrev Fld.TM_THR1_HW : Fld := ⟨.TM_THR1, 16, 4⟩
abbrev Fld.TM_THR1_HT : Fld := ⟨.TM_THR1, 20, 4⟩
abbrev Fld.TM_THR1_HS : Fld := ⟨.TM_THR1, 24, 4⟩
abbrev Fld.TM_NB_NB0 : Fld := ⟨.TM_NB, 0, 7⟩
abbrev Fld.TM_NB_NB1 : Fld := ⟨.TM_NB, 7, 7⟩
abbrev Fld.TM_NB_NB2 : Fld := ⟨.TM_NB, 14, 7⟩
abbrev Fld.TM_NB_NB3 : Fld := ⟨.TM_NB, 21, 7⟩
abbrev Fld.TM_NB_NBMIN : Fld := ⟨.TM_NB, 28, 3⟩
abbrev Fld.TM_VAL_USED : Fld := ⟨.TM_VAL, 0, 16⟩
abbrev Fld.TM_VAL_MEAS : Fld := ⟨.TM_VAL, 16, 16⟩
abbrev Fld.TM_OFF_OFF : Fld := ⟨.TM_OFF, 0, 16⟩
abbrev Fld.TM_OFF_MED : Fld := ⟨.TM_OFF, 16, 16⟩
abbrev Fld.TM_STAT_WARN : Fld := ⟨.TM_STAT, 0, 1⟩
abbrev Fld.TM_STAT_THROT : Fld := ⟨.TM_STAT, 1, 1⟩
abbrev Fld.TM_STAT_SHUT : Fld := ⟨.TM_STAT, 2, 1⟩
abbrev Fld.TM_STAT_SUSPECT : Fld := ⟨.TM_STAT, 3, 1⟩
abbrev Fld.TM_STAT_OPEN : Fld := ⟨.TM_STAT, 4, 1⟩
abbrev Fld.TM_STAT_SHORT : Fld := ⟨.TM_STAT, 5, 1⟩
abbrev Fld.TM_STAT_HELD : Fld := ⟨.TM_STAT, 6, 1⟩
abbrev Fld.TM_STAT_SUBST : Fld := ⟨.TM_STAT, 7, 1⟩
abbrev Fld.TM_STAT_BAND : Fld := ⟨.TM_STAT, 8, 2⟩
abbrev Fld.TM_STAT_SUSCNT : Fld := ⟨.TM_STAT, 16, 8⟩
abbrev Fld.TM_TACT_RATE : Fld := ⟨.TM_TACT, 0, 17⟩
abbrev Fld.TM_TACT_CLAMPL : Fld := ⟨.TM_TACT, 17, 4⟩
abbrev Fld.TM_TACT_DUTY : Fld := ⟨.TM_TACT, 21, 5⟩
abbrev Fld.TM_TTHIN_THINMASK : Fld := ⟨.TM_TTHIN, 0, 16⟩
abbrev Fld.TM_TTHIN_GRACE : Fld := ⟨.TM_TTHIN, 16, 13⟩
abbrev Fld.TM_BSTAT_STATE : Fld := ⟨.TM_BSTAT, 0, 2⟩
abbrev Fld.TM_BSTAT_THRQ : Fld := ⟨.TM_BSTAT, 2, 1⟩
abbrev Fld.TM_BSTAT_GRACELEFT : Fld := ⟨.TM_BSTAT, 16, 16⟩
abbrev Fld.TM_TCNT_REQ : Fld := ⟨.TM_TCNT, 0, 16⟩
abbrev Fld.TM_TCNT_ENF : Fld := ⟨.TM_TCNT, 16, 16⟩
abbrev Fld.TM_SCOPE_HP : Fld := ⟨.TM_SCOPE, 0, 32⟩
abbrev Fld.TM_CFG_OFFLIM : Fld := ⟨.TM_CFG, 0, 8⟩
abbrev Fld.TM_CFG_XWAIT : Fld := ⟨.TM_CFG, 8, 8⟩
abbrev Fld.TM_CFG_SHUTLATCH : Fld := ⟨.TM_CFG, 16, 1⟩
abbrev Fld.TM_SHUTST_SHUT : Fld := ⟨.TM_SHUTST, 0, 32⟩
abbrev Fld.TM_SCAN_LOAD : Fld := ⟨.TM_SCAN, 0, 16⟩
abbrev Fld.TM_SCAN_LAG : Fld := ⟨.TM_SCAN, 16, 16⟩
abbrev Fld.TM_ENF_ACT : Fld := ⟨.TM_ENF, 0, 1⟩
abbrev Fld.TM_ENF_CLAMPL : Fld := ⟨.TM_ENF, 1, 4⟩
abbrev Fld.TM_ENF_DUTY : Fld := ⟨.TM_ENF, 5, 5⟩
abbrev Fld.OT_CHK_MARG : Fld := ⟨.OT_CHK, 0, 12⟩
abbrev Fld.OT_CHK_CORR : Fld := ⟨.OT_CHK, 12, 12⟩
abbrev Fld.OT_CHK_UE : Fld := ⟨.OT_CHK, 24, 8⟩
abbrev Fld.OT_FIRST_MWORD : Fld := ⟨.OT_FIRST, 0, 11⟩
abbrev Fld.OT_FIRST_MVALID : Fld := ⟨.OT_FIRST, 15, 1⟩
abbrev Fld.OT_FIRST_UWORD : Fld := ⟨.OT_FIRST, 16, 11⟩
abbrev Fld.OT_FIRST_UVALID : Fld := ⟨.OT_FIRST, 31, 1⟩
abbrev Fld.OT_CNT_ROLLBACK : Fld := ⟨.OT_CNT, 0, 8⟩
abbrev Fld.OT_CNT_XFER : Fld := ⟨.OT_CNT, 8, 5⟩
abbrev Fld.OT_CNT_LOCKOUT : Fld := ⟨.OT_CNT, 16, 10⟩
abbrev Fld.OT_OWNER_REC : Fld := ⟨.OT_OWNER, 0, 4⟩
abbrev Fld.OT_OWNER_NONE : Fld := ⟨.OT_OWNER, 4, 1⟩
abbrev Fld.OT_OWNER_PARTIAL : Fld := ⟨.OT_OWNER, 5, 1⟩
abbrev Fld.OT_OWNER_SECRET : Fld := ⟨.OT_OWNER, 6, 1⟩
abbrev Fld.OT_OWNER_POLICY : Fld := ⟨.OT_OWNER, 7, 1⟩
abbrev Fld.OT_OWNER_UNAUTH : Fld := ⟨.OT_OWNER, 8, 1⟩
abbrev Fld.OT_OWNER_ENROL : Fld := ⟨.OT_OWNER, 9, 1⟩
abbrev Fld.OT_OWNER_NEXT : Fld := ⟨.OT_OWNER, 10, 5⟩
abbrev Fld.OT_OWNERID_ID : Fld := ⟨.OT_OWNERID, 0, 32⟩
abbrev Fld.OT_PADDR_WORD : Fld := ⟨.OT_PADDR, 0, 11⟩
abbrev Fld.OT_PDATA_DATA : Fld := ⟨.OT_PDATA, 0, 32⟩
abbrev Fld.OT_PCMD_OP : Fld := ⟨.OT_PCMD, 0, 2⟩
abbrev Fld.OT_PCMD_REC : Fld := ⟨.OT_PCMD, 8, 4⟩
abbrev Fld.OT_PCMD_BUSY : Fld := ⟨.OT_PCMD, 30, 1⟩
abbrev Fld.OT_PCMD_GO : Fld := ⟨.OT_PCMD, 31, 1⟩
abbrev Fld.OT_PRES_RESULT : Fld := ⟨.OT_PRES, 0, 4⟩
abbrev Fld.OT_PRES_SRC : Fld := ⟨.OT_PRES, 4, 2⟩
abbrev Fld.OT_PRES_WORD : Fld := ⟨.OT_PRES, 16, 11⟩
abbrev Fld.OT_PENV_VOTP : Fld := ⟨.OT_PENV, 0, 16⟩
abbrev Fld.OT_PENV_TDIE : Fld := ⟨.OT_PENV, 16, 16⟩
abbrev Fld.OT_RAWSEL_WORD : Fld := ⟨.OT_RAWSEL, 0, 11⟩
abbrev Fld.OT_RAWS_DATA : Fld := ⟨.OT_RAWS, 0, 32⟩
abbrev Fld.OT_RAWL_DATA : Fld := ⟨.OT_RAWL, 0, 32⟩
abbrev Fld.OT_RAWC_SC : Fld := ⟨.OT_RAWC, 0, 7⟩
abbrev Fld.OT_RAWC_LC : Fld := ⟨.OT_RAWC, 8, 7⟩
abbrev Fld.TR_STAT_STATE : Fld := ⟨.TR_STAT, 0, 3⟩
abbrev Fld.TR_STAT_WBFAIL : Fld := ⟨.TR_STAT, 3, 1⟩
abbrev Fld.TR_STAT_RETRY : Fld := ⟨.TR_STAT, 8, 8⟩
abbrev Fld.TR_SERLO_SERIAL : Fld := ⟨.TR_SERLO, 0, 32⟩
abbrev Fld.TR_SERHI_SERIAL : Fld := ⟨.TR_SERHI, 0, 32⟩
abbrev Fld.TR_TYPE_TYPE : Fld := ⟨.TR_TYPE, 0, 16⟩
abbrev Fld.TR_TYPE_FMT : Fld := ⟨.TR_TYPE, 16, 8⟩
abbrev Fld.TR_USELO_COUNT : Fld := ⟨.TR_USELO, 0, 32⟩
abbrev Fld.TR_USEHI_COUNT : Fld := ⟨.TR_USEHI, 0, 32⟩
abbrev Fld.TR_EN_EN : Fld := ⟨.TR_EN, 0, 32⟩
abbrev Fld.TR_CFG_POLL : Fld := ⟨.TR_CFG, 0, 14⟩
abbrev Fld.TR_KEY_KM : Fld := ⟨.TR_KEY, 0, 1⟩
abbrev Fld.WR_CFG_WBHRS : Fld := ⟨.WR_CFG, 0, 8⟩
abbrev Fld.WR_CFG_TREND : Fld := ⟨.WR_CFG, 8, 7⟩
abbrev Fld.WR_CFG_WARNDAYS : Fld := ⟨.WR_CFG, 16, 16⟩
abbrev Fld.WR_CKPT_STATE : Fld := ⟨.WR_CKPT, 0, 2⟩
abbrev Fld.WR_CKPT_CAUSE : Fld := ⟨.WR_CKPT, 2, 2⟩
abbrev Fld.WR_CKPT_DONE : Fld := ⟨.WR_CKPT, 16, 16⟩
abbrev Fld.WR_CKTBLO_TB : Fld := ⟨.WR_CKTBLO, 0, 32⟩
abbrev Fld.WR_CKTBHI_TB : Fld := ⟨.WR_CKTBHI, 0, 32⟩
abbrev Fld.WR_TSTAT_UE : Fld := ⟨.WR_TSTAT, 0, 16⟩
abbrev Fld.WR_TSTAT_WFAIL : Fld := ⟨.WR_TSTAT, 16, 16⟩
abbrev Fld.WR_HOURS_HOURS : Fld := ⟨.WR_HOURS, 0, 32⟩
abbrev Fld.WR_RO_DRIFT : Fld := ⟨.WR_RO, 0, 16⟩
abbrev Fld.WR_MARG_DDR : Fld := ⟨.WR_MARG, 0, 8⟩
abbrev Fld.WR_MARG_PCIE : Fld := ⟨.WR_MARG, 8, 8⟩
abbrev Fld.WR_MARG_ETH : Fld := ⟨.WR_MARG, 16, 8⟩
abbrev Fld.WR_DLIM_ROLIM : Fld := ⟨.WR_DLIM, 0, 8⟩
abbrev Fld.WR_DLIM_DDRLIM : Fld := ⟨.WR_DLIM, 8, 8⟩
abbrev Fld.WR_DLIM_SERLIM : Fld := ⟨.WR_DLIM, 16, 8⟩
abbrev Fld.WR_DLIFE_DAYS : Fld := ⟨.WR_DLIFE, 0, 16⟩
abbrev Fld.WR_DLIFE_CAUSE : Fld := ⟨.WR_DLIFE, 16, 3⟩
abbrev Fld.WR_HCNTLO_COUNT : Fld := ⟨.WR_HCNTLO, 0, 32⟩
abbrev Fld.WR_HCNTHI_COUNT : Fld := ⟨.WR_HCNTHI, 0, 32⟩
abbrev Fld.WR_HWBLO_COUNT : Fld := ⟨.WR_HWBLO, 0, 32⟩
abbrev Fld.WR_HWBHI_COUNT : Fld := ⟨.WR_HWBHI, 0, 32⟩
abbrev Fld.WR_HRATE_RATE : Fld := ⟨.WR_HRATE, 0, 32⟩
abbrev Fld.WR_HLIFE_LIFE : Fld := ⟨.WR_HLIFE, 0, 32⟩
abbrev Fld.WR_HIND_CHURN : Fld := ⟨.WR_HIND, 0, 16⟩
abbrev Fld.WR_HIND_DRIFT : Fld := ⟨.WR_HIND, 16, 16⟩
abbrev Fld.WR_HILIM_CHLIM : Fld := ⟨.WR_HILIM, 0, 16⟩
abbrev Fld.WR_HILIM_DRLIM : Fld := ⟨.WR_HILIM, 16, 16⟩
abbrev Fld.WR_HLIFEP_DAYS : Fld := ⟨.WR_HLIFEP, 0, 16⟩
abbrev Fld.WR_HLIFEP_CAUSE : Fld := ⟨.WR_HLIFEP, 16, 2⟩
abbrev Fld.WR_HSTAT_HEADCHG : Fld := ⟨.WR_HSTAT, 0, 1⟩
abbrev Fld.WR_HSTAT_EST : Fld := ⟨.WR_HSTAT, 1, 1⟩
abbrev Fld.WR_HSTAT_SAT : Fld := ⟨.WR_HSTAT, 2, 1⟩
abbrev Fld.WR_HSTAT_RESET : Fld := ⟨.WR_HSTAT, 3, 1⟩
abbrev Fld.WR_HSTAT_WBDUE : Fld := ⟨.WR_HSTAT, 4, 1⟩
abbrev Fld.SV_CFG_BAUD : Fld := ⟨.SV_CFG, 0, 4⟩
abbrev Fld.SV_CFG_ECHO : Fld := ⟨.SV_CFG, 4, 1⟩
abbrev Fld.SV_STAT_BAUD : Fld := ⟨.SV_STAT, 0, 4⟩
abbrev Fld.SV_STAT_RXERR : Fld := ⟨.SV_STAT, 16, 16⟩
abbrev Fld.SV_TEST_TEST : Fld := ⟨.SV_TEST, 0, 4⟩
abbrev Fld.SV_TEST_ARG : Fld := ⟨.SV_TEST, 8, 8⟩
abbrev Fld.SV_TEST_STATE : Fld := ⟨.SV_TEST, 16, 2⟩
abbrev Fld.SV_TEST_GO : Fld := ⟨.SV_TEST, 31, 1⟩
abbrev Fld.SV_TESTD_DETAIL : Fld := ⟨.SV_TESTD, 0, 32⟩
abbrev Fld.SV_TARG_BASE : Fld := ⟨.SV_TARG, 0, 15⟩
abbrev Fld.SV_TARG_SIZE : Fld := ⟨.SV_TARG, 16, 15⟩
abbrev Fld.SV_PLUMB_SEL : Fld := ⟨.SV_PLUMB, 0, 5⟩
abbrev Fld.SV_PLUMB_ARG : Fld := ⟨.SV_PLUMB, 8, 8⟩
abbrev Fld.SV_PLUMB_LEVEL : Fld := ⟨.SV_PLUMB, 16, 16⟩
abbrev Fld.SV_PEN_PEN : Fld := ⟨.SV_PEN, 0, 32⟩
abbrev Fld.SV_MTEMP_CH : Fld := ⟨.SV_MTEMP, 0, 7⟩
abbrev Fld.SV_MTEMP_EN : Fld := ⟨.SV_MTEMP, 7, 1⟩
abbrev Fld.SV_PARK_PARK : Fld := ⟨.SV_PARK, 0, 14⟩
abbrev Fld.SV_PARK_IDLOW : Fld := ⟨.SV_PARK, 16, 1⟩
abbrev Fld.SV_FORCE_FORCE : Fld := ⟨.SV_FORCE, 0, 32⟩
abbrev Fld.PT_CFG_BENCH : Fld := ⟨.PT_CFG, 0, 1⟩
abbrev Fld.PT_CFG_CLEAR : Fld := ⟨.PT_CFG, 1, 1⟩
abbrev Fld.PT_ACTIVE_KIND : Fld := ⟨.PT_ACTIVE, 0, 5⟩
abbrev Fld.PT_ACTIVE_FORCED : Fld := ⟨.PT_ACTIVE, 5, 1⟩
abbrev Fld.PT_ACTIVE_METER : Fld := ⟨.PT_ACTIVE, 6, 1⟩
abbrev Fld.PT_MQDLY_SRC : Fld := ⟨.PT_MQDLY, 0, 4⟩
abbrev Fld.PT_MQDLY_DST : Fld := ⟨.PT_MQDLY, 4, 4⟩
abbrev Fld.PT_MQDLY_DLY : Fld := ⟨.PT_MQDLY, 8, 10⟩
abbrev Fld.PT_CREDIT_Q : Fld := ⟨.PT_CREDIT, 1, 3⟩
abbrev Fld.PT_CREDIT_FEED : Fld := ⟨.PT_CREDIT, 4, 1⟩
abbrev Fld.PT_CAMSTALL_GO : Fld := ⟨.PT_CAMSTALL, 0, 4⟩
abbrev Fld.PT_CAMSTALL_US : Fld := ⟨.PT_CAMSTALL, 16, 16⟩
abbrev Fld.PT_TRIGDLY_CYC : Fld := ⟨.PT_TRIGDLY, 0, 16⟩
abbrev Fld.PT_TRIGDLY_MODE : Fld := ⟨.PT_TRIGDLY, 16, 2⟩
abbrev Fld.PT_ECC_TARGET : Fld := ⟨.PT_ECC, 0, 2⟩
abbrev Fld.PT_ECC_TWO : Fld := ⟨.PT_ECC, 2, 1⟩
abbrev Fld.PT_ECC_GROUP : Fld := ⟨.PT_ECC, 3, 3⟩
abbrev Fld.PT_ECC_ARG : Fld := ⟨.PT_ECC, 8, 8⟩
abbrev Fld.PT_ECC_COUNT : Fld := ⟨.PT_ECC, 16, 8⟩
abbrev Fld.PT_FORCE_SRC : Fld := ⟨.PT_FORCE, 0, 6⟩
abbrev Fld.PT_FORCE_UNIT : Fld := ⟨.PT_FORCE, 8, 8⟩
abbrev Fld.PT_FORCE_GO : Fld := ⟨.PT_FORCE, 31, 1⟩
abbrev Fld.PS_CFG_TYPE : Fld := ⟨.PS_CFG, 0, 2⟩
abbrev Fld.PS_CFG_QMODE : Fld := ⟨.PS_CFG, 2, 2⟩
abbrev Fld.PS_CFG_INV : Fld := ⟨.PS_CFG, 4, 3⟩
abbrev Fld.PS_CFG_WRAP : Fld := ⟨.PS_CFG, 7, 1⟩
abbrev Fld.PS_CFG_ZMODE : Fld := ⟨.PS_CFG, 8, 2⟩
abbrev Fld.PS_CFG_OUTSEL : Fld := ⟨.PS_CFG, 10, 2⟩
abbrev Fld.PS_CFG_FILT : Fld := ⟨.PS_CFG, 16, 8⟩
abbrev Fld.PS_RATE_MINIVL : Fld := ⟨.PS_RATE, 0, 8⟩
abbrev Fld.PS_LIMLO_LIM : Fld := ⟨.PS_LIMLO, 0, 32⟩
abbrev Fld.PS_LIMHI_LIM : Fld := ⟨.PS_LIMHI, 0, 32⟩
abbrev Fld.PS_DB_DB : Fld := ⟨.PS_DB, 0, 8⟩
abbrev Fld.PS_SPDWIN_WIN : Fld := ⟨.PS_SPDWIN, 0, 14⟩
abbrev Fld.PS_STALL_TIMEOUT : Fld := ⟨.PS_STALL, 0, 16⟩
abbrev Fld.PS_SSI_BITS : Fld := ⟨.PS_SSI, 0, 6⟩
abbrev Fld.PS_SSI_GRAY : Fld := ⟨.PS_SSI, 6, 1⟩
abbrev Fld.PS_SSI_SDLY : Fld := ⟨.PS_SSI, 8, 8⟩
abbrev Fld.PS_SSI_CLKDIV : Fld := ⟨.PS_SSI, 16, 10⟩
abbrev Fld.PS_SSIT_PERIOD : Fld := ⟨.PS_SSIT, 0, 16⟩
abbrev Fld.PS_SSIT_MAXSTEP : Fld := ⟨.PS_SSIT, 16, 16⟩
abbrev Fld.PS_CMD_MOVE : Fld := ⟨.PS_CMD, 0, 1⟩
abbrev Fld.PS_CMD_PRELOAD : Fld := ⟨.PS_CMD, 1, 1⟩
abbrev Fld.PS_PREVAL_VAL : Fld := ⟨.PS_PREVAL, 0, 32⟩
abbrev Fld.PS_POS_COUNT : Fld := ⟨.PS_POS, 0, 32⟩
abbrev Fld.PS_ZLAT_COUNT : Fld := ⟨.PS_ZLAT, 0, 32⟩
abbrev Fld.PS_SPEED_SUM : Fld := ⟨.PS_SPEED, 0, 32⟩
abbrev Fld.PS_SPDTBLO_TB : Fld := ⟨.PS_SPDTBLO, 0, 32⟩
abbrev Fld.PS_SPDTBHI_TB : Fld := ⟨.PS_SPDTBHI, 0, 32⟩
abbrev Fld.PS_STAT_IN : Fld := ⟨.PS_STAT, 0, 3⟩
abbrev Fld.PS_STAT_RAW : Fld := ⟨.PS_STAT, 3, 3⟩
abbrev Fld.PS_STAT_DIR : Fld := ⟨.PS_STAT, 6, 1⟩
abbrev Fld.PS_STAT_LIMIT : Fld := ⟨.PS_STAT, 7, 1⟩
abbrev Fld.PS_STAT_CHATTER : Fld := ⟨.PS_STAT, 8, 1⟩
abbrev Fld.PS_STAT_STALL : Fld := ⟨.PS_STAT, 9, 1⟩
abbrev Fld.PS_STAT_HALLBAD : Fld := ⟨.PS_STAT, 10, 1⟩
abbrev Fld.PS_STAT_SSIERR : Fld := ⟨.PS_STAT, 11, 1⟩
abbrev Fld.PS_STAT_ZSEEN : Fld := ⟨.PS_STAT, 12, 1⟩
abbrev Fld.PS_STAT_FENCED : Fld := ⟨.PS_STAT, 13, 1⟩
abbrev Fld.PS_STAT_HALLST : Fld := ⟨.PS_STAT, 15, 3⟩
abbrev Fld.PS_ERRCNT_QERR : Fld := ⟨.PS_ERRCNT, 0, 8⟩
abbrev Fld.PS_ERRCNT_SKIP : Fld := ⟨.PS_ERRCNT, 8, 8⟩
abbrev Fld.PS_ERRCNT_OVRATE : Fld := ⟨.PS_ERRCNT, 16, 8⟩
abbrev Fld.PS_ERRCNT_SSIERR : Fld := ⟨.PS_ERRCNT, 24, 8⟩
abbrev Fld.PC_CTL_SRCSEL : Fld := ⟨.PC_CTL, 0, 2⟩
abbrev Fld.PC_CTL_CHAN : Fld := ⟨.PC_CTL, 2, 3⟩
abbrev Fld.PC_CTL_GENPRIME : Fld := ⟨.PC_CTL, 5, 1⟩
abbrev Fld.PC_CTL_GENCAL : Fld := ⟨.PC_CTL, 6, 1⟩
abbrev Fld.PC_CTL_SENSE : Fld := ⟨.PC_CTL, 8, 2⟩
abbrev Fld.PC_CTL_INTERP : Fld := ⟨.PC_CTL, 10, 1⟩
abbrev Fld.PC_CTL_AVG : Fld := ⟨.PC_CTL, 11, 3⟩
abbrev Fld.PC_RATLO_FRAC : Fld := ⟨.PC_RATLO, 0, 32⟩
abbrev Fld.PC_RATHI_INT : Fld := ⟨.PC_RATHI, 0, 32⟩
abbrev Fld.PC_GEN_PERIOD : Fld := ⟨.PC_GEN, 0, 24⟩
abbrev Fld.PC_STAT_SRC : Fld := ⟨.PC_STAT, 0, 2⟩
abbrev Fld.PC_STAT_SENSE : Fld := ⟨.PC_STAT, 2, 1⟩
abbrev Fld.PC_STAT_NOSRC : Fld := ⟨.PC_STAT, 3, 1⟩
abbrev Fld.PC_STAT_INTACT : Fld := ⟨.PC_STAT, 4, 1⟩
abbrev Fld.PC_STAT_STOPREQ : Fld := ⟨.PC_STAT, 5, 1⟩
abbrev Fld.PC_PERIOD_CYC : Fld := ⟨.PC_PERIOD, 0, 24⟩
abbrev Fld.PC_RATE_CNT : Fld := ⟨.PC_RATE, 0, 16⟩
abbrev Fld.PC_SPEED_HZ : Fld := ⟨.PC_SPEED, 0, 20⟩
abbrev Fld.PC_MARKLO_M : Fld := ⟨.PC_MARKLO, 0, 32⟩
abbrev Fld.PC_MARKHI_M : Fld := ⟨.PC_MARKHI, 0, 16⟩
abbrev Fld.CP_CTL_EN : Fld := ⟨.CP_CTL, 0, 1⟩
abbrev Fld.CP_CTL_CYCLIC : Fld := ⟨.CP_CTL, 1, 1⟩
abbrev Fld.CP_CTL_SRC : Fld := ⟨.CP_CTL, 2, 4⟩
abbrev Fld.CP_CTL_DOWN : Fld := ⟨.CP_CTL, 6, 1⟩
abbrev Fld.CP_CTL_LAST : Fld := ⟨.CP_CTL, 8, 10⟩
abbrev Fld.CP_PERIOD_PERIOD : Fld := ⟨.CP_PERIOD, 0, 32⟩
abbrev Fld.CP_STAT_PTR : Fld := ⟨.CP_STAT, 0, 10⟩
abbrev Fld.CP_STAT_LAP : Fld := ⟨.CP_STAT, 16, 12⟩
abbrev Fld.CP_STAT_DONE : Fld := ⟨.CP_STAT, 28, 1⟩
abbrev Fld.CP_STAT_LATE : Fld := ⟨.CP_STAT, 29, 1⟩
abbrev Fld.CP_STAT_RUN : Fld := ⟨.CP_STAT, 31, 1⟩
abbrev Fld.CP_CNT_FIRED : Fld := ⟨.CP_CNT, 0, 32⟩
abbrev Fld.CP_OUT_POL : Fld := ⟨.CP_OUT, 0, 1⟩
abbrev Fld.CP_OUT_LEVEL : Fld := ⟨.CP_OUT, 1, 1⟩
abbrev Fld.EM_CFG_EN : Fld := ⟨.EM_CFG, 0, 1⟩
abbrev Fld.EM_CFG_SRC : Fld := ⟨.EM_CFG, 1, 4⟩
abbrev Fld.EM_CFG_STEPDIR : Fld := ⟨.EM_CFG, 5, 1⟩
abbrev Fld.EM_CFG_ZMODE : Fld := ⟨.EM_CFG, 6, 2⟩
abbrev Fld.EM_CFG_MINIVL : Fld := ⟨.EM_CFG, 8, 16⟩
abbrev Fld.EM_RATIO_N : Fld := ⟨.EM_RATIO, 0, 16⟩
abbrev Fld.EM_RATIO_D : Fld := ⟨.EM_RATIO, 16, 16⟩
abbrev Fld.EM_ZPER_ZPER : Fld := ⟨.EM_ZPER, 0, 32⟩
abbrev Fld.EM_STAT_BACKLOG : Fld := ⟨.EM_STAT, 0, 17⟩
abbrev Fld.EM_STAT_EMULAG : Fld := ⟨.EM_STAT, 31, 1⟩
abbrev Fld.EM_LOST_LOST : Fld := ⟨.EM_LOST, 0, 32⟩
abbrev Fld.EM_POS_POS : Fld := ⟨.EM_POS, 0, 32⟩
abbrev Fld.HS_CTL_EN : Fld := ⟨.HS_CTL, 0, 1⟩
abbrev Fld.HS_CTL_LINKSTOP : Fld := ⟨.HS_CTL, 1, 1⟩
abbrev Fld.HS_CTL_LINKTO : Fld := ⟨.HS_CTL, 16, 16⟩
abbrev Fld.HS_LINK_UP : Fld := ⟨.HS_LINK, 0, 1⟩
abbrev Fld.HS_LINK_SPEED : Fld := ⟨.HS_LINK, 1, 3⟩
abbrev Fld.HS_LINK_WIDTH : Fld := ⟨.HS_LINK, 4, 4⟩
abbrev Fld.HS_LINK_BOUND : Fld := ⟨.HS_LINK, 8, 1⟩
abbrev Fld.HS_LINK_DOWNCNT : Fld := ⟨.HS_LINK, 16, 16⟩
abbrev Fld.HS_IPADDR_ADDR : Fld := ⟨.HS_IPADDR, 0, 32⟩
abbrev Fld.HS_UDPPORT_PORT : Fld := ⟨.HS_UDPPORT, 0, 16⟩
abbrev Fld.HS_PEERIP_PEER : Fld := ⟨.HS_PEERIP, 0, 32⟩
abbrev Fld.HS_BOUNDIP_ADDR : Fld := ⟨.HS_BOUNDIP, 0, 32⟩
abbrev Fld.HS_BOUNDPORT_PORT : Fld := ⟨.HS_BOUNDPORT, 0, 16⟩
abbrev Fld.HS_MACLO_MAC : Fld := ⟨.HS_MACLO, 0, 32⟩
abbrev Fld.HS_MACHI_MAC : Fld := ⟨.HS_MACHI, 0, 16⟩
abbrev Fld.HS_CQBLO_BASE : Fld := ⟨.HS_CQBLO, 0, 32⟩
abbrev Fld.HS_CQBHI_BASE : Fld := ⟨.HS_CQBHI, 0, 32⟩
abbrev Fld.HS_CQSIZE_LOG2 : Fld := ⟨.HS_CQSIZE, 0, 4⟩
abbrev Fld.HS_CQSIZE_EN : Fld := ⟨.HS_CQSIZE, 31, 1⟩
abbrev Fld.HS_CQTAIL_TAIL : Fld := ⟨.HS_CQTAIL, 0, 12⟩
abbrev Fld.HS_CQHEAD_HEAD : Fld := ⟨.HS_CQHEAD, 0, 12⟩
abbrev Fld.HS_CQSEQ_EXP : Fld := ⟨.HS_CQSEQ, 0, 16⟩
abbrev Fld.HS_EQBLO_BASE : Fld := ⟨.HS_EQBLO, 0, 32⟩
abbrev Fld.HS_EQBHI_BASE : Fld := ⟨.HS_EQBHI, 0, 32⟩
abbrev Fld.HS_EQSIZE_LOG2 : Fld := ⟨.HS_EQSIZE, 0, 4⟩
abbrev Fld.HS_EQSIZE_EN : Fld := ⟨.HS_EQSIZE, 31, 1⟩
abbrev Fld.HS_EQHEAD_HEAD : Fld := ⟨.HS_EQHEAD, 0, 12⟩
abbrev Fld.HS_EQTAIL_TAIL : Fld := ⟨.HS_EQTAIL, 0, 12⟩
abbrev Fld.HS_ERRCNT_CRC : Fld := ⟨.HS_ERRCNT, 0, 8⟩
abbrev Fld.HS_ERRCNT_SEQ : Fld := ⟨.HS_ERRCNT, 8, 8⟩
abbrev Fld.HS_ERRCNT_REFUSED : Fld := ⟨.HS_ERRCNT, 16, 8⟩
abbrev Fld.HS_ERRCNT_DROP : Fld := ⟨.HS_ERRCNT, 24, 8⟩
abbrev Fld.HS_EVLOST_LOST : Fld := ⟨.HS_EVLOST, 0, 16⟩
abbrev Fld.HS_ERRLAST_STATUS : Fld := ⟨.HS_ERRLAST, 0, 16⟩
abbrev Fld.HS_ERRLAST_QUEUE : Fld := ⟨.HS_ERRLAST, 16, 8⟩
abbrev Fld.RI_FQBLO_BASE : Fld := ⟨.RI_FQBLO, 0, 32⟩
abbrev Fld.RI_FQBHI_BASE : Fld := ⟨.RI_FQBHI, 0, 32⟩
abbrev Fld.RI_FQSIZE_LOG2 : Fld := ⟨.RI_FQSIZE, 0, 4⟩
abbrev Fld.RI_FQSIZE_EN : Fld := ⟨.RI_FQSIZE, 31, 1⟩
abbrev Fld.RI_FQTAIL_TAIL : Fld := ⟨.RI_FQTAIL, 0, 12⟩
abbrev Fld.RI_FQHEAD_HEAD : Fld := ⟨.RI_FQHEAD, 0, 12⟩
abbrev Fld.RI_FQSEQ_EXP : Fld := ⟨.RI_FQSEQ, 0, 16⟩
abbrev Fld.RI_FMT_FORMAT : Fld := ⟨.RI_FMT, 0, 3⟩
abbrev Fld.RI_FMT_WIDTH : Fld := ⟨.RI_FMT, 16, 13⟩
abbrev Fld.RI_RBASE_BASE : Fld := ⟨.RI_RBASE, 0, 15⟩
abbrev Fld.RI_RSLOTS_SLOTS : Fld := ⟨.RI_RSLOTS, 0, 22⟩
abbrev Fld.RI_DELAY_DELAY : Fld := ⟨.RI_DELAY, 0, 21⟩
abbrev Fld.RI_DELAY_PHASE : Fld := ⟨.RI_DELAY, 24, 8⟩
abbrev Fld.RI_STAT_LATE : Fld := ⟨.RI_STAT, 0, 1⟩
abbrev Fld.RI_STAT_UE : Fld := ⟨.RI_STAT, 1, 1⟩
abbrev Fld.RI_STAT_RING : Fld := ⟨.RI_STAT, 2, 1⟩
abbrev Fld.RI_STAT_COMPLETE : Fld := ⟨.RI_STAT, 8, 24⟩
abbrev Fld.RI_LATECNT_LATE : Fld := ⟨.RI_LATECNT, 0, 32⟩
abbrev Fld.RI_STALECNT_STALE : Fld := ⟨.RI_STALECNT, 0, 16⟩
abbrev Fld.RI_STALECNT_BARBLANK : Fld := ⟨.RI_STALECNT, 16, 16⟩
abbrev Fld.RI_CNT_GAP : Fld := ⟨.RI_CNT, 0, 8⟩
abbrev Fld.RI_CNT_AHEAD : Fld := ⟨.RI_CNT, 8, 8⟩
abbrev Fld.RI_CNT_SKIP : Fld := ⟨.RI_CNT, 16, 8⟩
abbrev Fld.RI_CNT_DROP : Fld := ⟨.RI_CNT, 24, 8⟩
abbrev Fld.RI_NEXTLO_U : Fld := ⟨.RI_NEXTLO, 0, 32⟩
abbrev Fld.RI_NEXTHI_U : Fld := ⟨.RI_NEXTHI, 0, 16⟩
abbrev Fld.RI_BAYCTL_HOLDPOL : Fld := ⟨.RI_BAYCTL, 0, 1⟩
abbrev Fld.RI_BAYCTL_LATEPOL : Fld := ⟨.RI_BAYCTL, 1, 1⟩
abbrev Fld.RI_BAYRATE_MAXHZ : Fld := ⟨.RI_BAYRATE, 0, 17⟩
abbrev Fld.RI_BAYRATE_OVER : Fld := ⟨.RI_BAYRATE, 31, 1⟩
abbrev Fld.RI_RNLO_RN : Fld := ⟨.RI_RNLO, 0, 32⟩
abbrev Fld.RI_RNHI_RN : Fld := ⟨.RI_RNHI, 0, 16⟩
abbrev Fld.RI_JOBLO_JOB : Fld := ⟨.RI_JOBLO, 0, 32⟩
abbrev Fld.RI_JOBHI_JOB : Fld := ⟨.RI_JOBHI, 0, 16⟩
abbrev Fld.RI_FSCFG_DENSITY : Fld := ⟨.RI_FSCFG, 0, 3⟩
abbrev Fld.RI_FSCFG_RANKS : Fld := ⟨.RI_FSCFG, 3, 1⟩
abbrev Fld.RI_FSCFG_CHANS : Fld := ⟨.RI_FSCFG, 4, 2⟩
abbrev Fld.RI_FSCFG_RATE : Fld := ⟨.RI_FSCFG, 8, 7⟩
abbrev Fld.RI_FSSTAT_TRAINED0 : Fld := ⟨.RI_FSSTAT, 0, 1⟩
abbrev Fld.RI_FSSTAT_TRAINED1 : Fld := ⟨.RI_FSSTAT, 1, 1⟩
abbrev Fld.RI_FSSTAT_CAPMIB : Fld := ⟨.RI_FSSTAT, 16, 16⟩
abbrev Fld.RI_BWUSE_USED : Fld := ⟨.RI_BWUSE, 0, 16⟩
abbrev Fld.RI_BWUSE_LIMIT : Fld := ⟨.RI_BWUSE, 16, 16⟩
abbrev Fld.RI_ECC_CE : Fld := ⟨.RI_ECC, 0, 16⟩
abbrev Fld.RI_ECC_UE : Fld := ⟨.RI_ECC, 16, 16⟩
abbrev Fld.RI_ECCALO_ADDR : Fld := ⟨.RI_ECCALO, 0, 32⟩
abbrev Fld.RI_ECCAHI_ADDR : Fld := ⟨.RI_ECCAHI, 0, 3⟩
abbrev Fld.RI_ECCAHI_UE : Fld := ⟨.RI_ECCAHI, 30, 1⟩
abbrev Fld.RI_ECCAHI_SCRUB : Fld := ⟨.RI_ECCAHI, 31, 1⟩
abbrev Fld.RI_SCRUB_EN : Fld := ⟨.RI_SCRUB, 0, 1⟩
abbrev Fld.RI_SCRUB_HOURS : Fld := ⟨.RI_SCRUB, 8, 8⟩
abbrev Fld.RI_WIN_BASE : Fld := ⟨.RI_WIN, 0, 15⟩
abbrev Fld.RI_B2BASE_BASE : Fld := ⟨.RI_B2BASE, 0, 5⟩
abbrev Fld.HP_PROF_CODEW : Fld := ⟨.HP_PROF, 0, 3⟩
abbrev Fld.HP_PROF_LANES : Fld := ⟨.HP_PROF, 3, 2⟩
abbrev Fld.HP_PROF_LMAP : Fld := ⟨.HP_PROF, 5, 1⟩
abbrev Fld.HP_PROF_SHIFTDIR : Fld := ⟨.HP_PROF, 6, 1⟩
abbrev Fld.HP_PROF_BITORD : Fld := ⟨.HP_PROF, 7, 1⟩
abbrev Fld.HP_PROF_LRATE : Fld := ⟨.HP_PROF, 8, 2⟩
abbrev Fld.HP_PROF_SRDIV : Fld := ⟨.HP_PROF, 10, 2⟩
abbrev Fld.HP_PROF_CFGFMT : Fld := ⟨.HP_PROF, 12, 2⟩
abbrev Fld.HP_PROF_LATPOL : Fld := ⟨.HP_PROF, 14, 1⟩
abbrev Fld.HP_PROF_CFGREP : Fld := ⟨.HP_PROF, 15, 1⟩
abbrev Fld.HP_PROF_NOZZLES : Fld := ⟨.HP_PROF, 16, 13⟩
abbrev Fld.HP_LANE_LSWAP : Fld := ⟨.HP_LANE, 0, 8⟩
abbrev Fld.HP_LANE_LINV : Fld := ⟨.HP_LANE, 8, 6⟩
abbrev Fld.HP_LANE_CFGN : Fld := ⟨.HP_LANE, 16, 4⟩
abbrev Fld.HP_LATCH_STRB : Fld := ⟨.HP_LATCH, 0, 10⟩
abbrev Fld.HP_LATCH_FOFF : Fld := ⟨.HP_LATCH, 16, 16⟩
abbrev Fld.HP_GRP_GLOG2 : Fld := ⟨.HP_GRP, 0, 2⟩
abbrev Fld.HP_GRP_NCH : Fld := ⟨.HP_GRP, 2, 1⟩
abbrev Fld.HP_GRP_GMODE : Fld := ⟨.HP_GRP, 3, 1⟩
abbrev Fld.HP_GRP_ROT : Fld := ⟨.HP_GRP, 4, 1⟩
abbrev Fld.HP_GRP_COMP : Fld := ⟨.HP_GRP, 5, 1⟩
abbrev Fld.HP_GSTEP_GSTEP : Fld := ⟨.HP_GSTEP, 0, 10⟩
abbrev Fld.HP_GSTEP_BOFF : Fld := ⟨.HP_GSTEP, 16, 9⟩
abbrev Fld.HP_RECIPE0_RCP : Fld := ⟨.HP_RECIPE0, 0, 32⟩
abbrev Fld.HP_RECIPE1_RCP : Fld := ⟨.HP_RECIPE1, 0, 32⟩
abbrev Fld.HP_RECIPE2_RCP : Fld := ⟨.HP_RECIPE2, 0, 32⟩
abbrev Fld.HP_RECIPE3_RCP : Fld := ⟨.HP_RECIPE3, 0, 32⟩
abbrev Fld.HP_CFGX_WORD : Fld := ⟨.HP_CFGX, 0, 32⟩
abbrev Fld.HP_PWR_REQ : Fld := ⟨.HP_PWR, 0, 1⟩
abbrev Fld.HP_PWR_PEN : Fld := ⟨.HP_PWR, 1, 1⟩
abbrev Fld.HP_PWR_READY : Fld := ⟨.HP_PWR, 2, 1⟩
abbrev Fld.HP_PWR_REFUSED : Fld := ⟨.HP_PWR, 3, 1⟩
abbrev Fld.HP_PWR_TPON : Fld := ⟨.HP_PWR, 16, 16⟩
abbrev Fld.HP_STAT_UE : Fld := ⟨.HP_STAT, 0, 1⟩
abbrev Fld.HP_STAT_COMPCLAMP : Fld := ⟨.HP_STAT, 1, 1⟩
abbrev Fld.HP_STAT_FENCED : Fld := ⟨.HP_STAT, 2, 1⟩
abbrev Fld.HP_STAT_SHUT : Fld := ⟨.HP_STAT, 3, 1⟩
abbrev Fld.HP_STAT_NOTREADY : Fld := ⟨.HP_STAT, 4, 1⟩
abbrev Fld.HP_CNT_BLANK : Fld := ⟨.HP_CNT, 0, 16⟩
abbrev Fld.HP_CNT_CFGTX : Fld := ⟨.HP_CNT, 16, 16⟩
abbrev Fld.HP_PMIN_PMIN : Fld := ⟨.HP_PMIN, 0, 24⟩
abbrev Fld.WV_CTL_BANK : Fld := ⟨.WV_CTL, 0, 1⟩
abbrev Fld.WV_CTL_WA : Fld := ⟨.WV_CTL, 4, 4⟩
abbrev Fld.WV_CTL_WB : Fld := ⟨.WV_CTL, 8, 4⟩
abbrev Fld.WV_AMP_AMPA : Fld := ⟨.WV_AMP, 0, 16⟩
abbrev Fld.WV_AMP_AMPB : Fld := ⟨.WV_AMP, 16, 16⟩
abbrev Fld.WV_REST_RESTA : Fld := ⟨.WV_REST, 0, 16⟩
abbrev Fld.WV_REST_RESTB : Fld := ⟨.WV_REST, 16, 16⟩
abbrev Fld.WV_STAT_CLIP : Fld := ⟨.WV_STAT, 0, 1⟩
abbrev Fld.WV_STAT_CLIPCNT : Fld := ⟨.WV_STAT, 16, 16⟩
abbrev Fld.HP_OSCTL_SLIPB : Fld := ⟨.HP_OSCTL, 0, 8⟩
abbrev Fld.HP_OSCTL_PWEN : Fld := ⟨.HP_OSCTL, 8, 1⟩
abbrev Fld.HP_OSCTL_K : Fld := ⟨.HP_OSCTL, 16, 16⟩
abbrev Fld.HP_BAYSTAT_PMIN : Fld := ⟨.HP_BAYSTAT, 0, 24⟩
abbrev Fld.HP_BAYSTAT_PREWARN : Fld := ⟨.HP_BAYSTAT, 24, 1⟩
abbrev Fld.HP_BAYSTAT_RUN : Fld := ⟨.HP_BAYSTAT, 25, 1⟩
abbrev Fld.HP_BAYCNT_SLIP : Fld := ⟨.HP_BAYCNT, 0, 16⟩
abbrev Fld.HP_BAYCNT_OSPD : Fld := ⟨.HP_BAYCNT, 16, 16⟩
abbrev Fld.HP_OSRUN_RUN : Fld := ⟨.HP_OSRUN, 0, 16⟩
abbrev Fld.HP_OSRUN_DEFER : Fld := ⟨.HP_OSRUN, 16, 16⟩
abbrev Fld.SC_CTL_SCREEN : Fld := ⟨.SC_CTL, 0, 2⟩
abbrev Fld.SC_CTL_EDGE : Fld := ⟨.SC_CTL, 2, 1⟩
abbrev Fld.SC_CTL_SERP : Fld := ⟨.SC_CTL, 3, 1⟩
abbrev Fld.SC_CTL_DCEN : Fld := ⟨.SC_CTL, 4, 1⟩
abbrev Fld.SC_CTL_STEN : Fld := ⟨.SC_CTL, 5, 1⟩
abbrev Fld.SC_CTL_RAMP : Fld := ⟨.SC_CTL, 6, 1⟩
abbrev Fld.SC_LEVELS_L : Fld := ⟨.SC_LEVELS, 0, 5⟩
abbrev Fld.SC_CODEMAP0_CODE : Fld := ⟨.SC_CODEMAP0, 0, 32⟩
abbrev Fld.SC_CODEMAP1_CODE : Fld := ⟨.SC_CODEMAP1, 0, 32⟩
abbrev Fld.SC_ARRSEL0_ARR : Fld := ⟨.SC_ARRSEL0, 0, 32⟩
abbrev Fld.SC_ARRSEL1_ARR : Fld := ⟨.SC_ARRSEL1, 0, 32⟩
abbrev Fld.SC_ARRPOS_XOFF : Fld := ⟨.SC_ARRPOS, 0, 7⟩
abbrev Fld.SC_ARRPOS_YOFF : Fld := ⟨.SC_ARRPOS, 8, 7⟩
abbrev Fld.SC_ED_WR : Fld := ⟨.SC_ED, 0, 4⟩
abbrev Fld.SC_ED_WDL : Fld := ⟨.SC_ED, 4, 4⟩
abbrev Fld.SC_ED_WD : Fld := ⟨.SC_ED, 8, 4⟩
abbrev Fld.SC_ED_WDR : Fld := ⟨.SC_ED, 12, 4⟩
abbrev Fld.SC_SHIFT_SHIFT : Fld := ⟨.SC_SHIFT, 0, 16⟩
abbrev Fld.SC_RSHIFT_RSHIFT : Fld := ⟨.SC_RSHIFT, 0, 16⟩
abbrev Fld.SC_BAR_BAR : Fld := ⟨.SC_BAR, 0, 5⟩
abbrev Fld.SC_BAR_INBAR : Fld := ⟨.SC_BAR, 5, 1⟩
abbrev Fld.SC_BAR_POS : Fld := ⟨.SC_BAR, 8, 5⟩
abbrev Fld.SC_BAR_LW : Fld := ⟨.SC_BAR, 16, 7⟩
abbrev Fld.SC_BAR_RW : Fld := ⟨.SC_BAR, 24, 7⟩
abbrev Fld.SC_STAT_SHCLAMP : Fld := ⟨.SC_STAT, 0, 1⟩
abbrev Fld.SC_STAT_LVCLAMP : Fld := ⟨.SC_STAT, 1, 1⟩
abbrev Fld.SC_STAT_UE : Fld := ⟨.SC_STAT, 2, 1⟩
abbrev Fld.SC_CNT_EDCLR : Fld := ⟨.SC_CNT, 0, 16⟩
abbrev Fld.SC_CNT_LVCLAMP : Fld := ⟨.SC_CNT, 16, 16⟩
abbrev Fld.SC_RATE_CYCLES : Fld := ⟨.SC_RATE, 0, 16⟩
abbrev Fld.SC_RATE_MAXR : Fld := ⟨.SC_RATE, 16, 16⟩
abbrev Fld.SC_CVSTG_HEAD : Fld := ⟨.SC_CVSTG, 0, 5⟩
abbrev Fld.SC_CVSTG_CLAIM : Fld := ⟨.SC_CVSTG, 8, 1⟩
abbrev Fld.SC_CVSTG_VALID : Fld := ⟨.SC_CVSTG, 9, 1⟩
abbrev Fld.SC_CVSTG_ARM : Fld := ⟨.SC_CVSTG, 10, 1⟩
abbrev Fld.SC_CVSTG_PEND : Fld := ⟨.SC_CVSTG, 11, 1⟩
abbrev Fld.BD_CFG_EN : Fld := ⟨.BD_CFG, 0, 1⟩
abbrev Fld.BD_CFG_PASSES : Fld := ⟨.BD_CFG, 1, 4⟩
abbrev Fld.BD_CFG_BOND : Fld := ⟨.BD_CFG, 8, 4⟩
abbrev Fld.BD_CFG_PERLVL : Fld := ⟨.BD_CFG, 12, 1⟩
abbrev Fld.BD_CFG_MIRROR : Fld := ⟨.BD_CFG, 13, 1⟩
abbrev Fld.BD_CFG_REVEN : Fld := ⟨.BD_CFG, 14, 1⟩
abbrev Fld.BD_CFG_BONDREV : Fld := ⟨.BD_CFG, 16, 4⟩
abbrev Fld.BD_PASS_PASS : Fld := ⟨.BD_PASS, 0, 4⟩
abbrev Fld.BD_PASS_DIR : Fld := ⟨.BD_PASS, 4, 1⟩
abbrev Fld.BD_POS_UOFF : Fld := ⟨.BD_POS, 0, 8⟩
abbrev Fld.BD_POS_VOFF : Fld := ⟨.BD_POS, 8, 8⟩
abbrev Fld.BD_LVLSEL0_BOND : Fld := ⟨.BD_LVLSEL0, 0, 32⟩
abbrev Fld.BD_LVLSEL1_BOND : Fld := ⟨.BD_LVLSEL1, 0, 32⟩
abbrev Fld.BD_CNT_MASKED : Fld := ⟨.BD_CNT, 0, 32⟩
abbrev Fld.SC_ARROWN0_OWN : Fld := ⟨.SC_ARROWN0, 0, 32⟩
abbrev Fld.SC_ARROWN1_OWN : Fld := ⟨.SC_ARROWN1, 0, 32⟩
abbrev Fld.SN_CFG_EN : Fld := ⟨.SN_CFG, 0, 1⟩
abbrev Fld.SN_CFG_TRACK : Fld := ⟨.SN_CFG, 1, 1⟩
abbrev Fld.SN_CFG_EVERY : Fld := ⟨.SN_CFG, 2, 6⟩
abbrev Fld.SN_CFG_SWIN : Fld := ⟨.SN_CFG, 8, 3⟩
abbrev Fld.SN_CFG_SETTLE : Fld := ⟨.SN_CFG, 16, 6⟩
abbrev Fld.SN_CFG_PRIO : Fld := ⟨.SN_CFG, 24, 4⟩
abbrev Fld.SN_CFG_TRACKSH : Fld := ⟨.SN_CFG, 28, 4⟩
abbrev Fld.SN_THR0_OPENA : Fld := ⟨.SN_THR0, 0, 12⟩
abbrev Fld.SN_THR0_DRYF : Fld := ⟨.SN_THR0, 16, 8⟩
abbrev Fld.SN_THR0_DRYR : Fld := ⟨.SN_THR0, 24, 8⟩
abbrev Fld.SN_THR1_BUBF : Fld := ⟨.SN_THR1, 0, 8⟩
abbrev Fld.SN_THR1_CLOGF : Fld := ⟨.SN_THR1, 8, 8⟩
abbrev Fld.SN_THR1_CLOGR : Fld := ⟨.SN_THR1, 16, 8⟩
abbrev Fld.SN_THR1_ZHYS : Fld := ⟨.SN_THR1, 24, 8⟩
abbrev Fld.SN_LEARN_START : Fld := ⟨.SN_LEARN, 0, 1⟩
abbrev Fld.SN_LEARN_LN : Fld := ⟨.SN_LEARN, 1, 2⟩
abbrev Fld.SN_LEARN_BUSY : Fld := ⟨.SN_LEARN, 3, 1⟩
abbrev Fld.SN_LEARN_ABORTED : Fld := ⟨.SN_LEARN, 4, 1⟩
abbrev Fld.SN_LEARN_STIMCHG : Fld := ⟨.SN_LEARN, 5, 1⟩
abbrev Fld.SN_LEARN_LTOL : Fld := ⟨.SN_LEARN, 8, 8⟩
abbrev Fld.SN_LEARN_FAILED : Fld := ⟨.SN_LEARN, 16, 16⟩
abbrev Fld.SN_LAST0_NOZ : Fld := ⟨.SN_LAST0, 0, 13⟩
abbrev Fld.SN_LAST0_RES : Fld := ⟨.SN_LAST0, 13, 3⟩
abbrev Fld.SN_LAST0_R : Fld := ⟨.SN_LAST0, 16, 8⟩
abbrev Fld.SN_LAST0_NZ : Fld := ⟨.SN_LAST0, 24, 8⟩
abbrev Fld.SN_LAST1_F : Fld := ⟨.SN_LAST1, 0, 16⟩
abbrev Fld.SN_LAST1_A1 : Fld := ⟨.SN_LAST1, 16, 12⟩
abbrev Fld.SN_CNT_SOUNDED : Fld := ⟨.SN_CNT, 0, 16⟩
abbrev Fld.SN_CNT_MISS : Fld := ⟨.SN_CNT, 16, 8⟩
abbrev Fld.SN_CNT_ABORT : Fld := ⟨.SN_CNT, 24, 4⟩
abbrev Fld.SN_CNT_NOFP : Fld := ⟨.SN_CNT, 28, 4⟩
abbrev Fld.SN_SWEEP_NEXT : Fld := ⟨.SN_SWEEP, 0, 13⟩
abbrev Fld.SN_SWEEP_LASTMS : Fld := ⟨.SN_SWEEP, 16, 16⟩
abbrev Fld.HM_CFG_FAILSTEP : Fld := ⟨.HM_CFG, 0, 2⟩
abbrev Fld.HM_CFG_CAMGOOD : Fld := ⟨.HM_CFG, 2, 1⟩
abbrev Fld.HM_CFG_STITCH : Fld := ⟨.HM_CFG, 3, 1⟩
abbrev Fld.HM_CFG_WL : Fld := ⟨.HM_CFG, 4, 5⟩
abbrev Fld.HM_VOL0_VOL : Fld := ⟨.HM_VOL0, 0, 32⟩
abbrev Fld.HM_VOL1_VOL : Fld := ⟨.HM_VOL1, 0, 32⟩
abbrev Fld.HM_VOL2_VOL : Fld := ⟨.HM_VOL2, 0, 32⟩
abbrev Fld.HM_VOL3_VOL : Fld := ⟨.HM_VOL3, 0, 32⟩
abbrev Fld.HM_SUM_UNUSABLE : Fld := ⟨.HM_SUM, 0, 13⟩
abbrev Fld.HM_SUM_UNKNOWN : Fld := ⟨.HM_SUM, 16, 13⟩
abbrev Fld.HM_CNT_DOWN : Fld := ⟨.HM_CNT, 0, 16⟩
abbrev Fld.HM_CNT_UP : Fld := ⟨.HM_CNT, 16, 16⟩
abbrev Fld.HM_RPCNT_CLAMP : Fld := ⟨.HM_RPCNT, 0, 16⟩
abbrev Fld.HM_RPCNT_LOST : Fld := ⟨.HM_RPCNT, 16, 16⟩
abbrev Fld.HM_LIMIT_MAX : Fld := ⟨.HM_LIMIT, 0, 13⟩
abbrev Fld.HM_DECL_NOZ : Fld := ⟨.HM_DECL, 0, 13⟩
abbrev Fld.HM_DECL_HEAD : Fld := ⟨.HM_DECL, 16, 5⟩
abbrev Fld.HM_DECL_ACT : Fld := ⟨.HM_DECL, 24, 2⟩
abbrev Fld.HM_DECL_GO : Fld := ⟨.HM_DECL, 31, 1⟩
abbrev Fld.CM_CFG_EN : Fld := ⟨.CM_CFG, 0, 1⟩
abbrev Fld.CM_CFG_LANES : Fld := ⟨.CM_CFG, 1, 2⟩
abbrev Fld.CM_CFG_VC : Fld := ⟨.CM_CFG, 3, 2⟩
abbrev Fld.CM_CFG_DT : Fld := ⟨.CM_CFG, 5, 2⟩
abbrev Fld.CM_CFG_MOSAIC : Fld := ⟨.CM_CFG, 7, 3⟩
abbrev Fld.CM_CFG_MPH : Fld := ⟨.CM_CFG, 10, 4⟩
abbrev Fld.CM_GEOM_WIDTH : Fld := ⟨.CM_GEOM, 0, 13⟩
abbrev Fld.CM_GEOM_ROWS : Fld := ⟨.CM_GEOM, 16, 13⟩
abbrev Fld.CM_RATE_FPS : Fld := ⟨.CM_RATE, 0, 20⟩
abbrev Fld.CM_ROWT_ROWNS : Fld := ⟨.CM_ROWT, 0, 12⟩
abbrev Fld.CM_TRIG_MODE : Fld := ⟨.CM_TRIG, 0, 2⟩
abbrev Fld.CM_TRIG_POL : Fld := ⟨.CM_TRIG, 2, 1⟩
abbrev Fld.CM_TRIG_CMP : Fld := ⟨.CM_TRIG, 4, 4⟩
abbrev Fld.CM_TRIG_WIDTH : Fld := ⟨.CM_TRIG, 8, 16⟩
abbrev Fld.CM_TRIGP_PER : Fld := ⟨.CM_TRIGP, 0, 24⟩
abbrev Fld.CM_SENS_ADDR : Fld := ⟨.CM_SENS, 0, 7⟩
abbrev Fld.CM_SENS_SPEED : Fld := ⟨.CM_SENS, 7, 2⟩
abbrev Fld.CM_SENS_RA16 : Fld := ⟨.CM_SENS, 9, 1⟩
abbrev Fld.CM_SENS_ORD : Fld := ⟨.CM_SENS, 10, 1⟩
abbrev Fld.CM_SENS_HOLDEN : Fld := ⟨.CM_SENS, 11, 1⟩
abbrev Fld.CM_SENS_LAT : Fld := ⟨.CM_SENS, 12, 3⟩
abbrev Fld.CM_SENS_WROW : Fld := ⟨.CM_SENS, 16, 13⟩
abbrev Fld.CM_EXPREG_REG : Fld := ⟨.CM_EXPREG, 0, 16⟩
abbrev Fld.CM_EXPREG_NB : Fld := ⟨.CM_EXPREG, 16, 2⟩
abbrev Fld.CM_GAINREG_REG : Fld := ⟨.CM_GAINREG, 0, 16⟩
abbrev Fld.CM_GAINREG_NB : Fld := ⟨.CM_GAINREG, 16, 2⟩
abbrev Fld.CM_HOLDREG_REG : Fld := ⟨.CM_HOLDREG, 0, 16⟩
abbrev Fld.CM_HOLDREG_HOLDV : Fld := ⟨.CM_HOLDREG, 16, 8⟩
abbrev Fld.CM_HOLDREG_RELV : Fld := ⟨.CM_HOLDREG, 24, 8⟩
abbrev Fld.CM_EXP_EXP : Fld := ⟨.CM_EXP, 0, 24⟩
abbrev Fld.CM_GAIN_GAIN : Fld := ⟨.CM_GAIN, 0, 24⟩
abbrev Fld.CM_I2CCMD_REG : Fld := ⟨.CM_I2CCMD, 0, 16⟩
abbrev Fld.CM_I2CCMD_DATA : Fld := ⟨.CM_I2CCMD, 16, 8⟩
abbrev Fld.CM_I2CCMD_RD : Fld := ⟨.CM_I2CCMD, 24, 1⟩
abbrev Fld.CM_I2CCMD_NACK : Fld := ⟨.CM_I2CCMD, 29, 1⟩
abbrev Fld.CM_I2CCMD_BUSY : Fld := ⟨.CM_I2CCMD, 30, 1⟩
abbrev Fld.CM_I2CCMD_GO : Fld := ⟨.CM_I2CCMD, 31, 1⟩
abbrev Fld.CM_BUF_FMT : Fld := ⟨.CM_BUF, 0, 2⟩
abbrev Fld.CM_BUF_EVERY : Fld := ⟨.CM_BUF, 2, 8⟩
abbrev Fld.CM_BUF_BASE : Fld := ⟨.CM_BUF, 16, 15⟩
abbrev Fld.CM_BUFN_COUNT : Fld := ⟨.CM_BUFN, 0, 8⟩
abbrev Fld.CM_BUFN_LAST : Fld := ⟨.CM_BUFN, 8, 8⟩
abbrev Fld.CM_BUFN_LASTFN : Fld := ⟨.CM_BUFN, 16, 16⟩
abbrev Fld.CM_STAT_FLAGS : Fld := ⟨.CM_STAT, 0, 6⟩
abbrev Fld.CM_STAT_I2CERR : Fld := ⟨.CM_STAT, 6, 1⟩
abbrev Fld.CM_STAT_CLK : Fld := ⟨.CM_STAT, 8, 1⟩
abbrev Fld.CM_STAT_SAFE : Fld := ⟨.CM_STAT, 9, 1⟩
abbrev Fld.CM_STAT_FENCED : Fld := ⟨.CM_STAT, 10, 1⟩
abbrev Fld.CM_FRAME_FN : Fld := ⟨.CM_FRAME, 0, 16⟩
abbrev Fld.CM_FRAME_FLAGS : Fld := ⟨.CM_FRAME, 16, 16⟩
abbrev Fld.CM_CNT_FRAMES : Fld := ⟨.CM_CNT, 0, 16⟩
abbrev Fld.CM_CNT_FLAGGED : Fld := ⟨.CM_CNT, 16, 16⟩
abbrev Fld.CM_ERRCNT_HDR : Fld := ⟨.CM_ERRCNT, 0, 8⟩
abbrev Fld.CM_ERRCNT_CRC : Fld := ⟨.CM_ERRCNT, 8, 8⟩
abbrev Fld.CM_ERRCNT_WC : Fld := ⟨.CM_ERRCNT, 16, 8⟩
abbrev Fld.CM_ERRCNT_DT : Fld := ⟨.CM_ERRCNT, 24, 8⟩
abbrev Fld.CM_FIFO_HWM : Fld := ⟨.CM_FIFO, 0, 9⟩
abbrev Fld.CM_FIFO_NEED : Fld := ⟨.CM_FIFO, 16, 9⟩
abbrev Fld.IP_CFG_SDEN : Fld := ⟨.IP_CFG, 0, 1⟩
abbrev Fld.IP_CFG_DDEN : Fld := ⟨.IP_CFG, 1, 1⟩
abbrev Fld.IP_CFG_HSRC : Fld := ⟨.IP_CFG, 2, 3⟩
abbrev Fld.IP_CFG_STEV : Fld := ⟨.IP_CFG, 5, 1⟩
abbrev Fld.IP_CFG_NDEF : Fld := ⟨.IP_CFG, 8, 9⟩
abbrev Fld.IP_CFG_DTHR : Fld := ⟨.IP_CFG, 17, 12⟩
abbrev Fld.IP_BLK0_BLKR : Fld := ⟨.IP_BLK0, 0, 12⟩
abbrev Fld.IP_BLK0_BLKG : Fld := ⟨.IP_BLK0, 16, 12⟩
abbrev Fld.IP_BLK1_BLKB : Fld := ⟨.IP_BLK1, 0, 12⟩
abbrev Fld.IP_BLK1_BLKI : Fld := ⟨.IP_BLK1, 16, 12⟩
abbrev Fld.IP_NGAIN_NGAIN : Fld := ⟨.IP_NGAIN, 0, 16⟩
abbrev Fld.IP_WB0_WBR : Fld := ⟨.IP_WB0, 0, 16⟩
abbrev Fld.IP_WB0_WBG : Fld := ⟨.IP_WB0, 16, 16⟩
abbrev Fld.IP_WB1_WBB : Fld := ⟨.IP_WB1, 0, 16⟩
abbrev Fld.IP_WB1_WBI : Fld := ⟨.IP_WB1, 16, 16⟩
abbrev Fld.IP_CM0_M0 : Fld := ⟨.IP_CM0, 0, 16⟩
abbrev Fld.IP_CM0_M1 : Fld := ⟨.IP_CM0, 16, 16⟩
abbrev Fld.IP_CM1_M0 : Fld := ⟨.IP_CM1, 0, 16⟩
abbrev Fld.IP_CM1_M1 : Fld := ⟨.IP_CM1, 16, 16⟩
abbrev Fld.IP_CM2_M0 : Fld := ⟨.IP_CM2, 0, 16⟩
abbrev Fld.IP_CM2_M1 : Fld := ⟨.IP_CM2, 16, 16⟩
abbrev Fld.IP_CM3_M0 : Fld := ⟨.IP_CM3, 0, 16⟩
abbrev Fld.IP_CM3_M1 : Fld := ⟨.IP_CM3, 16, 16⟩
abbrev Fld.IP_CM4_M0 : Fld := ⟨.IP_CM4, 0, 16⟩
abbrev Fld.IP_CM4_M1 : Fld := ⟨.IP_CM4, 16, 16⟩
abbrev Fld.IP_CM5_M0 : Fld := ⟨.IP_CM5, 0, 16⟩
abbrev Fld.IP_CM5_M1 : Fld := ⟨.IP_CM5, 16, 16⟩
abbrev Fld.IP_HROIX_X0 : Fld := ⟨.IP_HROIX, 0, 13⟩
abbrev Fld.IP_HROIX_X1 : Fld := ⟨.IP_HROIX, 16, 13⟩
abbrev Fld.IP_HROIY_Y0 : Fld := ⟨.IP_HROIY, 0, 13⟩
abbrev Fld.IP_HROIY_Y1 : Fld := ⟨.IP_HROIY, 16, 13⟩
abbrev Fld.IP_BAND_R0 : Fld := ⟨.IP_BAND, 0, 13⟩
abbrev Fld.IP_BAND_R1 : Fld := ⟨.IP_BAND, 16, 13⟩
abbrev Fld.IP_BAND_SRC : Fld := ⟨.IP_BAND, 29, 3⟩
abbrev Fld.IP_STLOCK_LOCK : Fld := ⟨.IP_STLOCK, 0, 2⟩
abbrev Fld.IP_STLOCK_NEWEST : Fld := ⟨.IP_STLOCK, 2, 1⟩
abbrev Fld.IP_STLOCK_NOWIN : Fld := ⟨.IP_STLOCK, 16, 16⟩
abbrev Fld.IN_REG_EN : Fld := ⟨.IN_REG, 0, 1⟩
abbrev Fld.IN_REG_CAM : Fld := ⟨.IN_REG, 1, 2⟩
abbrev Fld.IN_REG_MARK : Fld := ⟨.IN_REG, 4, 4⟩
abbrev Fld.IN_REG_XINV : Fld := ⟨.IN_REG, 8, 1⟩
abbrev Fld.IN_REG_YINV : Fld := ⟨.IN_REG, 9, 1⟩
abbrev Fld.IN_REG_XEN : Fld := ⟨.IN_REG, 10, 1⟩
abbrev Fld.IN_REG_YEN : Fld := ⟨.IN_REG, 11, 1⟩
abbrev Fld.IN_REG_GAIN : Fld := ⟨.IN_REG, 12, 5⟩
abbrev Fld.IN_REF_REFX : Fld := ⟨.IN_REF, 0, 16⟩
abbrev Fld.IN_REF_REFY : Fld := ⟨.IN_REF, 16, 16⟩
abbrev Fld.IN_SCALE_XS : Fld := ⟨.IN_SCALE, 0, 16⟩
abbrev Fld.IN_SCALE_YS : Fld := ⟨.IN_SCALE, 16, 16⟩
abbrev Fld.IN_LIM_DB : Fld := ⟨.IN_LIM, 0, 8⟩
abbrev Fld.IN_LIM_MAXSTEP : Fld := ⟨.IN_LIM, 8, 16⟩
abbrev Fld.IN_VIEW_VIEWC : Fld := ⟨.IN_VIEW, 0, 24⟩
abbrev Fld.IN_RPH_RPH : Fld := ⟨.IN_RPH, 0, 9⟩
abbrev Fld.IN_RLAST_EX : Fld := ⟨.IN_RLAST, 0, 16⟩
abbrev Fld.IN_RLAST_EY : Fld := ⟨.IN_RLAST, 16, 16⟩
abbrev Fld.IN_RCNT_APPLIED : Fld := ⟨.IN_RCNT, 0, 8⟩
abbrev Fld.IN_RCNT_STALE : Fld := ⟨.IN_RCNT, 8, 8⟩
abbrev Fld.IN_RCNT_NOTFOUND : Fld := ⟨.IN_RCNT, 16, 8⟩
abbrev Fld.IN_RCNT_LIMIT : Fld := ⟨.IN_RCNT, 31, 1⟩
abbrev Fld.IN_RCTL_EN : Fld := ⟨.IN_RCTL, 0, 1⟩
abbrev Fld.IN_RCTL_RESET : Fld := ⟨.IN_RCTL, 1, 1⟩
abbrev Fld.IN_RCTL_BUSY : Fld := ⟨.IN_RCTL, 2, 1⟩
abbrev Fld.IN_RTGTLO_TGT : Fld := ⟨.IN_RTGTLO, 0, 32⟩
abbrev Fld.IN_RTGTHI_TGT : Fld := ⟨.IN_RTGTHI, 0, 16⟩
abbrev Fld.IN_NCCFG_HEAD : Fld := ⟨.IN_NCCFG, 0, 5⟩
abbrev Fld.IN_NCCFG_S : Fld := ⟨.IN_NCCFG, 8, 6⟩
abbrev Fld.IN_NCCFG_RH : Fld := ⟨.IN_NCCFG, 16, 8⟩
abbrev Fld.IN_NCCFG_CANCEL : Fld := ⟨.IN_NCCFG, 30, 1⟩
abbrev Fld.IN_NCCFG_GO : Fld := ⟨.IN_NCCFG, 31, 1⟩
abbrev Fld.IN_NCTAGLO_TAG : Fld := ⟨.IN_NCTAGLO, 0, 32⟩
abbrev Fld.IN_NCTAGHI_TAG : Fld := ⟨.IN_NCTAGHI, 0, 16⟩
abbrev Fld.IN_NCROW_ROW0 : Fld := ⟨.IN_NCROW, 0, 13⟩
abbrev Fld.IN_NCX_X0 : Fld := ⟨.IN_NCX, 0, 20⟩
abbrev Fld.IN_NCP_XP : Fld := ⟨.IN_NCP, 0, 32⟩
abbrev Fld.IN_NCTHR_CMIN : Fld := ⟨.IN_NCTHR, 0, 8⟩
abbrev Fld.IN_NCTHR_DEV : Fld := ⟨.IN_NCTHR, 8, 8⟩
abbrev Fld.IN_NCRES_STATE : Fld := ⟨.IN_NCRES, 0, 2⟩
abbrev Fld.IN_NCRES_REASON : Fld := ⟨.IN_NCRES, 2, 3⟩
abbrev Fld.IN_NCRES_MISSING : Fld := ⟨.IN_NCRES, 16, 13⟩

/-- The field maps: for each register its fields in ascending bit order. Bits in no row are reserved (R6). -/
def RegName.rows : RegName → List FieldRow
  | .GL_ID => [⟨.GL_ID_COMPAT, .ro, 1, false⟩, ⟨.GL_ID_STEP, .ro, 16, false⟩, ⟨.GL_ID_PART, .ro, 0x3200, false⟩]
  | .GL_MODE => [⟨.GL_MODE_DEV, .ro, 0, false⟩, ⟨.GL_MODE_BAY0, .ro, 7, false⟩, ⟨.GL_MODE_BAY1, .ro, 7, false⟩, ⟨.GL_MODE_BAY2, .ro, 7, false⟩, ⟨.GL_MODE_BAY3, .ro, 7, false⟩]
  | .GL_STEWARD => [⟨.GL_STEWARD_SEAT, .img, 0, true⟩]
  | .GL_TBLO => [⟨.GL_TBLO_TB, .ro, 0, false⟩]
  | .GL_TBHI => [⟨.GL_TBHI_TB, .ro, 0, false⟩]
  | .GL_CCLO => [⟨.GL_CCLO_CC, .ro, 0, false⟩]
  | .GL_CCHI => [⟨.GL_CCHI_CC, .ro, 0, false⟩]
  | .GL_BAYPORT => [⟨.GL_BAYPORT_HP, .img, 0, true⟩]
  | .GL_BAYRES => [⟨.GL_BAYRES_PS, .img, 0, true⟩, ⟨.GL_BAYRES_CAM, .img, 0, true⟩, ⟨.GL_BAYRES_CPE, .img, 0, true⟩, ⟨.GL_BAYRES_EM, .img, 0, true⟩]
  | .GL_BAYCMP => [⟨.GL_BAYCMP_CMP, .img, 0, true⟩]
  | .GL_ISLAND => [⟨.GL_ISLAND_HCI, .ro, 15, false⟩, ⟨.GL_ISLAND_CAMI, .ro, 15, false⟩, ⟨.GL_ISLAND_PIPE, .ro, 1, false⟩, ⟨.GL_ISLAND_MEM, .ro, 3, false⟩, ⟨.GL_ISLAND_ETH, .ro, 3, false⟩]
  | .GL_PWR => [⟨.GL_PWR_MW, .ro, 0, false⟩, ⟨.GL_PWR_AGE, .ro, 0, false⟩]
  | .KS_STATUS => [⟨.KS_STATUS_STATE, .ro, 0, false⟩, ⟨.KS_STATUS_INTPEND, .ro, 0, false⟩, ⟨.KS_STATUS_SNAPFULL, .ro, 0, false⟩, ⟨.KS_STATUS_REASON, .ro, 0, false⟩]
  | .KS_GEN => [⟨.KS_GEN_GEN, .ro, 0, false⟩]
  | .KS_TGTLO => [⟨.KS_TGTLO_TGT, .ro, 0, false⟩]
  | .KS_TGTHI => [⟨.KS_TGTHI_TGT, .ro, 0, false⟩]
  | .KS_REFOFF => [⟨.KS_REFOFF_OFF, .ro, 0xffffffff, false⟩]
  | .KS_STAGED => [⟨.KS_STAGED_STAGED, .ro, 0, false⟩, ⟨.KS_STAGED_PENDING, .ro, 0, false⟩]
  | .KS_BAYCTL => [⟨.KS_BAYCTL_MODE, .st, 0, false⟩, ⟨.KS_BAYCTL_NSTOPEN, .img, 1, true⟩]
  | .KS_CNT => [⟨.KS_CNT_APPLIED, .rc, 0, false⟩, ⟨.KS_CNT_REFUSED, .rc, 0, false⟩]
  | .KS_SNAPGEN => [⟨.KS_SNAPGEN_GEN, .ro, 0, false⟩]
  | .KS_SNAPCCLO => [⟨.KS_SNAPCCLO_CC, .ro, 0, false⟩]
  | .KS_SNAPCCHI => [⟨.KS_SNAPCCHI_CC, .ro, 0, false⟩, ⟨.KS_SNAPCCHI_VALID, .ro, 0, false⟩, ⟨.KS_SNAPCCHI_NOW, .ro, 0, false⟩]
  | .KS_SNAPPT => [⟨.KS_SNAPPT_PTACT, .ro, 0, false⟩]
  | .KS_GENDEV => [⟨.KS_GENDEV_GEN, .ro, 0, false⟩]
  | .KS_DSTATUS => [⟨.KS_DSTATUS_STATE, .ro, 0, false⟩, ⟨.KS_DSTATUS_REASON, .ro, 0, false⟩]
  | .FC_SPALLLO => [⟨.FC_SPALLLO_SPALL, .w1c, 0, false⟩]
  | .FC_SPALLHI => [⟨.FC_SPALLHI_SPALL, .w1c, 0, false⟩]
  | .FC_FIRST => [⟨.FC_FIRST_SRC, .ro, 0, false⟩, ⟨.FC_FIRST_VALID, .ro, 0, false⟩, ⟨.FC_FIRST_OVF, .ro, 0, false⟩, ⟨.FC_FIRST_UNIT, .ro, 0, false⟩, ⟨.FC_FIRST_BAY, .ro, 0, false⟩, ⟨.FC_FIRST_FORCED, .ro, 0, false⟩]
  | .FC_FTBLO => [⟨.FC_FTBLO_TB, .ro, 0, false⟩]
  | .FC_FTBHI => [⟨.FC_FTBHI_TB, .ro, 0, false⟩]
  | .FC_FCCLO => [⟨.FC_FCCLO_CC, .ro, 0, false⟩]
  | .FC_FCCHI => [⟨.FC_FCCHI_CC, .ro, 0, false⟩, ⟨.FC_FCCHI_NOCC, .ro, 0, false⟩]
  | .FC_CFG => [⟨.FC_CFG_QUIET, .st, 0x1f4, true⟩, ⟨.FC_CFG_LOCKN, .st, 8, true⟩]
  | .FC_LOCK => [⟨.FC_LOCK_LOCKWIN, .st, 0xe10, true⟩, ⟨.FC_LOCK_OTPLOG, .st, 1, true⟩]
  | .FC_NERR => [⟨.FC_NERR_WIDTH, .st, 100, true⟩, ⟨.FC_NERR_AUTOHOLD, .st, 0, true⟩, ⟨.FC_NERR_HOLD, .rw, 0, false⟩, ⟨.FC_NERR_PULSE, .ro, 0, false⟩, ⟨.FC_NERR_LOW, .ro, 0, false⟩]
  | .FC_CMD => [⟨.FC_CMD_REARM, .w1s, 0, false⟩, ⟨.FC_CMD_RELEASE, .w1s, 0, false⟩]
  | .FC_REC => [⟨.FC_REC_STATE, .ro, 0, false⟩, ⟨.FC_REC_CLASS, .ro, 0, false⟩, ⟨.FC_REC_REACT, .ro, 0, false⟩, ⟨.FC_REC_SCPASS, .ro, 0, false⟩, ⟨.FC_REC_QLEFT, .ro, 0, false⟩]
  | .FC_RSRCLO => [⟨.FC_RSRCLO_SRC, .ro, 0, false⟩]
  | .FC_RSRCHI => [⟨.FC_RSRCHI_SRC, .ro, 0, false⟩]
  | .FC_RCNT => [⟨.FC_RCNT_RECOV, .ro, 0, false⟩, ⟨.FC_RCNT_WCOUNT, .ro, 0, false⟩, ⟨.FC_RCNT_MERGED, .ro, 0, false⟩]
  | .FC_FENCE0 => [⟨.FC_FENCE0_HP, .ro, 0, false⟩]
  | .FC_FENCE1 => [⟨.FC_FENCE1_SC, .ro, 0, false⟩]
  | .FC_FENCE2 => [⟨.FC_FENCE2_PS, .ro, 0, false⟩, ⟨.FC_FENCE2_CAM, .ro, 0, false⟩, ⟨.FC_FENCE2_SEAT, .ro, 0, false⟩]
  | .FC_FENCE3 => [⟨.FC_FENCE3_TM, .ro, 0, false⟩]
  | .FC_FENCE4 => [⟨.FC_FENCE4_TM, .ro, 0, false⟩]
  | .FC_FENCE5 => [⟨.FC_FENCE5_TM, .ro, 0, false⟩]
  | .FC_SRC => [⟨.FC_SRC_CLASS, .st, 0, true⟩, ⟨.FC_SRC_REACT, .st, 0, true⟩, ⟨.FC_SRC_NERR, .st, 0, true⟩, ⟨.FC_SRC_EN, .st, 1, true⟩, ⟨.FC_SRC_CNT, .rc, 0, false⟩]
  | .TM_CH => [⟨.TM_CH_MODE, .st, 0, true⟩, ⟨.TM_CH_XCHK, .st, 1, true⟩, ⟨.TM_CH_TOL, .st, 8, true⟩, ⟨.TM_CH_IDEAL, .st, 0x1021, true⟩]
  | .TM_THM => [⟨.TM_THM_RNOM, .st, 0x3e8, true⟩, ⟨.TM_THM_BETA, .st, 0xd6b, true⟩]
  | .TM_THR0 => [⟨.TM_THR0_WARN, .st, 0, true⟩, ⟨.TM_THR0_THROT, .st, 0, true⟩]
  | .TM_THR1 => [⟨.TM_THR1_SHUT, .st, 0, true⟩, ⟨.TM_THR1_HW, .st, 4, true⟩, ⟨.TM_THR1_HT, .st, 4, true⟩, ⟨.TM_THR1_HS, .st, 10, true⟩]
  | .TM_NB => [⟨.TM_NB_NB0, .st, 127, true⟩, ⟨.TM_NB_NB1, .st, 127, true⟩, ⟨.TM_NB_NB2, .st, 127, true⟩, ⟨.TM_NB_NB3, .st, 127, true⟩, ⟨.TM_NB_NBMIN, .st, 2, true⟩]
  | .TM_VAL => [⟨.TM_VAL_USED, .ro, 0, false⟩, ⟨.TM_VAL_MEAS, .ro, 0, false⟩]
  | .TM_OFF => [⟨.TM_OFF_OFF, .ro, 0, false⟩, ⟨.TM_OFF_MED, .ro, 0, false⟩]
  | .TM_STAT => [⟨.TM_STAT_WARN, .ro, 0, false⟩, ⟨.TM_STAT_THROT, .ro, 0, false⟩, ⟨.TM_STAT_SHUT, .ro, 0, false⟩, ⟨.TM_STAT_SUSPECT, .ro, 0, false⟩, ⟨.TM_STAT_OPEN, .ro, 0, false⟩, ⟨.TM_STAT_SHORT, .ro, 0, false⟩, ⟨.TM_STAT_HELD, .ro, 0, false⟩, ⟨.TM_STAT_SUBST, .ro, 0, false⟩, ⟨.TM_STAT_BAND, .ro, 0, false⟩, ⟨.TM_STAT_SUSCNT, .rc, 0, false⟩]
  | .TM_TACT => [⟨.TM_TACT_RATE, .st, 0xea60, true⟩, ⟨.TM_TACT_CLAMPL, .st, 1, true⟩, ⟨.TM_TACT_DUTY, .st, 12, true⟩]
  | .TM_TTHIN => [⟨.TM_TTHIN_THINMASK, .st, 0xfffe, true⟩, ⟨.TM_TTHIN_GRACE, .st, 200, true⟩]
  | .TM_BSTAT => [⟨.TM_BSTAT_STATE, .ro, 0, false⟩, ⟨.TM_BSTAT_THRQ, .ro, 0, false⟩, ⟨.TM_BSTAT_GRACELEFT, .ro, 0, false⟩]
  | .TM_TCNT => [⟨.TM_TCNT_REQ, .rc, 0, false⟩, ⟨.TM_TCNT_ENF, .rc, 0, false⟩]
  | .TM_SCOPE => [⟨.TM_SCOPE_HP, .st, 0xffffffff, true⟩]
  | .TM_CFG => [⟨.TM_CFG_OFFLIM, .st, 128, true⟩, ⟨.TM_CFG_XWAIT, .st, 30, true⟩, ⟨.TM_CFG_SHUTLATCH, .st, 1, true⟩]
  | .TM_SHUTST => [⟨.TM_SHUTST_SHUT, .w1c, 0, false⟩]
  | .TM_SCAN => [⟨.TM_SCAN_LOAD, .ro, 0xe74, false⟩, ⟨.TM_SCAN_LAG, .rc, 0, false⟩]
  | .TM_ENF => [⟨.TM_ENF_ACT, .ro, 0, false⟩, ⟨.TM_ENF_CLAMPL, .ro, 0, false⟩, ⟨.TM_ENF_DUTY, .ro, 0, false⟩]
  | .OT_CHK => [⟨.OT_CHK_MARG, .ro, 0, false⟩, ⟨.OT_CHK_CORR, .ro, 0, false⟩, ⟨.OT_CHK_UE, .ro, 0, false⟩]
  | .OT_FIRST => [⟨.OT_FIRST_MWORD, .ro, 0, false⟩, ⟨.OT_FIRST_MVALID, .ro, 0, false⟩, ⟨.OT_FIRST_UWORD, .ro, 0, false⟩, ⟨.OT_FIRST_UVALID, .ro, 0, false⟩]
  | .OT_CNT => [⟨.OT_CNT_ROLLBACK, .ro, 0, false⟩, ⟨.OT_CNT_XFER, .ro, 0, false⟩, ⟨.OT_CNT_LOCKOUT, .ro, 0, false⟩]
  | .OT_OWNER => [⟨.OT_OWNER_REC, .ro, 0, false⟩, ⟨.OT_OWNER_NONE, .ro, 1, false⟩, ⟨.OT_OWNER_PARTIAL, .ro, 0, false⟩, ⟨.OT_OWNER_SECRET, .ro, 0, false⟩, ⟨.OT_OWNER_POLICY, .ro, 0, false⟩, ⟨.OT_OWNER_UNAUTH, .ro, 0, false⟩, ⟨.OT_OWNER_ENROL, .ro, 0, false⟩, ⟨.OT_OWNER_NEXT, .ro, 0, false⟩]
  | .OT_OWNERID => [⟨.OT_OWNERID_ID, .ro, 0, false⟩]
  | .OT_PADDR => [⟨.OT_PADDR_WORD, .sv, 0, false⟩]
  | .OT_PDATA => [⟨.OT_PDATA_DATA, .sv, 0, false⟩]
  | .OT_PCMD => [⟨.OT_PCMD_OP, .sv, 0, false⟩, ⟨.OT_PCMD_REC, .sv, 0, false⟩, ⟨.OT_PCMD_BUSY, .ro, 0, false⟩, ⟨.OT_PCMD_GO, .sv, 0, false⟩]
  | .OT_PRES => [⟨.OT_PRES_RESULT, .ro, 0, false⟩, ⟨.OT_PRES_SRC, .ro, 0, false⟩, ⟨.OT_PRES_WORD, .ro, 0, false⟩]
  | .OT_PENV => [⟨.OT_PENV_VOTP, .ro, 0, false⟩, ⟨.OT_PENV_TDIE, .ro, 0, false⟩]
  | .OT_RAWSEL => [⟨.OT_RAWSEL_WORD, .sv, 0, false⟩]
  | .OT_RAWS => [⟨.OT_RAWS_DATA, .ro, 0, false⟩]
  | .OT_RAWL => [⟨.OT_RAWL_DATA, .ro, 0, false⟩]
  | .OT_RAWC => [⟨.OT_RAWC_SC, .ro, 0, false⟩, ⟨.OT_RAWC_LC, .ro, 0, false⟩]
  | .TR_STAT => [⟨.TR_STAT_STATE, .ro, 0, false⟩, ⟨.TR_STAT_WBFAIL, .w1c, 0, false⟩, ⟨.TR_STAT_RETRY, .rc, 0, false⟩]
  | .TR_SERLO => [⟨.TR_SERLO_SERIAL, .ro, 0, false⟩]
  | .TR_SERHI => [⟨.TR_SERHI_SERIAL, .ro, 0, false⟩]
  | .TR_TYPE => [⟨.TR_TYPE_TYPE, .ro, 0, false⟩, ⟨.TR_TYPE_FMT, .ro, 0, false⟩]
  | .TR_USELO => [⟨.TR_USELO_COUNT, .ro, 0, false⟩]
  | .TR_USEHI => [⟨.TR_USEHI_COUNT, .ro, 0, false⟩]
  | .TR_EN => [⟨.TR_EN_EN, .img, 0xffffffff, true⟩]
  | .TR_CFG => [⟨.TR_CFG_POLL, .img, 0x3e8, true⟩]
  | .TR_KEY => [⟨.TR_KEY_KM, .ro, 0, false⟩]
  | .WR_CFG => [⟨.WR_CFG_WBHRS, .img, 8, true⟩, ⟨.WR_CFG_TREND, .img, 48, true⟩, ⟨.WR_CFG_WARNDAYS, .img, 90, true⟩]
  | .WR_CKPT => [⟨.WR_CKPT_STATE, .ro, 0, false⟩, ⟨.WR_CKPT_CAUSE, .ro, 0, false⟩, ⟨.WR_CKPT_DONE, .rc, 0, false⟩]
  | .WR_CKTBLO => [⟨.WR_CKTBLO_TB, .ro, 0, false⟩]
  | .WR_CKTBHI => [⟨.WR_CKTBHI_TB, .ro, 0, false⟩]
  | .WR_TSTAT => [⟨.WR_TSTAT_UE, .rc, 0, false⟩, ⟨.WR_TSTAT_WFAIL, .rc, 0, false⟩]
  | .WR_HOURS => [⟨.WR_HOURS_HOURS, .ro, 0, false⟩]
  | .WR_RO => [⟨.WR_RO_DRIFT, .ro, 0, false⟩]
  | .WR_MARG => [⟨.WR_MARG_DDR, .ro, 255, false⟩, ⟨.WR_MARG_PCIE, .ro, 255, false⟩, ⟨.WR_MARG_ETH, .ro, 255, false⟩]
  | .WR_DLIM => [⟨.WR_DLIM_ROLIM, .st, 50, true⟩, ⟨.WR_DLIM_DDRLIM, .st, 20, true⟩, ⟨.WR_DLIM_SERLIM, .st, 16, true⟩]
  | .WR_DLIFE => [⟨.WR_DLIFE_DAYS, .ro, 0xffff, false⟩, ⟨.WR_DLIFE_CAUSE, .ro, 0, false⟩]
  | .WR_HCNTLO => [⟨.WR_HCNTLO_COUNT, .ro, 0, false⟩]
  | .WR_HCNTHI => [⟨.WR_HCNTHI_COUNT, .ro, 0, false⟩]
  | .WR_HWBLO => [⟨.WR_HWBLO_COUNT, .ro, 0, false⟩]
  | .WR_HWBHI => [⟨.WR_HWBHI_COUNT, .ro, 0, false⟩]
  | .WR_HRATE => [⟨.WR_HRATE_RATE, .ro, 0, false⟩]
  | .WR_HLIFE => [⟨.WR_HLIFE_LIFE, .st, 0xc350, true⟩]
  | .WR_HIND => [⟨.WR_HIND_CHURN, .ro, 0, false⟩, ⟨.WR_HIND_DRIFT, .ro, 0, false⟩]
  | .WR_HILIM => [⟨.WR_HILIM_CHLIM, .st, 64, true⟩, ⟨.WR_HILIM_DRLIM, .st, 0x190, true⟩]
  | .WR_HLIFEP => [⟨.WR_HLIFEP_DAYS, .ro, 0xffff, false⟩, ⟨.WR_HLIFEP_CAUSE, .ro, 0, false⟩]
  | .WR_HSTAT => [⟨.WR_HSTAT_HEADCHG, .w1c, 0, false⟩, ⟨.WR_HSTAT_EST, .ro, 0, false⟩, ⟨.WR_HSTAT_SAT, .w1c, 0, false⟩, ⟨.WR_HSTAT_RESET, .w1s, 0, false⟩, ⟨.WR_HSTAT_WBDUE, .ro, 0, false⟩]
  | .SV_CFG => [⟨.SV_CFG_BAUD, .img, 4, true⟩, ⟨.SV_CFG_ECHO, .img, 1, true⟩]
  | .SV_STAT => [⟨.SV_STAT_BAUD, .ro, 4, false⟩, ⟨.SV_STAT_RXERR, .rc, 0, false⟩]
  | .SV_TEST => [⟨.SV_TEST_TEST, .sv, 0, false⟩, ⟨.SV_TEST_ARG, .sv, 0, false⟩, ⟨.SV_TEST_STATE, .ro, 0, false⟩, ⟨.SV_TEST_GO, .sv, 0, false⟩]
  | .SV_TESTD => [⟨.SV_TESTD_DETAIL, .ro, 0, false⟩]
  | .SV_TARG => [⟨.SV_TARG_BASE, .sv, 0, false⟩, ⟨.SV_TARG_SIZE, .sv, 0, false⟩]
  | .SV_PLUMB => [⟨.SV_PLUMB_SEL, .sv, 0, false⟩, ⟨.SV_PLUMB_ARG, .sv, 0, false⟩, ⟨.SV_PLUMB_LEVEL, .sv, 0, false⟩]
  | .SV_PEN => [⟨.SV_PEN_PEN, .sv, 0, false⟩]
  | .SV_MTEMP => [⟨.SV_MTEMP_CH, .sv, 0, false⟩, ⟨.SV_MTEMP_EN, .sv, 0, false⟩]
  | .SV_PARK => [⟨.SV_PARK_PARK, .sv, 0, false⟩, ⟨.SV_PARK_IDLOW, .sv, 0, false⟩]
  | .SV_FORCE => [⟨.SV_FORCE_FORCE, .sv, 0, false⟩]
  | .PT_CFG => [⟨.PT_CFG_BENCH, .img, 0, true⟩, ⟨.PT_CFG_CLEAR, .sv, 0, false⟩]
  | .PT_ACTIVE => [⟨.PT_ACTIVE_KIND, .ro, 0, false⟩, ⟨.PT_ACTIVE_FORCED, .w1c, 0, false⟩, ⟨.PT_ACTIVE_METER, .ro, 0, false⟩]
  | .PT_MQDLY => [⟨.PT_MQDLY_SRC, .sv, 0, false⟩, ⟨.PT_MQDLY_DST, .sv, 0, false⟩, ⟨.PT_MQDLY_DLY, .sv, 0, false⟩]
  | .PT_CREDIT => [⟨.PT_CREDIT_Q, .sv, 0, false⟩, ⟨.PT_CREDIT_FEED, .sv, 0, false⟩]
  | .PT_CAMSTALL => [⟨.PT_CAMSTALL_GO, .sv, 0, false⟩, ⟨.PT_CAMSTALL_US, .sv, 1, false⟩]
  | .PT_TRIGDLY => [⟨.PT_TRIGDLY_CYC, .sv, 0, false⟩, ⟨.PT_TRIGDLY_MODE, .sv, 0, false⟩]
  | .PT_ECC => [⟨.PT_ECC_TARGET, .sv, 0, false⟩, ⟨.PT_ECC_TWO, .sv, 0, false⟩, ⟨.PT_ECC_GROUP, .sv, 0, false⟩, ⟨.PT_ECC_ARG, .sv, 0, false⟩, ⟨.PT_ECC_COUNT, .sv, 0, false⟩]
  | .PT_FORCE => [⟨.PT_FORCE_SRC, .sv, 0, false⟩, ⟨.PT_FORCE_UNIT, .sv, 0, false⟩, ⟨.PT_FORCE_GO, .sv, 0, false⟩]
  | .PS_CFG => [⟨.PS_CFG_TYPE, .st, 0, true⟩, ⟨.PS_CFG_QMODE, .st, 2, true⟩, ⟨.PS_CFG_INV, .st, 0, true⟩, ⟨.PS_CFG_WRAP, .st, 0, true⟩, ⟨.PS_CFG_ZMODE, .st, 0, true⟩, ⟨.PS_CFG_OUTSEL, .st, 0, true⟩, ⟨.PS_CFG_FILT, .st, 2, true⟩]
  | .PS_RATE => [⟨.PS_RATE_MINIVL, .st, 0, true⟩]
  | .PS_LIMLO => [⟨.PS_LIMLO_LIM, .st, 0x80000000, true⟩]
  | .PS_LIMHI => [⟨.PS_LIMHI_LIM, .st, 0x7fffffff, true⟩]
  | .PS_DB => [⟨.PS_DB_DB, .st, 4, true⟩]
  | .PS_SPDWIN => [⟨.PS_SPDWIN_WIN, .st, 100, true⟩]
  | .PS_STALL => [⟨.PS_STALL_TIMEOUT, .st, 0, true⟩]
  | .PS_SSI => [⟨.PS_SSI_BITS, .st, 13, true⟩, ⟨.PS_SSI_GRAY, .st, 1, true⟩, ⟨.PS_SSI_SDLY, .st, 0, true⟩, ⟨.PS_SSI_CLKDIV, .st, 99, true⟩]
  | .PS_SSIT => [⟨.PS_SSIT_PERIOD, .st, 0x1f4, true⟩, ⟨.PS_SSIT_MAXSTEP, .st, 0x400, true⟩]
  | .PS_CMD => [⟨.PS_CMD_MOVE, .rw, 0, false⟩, ⟨.PS_CMD_PRELOAD, .w1s, 0, false⟩]
  | .PS_PREVAL => [⟨.PS_PREVAL_VAL, .rw, 0, false⟩]
  | .PS_POS => [⟨.PS_POS_COUNT, .ro, 0, false⟩]
  | .PS_ZLAT => [⟨.PS_ZLAT_COUNT, .ro, 0, false⟩]
  | .PS_SPEED => [⟨.PS_SPEED_SUM, .ro, 0, false⟩]
  | .PS_SPDTBLO => [⟨.PS_SPDTBLO_TB, .ro, 0, false⟩]
  | .PS_SPDTBHI => [⟨.PS_SPDTBHI_TB, .ro, 0, false⟩]
  | .PS_STAT => [⟨.PS_STAT_IN, .ro, 0, false⟩, ⟨.PS_STAT_RAW, .ro, 0, false⟩, ⟨.PS_STAT_DIR, .ro, 0, false⟩, ⟨.PS_STAT_LIMIT, .w1c, 0, false⟩, ⟨.PS_STAT_CHATTER, .ro, 0, false⟩, ⟨.PS_STAT_STALL, .ro, 0, false⟩, ⟨.PS_STAT_HALLBAD, .w1c, 0, false⟩, ⟨.PS_STAT_SSIERR, .w1c, 0, false⟩, ⟨.PS_STAT_ZSEEN, .w1c, 0, false⟩, ⟨.PS_STAT_FENCED, .ro, 0, false⟩, ⟨.PS_STAT_HALLST, .ro, 0, false⟩]
  | .PS_ERRCNT => [⟨.PS_ERRCNT_QERR, .rc, 0, false⟩, ⟨.PS_ERRCNT_SKIP, .rc, 0, false⟩, ⟨.PS_ERRCNT_OVRATE, .rc, 0, false⟩, ⟨.PS_ERRCNT_SSIERR, .rc, 0, false⟩]
  | .PC_CTL => [⟨.PC_CTL_SRCSEL, .st, 1, true⟩, ⟨.PC_CTL_CHAN, .st, 0, true⟩, ⟨.PC_CTL_GENPRIME, .st, 1, true⟩, ⟨.PC_CTL_GENCAL, .st, 0, true⟩, ⟨.PC_CTL_SENSE, .st, 0, true⟩, ⟨.PC_CTL_INTERP, .st, 0, true⟩, ⟨.PC_CTL_AVG, .st, 2, true⟩]
  | .PC_RATLO => [⟨.PC_RATLO_FRAC, .st, 0, true⟩]
  | .PC_RATHI => [⟨.PC_RATHI_INT, .st, 1, true⟩]
  | .PC_GEN => [⟨.PC_GEN_PERIOD, .st, 0x411b, true⟩]
  | .PC_STAT => [⟨.PC_STAT_SRC, .ro, 0, false⟩, ⟨.PC_STAT_SENSE, .ro, 0, false⟩, ⟨.PC_STAT_NOSRC, .w1c, 0, false⟩, ⟨.PC_STAT_INTACT, .ro, 0, false⟩, ⟨.PC_STAT_STOPREQ, .ro, 0, false⟩]
  | .PC_PERIOD => [⟨.PC_PERIOD_CYC, .ro, 0, false⟩]
  | .PC_RATE => [⟨.PC_RATE_CNT, .ro, 0, false⟩]
  | .PC_SPEED => [⟨.PC_SPEED_HZ, .ro, 0, false⟩]
  | .PC_MARKLO => [⟨.PC_MARKLO_M, .ro, 0, false⟩]
  | .PC_MARKHI => [⟨.PC_MARKHI_M, .ro, 0, false⟩]
  | .CP_CTL => [⟨.CP_CTL_EN, .st, 0, true⟩, ⟨.CP_CTL_CYCLIC, .st, 0, true⟩, ⟨.CP_CTL_SRC, .st, 8, true⟩, ⟨.CP_CTL_DOWN, .st, 0, true⟩, ⟨.CP_CTL_LAST, .st, 0x3ff, true⟩]
  | .CP_PERIOD => [⟨.CP_PERIOD_PERIOD, .st, 0, true⟩]
  | .CP_STAT => [⟨.CP_STAT_PTR, .ro, 0, false⟩, ⟨.CP_STAT_LAP, .ro, 0, false⟩, ⟨.CP_STAT_DONE, .w1c, 0, false⟩, ⟨.CP_STAT_LATE, .w1c, 0, false⟩, ⟨.CP_STAT_RUN, .ro, 0, false⟩]
  | .CP_CNT => [⟨.CP_CNT_FIRED, .rc, 0, false⟩]
  | .CP_OUT => [⟨.CP_OUT_POL, .st, 0, true⟩, ⟨.CP_OUT_LEVEL, .ro, 0, false⟩]
  | .EM_CFG => [⟨.EM_CFG_EN, .st, 0, true⟩, ⟨.EM_CFG_SRC, .st, 0, true⟩, ⟨.EM_CFG_STEPDIR, .st, 0, true⟩, ⟨.EM_CFG_ZMODE, .st, 0, true⟩, ⟨.EM_CFG_MINIVL, .st, 8, true⟩]
  | .EM_RATIO => [⟨.EM_RATIO_N, .st, 1, true⟩, ⟨.EM_RATIO_D, .st, 1, true⟩]
  | .EM_ZPER => [⟨.EM_ZPER_ZPER, .st, 0x1000, true⟩]
  | .EM_STAT => [⟨.EM_STAT_BACKLOG, .ro, 0, false⟩, ⟨.EM_STAT_EMULAG, .w1c, 0, false⟩]
  | .EM_LOST => [⟨.EM_LOST_LOST, .rc, 0, false⟩]
  | .EM_POS => [⟨.EM_POS_POS, .ro, 0, false⟩]
  | .HS_CTL => [⟨.HS_CTL_EN, .img, 1, true⟩, ⟨.HS_CTL_LINKSTOP, .img, 1, true⟩, ⟨.HS_CTL_LINKTO, .img, 100, true⟩]
  | .HS_LINK => [⟨.HS_LINK_UP, .ro, 0, false⟩, ⟨.HS_LINK_SPEED, .ro, 0, false⟩, ⟨.HS_LINK_WIDTH, .ro, 0, false⟩, ⟨.HS_LINK_BOUND, .ro, 0, false⟩, ⟨.HS_LINK_DOWNCNT, .ro, 0, false⟩]
  | .HS_IPADDR => [⟨.HS_IPADDR_ADDR, .img, 0xc0a80064, true⟩]
  | .HS_UDPPORT => [⟨.HS_UDPPORT_PORT, .img, 0xb806, true⟩]
  | .HS_PEERIP => [⟨.HS_PEERIP_PEER, .img, 0, true⟩]
  | .HS_BOUNDIP => [⟨.HS_BOUNDIP_ADDR, .ro, 0, false⟩]
  | .HS_BOUNDPORT => [⟨.HS_BOUNDPORT_PORT, .ro, 0, false⟩]
  | .HS_MACLO => [⟨.HS_MACLO_MAC, .img, 0, true⟩]
  | .HS_MACHI => [⟨.HS_MACHI_MAC, .img, 0, true⟩]
  | .HS_CQBLO => [⟨.HS_CQBLO_BASE, .rw, 0, false⟩]
  | .HS_CQBHI => [⟨.HS_CQBHI_BASE, .rw, 0, false⟩]
  | .HS_CQSIZE => [⟨.HS_CQSIZE_LOG2, .rw, 4, false⟩, ⟨.HS_CQSIZE_EN, .rw, 0, false⟩]
  | .HS_CQTAIL => [⟨.HS_CQTAIL_TAIL, .rw, 0, false⟩]
  | .HS_CQHEAD => [⟨.HS_CQHEAD_HEAD, .ro, 0, false⟩]
  | .HS_CQSEQ => [⟨.HS_CQSEQ_EXP, .ro, 0, false⟩]
  | .HS_EQBLO => [⟨.HS_EQBLO_BASE, .rw, 0, false⟩]
  | .HS_EQBHI => [⟨.HS_EQBHI_BASE, .rw, 0, false⟩]
  | .HS_EQSIZE => [⟨.HS_EQSIZE_LOG2, .rw, 4, false⟩, ⟨.HS_EQSIZE_EN, .rw, 0, false⟩]
  | .HS_EQHEAD => [⟨.HS_EQHEAD_HEAD, .rw, 0, false⟩]
  | .HS_EQTAIL => [⟨.HS_EQTAIL_TAIL, .ro, 0, false⟩]
  | .HS_ERRCNT => [⟨.HS_ERRCNT_CRC, .rc, 0, false⟩, ⟨.HS_ERRCNT_SEQ, .rc, 0, false⟩, ⟨.HS_ERRCNT_REFUSED, .rc, 0, false⟩, ⟨.HS_ERRCNT_DROP, .rc, 0, false⟩]
  | .HS_EVLOST => [⟨.HS_EVLOST_LOST, .rc, 0, false⟩]
  | .HS_ERRLAST => [⟨.HS_ERRLAST_STATUS, .ro, 0, false⟩, ⟨.HS_ERRLAST_QUEUE, .ro, 0, false⟩]
  | .RI_FQBLO => [⟨.RI_FQBLO_BASE, .rw, 0, false⟩]
  | .RI_FQBHI => [⟨.RI_FQBHI_BASE, .rw, 0, false⟩]
  | .RI_FQSIZE => [⟨.RI_FQSIZE_LOG2, .rw, 4, false⟩, ⟨.RI_FQSIZE_EN, .rw, 0, false⟩]
  | .RI_FQTAIL => [⟨.RI_FQTAIL_TAIL, .rw, 0, false⟩]
  | .RI_FQHEAD => [⟨.RI_FQHEAD_HEAD, .ro, 0, false⟩]
  | .RI_FQSEQ => [⟨.RI_FQSEQ_EXP, .ro, 0, false⟩]
  | .RI_FMT => [⟨.RI_FMT_FORMAT, .st, 0, true⟩, ⟨.RI_FMT_WIDTH, .st, 0x1000, true⟩]
  | .RI_RBASE => [⟨.RI_RBASE_BASE, .st, 0, true⟩]
  | .RI_RSLOTS => [⟨.RI_RSLOTS_SLOTS, .st, 0, true⟩]
  | .RI_DELAY => [⟨.RI_DELAY_DELAY, .st, 0, true⟩, ⟨.RI_DELAY_PHASE, .st, 0, true⟩]
  | .RI_STAT => [⟨.RI_STAT_LATE, .w1c, 0, false⟩, ⟨.RI_STAT_UE, .w1c, 0, false⟩, ⟨.RI_STAT_RING, .ro, 0, false⟩, ⟨.RI_STAT_COMPLETE, .ro, 0, false⟩]
  | .RI_LATECNT => [⟨.RI_LATECNT_LATE, .rc, 0, false⟩]
  | .RI_STALECNT => [⟨.RI_STALECNT_STALE, .rc, 0, false⟩, ⟨.RI_STALECNT_BARBLANK, .rc, 0, false⟩]
  | .RI_CNT => [⟨.RI_CNT_GAP, .rc, 0, false⟩, ⟨.RI_CNT_AHEAD, .rc, 0, false⟩, ⟨.RI_CNT_SKIP, .rc, 0, false⟩, ⟨.RI_CNT_DROP, .rc, 0, false⟩]
  | .RI_NEXTLO => [⟨.RI_NEXTLO_U, .ro, 0, false⟩]
  | .RI_NEXTHI => [⟨.RI_NEXTHI_U, .ro, 0, false⟩]
  | .RI_BAYCTL => [⟨.RI_BAYCTL_HOLDPOL, .st, 0, true⟩, ⟨.RI_BAYCTL_LATEPOL, .st, 0, true⟩]
  | .RI_BAYRATE => [⟨.RI_BAYRATE_MAXHZ, .st, 0, true⟩, ⟨.RI_BAYRATE_OVER, .w1c, 0, false⟩]
  | .RI_RNLO => [⟨.RI_RNLO_RN, .ro, 0, false⟩]
  | .RI_RNHI => [⟨.RI_RNHI_RN, .ro, 0, false⟩]
  | .RI_JOBLO => [⟨.RI_JOBLO_JOB, .st, 0, false⟩]
  | .RI_JOBHI => [⟨.RI_JOBHI_JOB, .st, 0, false⟩]
  | .RI_FSCFG => [⟨.RI_FSCFG_DENSITY, .img, 7, true⟩, ⟨.RI_FSCFG_RANKS, .img, 0, true⟩, ⟨.RI_FSCFG_CHANS, .img, 3, true⟩, ⟨.RI_FSCFG_RATE, .img, 75, true⟩]
  | .RI_FSSTAT => [⟨.RI_FSSTAT_TRAINED0, .ro, 0, false⟩, ⟨.RI_FSSTAT_TRAINED1, .ro, 0, false⟩, ⟨.RI_FSSTAT_CAPMIB, .ro, 0, false⟩]
  | .RI_BWUSE => [⟨.RI_BWUSE_USED, .ro, 0xbb8, false⟩, ⟨.RI_BWUSE_LIMIT, .ro, 0xea60, false⟩]
  | .RI_ECC => [⟨.RI_ECC_CE, .rc, 0, false⟩, ⟨.RI_ECC_UE, .rc, 0, false⟩]
  | .RI_ECCALO => [⟨.RI_ECCALO_ADDR, .ro, 0, false⟩]
  | .RI_ECCAHI => [⟨.RI_ECCAHI_ADDR, .ro, 0, false⟩, ⟨.RI_ECCAHI_UE, .ro, 0, false⟩, ⟨.RI_ECCAHI_SCRUB, .ro, 0, false⟩]
  | .RI_SCRUB => [⟨.RI_SCRUB_EN, .img, 1, true⟩, ⟨.RI_SCRUB_HOURS, .img, 24, true⟩]
  | .RI_WIN => [⟨.RI_WIN_BASE, .rw, 0, false⟩]
  | .RI_B2BASE => [⟨.RI_B2BASE_BASE, .rw, 0, false⟩]
  | .HP_PROF => [⟨.HP_PROF_CODEW, .st, 2, true⟩, ⟨.HP_PROF_LANES, .st, 2, true⟩, ⟨.HP_PROF_LMAP, .st, 0, true⟩, ⟨.HP_PROF_SHIFTDIR, .st, 0, true⟩, ⟨.HP_PROF_BITORD, .st, 0, true⟩, ⟨.HP_PROF_LRATE, .st, 0, true⟩, ⟨.HP_PROF_SRDIV, .st, 0, true⟩, ⟨.HP_PROF_CFGFMT, .st, 0, true⟩, ⟨.HP_PROF_LATPOL, .st, 0, true⟩, ⟨.HP_PROF_CFGREP, .st, 1, true⟩, ⟨.HP_PROF_NOZZLES, .st, 0x1000, true⟩]
  | .HP_LANE => [⟨.HP_LANE_LSWAP, .st, 228, true⟩, ⟨.HP_LANE_LINV, .st, 0, true⟩, ⟨.HP_LANE_CFGN, .st, 0, true⟩]
  | .HP_LATCH => [⟨.HP_LATCH_STRB, .st, 40, true⟩, ⟨.HP_LATCH_FOFF, .st, 0, true⟩]
  | .HP_GRP => [⟨.HP_GRP_GLOG2, .st, 0, true⟩, ⟨.HP_GRP_NCH, .st, 0, true⟩, ⟨.HP_GRP_GMODE, .st, 0, true⟩, ⟨.HP_GRP_ROT, .st, 1, true⟩, ⟨.HP_GRP_COMP, .st, 0, true⟩]
  | .HP_GSTEP => [⟨.HP_GSTEP_GSTEP, .st, 0x200, true⟩, ⟨.HP_GSTEP_BOFF, .st, 0, true⟩]
  | .HP_RECIPE0 => [⟨.HP_RECIPE0_RCP, .st, 0x1010100, true⟩]
  | .HP_RECIPE1 => [⟨.HP_RECIPE1_RCP, .st, 0x1010101, true⟩]
  | .HP_RECIPE2 => [⟨.HP_RECIPE2_RCP, .st, 0x1010101, true⟩]
  | .HP_RECIPE3 => [⟨.HP_RECIPE3_RCP, .st, 0x1010101, true⟩]
  | .HP_CFGX => [⟨.HP_CFGX_WORD, .st, 0, true⟩]
  | .HP_PWR => [⟨.HP_PWR_REQ, .rw, 0, false⟩, ⟨.HP_PWR_PEN, .ro, 0, false⟩, ⟨.HP_PWR_READY, .ro, 0, false⟩, ⟨.HP_PWR_REFUSED, .ro, 0, false⟩, ⟨.HP_PWR_TPON, .img, 100, true⟩]
  | .HP_STAT => [⟨.HP_STAT_UE, .w1c, 0, false⟩, ⟨.HP_STAT_COMPCLAMP, .w1c, 0, false⟩, ⟨.HP_STAT_FENCED, .ro, 0, false⟩, ⟨.HP_STAT_SHUT, .ro, 0, false⟩, ⟨.HP_STAT_NOTREADY, .w1c, 0, false⟩]
  | .HP_CNT => [⟨.HP_CNT_BLANK, .rc, 0, false⟩, ⟨.HP_CNT_CFGTX, .rc, 0, false⟩]
  | .HP_PMIN => [⟨.HP_PMIN_PMIN, .ro, 0, false⟩]
  | .WV_CTL => [⟨.WV_CTL_BANK, .st, 0, true⟩, ⟨.WV_CTL_WA, .st, 0, true⟩, ⟨.WV_CTL_WB, .st, 0, true⟩]
  | .WV_AMP => [⟨.WV_AMP_AMPA, .st, 0x8000, true⟩, ⟨.WV_AMP_AMPB, .st, 0x8000, true⟩]
  | .WV_REST => [⟨.WV_REST_RESTA, .st, 0, true⟩, ⟨.WV_REST_RESTB, .st, 0, true⟩]
  | .WV_STAT => [⟨.WV_STAT_CLIP, .w1c, 0, false⟩, ⟨.WV_STAT_CLIPCNT, .rc, 0, false⟩]
  | .HP_OSCTL => [⟨.HP_OSCTL_SLIPB, .st, 32, true⟩, ⟨.HP_OSCTL_PWEN, .st, 1, true⟩, ⟨.HP_OSCTL_K, .st, 64, true⟩]
  | .HP_BAYSTAT => [⟨.HP_BAYSTAT_PMIN, .ro, 0, false⟩, ⟨.HP_BAYSTAT_PREWARN, .ro, 0, false⟩, ⟨.HP_BAYSTAT_RUN, .ro, 0, false⟩]
  | .HP_BAYCNT => [⟨.HP_BAYCNT_SLIP, .rc, 0, false⟩, ⟨.HP_BAYCNT_OSPD, .rc, 0, false⟩]
  | .HP_OSRUN => [⟨.HP_OSRUN_RUN, .ro, 0, false⟩, ⟨.HP_OSRUN_DEFER, .ro, 0, false⟩]
  | .SC_CTL => [⟨.SC_CTL_SCREEN, .st, 0, true⟩, ⟨.SC_CTL_EDGE, .st, 0, true⟩, ⟨.SC_CTL_SERP, .st, 1, true⟩, ⟨.SC_CTL_DCEN, .st, 1, true⟩, ⟨.SC_CTL_STEN, .st, 1, true⟩, ⟨.SC_CTL_RAMP, .st, 0, true⟩]
  | .SC_LEVELS => [⟨.SC_LEVELS_L, .st, 2, true⟩]
  | .SC_CODEMAP0 => [⟨.SC_CODEMAP0_CODE, .st, 0x76543210, true⟩]
  | .SC_CODEMAP1 => [⟨.SC_CODEMAP1_CODE, .st, 0xfedcba98, true⟩]
  | .SC_ARRSEL0 => [⟨.SC_ARRSEL0_ARR, .st, 0, true⟩]
  | .SC_ARRSEL1 => [⟨.SC_ARRSEL1_ARR, .st, 0, true⟩]
  | .SC_ARRPOS => [⟨.SC_ARRPOS_XOFF, .st, 0, true⟩, ⟨.SC_ARRPOS_YOFF, .st, 0, true⟩]
  | .SC_ED => [⟨.SC_ED_WR, .st, 7, true⟩, ⟨.SC_ED_WDL, .st, 3, true⟩, ⟨.SC_ED_WD, .st, 5, true⟩, ⟨.SC_ED_WDR, .st, 1, true⟩]
  | .SC_SHIFT => [⟨.SC_SHIFT_SHIFT, .st, 0, true⟩]
  | .SC_RSHIFT => [⟨.SC_RSHIFT_RSHIFT, .ro, 0, false⟩]
  | .SC_BAR => [⟨.SC_BAR_BAR, .st, 0, true⟩, ⟨.SC_BAR_INBAR, .st, 0, true⟩, ⟨.SC_BAR_POS, .st, 0, true⟩, ⟨.SC_BAR_LW, .st, 0, true⟩, ⟨.SC_BAR_RW, .st, 0, true⟩]
  | .SC_STAT => [⟨.SC_STAT_SHCLAMP, .w1c, 0, false⟩, ⟨.SC_STAT_LVCLAMP, .w1c, 0, false⟩, ⟨.SC_STAT_UE, .w1c, 0, false⟩]
  | .SC_CNT => [⟨.SC_CNT_EDCLR, .rc, 0, false⟩, ⟨.SC_CNT_LVCLAMP, .rc, 0, false⟩]
  | .SC_RATE => [⟨.SC_RATE_CYCLES, .ro, 0x1080, false⟩, ⟨.SC_RATE_MAXR, .ro, 0x32dc, false⟩]
  | .SC_CVSTG => [⟨.SC_CVSTG_HEAD, .rw, 0, false⟩, ⟨.SC_CVSTG_CLAIM, .w1s, 0, false⟩, ⟨.SC_CVSTG_VALID, .ro, 0, false⟩, ⟨.SC_CVSTG_ARM, .rw, 0, false⟩, ⟨.SC_CVSTG_PEND, .ro, 0, false⟩]
  | .BD_CFG => [⟨.BD_CFG_EN, .st, 0, true⟩, ⟨.BD_CFG_PASSES, .st, 0, true⟩, ⟨.BD_CFG_BOND, .st, 0, true⟩, ⟨.BD_CFG_PERLVL, .st, 0, true⟩, ⟨.BD_CFG_MIRROR, .st, 0, true⟩, ⟨.BD_CFG_REVEN, .st, 0, true⟩, ⟨.BD_CFG_BONDREV, .st, 0, true⟩]
  | .BD_PASS => [⟨.BD_PASS_PASS, .st, 0, true⟩, ⟨.BD_PASS_DIR, .st, 0, true⟩]
  | .BD_POS => [⟨.BD_POS_UOFF, .st, 0, true⟩, ⟨.BD_POS_VOFF, .st, 0, true⟩]
  | .BD_LVLSEL0 => [⟨.BD_LVLSEL0_BOND, .st, 0, true⟩]
  | .BD_LVLSEL1 => [⟨.BD_LVLSEL1_BOND, .st, 0, true⟩]
  | .BD_CNT => [⟨.BD_CNT_MASKED, .rc, 0, false⟩]
  | .SC_ARROWN0 => [⟨.SC_ARROWN0_OWN, .img, 0xffffffff, true⟩]
  | .SC_ARROWN1 => [⟨.SC_ARROWN1_OWN, .img, 0xffffffff, true⟩]
  | .SN_CFG => [⟨.SN_CFG_EN, .st, 1, true⟩, ⟨.SN_CFG_TRACK, .st, 1, true⟩, ⟨.SN_CFG_EVERY, .st, 8, true⟩, ⟨.SN_CFG_SWIN, .st, 0, true⟩, ⟨.SN_CFG_SETTLE, .st, 8, true⟩, ⟨.SN_CFG_PRIO, .st, 4, true⟩, ⟨.SN_CFG_TRACKSH, .st, 6, true⟩]
  | .SN_THR0 => [⟨.SN_THR0_OPENA, .st, 64, true⟩, ⟨.SN_THR0_DRYF, .st, 80, true⟩, ⟨.SN_THR0_DRYR, .st, 32, true⟩]
  | .SN_THR1 => [⟨.SN_THR1_BUBF, .st, 60, true⟩, ⟨.SN_THR1_CLOGF, .st, 30, true⟩, ⟨.SN_THR1_CLOGR, .st, 24, true⟩, ⟨.SN_THR1_ZHYS, .st, 16, true⟩]
  | .SN_LEARN => [⟨.SN_LEARN_START, .w1s, 0, false⟩, ⟨.SN_LEARN_LN, .rw, 3, false⟩, ⟨.SN_LEARN_BUSY, .ro, 0, false⟩, ⟨.SN_LEARN_ABORTED, .w1c, 0, false⟩, ⟨.SN_LEARN_STIMCHG, .ro, 0, false⟩, ⟨.SN_LEARN_LTOL, .rw, 20, false⟩, ⟨.SN_LEARN_FAILED, .ro, 0, false⟩]
  | .SN_LAST0 => [⟨.SN_LAST0_NOZ, .ro, 0, false⟩, ⟨.SN_LAST0_RES, .ro, 7, false⟩, ⟨.SN_LAST0_R, .ro, 0, false⟩, ⟨.SN_LAST0_NZ, .ro, 0, false⟩]
  | .SN_LAST1 => [⟨.SN_LAST1_F, .ro, 0, false⟩, ⟨.SN_LAST1_A1, .ro, 0, false⟩]
  | .SN_CNT => [⟨.SN_CNT_SOUNDED, .rc, 0, false⟩, ⟨.SN_CNT_MISS, .rc, 0, false⟩, ⟨.SN_CNT_ABORT, .rc, 0, false⟩, ⟨.SN_CNT_NOFP, .rc, 0, false⟩]
  | .SN_SWEEP => [⟨.SN_SWEEP_NEXT, .ro, 0, false⟩, ⟨.SN_SWEEP_LASTMS, .ro, 0, false⟩]
  | .HM_CFG => [⟨.HM_CFG_FAILSTEP, .st, 2, true⟩, ⟨.HM_CFG_CAMGOOD, .st, 0, true⟩, ⟨.HM_CFG_STITCH, .st, 1, true⟩, ⟨.HM_CFG_WL, .st, 8, true⟩]
  | .HM_VOL0 => [⟨.HM_VOL0_VOL, .st, 0x33221100, true⟩]
  | .HM_VOL1 => [⟨.HM_VOL1_VOL, .st, 0x77665544, true⟩]
  | .HM_VOL2 => [⟨.HM_VOL2_VOL, .st, 0xbbaa9988, true⟩]
  | .HM_VOL3 => [⟨.HM_VOL3_VOL, .st, 0xffeeddcc, true⟩]
  | .HM_SUM => [⟨.HM_SUM_UNUSABLE, .ro, 0, false⟩, ⟨.HM_SUM_UNKNOWN, .ro, 0x1000, false⟩]
  | .HM_CNT => [⟨.HM_CNT_DOWN, .rc, 0, false⟩, ⟨.HM_CNT_UP, .rc, 0, false⟩]
  | .HM_RPCNT => [⟨.HM_RPCNT_CLAMP, .rc, 0, false⟩, ⟨.HM_RPCNT_LOST, .rc, 0, false⟩]
  | .HM_LIMIT => [⟨.HM_LIMIT_MAX, .st, 0x100, true⟩]
  | .HM_DECL => [⟨.HM_DECL_NOZ, .rw, 0, false⟩, ⟨.HM_DECL_HEAD, .rw, 0, false⟩, ⟨.HM_DECL_ACT, .rw, 0, false⟩, ⟨.HM_DECL_GO, .w1s, 0, false⟩]
  | .CM_CFG => [⟨.CM_CFG_EN, .st, 0, true⟩, ⟨.CM_CFG_LANES, .st, 2, true⟩, ⟨.CM_CFG_VC, .st, 0, true⟩, ⟨.CM_CFG_DT, .st, 1, true⟩, ⟨.CM_CFG_MOSAIC, .st, 1, true⟩, ⟨.CM_CFG_MPH, .st, 0, true⟩]
  | .CM_GEOM => [⟨.CM_GEOM_WIDTH, .st, 0x800, true⟩, ⟨.CM_GEOM_ROWS, .st, 0x400, true⟩]
  | .CM_RATE => [⟨.CM_RATE_FPS, .st, 0xbb8, true⟩]
  | .CM_ROWT => [⟨.CM_ROWT_ROWNS, .st, 0x3e8, true⟩]
  | .CM_TRIG => [⟨.CM_TRIG_MODE, .st, 0, true⟩, ⟨.CM_TRIG_POL, .st, 0, true⟩, ⟨.CM_TRIG_CMP, .st, 0, true⟩, ⟨.CM_TRIG_WIDTH, .st, 100, true⟩]
  | .CM_TRIGP => [⟨.CM_TRIGP_PER, .st, 0x3e8, true⟩]
  | .CM_SENS => [⟨.CM_SENS_ADDR, .st, 16, true⟩, ⟨.CM_SENS_SPEED, .st, 1, true⟩, ⟨.CM_SENS_RA16, .st, 1, true⟩, ⟨.CM_SENS_ORD, .st, 0, true⟩, ⟨.CM_SENS_HOLDEN, .st, 0, true⟩, ⟨.CM_SENS_LAT, .st, 2, true⟩, ⟨.CM_SENS_WROW, .st, 64, true⟩]
  | .CM_EXPREG => [⟨.CM_EXPREG_REG, .st, 0, true⟩, ⟨.CM_EXPREG_NB, .st, 0, true⟩]
  | .CM_GAINREG => [⟨.CM_GAINREG_REG, .st, 0, true⟩, ⟨.CM_GAINREG_NB, .st, 0, true⟩]
  | .CM_HOLDREG => [⟨.CM_HOLDREG_REG, .st, 0, true⟩, ⟨.CM_HOLDREG_HOLDV, .st, 1, true⟩, ⟨.CM_HOLDREG_RELV, .st, 0, true⟩]
  | .CM_EXP => [⟨.CM_EXP_EXP, .st, 0, true⟩]
  | .CM_GAIN => [⟨.CM_GAIN_GAIN, .st, 0, true⟩]
  | .CM_I2CCMD => [⟨.CM_I2CCMD_REG, .rw, 0, false⟩, ⟨.CM_I2CCMD_DATA, .rw, 0, false⟩, ⟨.CM_I2CCMD_RD, .rw, 0, false⟩, ⟨.CM_I2CCMD_NACK, .ro, 0, false⟩, ⟨.CM_I2CCMD_BUSY, .ro, 0, false⟩, ⟨.CM_I2CCMD_GO, .w1s, 0, false⟩]
  | .CM_BUF => [⟨.CM_BUF_FMT, .st, 0, true⟩, ⟨.CM_BUF_EVERY, .st, 1, true⟩, ⟨.CM_BUF_BASE, .st, 0, true⟩]
  | .CM_BUFN => [⟨.CM_BUFN_COUNT, .st, 2, true⟩, ⟨.CM_BUFN_LAST, .ro, 0, false⟩, ⟨.CM_BUFN_LASTFN, .ro, 0, false⟩]
  | .CM_STAT => [⟨.CM_STAT_FLAGS, .w1c, 0, false⟩, ⟨.CM_STAT_I2CERR, .w1c, 0, false⟩, ⟨.CM_STAT_CLK, .ro, 0, false⟩, ⟨.CM_STAT_SAFE, .ro, 0, false⟩, ⟨.CM_STAT_FENCED, .ro, 0, false⟩]
  | .CM_FRAME => [⟨.CM_FRAME_FN, .ro, 0, false⟩, ⟨.CM_FRAME_FLAGS, .ro, 0, false⟩]
  | .CM_CNT => [⟨.CM_CNT_FRAMES, .rc, 0, false⟩, ⟨.CM_CNT_FLAGGED, .rc, 0, false⟩]
  | .CM_ERRCNT => [⟨.CM_ERRCNT_HDR, .rc, 0, false⟩, ⟨.CM_ERRCNT_CRC, .rc, 0, false⟩, ⟨.CM_ERRCNT_WC, .rc, 0, false⟩, ⟨.CM_ERRCNT_DT, .rc, 0, false⟩]
  | .CM_FIFO => [⟨.CM_FIFO_HWM, .rc, 0, false⟩, ⟨.CM_FIFO_NEED, .ro, 0, false⟩]
  | .IP_CFG => [⟨.IP_CFG_SDEN, .st, 1, true⟩, ⟨.IP_CFG_DDEN, .st, 0, true⟩, ⟨.IP_CFG_HSRC, .st, 0, true⟩, ⟨.IP_CFG_STEV, .st, 0, true⟩, ⟨.IP_CFG_NDEF, .st, 0, true⟩, ⟨.IP_CFG_DTHR, .st, 0x100, true⟩]
  | .IP_BLK0 => [⟨.IP_BLK0_BLKR, .st, 0x100, true⟩, ⟨.IP_BLK0_BLKG, .st, 0x100, true⟩]
  | .IP_BLK1 => [⟨.IP_BLK1_BLKB, .st, 0x100, true⟩, ⟨.IP_BLK1_BLKI, .st, 0x100, true⟩]
  | .IP_NGAIN => [⟨.IP_NGAIN_NGAIN, .st, 0x1000, true⟩]
  | .IP_WB0 => [⟨.IP_WB0_WBR, .st, 0x1000, true⟩, ⟨.IP_WB0_WBG, .st, 0x1000, true⟩]
  | .IP_WB1 => [⟨.IP_WB1_WBB, .st, 0x1000, true⟩, ⟨.IP_WB1_WBI, .st, 0x1000, true⟩]
  | .IP_CM0 => [⟨.IP_CM0_M0, .st, 0x400, true⟩, ⟨.IP_CM0_M1, .st, 0, true⟩]
  | .IP_CM1 => [⟨.IP_CM1_M0, .st, 0, true⟩, ⟨.IP_CM1_M1, .st, 0, true⟩]
  | .IP_CM2 => [⟨.IP_CM2_M0, .st, 0, true⟩, ⟨.IP_CM2_M1, .st, 0x400, true⟩]
  | .IP_CM3 => [⟨.IP_CM3_M0, .st, 0, true⟩, ⟨.IP_CM3_M1, .st, 0, true⟩]
  | .IP_CM4 => [⟨.IP_CM4_M0, .st, 0, true⟩, ⟨.IP_CM4_M1, .st, 0, true⟩]
  | .IP_CM5 => [⟨.IP_CM5_M0, .st, 0x400, true⟩, ⟨.IP_CM5_M1, .st, 0, true⟩]
  | .IP_HROIX => [⟨.IP_HROIX_X0, .st, 0, true⟩, ⟨.IP_HROIX_X1, .st, 0x1fff, true⟩]
  | .IP_HROIY => [⟨.IP_HROIY_Y0, .st, 0, true⟩, ⟨.IP_HROIY_Y1, .st, 0x1fff, true⟩]
  | .IP_BAND => [⟨.IP_BAND_R0, .st, 1, true⟩, ⟨.IP_BAND_R1, .st, 0, true⟩, ⟨.IP_BAND_SRC, .st, 0, true⟩]
  | .IP_STLOCK => [⟨.IP_STLOCK_LOCK, .rw, 0, false⟩, ⟨.IP_STLOCK_NEWEST, .ro, 0, false⟩, ⟨.IP_STLOCK_NOWIN, .rc, 0, false⟩]
  | .IN_REG => [⟨.IN_REG_EN, .st, 0, true⟩, ⟨.IN_REG_CAM, .st, 0, true⟩, ⟨.IN_REG_MARK, .st, 0, true⟩, ⟨.IN_REG_XINV, .st, 0, true⟩, ⟨.IN_REG_YINV, .st, 0, true⟩, ⟨.IN_REG_XEN, .st, 1, true⟩, ⟨.IN_REG_YEN, .st, 1, true⟩, ⟨.IN_REG_GAIN, .st, 8, true⟩]
  | .IN_REF => [⟨.IN_REF_REFX, .st, 0, true⟩, ⟨.IN_REF_REFY, .st, 0, true⟩]
  | .IN_SCALE => [⟨.IN_SCALE_XS, .st, 0x1000, true⟩, ⟨.IN_SCALE_YS, .st, 0x1000, true⟩]
  | .IN_LIM => [⟨.IN_LIM_DB, .st, 16, true⟩, ⟨.IN_LIM_MAXSTEP, .st, 0x400, true⟩]
  | .IN_VIEW => [⟨.IN_VIEW_VIEWC, .st, 0, true⟩]
  | .IN_RPH => [⟨.IN_RPH_RPH, .ro, 0, false⟩]
  | .IN_RLAST => [⟨.IN_RLAST_EX, .ro, 0, false⟩, ⟨.IN_RLAST_EY, .ro, 0, false⟩]
  | .IN_RCNT => [⟨.IN_RCNT_APPLIED, .rc, 0, false⟩, ⟨.IN_RCNT_STALE, .rc, 0, false⟩, ⟨.IN_RCNT_NOTFOUND, .rc, 0, false⟩, ⟨.IN_RCNT_LIMIT, .w1c, 0, false⟩]
  | .IN_RCTL => [⟨.IN_RCTL_EN, .st, 0, true⟩, ⟨.IN_RCTL_RESET, .w1s, 0, false⟩, ⟨.IN_RCTL_BUSY, .ro, 0, false⟩]
  | .IN_RTGTLO => [⟨.IN_RTGTLO_TGT, .ro, 0, false⟩]
  | .IN_RTGTHI => [⟨.IN_RTGTHI_TGT, .ro, 0, false⟩]
  | .IN_NCCFG => [⟨.IN_NCCFG_HEAD, .rw, 0, false⟩, ⟨.IN_NCCFG_S, .rw, 1, false⟩, ⟨.IN_NCCFG_RH, .rw, 1, false⟩, ⟨.IN_NCCFG_CANCEL, .w1s, 0, false⟩, ⟨.IN_NCCFG_GO, .w1s, 0, false⟩]
  | .IN_NCTAGLO => [⟨.IN_NCTAGLO_TAG, .rw, 0, false⟩]
  | .IN_NCTAGHI => [⟨.IN_NCTAGHI_TAG, .rw, 0, false⟩]
  | .IN_NCROW => [⟨.IN_NCROW_ROW0, .rw, 0, false⟩]
  | .IN_NCX => [⟨.IN_NCX_X0, .rw, 0, false⟩]
  | .IN_NCP => [⟨.IN_NCP_XP, .rw, 0, false⟩]
  | .IN_NCTHR => [⟨.IN_NCTHR_CMIN, .rw, 24, false⟩, ⟨.IN_NCTHR_DEV, .rw, 16, false⟩]
  | .IN_NCRES => [⟨.IN_NCRES_STATE, .ro, 0, false⟩, ⟨.IN_NCRES_REASON, .ro, 0, false⟩, ⟨.IN_NCRES_MISSING, .ro, 0, false⟩]

/-- Every register of R449. -/
def RegName.all : List RegName := List.flatten [
  [.GL_ID, .GL_MODE, .GL_STEWARD, .GL_TBLO, .GL_TBHI, .GL_CCLO, .GL_CCHI, .GL_BAYPORT],
  [.GL_BAYRES, .GL_BAYCMP, .GL_ISLAND, .GL_PWR, .KS_STATUS, .KS_GEN, .KS_TGTLO, .KS_TGTHI],
  [.KS_REFOFF, .KS_STAGED, .KS_BAYCTL, .KS_CNT, .KS_SNAPGEN, .KS_SNAPCCLO, .KS_SNAPCCHI, .KS_SNAPPT],
  [.KS_GENDEV, .KS_DSTATUS, .FC_SPALLLO, .FC_SPALLHI, .FC_FIRST, .FC_FTBLO, .FC_FTBHI, .FC_FCCLO],
  [.FC_FCCHI, .FC_CFG, .FC_LOCK, .FC_NERR, .FC_CMD, .FC_REC, .FC_RSRCLO, .FC_RSRCHI],
  [.FC_RCNT, .FC_FENCE0, .FC_FENCE1, .FC_FENCE2, .FC_FENCE3, .FC_FENCE4, .FC_FENCE5, .FC_SRC],
  [.TM_CH, .TM_THM, .TM_THR0, .TM_THR1, .TM_NB, .TM_VAL, .TM_OFF, .TM_STAT],
  [.TM_TACT, .TM_TTHIN, .TM_BSTAT, .TM_TCNT, .TM_SCOPE, .TM_CFG, .TM_SHUTST, .TM_SCAN],
  [.TM_ENF, .OT_CHK, .OT_FIRST, .OT_CNT, .OT_OWNER, .OT_OWNERID, .OT_PADDR, .OT_PDATA],
  [.OT_PCMD, .OT_PRES, .OT_PENV, .OT_RAWSEL, .OT_RAWS, .OT_RAWL, .OT_RAWC, .TR_STAT],
  [.TR_SERLO, .TR_SERHI, .TR_TYPE, .TR_USELO, .TR_USEHI, .TR_EN, .TR_CFG, .TR_KEY],
  [.WR_CFG, .WR_CKPT, .WR_CKTBLO, .WR_CKTBHI, .WR_TSTAT, .WR_HOURS, .WR_RO, .WR_MARG],
  [.WR_DLIM, .WR_DLIFE, .WR_HCNTLO, .WR_HCNTHI, .WR_HWBLO, .WR_HWBHI, .WR_HRATE, .WR_HLIFE],
  [.WR_HIND, .WR_HILIM, .WR_HLIFEP, .WR_HSTAT, .SV_CFG, .SV_STAT, .SV_TEST, .SV_TESTD],
  [.SV_TARG, .SV_PLUMB, .SV_PEN, .SV_MTEMP, .SV_PARK, .SV_FORCE, .PT_CFG, .PT_ACTIVE],
  [.PT_MQDLY, .PT_CREDIT, .PT_CAMSTALL, .PT_TRIGDLY, .PT_ECC, .PT_FORCE, .PS_CFG, .PS_RATE],
  [.PS_LIMLO, .PS_LIMHI, .PS_DB, .PS_SPDWIN, .PS_STALL, .PS_SSI, .PS_SSIT, .PS_CMD],
  [.PS_PREVAL, .PS_POS, .PS_ZLAT, .PS_SPEED, .PS_SPDTBLO, .PS_SPDTBHI, .PS_STAT, .PS_ERRCNT],
  [.PC_CTL, .PC_RATLO, .PC_RATHI, .PC_GEN, .PC_STAT, .PC_PERIOD, .PC_RATE, .PC_SPEED],
  [.PC_MARKLO, .PC_MARKHI, .CP_CTL, .CP_PERIOD, .CP_STAT, .CP_CNT, .CP_OUT, .EM_CFG],
  [.EM_RATIO, .EM_ZPER, .EM_STAT, .EM_LOST, .EM_POS, .HS_CTL, .HS_LINK, .HS_IPADDR],
  [.HS_UDPPORT, .HS_PEERIP, .HS_BOUNDIP, .HS_BOUNDPORT, .HS_MACLO, .HS_MACHI, .HS_CQBLO, .HS_CQBHI],
  [.HS_CQSIZE, .HS_CQTAIL, .HS_CQHEAD, .HS_CQSEQ, .HS_EQBLO, .HS_EQBHI, .HS_EQSIZE, .HS_EQHEAD],
  [.HS_EQTAIL, .HS_ERRCNT, .HS_EVLOST, .HS_ERRLAST, .RI_FQBLO, .RI_FQBHI, .RI_FQSIZE, .RI_FQTAIL],
  [.RI_FQHEAD, .RI_FQSEQ, .RI_FMT, .RI_RBASE, .RI_RSLOTS, .RI_DELAY, .RI_STAT, .RI_LATECNT],
  [.RI_STALECNT, .RI_CNT, .RI_NEXTLO, .RI_NEXTHI, .RI_BAYCTL, .RI_BAYRATE, .RI_RNLO, .RI_RNHI],
  [.RI_JOBLO, .RI_JOBHI, .RI_FSCFG, .RI_FSSTAT, .RI_BWUSE, .RI_ECC, .RI_ECCALO, .RI_ECCAHI],
  [.RI_SCRUB, .RI_WIN, .RI_B2BASE, .HP_PROF, .HP_LANE, .HP_LATCH, .HP_GRP, .HP_GSTEP],
  [.HP_RECIPE0, .HP_RECIPE1, .HP_RECIPE2, .HP_RECIPE3, .HP_CFGX, .HP_PWR, .HP_STAT, .HP_CNT],
  [.HP_PMIN, .WV_CTL, .WV_AMP, .WV_REST, .WV_STAT, .HP_OSCTL, .HP_BAYSTAT, .HP_BAYCNT],
  [.HP_OSRUN, .SC_CTL, .SC_LEVELS, .SC_CODEMAP0, .SC_CODEMAP1, .SC_ARRSEL0, .SC_ARRSEL1, .SC_ARRPOS],
  [.SC_ED, .SC_SHIFT, .SC_RSHIFT, .SC_BAR, .SC_STAT, .SC_CNT, .SC_RATE, .SC_CVSTG],
  [.BD_CFG, .BD_PASS, .BD_POS, .BD_LVLSEL0, .BD_LVLSEL1, .BD_CNT, .SC_ARROWN0, .SC_ARROWN1],
  [.SN_CFG, .SN_THR0, .SN_THR1, .SN_LEARN, .SN_LAST0, .SN_LAST1, .SN_CNT, .SN_SWEEP],
  [.HM_CFG, .HM_VOL0, .HM_VOL1, .HM_VOL2, .HM_VOL3, .HM_SUM, .HM_CNT, .HM_RPCNT],
  [.HM_LIMIT, .HM_DECL, .CM_CFG, .CM_GEOM, .CM_RATE, .CM_ROWT, .CM_TRIG, .CM_TRIGP],
  [.CM_SENS, .CM_EXPREG, .CM_GAINREG, .CM_HOLDREG, .CM_EXP, .CM_GAIN, .CM_I2CCMD, .CM_BUF],
  [.CM_BUFN, .CM_STAT, .CM_FRAME, .CM_CNT, .CM_ERRCNT, .CM_FIFO, .IP_CFG, .IP_BLK0],
  [.IP_BLK1, .IP_NGAIN, .IP_WB0, .IP_WB1, .IP_CM0, .IP_CM1, .IP_CM2, .IP_CM3],
  [.IP_CM4, .IP_CM5, .IP_HROIX, .IP_HROIY, .IP_BAND, .IP_STLOCK, .IN_REG, .IN_REF],
  [.IN_SCALE, .IN_LIM, .IN_VIEW, .IN_RPH, .IN_RLAST, .IN_RCNT, .IN_RCTL, .IN_RTGTLO],
  [.IN_RTGTHI, .IN_NCCFG, .IN_NCTAGLO, .IN_NCTAGHI, .IN_NCROW, .IN_NCX, .IN_NCP, .IN_NCTHR],
  [.IN_NCRES]]

/-- The BAR0 offset of an instance. -/
def RegName.off (r : RegName) (i j : Nat) : Nat :=
  r.info.base + r.info.stride1 * i + r.info.stride2 * j

/-- The instance of register `r` at offset `o`, if `o` is one of its offsets (by division: the stride of the
first index exceeds the span of the second). -/
def RegName.instAt (r : RegName) (o : Nat) : Option (Nat × Nat) :=
  let f := r.info
  if o < f.base then none else
    let d := o - f.base
    let i := if f.stride1 = 0 then 0 else d / f.stride1
    let d2 := if f.stride1 = 0 then d else d % f.stride1
    let j := if f.stride2 = 0 then 0 else d2 / f.stride2
    let rest := if f.stride2 = 0 then d2 else d2 % f.stride2
    if i < f.count1 && j < f.count2 && rest = 0 then some (i, j) else none

/-- The registers of the block an offset lies in (R445). -/
def RegName.group (o : Nat) : List RegName :=
  if o < 0x10000 then List.flatten [
      [.GL_ID, .GL_MODE, .GL_STEWARD, .GL_TBLO, .GL_TBHI, .GL_CCLO, .GL_CCHI, .GL_BAYPORT],
      [.GL_BAYRES, .GL_BAYCMP, .GL_ISLAND, .GL_PWR]]
  else if o < 0x20000 then List.flatten [
      [.KS_STATUS, .KS_GEN, .KS_TGTLO, .KS_TGTHI, .KS_REFOFF, .KS_STAGED, .KS_BAYCTL, .KS_CNT],
      [.KS_SNAPGEN, .KS_SNAPCCLO, .KS_SNAPCCHI, .KS_SNAPPT, .KS_GENDEV, .KS_DSTATUS]]
  else if o < 0x30000 then List.flatten [
      [.FC_SPALLLO, .FC_SPALLHI, .FC_FIRST, .FC_FTBLO, .FC_FTBHI, .FC_FCCLO, .FC_FCCHI, .FC_CFG],
      [.FC_LOCK, .FC_NERR, .FC_CMD, .FC_REC, .FC_RSRCLO, .FC_RSRCHI, .FC_RCNT, .FC_FENCE0],
      [.FC_FENCE1, .FC_FENCE2, .FC_FENCE3, .FC_FENCE4, .FC_FENCE5, .FC_SRC]]
  else if o < 0x40000 then List.flatten [
      [.TM_CH, .TM_THM, .TM_THR0, .TM_THR1, .TM_NB, .TM_VAL, .TM_OFF, .TM_STAT],
      [.TM_TACT, .TM_TTHIN, .TM_BSTAT, .TM_TCNT, .TM_SCOPE, .TM_CFG, .TM_SHUTST, .TM_SCAN],
      [.TM_ENF]]
  else if o < 0x48000 then List.flatten [
      [.OT_CHK, .OT_FIRST, .OT_CNT, .OT_OWNER, .OT_OWNERID, .OT_PADDR, .OT_PDATA, .OT_PCMD],
      [.OT_PRES, .OT_PENV, .OT_RAWSEL, .OT_RAWS, .OT_RAWL, .OT_RAWC]]
  else if o < 0x50000 then List.flatten [
      [.TR_STAT, .TR_SERLO, .TR_SERHI, .TR_TYPE, .TR_USELO, .TR_USEHI, .TR_EN, .TR_CFG],
      [.TR_KEY]]
  else if o < 0x60000 then List.flatten [
      [.WR_CFG, .WR_CKPT, .WR_CKTBLO, .WR_CKTBHI, .WR_TSTAT, .WR_HOURS, .WR_RO, .WR_MARG],
      [.WR_DLIM, .WR_DLIFE, .WR_HCNTLO, .WR_HCNTHI, .WR_HWBLO, .WR_HWBHI, .WR_HRATE, .WR_HLIFE],
      [.WR_HIND, .WR_HILIM, .WR_HLIFEP, .WR_HSTAT]]
  else if o < 0x80000 then List.flatten [
      [.SV_CFG, .SV_STAT, .SV_TEST, .SV_TESTD, .SV_TARG, .SV_PLUMB, .SV_PEN, .SV_MTEMP],
      [.SV_PARK, .SV_FORCE, .PT_CFG, .PT_ACTIVE, .PT_MQDLY, .PT_CREDIT, .PT_CAMSTALL, .PT_TRIGDLY],
      [.PT_ECC, .PT_FORCE]]
  else if o < 0x90000 then List.flatten [
      [.PS_CFG, .PS_RATE, .PS_LIMLO, .PS_LIMHI, .PS_DB, .PS_SPDWIN, .PS_STALL, .PS_SSI],
      [.PS_SSIT, .PS_CMD, .PS_PREVAL, .PS_POS, .PS_ZLAT, .PS_SPEED, .PS_SPDTBLO, .PS_SPDTBHI],
      [.PS_STAT, .PS_ERRCNT]]
  else if o < 0xC0000 then List.flatten [
      [.PC_CTL, .PC_RATLO, .PC_RATHI, .PC_GEN, .PC_STAT, .PC_PERIOD, .PC_RATE, .PC_SPEED],
      [.PC_MARKLO, .PC_MARKHI, .CP_CTL, .CP_PERIOD, .CP_STAT, .CP_CNT, .CP_OUT, .EM_CFG],
      [.EM_RATIO, .EM_ZPER, .EM_STAT, .EM_LOST, .EM_POS]]
  else if o < 0x100000 then List.flatten [
      [.HS_CTL, .HS_LINK, .HS_IPADDR, .HS_UDPPORT, .HS_PEERIP, .HS_BOUNDIP, .HS_BOUNDPORT, .HS_MACLO],
      [.HS_MACHI, .HS_CQBLO, .HS_CQBHI, .HS_CQSIZE, .HS_CQTAIL, .HS_CQHEAD, .HS_CQSEQ, .HS_EQBLO],
      [.HS_EQBHI, .HS_EQSIZE, .HS_EQHEAD, .HS_EQTAIL, .HS_ERRCNT, .HS_EVLOST, .HS_ERRLAST]]
  else if o < 0x200000 then List.flatten [
      [.RI_FQBLO, .RI_FQBHI, .RI_FQSIZE, .RI_FQTAIL, .RI_FQHEAD, .RI_FQSEQ, .RI_FMT, .RI_RBASE],
      [.RI_RSLOTS, .RI_DELAY, .RI_STAT, .RI_LATECNT, .RI_STALECNT, .RI_CNT, .RI_NEXTLO, .RI_NEXTHI],
      [.RI_BAYCTL, .RI_BAYRATE, .RI_RNLO, .RI_RNHI, .RI_JOBLO, .RI_JOBHI, .RI_FSCFG, .RI_FSSTAT],
      [.RI_BWUSE, .RI_ECC, .RI_ECCALO, .RI_ECCAHI, .RI_SCRUB, .RI_WIN, .RI_B2BASE]]
  else if o < 0x400000 then List.flatten [
      [.HP_PROF, .HP_LANE, .HP_LATCH, .HP_GRP, .HP_GSTEP, .HP_RECIPE0, .HP_RECIPE1, .HP_RECIPE2],
      [.HP_RECIPE3, .HP_CFGX, .HP_PWR, .HP_STAT, .HP_CNT, .HP_PMIN, .WV_CTL, .WV_AMP],
      [.WV_REST, .WV_STAT, .HP_OSCTL, .HP_BAYSTAT, .HP_BAYCNT, .HP_OSRUN]]
  else if o < 0x600000 then List.flatten [
      [.SC_CTL, .SC_LEVELS, .SC_CODEMAP0, .SC_CODEMAP1, .SC_ARRSEL0, .SC_ARRSEL1, .SC_ARRPOS, .SC_ED],
      [.SC_SHIFT, .SC_RSHIFT, .SC_BAR, .SC_STAT, .SC_CNT, .SC_RATE, .SC_CVSTG, .BD_CFG],
      [.BD_PASS, .BD_POS, .BD_LVLSEL0, .BD_LVLSEL1, .BD_CNT, .SC_ARROWN0, .SC_ARROWN1]]
  else if o < 0x800000 then List.flatten [
      [.SN_CFG, .SN_THR0, .SN_THR1, .SN_LEARN, .SN_LAST0, .SN_LAST1, .SN_CNT, .SN_SWEEP],
      [.HM_CFG, .HM_VOL0, .HM_VOL1, .HM_VOL2, .HM_VOL3, .HM_SUM, .HM_CNT, .HM_RPCNT],
      [.HM_LIMIT, .HM_DECL]]
  else if o < 0x880000 then List.flatten [
      [.CM_CFG, .CM_GEOM, .CM_RATE, .CM_ROWT, .CM_TRIG, .CM_TRIGP, .CM_SENS, .CM_EXPREG],
      [.CM_GAINREG, .CM_HOLDREG, .CM_EXP, .CM_GAIN, .CM_I2CCMD, .CM_BUF, .CM_BUFN, .CM_STAT],
      [.CM_FRAME, .CM_CNT, .CM_ERRCNT, .CM_FIFO]]
  else if o < 0xA00000 then List.flatten [
      [.IP_CFG, .IP_BLK0, .IP_BLK1, .IP_NGAIN, .IP_WB0, .IP_WB1, .IP_CM0, .IP_CM1],
      [.IP_CM2, .IP_CM3, .IP_CM4, .IP_CM5, .IP_HROIX, .IP_HROIY, .IP_BAND, .IP_STLOCK]]
  else if o < 0x4000000 then List.flatten [
      [.IN_REG, .IN_REF, .IN_SCALE, .IN_LIM, .IN_VIEW, .IN_RPH, .IN_RLAST, .IN_RCNT],
      [.IN_RCTL, .IN_RTGTLO, .IN_RTGTHI, .IN_NCCFG, .IN_NCTAGLO, .IN_NCTAGHI, .IN_NCROW, .IN_NCX],
      [.IN_NCP, .IN_NCTHR, .IN_NCRES]]
  else []

/-- The register instance at a BAR0 offset (R449), or none where no register is defined (R6). -/
def decodeOff (o : Nat) : Option (RegName × Nat × Nat) :=
  (RegName.group o).findSome? fun r => (r.instAt o).map fun ij => (r, ij.1, ij.2)

/-- The reset word of a field map: every row's reset value in its place. -/
def rowsWord : List FieldRow → Word
  | [] => 0
  | r :: rest => wput (rowsWord rest) r.fld.lo r.fld.width r.dflt

/-- The class of a fault source at the factory (R291): 0 INFO, 1 DEGRADE, 2 FENCE, 3 HALT. -/
def srcClass : Nat → Nat
  | 0 | 6 | 7 | 18 | 50 => 3
  | 9 | 16 | 17 | 25 | 26 | 40 | 48 => 2
  | 2 | 4 | 5 | 24 | 32 | 49 | 58 | 60 => 1
  | _ => 0

/-- The reactions of a fault source at the factory (R291, R292): bit 0 fence, 1 DEGRADED, 2 halt bay,
3 halt device. -/
def srcReact : Nat → Nat
  | 0 | 6 | 7 | 50 => 8
  | 18 => 4
  | 9 | 16 | 17 | 25 | 26 | 40 | 48 => 1
  | 2 | 4 | 24 | 32 | 49 => 2
  | _ => 0

/-- The indices of R291 at which a source is listed. -/
def srcListed (i : Nat) : Bool :=
  i ≤ 11 || (16 ≤ i && i ≤ 18) || (24 ≤ i && i ≤ 27) || i = 32 || i = 33 || (40 ≤ i && i ≤ 42) ||
    (48 ≤ i && i ≤ 50) || (56 ≤ i && i ≤ 60)

/-- The fixed sources of R291. -/
def srcFixed (i : Nat) : Bool := i = 0 || i = 6 || i = 7 || i = 50

/-- The factory thresholds of a thermal channel in 1/16 °C (R290, grade -I for the on-die channels): 0 WARN,
1 THROTTLE, 2 SHUT. -/
def thrFactory (c k : Nat) : Nat :=
  if c < 64 then (if k = 0 then 880 else if k = 1 then 960 else 1120)
  else if c < 68 then (if k = 0 then 1120 else if k = 1 then 1280 else 1440)
  else (if k = 0 then 1600 else if k = 1 then 1680 else 1840)

/-- The reset word of a register instance: the reset column, with the reset values that depend on the
instance (R289 to R291, R307, R80). -/
def regDefault (r : RegName) (i _j : Nat) : Word :=
  match r with
  | .FC_SRC => wput (wput (wput (wput 0 0 2 (srcClass i)) 2 4 (srcReact i)) 6 1 (if srcClass i = 0 then 0 else 1)) 7 1 1
  | .TM_CH => wput (rowsWord (RegName.rows .TM_CH)) 0 2 (if i < 68 then 0 else 1)
  | .TM_THR0 => wput (wput 0 0 16 (thrFactory i 0)) 16 16 (thrFactory i 1)
  | .TM_THR1 => wput (rowsWord (RegName.rows .TM_THR1)) 0 16 (thrFactory i 2)
  | _ => rowsWord r.rows

/-- What an offset that the register store does not list reads as: its register's reset word, or 0 where no
register is defined (R6, R8). -/
def regDflt (o : Nat) : Word :=
  match decodeOff o with
  | none => 0
  | some (r, i, j) => regDefault r i j

/-- The least significant end of a 64-bit pair whose high word a read of the low word latches (R5): the high
word of register `r`, if `r` is a low word. -/
def RegName.highOf : RegName → Option RegName
  | .GL_TBLO => some .GL_TBHI
  | .GL_CCLO => some .GL_CCHI
  | .KS_TGTLO => some .KS_TGTHI
  | .KS_SNAPCCLO => some .KS_SNAPCCHI
  | .FC_SPALLLO => some .FC_SPALLHI
  | .FC_FTBLO => some .FC_FTBHI
  | .FC_FCCLO => some .FC_FCCHI
  | .FC_RSRCLO => some .FC_RSRCHI
  | .TR_SERLO => some .TR_SERHI
  | .TR_USELO => some .TR_USEHI
  | .WR_CKTBLO => some .WR_CKTBHI
  | .WR_HCNTLO => some .WR_HCNTHI
  | .WR_HWBLO => some .WR_HWBHI
  | .PS_SPDTBLO => some .PS_SPDTBHI
  | .PC_RATLO => some .PC_RATHI
  | .PC_MARKLO => some .PC_MARKHI
  | .HS_MACLO => some .HS_MACHI
  | .HS_CQBLO => some .HS_CQBHI
  | .HS_EQBLO => some .HS_EQBHI
  | .RI_FQBLO => some .RI_FQBHI
  | .RI_NEXTLO => some .RI_NEXTHI
  | .RI_RNLO => some .RI_RNHI
  | .RI_JOBLO => some .RI_JOBHI
  | .RI_ECCALO => some .RI_ECCAHI
  | .IN_RTGTLO => some .IN_RTGTHI
  | .IN_NCTAGLO => some .IN_NCTAGHI
  | _ => none

end Sys2Proof.Machine
end

