-- ==== Sys2Proof/Machine/Store.lean ====
section
/-! DEFINITION. A sparse store: plain data keyed by a number, in one canonical form (strictly rising keys, no
entry equal to what an unlisted key reads as). Registers, table bytes, frame-store bytes and every group of
numbered units of the state are held in stores. -/

namespace Sys2Proof.Machine

/-- Pairs of a key and a value. What an unlisted key reads as is a function given at every access. -/
abbrev Store (α : Type) := List (Nat × α)

/-- The value at a key; `d` gives what an unlisted key reads as. -/
def Store.get {α : Type} (d : Nat → α) : Store α → Nat → α
  | [], x => d x
  | (k, v) :: r, x => if k = x then v else Store.get d r x

/-- The store without a key. -/
def Store.erase {α : Type} : Store α → Nat → Store α
  | [], _ => []
  | (k, v) :: r, x => if k = x then Store.erase r x else (k, v) :: Store.erase r x

/-- The store with an entry placed before the first larger key. -/
def Store.insert {α : Type} : Store α → Nat → α → Store α
  | [], x, v => [(x, v)]
  | (k, w) :: r, x, v => if x < k then (x, v) :: (k, w) :: r else (k, w) :: Store.insert r x v

/-- Write a key: a value equal to what the unlisted key reads as leaves no entry. -/
def Store.set {α : Type} [DecidableEq α] (d : Nat → α) (m : Store α) (x : Nat) (v : α) : Store α :=
  if v = d x then Store.erase m x else Store.insert (Store.erase m x) x v

/-- Every key of the store is larger than `b`, keys rise strictly, and no entry equals what its key reads as
when unlisted. -/
def Store.wfFrom {α : Type} [DecidableEq α] (d : Nat → α) : Option Nat → Store α → Bool
  | _, [] => true
  | b, (k, v) :: r =>
    (match b with | none => true | some b => decide (b < k)) && decide (v ≠ d k) && Store.wfFrom d (some k) r

/-- The canonical form. -/
def Store.wf {α : Type} [DecidableEq α] (d : Nat → α) (m : Store α) : Bool := Store.wfFrom d none m

/-- Write a run of keys from `x` up. -/
def Store.setRun {α : Type} [DecidableEq α] (d : Nat → α) (m : Store α) (x : Nat) : List α → Store α
  | [] => m
  | v :: r => Store.setRun d (Store.set d m x v) (x + 1) r

/-- The values of the `n` keys from `x` up. -/
def Store.getRun {α : Type} (d : Nat → α) (m : Store α) (x n : Nat) : List α :=
  (List.range n).map fun i => Store.get d m (x + i)

end Sys2Proof.Machine
end

