-- ==== Sys2Proof/Machine/State.lean ====
section
/-! DEFINITION. The machine's state as plain data: the register store, the table and frame-store bytes, and for
every block the state the specification gives it beside its registers; the reasons a step can stop; and the state
right after reset (R308: the device held in reset by nRESET). -/

namespace Sys2Proof.Machine

/-- No command of this model ends in a fault: an error of the device is an effect on the state (a refusal
status, a fault record, an event). The constructor is never raised (safe). -/
inductive Fault where
  | none
  deriving DecidableEq, Repr

/-- Why a command has no meaning. -/
inductive Refusal where
  /-- A command of the table not modelled yet; no meaning answers with it (safe). -/
  | notModelled (mnemonic : String)
  deriving DecidableEq, Repr

/-! ## Frames and what leaves the device -/

/-- A frame the device sends (R47): a completion or an event, with its header's LENGTH. -/
structure Frame where
  seat : Nat
  queue : Nat
  flags : Nat
  seq : Nat
  opcode : Nat
  status : Nat
  len : Nat
  payload : List Byte
  deriving DecidableEq, Repr

/-- What leaves the device at its boundary. -/
inductive Out where
  /-- An entry written to event queue Eq of a PCIe seat, at a ring index: the header and the first 32 bytes of the
  payload (R54). -/
  | eqEntry (seat q index : Nat) (f : Frame)
  /-- A reply buffer written in host memory: the bytes that fit (R53). -/
  | reply (seat queue : Nat) (f : Frame) (written : Nat)
  /-- A datagram to the bound peer of an Ethernet seat (R45, R55), with its CRC-32 trailer (R47); its IPv4 header has DF set and its UDP
  header a checksum, as R44 has them on every datagram sent. -/
  | datagram (seat : Nat) (ip : Word) (port : Nat) (f : Frame) (trailer : Word) (df checksum : Bool)
  /-- An ARP reply, an ARP request for the bound peer, and an ICMP echo reply, its DF set (R44). -/
  | arpReply (seat : Nat) (dst : Word)
  | arpRequest (seat : Nat) (target : Word)
  | echoReply (seat : Nat) (dst : Word) (data : List Byte) (df : Bool)
  /-- An MSI-X message: function and vector (R43). -/
  | msix (fn vector : Nat)
  /-- The answer to a PCIe configuration request: retry status, or the data (R311). -/
  | config (fn : Nat) (retry : Bool) (data : Word)
  /-- The completion of a PCIe memory read of BAR0 (R52): one word, or the words of a read of the MSI-X range; and of BAR2 (R107),
  poisoned or not. -/
  | mmioRead (fn addr : Nat) (data : List Word)
  | bar2Read (fn addr : Nat) (data : List Byte) (poisoned : Bool)
  /-- A line or an echoed character on SVC_TX (R387, R388). -/
  | line (text : String)
  | echo (b : Byte)
  /-- The latch of a course at a head port: the course, the latched codes, its leading and trailing edge in ps, and whether it is asserted
  with HPxx_LAT_P above HPxx_LAT_N (R180, R187, R190). -/
  | latch (port course : Nat) (codes : List Nat) (leadPs trailPs : Nat) (activeHigh : Bool)
  /-- A configuration block on HPxx_WV: its 40-bit control frames (R177, R188). -/
  | cfgBlock (port : Nat) (frames : List Nat)
  /-- The LD frames of a course: how many, where the last of them ends in ps, and for each lane in use its physical lane, whether it is
  inverted, and its bits, the first sent lowest (R176, R179). The frames that HPxx_WV sends meanwhile carry LD = 1. -/
  | codeLoad (port course frames endPs : Nat) (lanes : List (Nat × Bool × Nat))
  /-- The plays of a course on HPxx_WV (R177, R183 to R186): the start of slot 0 of channel A in ps, how many frames send each sample,
  the sample frames from there to the end of the last play, one for each sample, and the rest frame that follows. -/
  | play (port course startPs repeats : Nat) (frames : List Nat) (rest : Nat)
  /-- Rest frames on HPxx_WV from a frame boundary on: when a port becomes ready, and where a play is cut (R178, R196, R197). -/
  | rest (port atPs frame : Nat)
  /-- The lane clock of a port starts: HPxx_CK in MHz, inverted or not (R176, R196). -/
  | laneClock (port mhz : Nat) (inverted : Bool)
  /-- The link pins of a port take the unused-port state (R196, R443). -/
  | linkOff (port : Nat)
  /-- A sounding select frame on HPxx_WV (R207). -/
  | soundSelect (port frame : Nat)
  /-- Alignment frames on a port whose lane clock starts (R177, R196). -/
  | alignment (port : Nat) (frames : List Nat)
  /-- A slow output takes a level: its index p of R395 and the level, none for high impedance or released. -/
  | pin (p : Nat) (level : Option Bool)
  /-- An LVDS pair of a head port, 0 to 3 DL0 to DL3, 4 CK, 5 LAT, 6 WV, drives a static level in place of its frames: 1 parked +, 2 parked −,
  or 0 normal again (R392). -/
  | park (port pair code : Nat)
  /-- HPxx_ID is pulled low, or released (R393). -/
  | idLine (port : Nat) (low : Bool)
  /-- The channel whose sense pin drives the meter current of 100 µA, or none (R394). -/
  | meter (channel : Option Nat)
  /-- The quantity PLUMB outputs (R399, R400): SEL, ARG and LEVEL. -/
  | plumb (sel arg level : Nat)
  /-- An SSI clock on PSn_OUT (R149): its start, the clocks of period `cyc`, and how long after each rise a bit is sampled. -/
  | ssiClock (channel start cyc bits sdly : Nat)
  /-- An I²C transaction of a camera port (R238): SPEED, the 7-bit address, read or write, the register address and the value bytes as sent. -/
  | i2c (cam speed addr : Nat) (rd : Bool) (reg value : List Byte)
  /-- An edge of CAMn_TRIG (R237): the pin's level and the instant of the edge. -/
  | camTrig (cam : Nat) (level : Bool) (at_ : Nat)
  /-- A program or erase of the configuration flash: copy, offset and bytes (R343, R344), where `none` erases the copy; the opcode sent
for each page, or for each block of `unit` bytes from the header's on, after 0x06 and with 0x05 polled every 10 µs (R327). -/
  | flash (copy : Nat) (offset : Nat) (data : Option (List Byte)) (opcode unit : Nat)
  /-- A read of the flash: opcode, flash address, length and the clock in MHz (R327). -/
  | flashRead (opcode address length mhz : Nat)
  /-- The flash enters (0xB7) or leaves (0xE9) its 4-byte mode (R327). -/
  | flashMode (opcode : Nat)
  /-- A transaction on the identity line of a head: its command byte and the bytes sent (R364, R365). -/
  | ident (port command : Nat) (sent : List Byte)
  deriving DecidableEq, Repr

/-! ## Seats -/

/-- A command queue: ring indices, the expected sequence number and the last 16 original statuses by sequence number,
newest first (R48, R53). -/
structure CmdQ where
  head : Nat := 0
  tail : Nat := 0
  exp : Nat := 0
  hist : List (Nat × Nat) := []
  deriving DecidableEq, Repr

/-- An event queue: ring indices and the outgoing sequence number (R48, R54). -/
structure EvQ where
  head : Nat := 0
  tail : Nat := 0
  seq : Nat := 0
  deriving DecidableEq, Repr

/-- A seat (R42 to R60): its queues by q, the entries held for want of space in event queue q (oldest first; the
Bool is true for an event, false for a completion, which is never discarded: R55), whether EVENTS_LOST is owed, its link, the pending
GL_LOADED of R324, when its Ethernet link went down, the queue Q1 to Q3 served next, whether nPE_PERST holds its
endpoint, the instant of its last failing observation (R302), and the frames withheld by PT_CREDIT (R403), the base address
registers of a PCIe function by dword of its configuration space, and whether it is in D3hot (R42). -/
structure Seat where
  cq : Store CmdQ := []
  eq : Store EvQ := []
  held : List (Nat × Bool × Frame) := []
  lost : Bool := false
  up : Bool := false
  loaded : Option (Nat × Nat) := none
  downAt : Option Nat := none
  rr : Nat := 1
  perst : Bool := false
  lastBad : Option Nat := none
  withheld : List (List Byte) := []
  bars : Store Word := []
  d3 : Bool := false
  deriving DecidableEq, Repr

/-! ## The Keystone -/

/-- A staged field: its BAR0 offset, lowest bit, width and staged value (R63). -/
structure Staged where
  off : Nat
  lo : Nat
  width : Nat
  val : Nat
  deriving DecidableEq, Repr

/-- The block that requests an internal commit (R71, R58): its code in COMMIT_APPLIED, lowest served last. -/
inductive IntSrc where
  | registration
  | thermal
  | fault
  deriving DecidableEq, Repr

/-- What an internal commit does to the degrade mark (R316). -/
inductive MarkAct where
  | keep
  | degrade
  | back
  deriving DecidableEq, Repr

/-- An internal commit: who requests it, the fields it stages, the degrade mark's change, and whether it
carries an IN_RCTL.RESET (R262). -/
structure IntReq where
  src : IntSrc
  fields : List Staged
  mark : MarkAct
  reset : Bool
  deriving DecidableEq, Repr

/-- The states of a commit (R65). -/
inductive KState where
  | idle
  | checking
  | preparing
  | armed
  deriving DecidableEq, Repr

/-- Whom a commit answers: its frame, for the completion sent when it is armed or refused (R64). -/
abbrev Origin := CmdHdr

/-- A commit slot: its state, its record, who waits for the completion, when PREPARING began, its target course and
whether the trigger that carries its apply has been issued (R65, R66, R70). -/
structure KSlot where
  st : KState := .idle
  cmd : CommitRec := ⟨0, false, false, false, 0, 0⟩
  origin : Option Origin := none
  prepAt : Nat := 0
  target : Nat := 0
  carried : Bool := false
  deriving DecidableEq, Repr

/-- The Keystone's state for a bay (0 to 3) or for the device-wide sets (4): the staging and pending sets in the order
of their writes (R63), the host slot, the internal slot with the commit in it, and the internal requests that
wait (R264). -/
structure Ks where
  staging : List Staged := []
  pending : List Staged := []
  host : KSlot := {}
  int : KSlot := {}
  intReq : Option IntReq := none
  waiting : List IntReq := []
  deriving DecidableEq, Repr

/-- A snapshot buffer (R76, R77): whether it is taken, its latch point while pending (none: latched), and the latched
words by BAR0 offset. -/
structure Snap where
  taken : Bool := false
  pendingAt : Option Nat := none
  words : Store Word := []
  deriving DecidableEq, Repr

/-! ## Bays -/

/-- The bay modes (R34), encoded in GL_MODE as their position. -/
inductive Mode where
  | standby
  | prime
  | print
  | calibrate
  | degraded
  | hold
  deriving DecidableEq, Repr

/-- A course trigger message on its way (R18): its stamp on the time base, and the source of the stop it carries as HOLD
(R61): 0 Q0, 1 nSTOPn, 2 console, 3 host loss, 4 a halt (R298). -/
structure Trig where
  stamp : Nat
  hold : Option Nat
  deriving DecidableEq, Repr

/-- A pacer (R158 to R163): its active source, phases p and q in 2^-32 courses, mark m, cap and rate of the interpolator,
the instant q stands for, the intervals held (newest first), the stamp of the last event, the generator's next trigger, the
triggers issued and not yet processed (oldest first), the stop registered, the stamp of the last trigger, the instant from
which a pacer without triggers counts (R70), the stamps of the last 10 ms (newest first), the triggers a perturbation
delays (R405), and when the rate is next evaluated. -/
structure Pacer where
  src : Nat := 0
  p : Int := 0
  q : Int := 0
  m : Int := 0
  cap : Int := 0
  rate : Nat := 0
  qT : Nat := 0
  ivals : List Nat := []
  lastEv : Option Nat := none
  genNext : Nat := 0
  trigs : List Trig := []
  stop : Option Nat := none
  lastTrig : Option Nat := none
  quietFrom : Nat := 0
  recent : List Nat := []
  delayed : List Nat := []
  rateNext : Nat := 0
  deriving DecidableEq, Repr

/-- A bay (R19, R75, R93, R316): its course counter, generation, mode in force, degrade mark, raster number, whether the next course is
advancing as the last boundary saw it and the HOLDPOL it has (R70, R100), and pacer. -/
structure Bay where
  cc : Nat := 0
  gen : Nat := 0
  mode : Mode := .standby
  mark : Bool := false
  rn : Nat := 0
  adv : Bool := false
  pol : Bool := false
  pc : Pacer := {}
  deriving DecidableEq, Repr

/-! ## Head ports -/

/-- A slot of a course ring (R95): its raster, fill pointer, and the stamp of the acknowledgement that completed it. -/
structure RSlot where
  raster : Nat
  fill : Nat
  stamp : Option Nat
  deriving DecidableEq, Repr

/-- A feed frame (R89, R90): CDATA with its courses as pixel values, CFILL, FFLUSH, or a frame answered with a status
without effect. -/
inductive Feed where
  | cdata (raster count offset pixels format : Nat) (reserved value : Nat) (data : List Byte)
  | cfill (raster count offset pixels format : Nat) (reserved value : Nat) (len : Nat)
  | fflush (raster : Nat) (ok : Bool)
  | bad (opcode status : Nat)
  deriving DecidableEq, Repr

/-- A feed frame in its queue: its header, the frame, whether its sequence number has been taken, the next course of it
to execute and the disposition so far: accepted, LATE, AHEAD, GAP (R92). -/
structure FeedEnt where
  hdr : FeedHdr
  feed : Feed
  taken : Bool := false
  next : Nat := 0
  acc : Nat := 0
  late : Nat := 0
  ahead : Nat := 0
  gap : Nat := 0
  deriving DecidableEq, Repr

/-- What boundary n − 1 decided for course n of a head (R98): to skip (already consumed), to fire, to print blank before
the job start, or to print blank as late. -/
inductive DecKind where
  | skip
  | fire
  | early
  | late
  deriving DecidableEq, Repr

/-- A decision of R98: its course, its kind, the raster and the rasters to release unfired, and whether an uncorrectable
error was met at the read (R85), whether a late head of its bar blanks it (R102), and whether a table error does (R135). -/
structure Decision where
  course : Nat
  kind : DecKind
  raster : Nat
  drops : Nat
  ue : Bool
  barBlank : Bool := false
  tblErr : Bool := false
  deriving DecidableEq, Repr

/-- A head port's intake (R87 to R99): its feed queue (R48, ring indices), the frames waiting in it, the ring's slots by
index, u, the ring geometry in use (FORMAT, WIDTH, BASE, SLOTS), and the decision awaiting its boundary. -/
structure Intake where
  fq : CmdQ := {}
  frames : List FeedEnt := []
  slots : Store (Option RSlot) := []
  u : Nat := 0
  geo : Nat × Nat × Nat × Nat := (0, 4096, 0, 0)
  dec : Option Decision := none
  deriving DecidableEq, Repr

/-- A screening engine beside its registers and tables (R126, R115): the error-diffusion buffer as it stands, the one a
screened and not yet confirmed course leaves, the shift pair whose clamp has been reported, the head's active
density curves as bytes that differ from the identity curve, and whether a course of PRIME has come since the last advancing one (R319). -/
structure Engine where
  cur : List Int := []
  tent : Option (List Int) := none
  clamped : Option (Int × Int) := none
  curves : Store Byte := []
  primed : Bool := false
  deriving DecidableEq, Repr

/-! ## Position, compare and emulation -/

/-- A position channel beside its registers (R143 to R156): the position x and turning point e of R153, the stamp of the
last accepted edge of each input, the sub-window of R145 (its end, whether it is bad, the run of bad ones), the last valid
Hall state (0 none yet), the speed window (end and sum), the stall watch (since when, and whether it has fired), the SSI frame (next
start; start stamp and idle level of the one under way; last word), the instant of the last failing observation, the cycle since
which the filter has seen each input at its present level (R143), the cycle of the last increment with the sum of its increments (R152),
and the level of PSn_OUT (none for high impedance, R141, R156). -/
structure PsChan where
  x : Int := 0
  e : Int := 0
  edgeAt : Store (Option Nat) := []
  subEnd : Nat := 2000
  subBad : Bool := false
  badRun : Nat := 0
  hallLast : Nat := 0
  spdEnd : Nat := 0
  spdSum : Int := 0
  stallFrom : Nat := 0
  stalled : Bool := false
  ssiNext : Nat := 0
  ssi : Option (Nat × Bool) := none
  ssiPrev : Option Nat := none
  lastBad : Option Nat := none
  rawFrom : Store Nat := []
  cyc : Nat × Int := (0, 0)
  out : Option Bool := none
  deriving DecidableEq, Repr

/-- A compare engine beside its registers (R166): whether it runs, the armed entry's index, lap, target, width and mask, whether
CP_LATE has been raised in this run, and the ends of its pulses by output. -/
structure CpEngine where
  run : Bool := false
  idx : Nat := 0
  lap : Nat := 0
  target : Nat := 0
  width : Nat := 0
  mask : Nat := 0
  lateSaid : Bool := false
  pulses : Store (Option Nat) := []
  deriving DecidableEq, Repr

/-- An emulation output (R168, R169): remainder a, backlog k, the instant of the last output edge, the levels of A, B and Z,
when a running step pulse and a running Z pulse end, and whether the next count raises Z. -/
structure Emul where
  a : Int := 0
  k : Int := 0
  edgeAt : Nat := 0
  lvA : Bool := false
  lvB : Bool := false
  lvZ : Bool := false
  pulseEnd : Option Nat := none
  zEnd : Option Nat := none
  zNext : Bool := false
  deriving DecidableEq, Repr

/-! ## Firing and sounding -/

/-- A sounding slot that a course may take (R204, R205, R226): the candidate (none: the nozzle that learning is at), the first course of
its window, whether that serves the sweep, whether its failure counts as missed at once since its window has closed, the stimulus
window and settling time of the course, and its SN registers (R21). -/
structure SoundP where
  cand : Option Nat
  first : Nat
  sweep : Bool
  owes : Bool
  swin : Nat
  settle : Nat
  regs : Store Word
  deriving DecidableEq, Repr

/-- What the latch of a course fixes (R187, R190, R199; times in ps of the time base): the computed instant, the
deferral, the two edges and the active level, and the profile its plays use: frame and sample times, slots per course and their spacing,
the second channel and its offset, rotation, the bank, the waveforms, the amplitudes, the rest levels, whether HPxx_WV is inverted, and
the sounding slot. -/
structure LatchP where
  nom : Nat
  defer : Nat
  lead : Nat
  trail : Nat
  high : Bool
  tf : Nat
  ts : Nat
  spc : Nat
  gstep : Nat
  boff : Nat
  nch : Bool
  rot : Bool
  bank : Nat
  wa : Nat
  wb : Nat
  ampA : Int
  ampB : Int
  restA : Int
  restB : Int
  wvInv : Bool
  sound : Option SoundP
  deriving DecidableEq, Repr

/-- A course at a port between its screening and the trailing edge of its latch: its number, codes, frame time,
frames of its load and the lanes that carry them, the instant its load starts, whether the port was ready then, where the load ended, its
latch once decided, whether the leading edge has gone out, and whether it was known at boundary N − 1 to print blank (R192). -/
structure Job where
  course : Nat
  codes : List Nat
  tf : Nat
  frames : Nat
  lanes : List (Nat × Bool × Nat)
  start : Nat
  ready : Bool
  lend : Option Nat := none
  latch : Option LatchP := none
  led : Bool := false
  blank : Bool := false
  deriving DecidableEq, Repr

/-- A head port beside its registers (R175 to R199): the courses on their way (oldest first), the origin of the frame grid, the
computed latch instant of the last latched course, the last trailing edge or blank decision, when READY is due, the
power-down step under way with its instant and cause, when PEN last rose, whether PEN waits for its island and the cause, when
the configuration block was last sent and whether a repeat is due, and whether the last course's load ended late. -/
structure HPort where
  jobs : List Job := []
  grid : Nat := 0
  last : Option Nat := none
  trail : Nat := 0
  settleAt : Option Nat := none
  downAt : Option (Nat × Nat × Nat) := none
  penAt : Option Nat := none
  penWait : Option Nat := none
  cfgSent : Nat := 0
  cfgDue : Bool := false
  late : Bool := false
  deriving DecidableEq, Repr

/-- A capture under way (R209): the course, the nozzle, when its last sample is taken (ps), whether learning asked for it, and the SN
registers of the course (R21). -/
structure Capture where
  course : Nat
  nozzle : Nat
  endPs : Nat
  learning : Bool
  regs : Store Word
  deriving DecidableEq, Repr

/-- A sounding window (R205): its first course, E and PRIO at its opening, its candidate, whether it serves the sweep, and
whether the candidate has been sounded. -/
structure Window where
  first : Nat
  every : Nat
  prio : Nat
  cand : Nat
  sweep : Bool
  done : Bool
  deriving DecidableEq, Repr

/-- Learning (R226): the nozzle, its captures as (f, a1, r), whether one was OPEN, and the nozzles learned and failed so far. -/
structure Learn where
  noz : Nat
  got : List (Nat × Nat × Nat)
  opn : Bool
  learned : Nat
  failed : Nat
  deriving DecidableEq, Repr

/-- Sounding of a port beside its registers and tables (R204 to R227): the open window, the capture under way, the run of discarded
captures, when the running sweep began, learning, and the suspect list (oldest first). -/
structure Snd where
  win : Option Window := none
  capt : Option Capture := none
  aborts : Nat := 0
  sweepAt : Option Nat := none
  learn : Option Learn := none
  suspects : List Nat := []
  deriving DecidableEq, Repr

/-! ## Inspection -/

/-- The sensor-matched set of a port (R239). -/
structure SensorSet where
  exp : Nat := 0
  gain : Nat := 0
  ngain : Nat := 0x1000
  blk0 : Nat := 0x01000100
  blk1 : Nat := 0x01000100
  deriving DecidableEq, Repr

/-- An I²C transaction (R238): whether the host asked for it, read or write, the register, and the value bytes as a number. -/
structure I2cTxn where
  host : Bool
  rd : Bool
  reg : Nat
  bytes : Nat
  data : Nat
  deriving DecidableEq, Repr

/-- A camera frame from its FS to the end of its statistics (R234 to R246): its numbers, FLAGS, tag and stamps, whether it has
closed, the rows kept (in the FIFO or already processed, oldest first), the rows received, the rows processed, the CM, IP and IN
registers at its FS (R252), the sensor set in force, whether registration could act at FS and at close (R263), KS_GEN and PT_ACTIVE
at close, whether the port was fenced while it was captured, whether a row has found no FIFO space, and the job slots that chose it. -/
structure CamFrame where
  fn : Nat
  sensorFn : Nat
  flags : Nat
  tag : Nat
  tbFs : Nat
  at_ : Nat
  regs : Store Word
  set : SensorSet
  modeFs : Bool
  fenced : Bool
  closed : Bool := false
  rows : List (List Nat) := []
  recv : Nat := 0
  done : Nat := 0
  tbClose : Nat := 0
  modeClose : Bool := false
  genClose : Nat := 0
  ptClose : Nat := 0
  overrun : Bool := false
  jobs : List Nat := []
  deriving DecidableEq, Repr

/-- What a nozzle-check job keeps of its frame (R254, R259): FLAGS, whether the port was fenced, the tag, and the Y values by rows. -/
structure NcPic where
  flags : Nat
  fenced : Bool
  tag : Nat
  width : Nat
  rows : List (List Nat)
  deriving DecidableEq, Repr

/-- A camera port beside its registers: the number of the next frame, its frames (oldest first), the end of the running
trigger pulse, the course the last pulse recorded, whether a pulse has started since the last FS, when MODE 3 is next due, from when
FS is watched (R258), the sensor set wanted, the rest of the running sequence with its set, frame, latency, row deadline and whether that has passed, the transaction under way and as it was sent,
whether the host waits for its own, the set in force and those to come by frame number, the frames that get UNSURE (from one on, single
ones, before one, and while no sequence has completed since the island woke), the next slot and frame count of the ring, the
stall asked for and the one running (R404), and the frames kept for jobs, and when an unflagged frame last closed. -/
structure Cam where
  next : Nat := 0
  frames : List CamFrame := []
  pulseEnd : Option Nat := none
  pulseTag : Option Nat := none
  pulsed : Bool := false
  trigNext : Option Nat := none
  watch : Option Nat := none
  want : Bool := false
  seq : List I2cTxn := []
  seqRun : Bool := false
  seqSet : SensorSet := {}
  seqFrame : Nat := 0
  seqLat : Nat := 0
  seqWrow : Nat := 0
  seqLate : Bool := false
  txn : Option I2cTxn := none
  sent : List Out := []
  hostWaits : Bool := false
  inForce : SensorSet := {}
  future : List (Nat × SensorSet) := []
  unsureFrom : Option Nat := none
  unsureAt : List Nat := []
  unsureBefore : Option Nat := none
  woke : Bool := false
  slot : Nat := 0
  count : Nat := 0
  stallFor : Nat := 0
  stallTill : Option Nat := none
  pics : Store (Option NcPic) := []
  lastGood : Option Nat := none
  deriving DecidableEq, Repr

/-- The tile the pipeline processes (R243): its port, rows, and when it ends. -/
structure Tile where
  port : Nat
  rows : Nat
  till : Nat
  deriving DecidableEq, Repr


/-! ## Thermal management -/

/-- A temperature channel beside its registers (R274 to R279): when it falls due, its last conversion, whether that was in
range, the counters of the cross-check, and the instant of its last failing observation. -/
structure TherCh where
  due : Option Nat := none
  last : Option Nat := none
  inRange : Bool := false
  bad : Nat := 0
  good : Nat := 0
  lastBad : Option Nat := none
  deriving DecidableEq, Repr

/-- What a bay's thermal commit in flight does (R283, R316). -/
inductive ThrReq where
  | enforce
  | release
  | redegrade
  deriving DecidableEq, Repr

/-- The throttle sequence of a bay beside its registers (R282, R283): the end of the grace time, the commit requested with the
ports it enforces, the ports enforced, and the lowest throttling channel at the request. -/
structure Throttle where
  graceEnd : Option Nat := none
  busy : Option ThrReq := none
  asked : List Nat := []
  ports : List Nat := []
  first : Nat := 0
  deriving DecidableEq, Repr

/-! ## Start-up and the image -/

/-- Where the device stands between nRESET and its bay modes (R309, R310, R323, R313). -/
inductive Phase where
  | inReset
  | counting
  | otpCheck
  | pllWait
  | sramClear
  | loadHeaders
  | loadBody
  | loadTrain
  | loadApply
  | running
  | reloadWait
  | isSealed
  deriving DecidableEq, Repr

/-- What LOAD keeps of an image copy (R345): header state (0 valid, 1 erased, 2 invalid), reason code, VERSION, GEN and
BODYLEN, and its header bytes. -/
structure CopyInfo where
  state : Nat := 2
  reason : Nat := 0xFF
  version : Nat := 0
  gen : Nat := 0
  bodyLen : Nat := 0
  header : List Byte := []
  deriving DecidableEq, Repr

/-- An IMGSTAGE operation under way on the flash (R343). -/
structure FlashOp where
  origin : Origin
  op : Nat
  copy : Nat
  offset : Nat
  deriving DecidableEq, Repr

/-- Start-up state: the phase, the levels of nRESET, of the position inputs (before inversion, bit k the pin k) and of the AON power-on
reset, SERVICE, the SEALED code and word
(R314, R315), warm reload and its SEL, an IMGRELOAD waiting for an IMGSTAGE (R347), the image copies, the copy in
use (0 A, 1 B, 2 defaults), the copy being read and those tried, the density in MiB and what SFDP lists, IDENT in force, the registers, tables and IDENT
that the copy read is to put in force at the completion of LOAD (R311), the channels trained and CAP in MiB (R83), the header buffers,
the flash operation, faults to latch at the completion of LOAD (R358, R416), and instants. -/
structure Boot where
  phase : Phase := .inReset
  nReset : Bool := false
  pins : Store Nat := []
  por : Bool := false
  service : Bool := false
  sealedCode : Nat := 0
  sealedWord : Nat := 0xFFFF
  warm : Bool := false
  sel : Nat := 0
  reloadWaits : Option (Option Origin × Nat) := none
  copyA : CopyInfo := {}
  copyB : CopyInfo := {}
  inUse : Nat := 2
  reading : Nat := 2
  tried : List Nat := []
  density : Option Nat := none
  caps : FlashCaps := {}
  ident : Nat × Nat := (0x1E3D, 0)
  imgRegs : Store Word := []
  imgTbl : Store Byte := []
  imgIdent : Nat × Nat := (0x1E3D, 0)
  trained : Nat := 0
  capMib : Nat := 0
  bufA : Store Byte := []
  bufB : Store Byte := []
  flashOp : Option FlashOp := none
  loadFaults : List FaultSig := []
  loadTb : Nat := 0
  loadDone : Nat := 0
  reloadAt : Nat := 0
  powerAt : Nat := 0
  lineAt : Nat := 0
  deriving DecidableEq, Repr

/-! ## Faults -/

/-- The fault collector beside its registers: error signals on their way (oldest first), when each record's quiet timer
and lockout window started, the units each record fences, the results of their tests in the running period with their instants, the units whose last test failed, the
end of the running nERR pulse, and for each bay the
instant at which a degrade or return request is to be repeated (R298). -/
structure Fc where
  sigs : List FaultSig := []
  quietAt : Store (Option Nat) := []
  windowAt : Store (Option Nat) := []
  units : Store (List FUnit) := []
  tests : Store (List (FUnit × Bool × Nat)) := []
  scFail : Store (List FUnit) := []
  pulseEnd : Option Nat := none
  retryAt : Store (Option Nat) := []
  deriving DecidableEq, Repr

/-! ## OTP, trust, wear -/

/-- A word of OTP as its two margin references read it (R349, R355). -/
structure OtpCell where
  strict : BitVec 39
  lenient : BitVec 39
  deriving DecidableEq, Repr

/-- A word of the on-die shadow (R355, R356). -/
structure ShadowWord where
  data : Word := 0
  blank : Bool := true
  ue : Bool := false
  marginal : Bool := false
  corr : Bool := false
  deriving DecidableEq, Repr

/-- A programming request (R359): the requester (0 console, 1 ADVANCE, 2 fault collector), the words still to program
with their data, and who waits for its completion. -/
structure OtpReq where
  src : Nat
  words : List (Nat × Word)
  origin : Option Origin
  deriving DecidableEq, Repr

/-- OTP beside its registers: the shadow, whether the check has filled it, the requests in order of arrival, the master
key of R362, the active owner record with its secret's presence, and the words whose programming did not verify (R349, R359). -/
structure Ot where
  shadow : Store ShadowWord := []
  queue : List OtpReq := []
  km : Option (List Byte) := none
  active : Option Nat := none
  tried : List Nat := []
  deriving DecidableEq, Repr

/-- The trust engine's state of a port beside its registers (R367): whether the last poll found the head, and when the next poll is due. -/
structure TrHead where
  present : Bool := false
  pollAt : Nat := 0
  deriving DecidableEq, Repr

/-- The wear block beside its registers: the nozzle actuation counters of the SRAM (key 4,096 xx + n), the running
checkpoint's cause and start, when the last one started and completed, when the next periodic one is due, a head's last
write-back, the values the tally store's nozzle entries hold and the entries whose counter has changed since they were last
written, the serials of the port records, whether a checkpoint has served the present orderly condition, the drops of the running hour per head, the usability changes of each
of the last 24 hours per head (newest first) with the running hour's. -/
structure Wear where
  cnt : Store Nat := []
  tally : Store Nat := []
  changed : Store Bool := []
  serial : Store Nat := []
  ckpt : Option (Nat × Nat) := none
  lastStart : Option Nat := none
  nextPeriodic : Nat := 0
  wbAt : Store Nat := []
  wbRun : Store Bool := []
  orderlyHeld : Bool := false
  hourDrops : Store Nat := []
  churnHour : Store Nat := []
  churn : Store (List Nat) := []
  nextTrend : Nat := 0
  deriving DecidableEq, Repr

/-- A port record of the tally store (R378): serial, head count, last written-back count and rate. -/
structure TallyPort where
  serial : Nat := 0
  count : Nat := 0
  wb : Nat := 0
  rate : Nat := 0
  est : Bool := false
  deriving DecidableEq, Repr

/-- What survives every reset: the OTP words, the tally store's nozzle counters, port records, trend samples (newest
first, by head: 2 xx churn, 2 xx + 1 drift, 68 + xx head count; 64 ring oscillators, 65 LPDDR5X, 66 PCIe, 67 Ethernet) and hours. -/
structure Nv where
  otp : Store OtpCell := []
  cnt : Store Nat := []
  port : Store TallyPort := []
  trend : Store (List Int) := []
  hours : Nat := 0
  deriving DecidableEq, Repr

/-! ## The service console -/

/-- A self-test that runs (R390, R391): its number and argument, the sub-tests of ALL still to run, and the result
once it is known (passed, detail). -/
structure SvTest where
  test : Nat
  arg : Nat
  todo : List (Nat × Nat) := []
  result : Option (Bool × Nat) := none
  deriving DecidableEq, Repr

/-- What a console command that has not ended waits for (R388). -/
inductive ConWait where
  | test
  | otp
  | frame
  deriving DecidableEq, Repr

/-- The console: the characters of the line being received, whether it is too long, whether the line that ended was and is discarded (R387),
the command that runs, the SHOW watch with the instant and the text of its last line (R389), and the self-test (R390). -/
structure Con where
  line : List Byte := []
  overlong : Bool := false
  dropped : Bool := false
  lastCr : Bool := false
  wait : Option ConWait := none
  watch : Option (Nat × Nat) := none
  watchAt : Nat := 0
  watchText : String := ""
  test : Option SvTest := none
  deriving DecidableEq, Repr

/-! ## The state -/

/-- The device but for what survives every reset and for the commands that wait: the register store, table bytes and
frame-store bytes by BAR0 address and frame-store address, the MSI-X tables by function, the instant in CK_POS cycles
and that at which the time base started (R17), and the state of every block. `latch` holds the high words latched by
low-word reads, by accessor and offset (R5); `out` what left the device, newest first; `free` counts the free values
taken. `fsLost` holds the ranges of the frame store
whose bytes a memory test left open, newest first (R391). -/
structure Dev where
  regs : Store Word := []
  tbl : Store Byte := []
  fs : Store Byte := []
  msix : Store Word := []
  now : Nat := 0
  tbStart : Option Nat := none
  latch : Store (Option Word) := []
  out : List Out := []
  free : Nat := 0
  gradeE : Bool := false
  boot : Boot := {}
  seats : Store Seat := []
  ks : Store Ks := []
  snaps : Store Snap := []
  bays : Store Bay := []
  nstop : Store (Option (Option Nat)) := []
  fc : Fc := {}
  ot : Ot := {}
  tr : Store TrHead := []
  wear : Wear := {}
  con : Con := {}
  intake : Store Intake := []
  fsBad : Store Bool := []
  fsLost : List (Nat × Nat × Nat) := []
  engines : Store Engine := []
  cvBank : Store (Option (Store Byte)) := []
  ps : Store PsChan := []
  cpe : Store CpEngine := []
  cmpT : Store Bool := []
  ems : Store Emul := []
  hps : Store HPort := []
  osRun : Store Bool := []
  snd : Store Snd := []
  isl : Store (Option Nat) := []
  tch : Store TherCh := []
  thr : Store Throttle := []
  tSlot : Option Nat := none
  cams : Store Cam := []
  tile : Option Tile := none
  lastServed : Nat := 3
  regTgt : Store (Option Nat) := []
  deriving DecidableEq, Repr

/-- The whole state: the device, what survives every reset, and the commands that wait, first in, first out. -/
structure State where
  dev : Dev := {}
  nv : Nv := {}
  pending : List Instr := []
  deriving DecidableEq, Repr

/-- Right after reset: nRESET low (R308), every register at its reset value, every store empty, no command waiting. -/
def State.reset : State := { dev := {}, nv := {}, pending := [] }

end Sys2Proof.Machine
end

