-- ==== Sys2Proof/Machine/Flags.lean ====
section
/-! DEFINITION. Codes and flags: status codes (R51), refusal reasons of the Keystone (R69), event codes of the blocks
(R57), fault sources (R291), the flag bits of a frame header (R47), and the reason codes of the image (R331). -/

namespace Sys2Proof.Machine

/-- The status codes of R51. -/
inductive Status where
  | ok | refusedBay | refusedSteward | refusedAccess | badFrame | badVersion | badOpcode | wrongQueue
  | sequence | duplicate | commitRefused | busy | truncated | mode
  deriving DecidableEq, Repr

/-- Their values (R51). -/
def Status.code : Status → Nat
  | .ok => 0 | .refusedBay => 1 | .refusedSteward => 2 | .refusedAccess => 3 | .badFrame => 4 | .badVersion => 5
  | .badOpcode => 6 | .wrongQueue => 7 | .sequence => 8 | .duplicate => 9 | .commitRefused => 10 | .busy => 11
  | .truncated => 12 | .mode => 13

/-- Whether a status is a refused access counted in HS_ERRCNT.REFUSED (R81). -/
def Status.isRefusal : Status → Bool
  | .refusedBay | .refusedSteward | .refusedAccess => true
  | _ => false

/-- The reason codes of a refused or ended commit (R69). -/
inductive Reason where
  | tooLate | stale | busy | bandwidth | pipeline | courseRate | allocation | topology | mode | prepareTimeout
  | tooFar | value | absent | cancelled | fault
  deriving DecidableEq, Repr

/-- Their values (R69). -/
def Reason.code : Reason → Nat
  | .tooLate => 1 | .stale => 2 | .busy => 3 | .bandwidth => 4 | .pipeline => 5 | .courseRate => 6 | .allocation => 7
  | .topology => 8 | .mode => 9 | .prepareTimeout => 10 | .tooFar => 11 | .value => 12 | .absent => 13
  | .cancelled => 14 | .fault => 15

/-- A mode's value in GL_MODE (R38). -/
def Mode.code : Mode → Nat
  | .standby => 0 | .prime => 1 | .print => 2 | .calibrate => 3 | .degraded => 4 | .hold => 5

/-- The mode a KS_BAYCTL.MODE value requests (R79). -/
def Mode.ofCode : Nat → Mode
  | 1 => .prime | 2 => .print | 3 => .calibrate | 4 => .degraded | 5 => .hold | _ => .standby

/-- A commit state's value in KS_STATUS.STATE (R65). -/
def KState.code : KState → Nat
  | .idle => 0 | .checking => 1 | .preparing => 2 | .armed => 3

/-- The fault sources of R291 by name. -/
def srcMqParity := 0
def srcSramCe := 1
def srcSramUe := 2
def srcFsCe := 3
def srcFsUe := 4
def srcFsTrain := 5
def srcPllLock := 6
def srcSupply := 7
def srcSeatLoss := 8
def srcSeatErr := 9
def srcKsTimeout := 10
def srcEvtLost := 11
def srcPsChatter := 16
def srcPsInput := 17
def srcPsStall := 18
def srcHpOverspeed := 24
def srcHpLink := 25
def srcScOverrun := 26
def srcHpTrust := 27
def srcNozzleLoss := 32
def srcSnSense := 33
def srcCamPort := 40
def srcCamI2c := 41
def srcCamOvf := 42
def srcTmSensor := 48
def srcTmShut := 49
def srcTmDie := 50
def srcOtpMargin := 56
def srcOtpProg := 57
def srcTally := 58
def srcImgCopy := 59
def srcImgDefault := 60

end Sys2Proof.Machine
end

