-- ==== Sys2Proof/Machine/Ops.lean ====
section
/-! DEFINITION. The named operations over the state that every block uses: register fields, time, ownership of
resources, the units of the state by number, frames and events on their way to a seat, and error signals. -/

namespace Sys2Proof.Machine

/-! ## Registers -/

/-- The word of the register store at a BAR0 offset. -/
def Dev.word (d : Dev) (o : Nat) : Word := Store.get regDflt d.regs o

/-- What GL_ID reads on this part (R2). -/
def glId : Word := 0x32001001

/-- The device with the word at an offset replaced. -/
def Dev.setWord (d : Dev) (o : Nat) (w : Word) : Dev := { d with regs := Store.set regDflt d.regs o w }

/-- The word of a register instance. -/
def Dev.reg (d : Dev) (r : RegName) (i : Nat := 0) (j : Nat := 0) : Word := d.word (r.off i j)

/-- The value of a field of a register instance. -/
def Dev.fld (d : Dev) (f : Fld) (i : Nat := 0) (j : Nat := 0) : Nat := wget (d.word (f.reg.off i j)) f.lo f.width

/-- Write a field of a register instance. -/
def Dev.setFld (d : Dev) (f : Fld) (i j v : Nat) : Dev :=
  d.setWord (f.reg.off i j) (wput (d.word (f.reg.off i j)) f.lo f.width v)

/-- Add to a saturating counter field. -/
def Dev.bump (d : Dev) (f : Fld) (i j : Nat) (n : Nat := 1) : Dev :=
  d.setFld f i j (min (d.fld f i j + n) (2 ^ f.width - 1))

/-- Whether a one-bit field reads 1. -/
def Dev.on (d : Dev) (f : Fld) (i : Nat := 0) (j : Nat := 0) : Bool := d.fld f i j == 1

/-- Set or clear a one-bit field. -/
def Dev.setOn (d : Dev) (f : Fld) (i j : Nat) (b : Bool) : Dev := d.setFld f i j (if b then 1 else 0)

/-- Bit `n` of a field. -/
def Dev.fbit (d : Dev) (f : Fld) (i j n : Nat) : Bool := d.fld f i j / 2 ^ n % 2 == 1

/-- Set or clear bit `n` of a field. -/
def Dev.setFbit (d : Dev) (f : Fld) (i j n : Nat) (b : Bool) : Dev :=
  let v := d.fld f i j
  let had := v / 2 ^ n % 2
  d.setFld f i j (v - had * 2 ^ n + (if b then 2 ^ n else 0))

/-- Write a 64-bit or 48-bit value into a low and high field pair. -/
def Dev.setPair (d : Dev) (lo hi : Fld) (i j v : Nat) : Dev :=
  (d.setFld lo i j (v % 2 ^ 32)).setFld hi i j (v / 2 ^ 32)

/-- The value of a low and high field pair. -/
def Dev.pair (d : Dev) (lo hi : Fld) (i : Nat := 0) (j : Nat := 0) : Nat := d.fld lo i j + 2 ^ 32 * d.fld hi i j

/-- A field of width `w` read as a two's complement number. -/
def sgn (w v : Nat) : Int := if v < 2 ^ (w - 1) then (v : Int) else (v : Int) - (2 ^ w : Nat)

/-- The two's complement encoding of a number in `w` bits. -/
def enc (w : Nat) (v : Int) : Nat := (v % ((2 ^ w : Nat) : Int)).toNat

/-- The signed value of a field. -/
def Dev.sfld (d : Dev) (f : Fld) (i : Nat := 0) (j : Nat := 0) : Int := sgn f.width (d.fld f i j)

/-- A value held between two bounds. -/
def clampInt (lo hi v : Int) : Int := if v < lo then lo else if hi < v then hi else v

/-- Apply a function for every number below `n`, in rising order. -/
def forN {α : Type} (n : Nat) (f : Nat → α → α) (a : α) : α := (List.range n).foldl (fun acc i => f i acc) a

/-! ## Time (R17): instants are CK_POS cycles of 5 ns -/

/-- Cycles of CK_POS in microseconds, milliseconds and seconds. -/
def us (n : Nat) : Nat := 200 * n
def ms (n : Nat) : Nat := 200000 * n
def sec (n : Nat) : Nat := 200000000 * n

/-- The time base: CK_POS cycles since it started (R17). -/
def Dev.tb (d : Dev) : Nat := match d.tbStart with | none => 0 | some t => d.now - t

/-- Course numbers are 48 bits (R19, R20). -/
def M48 : Nat := 2 ^ 48
def add48 (a b : Nat) : Nat := (a + b) % M48
def sub48 (a b : Nat) : Nat := (a + M48 - b % M48) % M48
/-- R20: `a` lies after `b`. -/
def after48 (a b : Nat) : Bool := let x := sub48 a b; 1 ≤ x && x < 2 ^ 47
/-- R20: `a` lies before `b`. -/
def before48 (a b : Nat) : Bool := decide (2 ^ 47 ≤ sub48 a b)

/-! ## Bytes (R4) -/

/-- The `k` little-endian bytes of a number. -/
def le (k n : Nat) : List Byte := (List.range k).map fun i => BitVec.ofNat 8 (n / 2 ^ (8 * i))

/-- The number little-endian bytes spell. -/
def ofLe : List Byte → Nat
  | [] => 0
  | b :: r => b.toNat + 256 * ofLe r

/-- The number big-endian bytes spell. -/
def ofBe (bs : List Byte) : Nat := bs.foldl (fun n b => n * 256 + b.toNat) 0

/-- The words of a byte string, little-endian. -/
def leWords (bs : List Byte) : List Word :=
  (List.range (bs.length / 4)).map fun i => BitVec.ofNat 32 (ofLe ((bs.drop (4 * i)).take 4))

/-- The bytes of words, little-endian. -/
def wordBytes (ws : List Word) : List Byte := ws.flatMap fun w => le 4 w.toNat

/-! ## The numbered units of the state -/

def Dev.seat (d : Dev) (s : Nat) : Seat := Store.get (fun _ => {}) d.seats s
def Dev.setSeat (d : Dev) (s : Nat) (x : Seat) : Dev := { d with seats := Store.set (fun _ => {}) d.seats s x }
def Seat.cmdq (x : Seat) (q : Nat) : CmdQ := Store.get (fun _ => {}) x.cq q
def Seat.setCmdq (x : Seat) (q : Nat) (c : CmdQ) : Seat := { x with cq := Store.set (fun _ => {}) x.cq q c }
def Seat.evq (x : Seat) (q : Nat) : EvQ := Store.get (fun _ => {}) x.eq q
def Seat.setEvq (x : Seat) (q : Nat) (e : EvQ) : Seat := { x with eq := Store.set (fun _ => {}) x.eq q e }
def Dev.bay (d : Dev) (b : Nat) : Bay := Store.get (fun _ => {}) d.bays b
def Dev.setBay (d : Dev) (b : Nat) (x : Bay) : Dev := { d with bays := Store.set (fun _ => {}) d.bays b x }
def Dev.kset (d : Dev) (b : Nat) : Ks := Store.get (fun _ => {}) d.ks b
def Dev.setKset (d : Dev) (b : Nat) (x : Ks) : Dev := { d with ks := Store.set (fun _ => {}) d.ks b x }
def Dev.snap (d : Dev) (b k : Nat) : Snap := Store.get (fun _ => {}) d.snaps (2 * b + k)
def Dev.setSnap (d : Dev) (b k : Nat) (x : Snap) : Dev := { d with snaps := Store.set (fun _ => {}) d.snaps (2 * b + k) x }
def Dev.itk (d : Dev) (xx : Nat) : Intake := Store.get (fun _ => {}) d.intake xx
def Dev.setItk (d : Dev) (xx : Nat) (x : Intake) : Dev := { d with intake := Store.set (fun _ => {}) d.intake xx x }

/-- Something leaves the device. -/
def Dev.emit (d : Dev) (o : Out) : Dev := { d with out := o :: d.out }

/-- The index of the next free value: every free value of a run is taken once. -/
def Dev.nextFree (d : Dev) : Dev := { d with free := d.free + 1 }

/-! ## Modes, bays and resources (R23 to R28, R34) -/

/-- The device serves its seats: LOAD has completed, in bay modes or in SERVICE, and no reload has begun. -/
def Dev.running (d : Dev) : Bool := d.boot.phase == .running || d.boot.phase == .reloadWait

/-- The bay modes are in force (GL_MODE.DEV = 0b10). -/
def Dev.bayModes (d : Dev) : Bool := d.running && !d.boot.service

/-- The device is in SERVICE. -/
def Dev.inService (d : Dev) : Bool := d.running && d.boot.service

/-- LOAD is under way (GL_MODE.DEV = 0b00 after the start-up). -/
def Dev.inLoad (d : Dev) : Bool :=
  match d.boot.phase with
  | .loadHeaders | .loadBody | .loadTrain | .loadApply => true
  | _ => false

/-- The first bay whose bit `n` is set in a field of its GL registers (R24). -/
def Dev.ownerOf (d : Dev) (f : Fld) (n : Nat) : Option Nat := (List.range 4).find? fun b => d.fbit f b 0 n
def Dev.portBay (d : Dev) (xx : Nat) : Option Nat := if xx < 32 then d.ownerOf .GL_BAYPORT_HP xx else none
def Dev.psBay (d : Dev) (n : Nat) : Option Nat := if n < 8 then d.ownerOf .GL_BAYRES_PS n else none
def Dev.camBay (d : Dev) (n : Nat) : Option Nat := if n < 4 then d.ownerOf .GL_BAYRES_CAM n else none
def Dev.cpeBay (d : Dev) (e : Nat) : Option Nat := if e < 8 then d.ownerOf .GL_BAYRES_CPE e else none
def Dev.emBay (d : Dev) (n : Nat) : Option Nat := if n < 4 then d.ownerOf .GL_BAYRES_EM n else none
def Dev.cmpBay (d : Dev) (o : Nat) : Option Nat := if o < 16 then d.ownerOf .GL_BAYCMP_CMP o else none

/-- R25: a bay is present when a head port, position channel or camera port is assigned to it. -/
def Dev.present (d : Dev) (b : Nat) : Bool :=
  b < 4 && (d.fld .GL_BAYPORT_HP b != 0 || d.fld .GL_BAYRES_PS b != 0 || d.fld .GL_BAYRES_CAM b != 0)

/-- The present bays, in rising order. -/
def Dev.presentBays (d : Dev) : List Nat := (List.range 4).filter d.present

/-- The head ports of a bay, in rising order. -/
def Dev.portsOf (d : Dev) (b : Nat) : List Nat := (List.range 32).filter fun xx => d.portBay xx == some b

/-- The steward's seat (R28). -/
def Dev.steward (d : Dev) : Nat := d.fld .GL_STEWARD_SEAT

/-- GL_MODE's field of a bay (R38): its mode in force, 0b110 absent, 0b111 without bay modes. -/
def Dev.modeCode (d : Dev) (b : Nat) : Nat :=
  if d.bayModes then (if d.present b then (d.bay b).mode.code else 6) else 7

/-- GL_MODE.DEV (R38). -/
def Dev.devCode (d : Dev) : Nat := if d.bayModes then 2 else if d.inService then 1 else 0

/-- Whether a mode is one in which courses advance (R93), HOLD by HOLDPOL. -/
def Mode.advancing (m : Mode) (holdpol : Bool) : Bool :=
  match m with
  | .print | .degraded | .calibrate => true
  | .hold => holdpol
  | _ => false

/-! ## MSI-X (R42, R43) -/

/-- What an unlisted dword of a function's MSI-X range reads as: vectors masked, nothing pending (PRESUMED, log 6). -/
def msixDflt (k : Nat) : Word := if k % 65536 < 1024 && k % 16 == 12 then 1 else 0

/-- A vector fires: a message, or its pending bit while the vector is masked. -/
def Dev.raiseMsix (d : Dev) (fn v : Nat) : Dev :=
  if wbit (Store.get msixDflt d.msix (65536 * fn + 16 * v + 12)) 0 then
    let k := 65536 * fn + 4096 + 4 * (v / 32)
    { d with msix := Store.set msixDflt d.msix k (Store.get msixDflt d.msix k ||| (1#32 <<< (v % 32))) }
  else d.emit (.msix fn v)

/-! ## Frames and events (R47, R54 to R56) -/

def flagResp := 1
def flagEvent := 8

/-- The seat is fenced (R302). -/
def Dev.seatFenced (d : Dev) (s : Nat) : Bool := d.fbit .FC_FENCE2_SEAT 0 0 s

/-- An event ring has room for an entry (R53, R54): it is enabled and not full. -/
def Dev.eqRoom (d : Dev) (s q : Nat) : Bool :=
  let e := (d.seat s).evq q
  let n := 2 ^ d.fld .HS_EQSIZE_LOG2 s q
  d.on .HS_EQSIZE_EN s q && (e.tail + 1) % n != e.head % n

/-- A PCIe seat can be written to. -/
def Dev.pcieUp (d : Dev) (s : Nat) : Bool := (d.seat s).up && !(d.seat s).perst

/-- The MSI-X vector of an entry (R43, R305): 36 for the fault collector's events, 37 for link and seat events, and the
vector of the event queue otherwise. -/
def vectorOf (q : Nat) (f : Frame) : Nat :=
  if f.flags / 8 % 2 == 1 then
    let code := ofLe (f.payload.take 2)
    if code / 256 == 0x12 then 36 else if code / 256 == 0x02 then 37 else q
  else q

/-- Write an entry at HS_EQTAIL and advance it (R54), number it (R48), and raise its vector: for an event, and for a
completion whose command carried IRQ (R47). -/
def Dev.writeEq (d : Dev) (s q : Nat) (f : Frame) : Dev :=
  let x := d.seat s
  let e := x.evq q
  let f' := { f with seq := e.seq }
  let d := d.setSeat s (x.setEvq q
    { e with tail := (e.tail + 1) % 2 ^ (d.fld .HS_EQSIZE_LOG2 s q), seq := (e.seq + 1) % 65536 })
  let d := d.emit (.eqEntry s q e.tail { f' with payload := f'.payload.take 32 })
  if f.flags / 8 % 2 == 1 || f.flags / 4 % 2 == 1 then d.raiseMsix s (vectorOf q f) else d

/-- The bytes of a frame, header and payload (R47). -/
def Frame.bytes (f : Frame) : List Byte :=
  le 2 0x4E44 ++ le 1 1 ++ le 1 f.seat ++ le 1 f.queue ++ le 1 f.flags ++ le 2 f.seq ++ le 2 f.opcode ++ le 2 f.status
    ++ le 4 f.len ++ f.payload

/-- A datagram to the bound peer (R44, R45, R55). -/
def Dev.emitDatagram (d : Dev) (s : Nat) (f : Frame) : Dev :=
  d.emit (.datagram s (d.reg .HS_BOUNDIP s) (d.fld .HS_BOUNDPORT_PORT s) f (crc32 f.bytes) true true)

/-- A completion or an event as a datagram, numbered in its event queue (R48), where a peer is bound. -/
def Dev.sendDatagram (d : Dev) (s q : Nat) (f : Frame) : Dev :=
  let x := d.seat s
  if x.up && d.on .HS_LINK_BOUND s then
    let e := x.evq q
    (d.setSeat s (x.setEvq q { e with seq := (e.seq + 1) % 65536 })).emitDatagram s { f with seq := e.seq }
  else d

/-- The instant of a stamp. -/
def Dev.instantOf (d : Dev) (stamp : Nat) : Nat := d.now + stamp - d.tb

/-- An error signal leaves its block for the collector (R293). -/
def Dev.signalAs (d : Dev) (source unit : Nat) (bay : Option (Fin 4)) (course : Nat) (forced : Bool) : Dev :=
  { d with fc := { d.fc with sigs := d.fc.sigs ++ [⟨source, unit, bay, d.tb, course, forced, none⟩] } }

/-- The bay of the unit a source names (R291, R295). -/
def Dev.unitBay (d : Dev) (source unit : Nat) : Option Nat :=
  if source = srcSeatLoss || source = srcSeatErr || source = srcEvtLost then (if d.present unit then some unit else none)
  else if source = srcPsChatter || source = srcPsInput || source = srcPsStall then d.psBay unit
  else if source = srcHpLink || source = srcScOverrun || source = srcHpTrust || source = srcNozzleLoss
      || source = srcSnSense || source = srcTmShut then d.portBay unit
  else if source = srcCamPort || source = srcCamI2c || source = srcCamOvf then d.camBay unit
  else if source = srcTmSensor then (if unit < 64 then d.portBay (unit / 2) else none)
  else none

/-- Signal a source, with the course of its unit's bay. -/
def Dev.signal (d : Dev) (source unit : Nat) : Dev :=
  d.signalAs source unit none (match d.unitBay source unit with | some b => (d.bay b).cc | none => 0) false

/-- Signal a source for a bay (R295). -/
def Dev.signalBay (d : Dev) (source unit : Nat) (b : Fin 4) : Dev :=
  d.signalAs source unit (some b) (d.bay b).cc false

/-- Place an entry for event queue `q` of a seat (R54, R55). On PCIe it is written at once when nothing waits for that
queue and the ring has room; otherwise it waits. An event that finds no holding space is discarded, counted and
signalled. Over Ethernet it is a datagram. -/
def Dev.post (d : Dev) (s q : Nat) (isEvent : Bool) (f : Frame) : Dev :=
  if s < 2 then
    let x := d.seat s
    if d.pcieUp s && d.eqRoom s q && !(x.held.any fun h => h.1 == q) then d.writeEq s q f
    else if !isEvent then d.setSeat s { x with held := x.held ++ [(q, false, f)] }
    else
      let n := (x.held.filter fun h => h.2.1).length
      let m := (x.held.filter fun h => h.2.1 && h.1 != 0).length
      if n < 64 && (q == 0 || m < 48) then d.setSeat s { x with held := x.held ++ [(q, true, f)] }
      else ((d.setSeat s { x with lost := true }).bump .HS_EVLOST_LOST s 0).signal srcEvtLost s
  else d.sendDatagram s q f

/-- The frame of an unsolicited event (R56). -/
def eventFrame (s q code bay unit gen tb course d0 d1 : Nat) : Frame :=
  { seat := s, queue := 16 + 4 * s + q, flags := flagResp + flagEvent, seq := 0, opcode := 0xC000, status := 0, len := 32,
    payload := le 2 code ++ le 1 bay ++ le 1 unit ++ le 4 gen ++ le 8 tb ++ le 6 course ++ le 2 0 ++ le 4 d0 ++ le 4 d1 }

/-- The seat takes events and completions: it is enabled (R81), and LOAD has completed. -/
def Dev.reach (d : Dev) (s : Nat) : Bool := d.running && d.on .HS_CTL_EN s

/-- Raise an event of a bay on a queue of its seat (R56). -/
def Dev.bayEvent (d : Dev) (b q code unit d0 d1 : Nat) : Dev :=
  if d.reach b then
    d.post b q true (eventFrame b q code b unit (d.bay b).gen d.tb (d.bay b).cc (d0 % 2 ^ 32) (d1 % 2 ^ 32))
  else d

/-- As `bayEvent`, with a course number of its own. -/
def Dev.bayEventAt (d : Dev) (b q code unit course d0 d1 : Nat) : Dev :=
  if d.reach b then
    d.post b q true (eventFrame b q code b unit (d.bay b).gen d.tb course (d0 % 2 ^ 32) (d1 % 2 ^ 32))
  else d

/-- Raise an event that belongs to no bay, on a queue of a seat (R56): its generation and course are free values. -/
def Dev.devEvent (d : Dev) (s q code unit d0 d1 : Nat) : Dev :=
  if d.reach s then
    d.post s q true (eventFrame s q code 0xFF unit (Config.deviceEventGen code % 2 ^ 32) d.tb
      (Config.deviceEventCourse code % M48) (d0 % 2 ^ 32) (d1 % 2 ^ 32))
  else d

/-- Raise an event on E1 of the bay of a unit, or of the steward when it belongs to none. -/
def Dev.unitEvent (d : Dev) (bay : Option Nat) (q code unit d0 d1 : Nat) : Dev :=
  match bay with
  | some b => d.bayEvent b q code unit d0 d1
  | none => d.devEvent d.steward q code unit d0 d1

/-- A hexadecimal digit, uppercase. -/
def hexDigit (n : Nat) : Char := Char.ofNat (if n % 16 < 10 then 48 + n % 16 else 55 + n % 16)

/-- A byte as two hexadecimal digits. -/
def hexByte (b : Byte) : List Char := [hexDigit (b.toNat / 16), hexDigit b.toNat]

/-! ## Completions (R47, R48, R51, R53) -/

/-- Record the status sent if it is not OK, and count what it answers (R81): `st` is the status of the frame or access, `sent` the one
that leaves, which can be TRUNCATED instead. -/
def Dev.noteStatus (d : Dev) (s queue : Nat) (st sent : Status) : Dev :=
  if sent = .ok then d
  else
    let d := (d.setFld .HS_ERRLAST_STATUS s 0 sent.code).setFld .HS_ERRLAST_QUEUE s 0 queue
    if st = .sequence then d.bump .HS_ERRCNT_SEQ s 0
    else if st.isRefusal then d.bump .HS_ERRCNT_REFUSED s 0
    else d

/-- Keep the original status of a sequence number, the last 16 of the queue (R48). -/
def CmdQ.remember (c : CmdQ) (seq status : Nat) : CmdQ :=
  { c with hist := ((seq, status) :: c.hist.filter fun h => h.1 != seq).take 16 }

/-- The longest payload of a frame of seat s (R47). -/
def seatMaxLen (s : Nat) : Nat := if s < 2 then 65536 else 8952

/-- The longest payload of a frame to or from a sender of command frames (R47). -/
def frameMax (h : CmdHdr) : Nat := match h.src with | .seat s => seatMaxLen s.val | .console => 4096

/-- The status a reply of `n` payload bytes takes on seat s: on PCIe TRUNCATED when its buffer is too short (R53), unless NOACK and OK
leave no reply to write (R47). -/
def sentStatus (s replyLen n : Nat) (noack : Bool) (st : Status) : Status :=
  if s < 2 && decide (replyLen < 16 + n) && !(noack && st = .ok) then .truncated else st

/-- Send the completion of a command frame: nothing with NOACK and status OK (R47); on PCIe the reply buffer and an entry
of Eq; on Ethernet a datagram; to the console, the reply line `R` and the completion in hex (R389). -/
def Dev.completeAs (d : Dev) (h : CmdHdr) (opcode : Nat) (st : Status) (payload : List Byte) : Dev :=
  match h.src with
  | .console =>
    let f : Frame := { seat := 0x0F, queue := h.q.val, flags := flagResp, seq := h.seq, opcode := opcode % 2 ^ 15 + 2 ^ 15,
                       status := st.code, len := payload.length, payload := payload }
    let d := if d.con.wait = some .frame then { d with con := { d.con with wait := none } } else d
    d.emit (.line (String.ofList ('R' :: ' ' :: f.bytes.flatMap hexByte)))
  | .seat s =>
    let st' := sentStatus s.val h.replyLen payload.length h.noack st
    let d := d.noteStatus s.val (4 * s.val + h.q.val) st st'
    if h.noack && st' = .ok then d
    else
      let f : Frame := { seat := s.val, queue := 4 * s.val + h.q.val, flags := flagResp + (if h.irq then 4 else 0), seq := h.seq,
                         opcode := opcode % 2 ^ 15 + 2 ^ 15, status := st'.code, len := payload.length, payload := payload }
      let d := if s.val < 2 then d.emit (.reply s.val (4 * s.val + h.q.val) f (min h.replyLen (16 + payload.length))) else d
      d.post s.val h.q.val false f

/-- The completion of a frame that was executed: its status is remembered for duplicates (R48). -/
def Dev.complete (d : Dev) (h : CmdHdr) (opcode : Nat) (st : Status) (payload : List Byte) : Dev :=
  match h.src with
  | .console => d.completeAs h opcode st payload
  | .seat s =>
    let st' := sentStatus s.val h.replyLen payload.length h.noack st
    let x := d.seat s.val
    let d := d.setSeat s.val (x.setCmdq h.q.val ((x.cmdq h.q.val).remember h.seq st'.code))
    d.completeAs h opcode st payload

end Sys2Proof.Machine
end

