-- ==== Sys2Proof/Machine/Operands.lean ====
section
/-! DEFINITION. Operand forms: the value ranges the field maps state (R69 check 6, R451), which instances are read-only (R289, R307),
and the payloads of the command frames (R49, R50, R64, R76, R77, R90). -/

namespace Sys2Proof.Machine

/-! ## Value ranges -/

/-- `v` lies from `a` to `b`. -/
def btw (a b v : Nat) : Bool := decide (a ≤ v) && decide (v ≤ b)

/-- Every 2-bit code of the low `n` in `v` is in `ok`. -/
def codes2 (n : Nat) (ok : Nat → Nat → Bool) (v : Nat) : Bool := (List.range n).all fun k => ok k (v / 4 ^ k % 4)

/-- A value lies in the range that the field's defining table states for it: outside it, a commit is refused with VALUE, and a write that
acts at once is refused whole (R451). Fields without a stated range take every value. -/
def Fld.legal (f : Fld) (v : Nat) : Bool :=
  match f.reg, f.lo with
  | .KS_BAYCTL, 0 => btw 0 5 v
  | .RI_FMT, 0 => btw 0 5 v
  | .RI_FMT, 16 => btw 1 4096 v
  | .RI_RSLOTS, 0 => v != 1
  | .RI_DELAY, 0 => btw 0 1048576 v
  | .RI_BAYRATE, 0 => btw 0 120000 v
  | .RI_B2BASE, 0 => btw 0 28 v
  | .SC_CTL, 0 => v != 3
  | .SC_LEVELS, 0 => btw 2 16 v
  | .SC_SHIFT, 0 => let s := sgn 16 v; decide (-16384 ≤ s) && decide (s ≤ 16384)
  | .SC_BAR, 16 => btw 0 64 v
  | .SC_BAR, 24 => btw 0 64 v
  | .PS_CFG, 2 => v != 3
  | .PS_CFG, 8 => v != 3
  | .PS_DB, 0 => v != 0
  | .PS_SPDWIN, 0 => btw 1 10000 v
  | .PS_SSI, 0 => btw 10 32 v
  | .PS_SSI, 16 => btw 9 999 v
  | .PC_CTL, 0 => v != 3
  | .PC_CTL, 8 => v != 3
  | .PC_CTL, 11 => btw 0 4 v
  | .PC_GEN, 0 => btw 1667 16777215 v
  | .CP_CTL, 2 => btw 0 8 v
  | .EM_CFG, 1 => btw 0 8 v
  | .EM_CFG, 6 => v != 3
  | .EM_CFG, 8 => btw 8 65535 v
  | .EM_RATIO, _ => v != 0
  | .EM_ZPER, 0 => v != 0
  | .HP_PROF, 0 => btw 1 4 v
  | .HP_PROF, 3 => btw 0 2 v
  | .HP_PROF, 8 => btw 0 2 v
  | .HP_PROF, 12 => btw 0 2 v
  | .HP_PROF, 16 => btw 1 4096 v
  | .HP_LANE, 16 => btw 0 8 v
  | .HP_LATCH, 0 => btw 4 1023 v
  | .HP_GSTEP, 0 => btw 1 512 v
  | .HP_OSCTL, 16 => v != 0
  | .HP_PWR, 16 => v != 0
  | .SN_CFG, 2 => btw 1 63 v
  | .SN_CFG, 28 => btw 1 12 v
  | .SN_LEARN, 1 => btw 1 3 v
  | .HM_CFG, 0 => btw 1 3 v
  | .HM_CFG, 4 => btw 0 16 v
  | .HM_DECL, 24 => v != 3
  | .CM_CFG, 1 => btw 0 2 v
  | .CM_CFG, 5 => btw 0 2 v
  | .CM_CFG, 7 => btw 0 3 v
  | .CM_RATE, 0 => btw 1 1000000 v
  | .CM_ROWT, 0 => v != 0
  | .CM_TRIG, 8 => v != 0
  | .CM_TRIGP, 0 => v != 0
  | .CM_SENS, 7 => btw 0 2 v
  | .CM_SENS, 16 => v != 0
  | .CM_BUF, 2 => v != 0
  | .CM_BUFN, 0 => btw 2 255 v
  | .IP_CFG, 2 => btw 0 4 v
  | .IP_CFG, 8 => btw 0 256 v
  | .IP_BAND, 29 => btw 0 4 v
  | .IN_REG, 12 => btw 1 16 v
  | .IN_LIM, 8 => v != 0
  | .IN_NCCFG, 8 => v != 0
  | .IN_NCCFG, 16 => v != 0
  | .TM_CH, 0 => btw 0 2 v
  | .TM_CH, 4 => v != 0
  | .TM_CH, 8 => btw 3686 4505 v
  | .TM_NB, 28 => btw 1 4 v
  | .TM_TACT, 0 => btw 1 120000 v
  | .TM_TACT, 17 => v != 0
  | .TM_TACT, 21 => btw 1 16 v
  | .TM_TTHIN, 16 => btw 1 6000 v
  | .FC_CFG, 0 => btw 100 65535 v
  | .FC_LOCK, 0 => v != 0
  | .FC_NERR, 0 => btw 1 10000 v
  | .WR_HLIFE, 0 => v != 0
  | .HS_CQSIZE, 0 => btw 4 12 v
  | .HS_EQSIZE, 0 => btw 4 12 v
  | .RI_FQSIZE, 0 => btw 4 12 v
  | .HS_CTL, 16 => v != 0
  | .RI_FSCFG, 4 => v == 1 || v == 3
  | .RI_FSCFG, 8 => btw 32 75 v
  | .RI_FSCFG, 0 => btw 0 4 v || v == 7
  | .RI_SCRUB, 8 => v != 0
  | .TR_CFG, 0 => btw 100 10000 v
  | .WR_CFG, 0 => v != 0
  | .WR_CFG, 8 => btw 8 64 v
  | .OT_PCMD, 0 => v != 3
  | .SV_CFG, 0 => btw 0 10 v
  | .SV_TEST, 0 => btw 0 9 v
  | .SV_TARG, 16 => v != 0
  | .SV_PLUMB, 0 => btw 0 17 v
  | .SV_MTEMP, 0 => btw 0 67 v
  | .SV_PARK, 0 => codes2 7 (fun _ c => c != 3) v
  | .PT_CAMSTALL, 16 => v != 0
  | .PT_TRIGDLY, 16 => v != 3
  | .PT_ECC, 0 => v != 3
  | .PT_ECC, 3 => btw 0 4 v
  | _, _ => true

/-- The field is read-only in this instance although its table gives it a write (R451): the sources of R307 and the channels of R289. -/
def Fld.frozen (f : Fld) (i : Nat) : Bool :=
  match f.reg with
  | .FC_SRC =>
    if f.lo = 0 || f.lo = 2 then srcFixed i || !srcListed i
    else if f.lo = 7 then srcFixed i || !srcListed i
    else if f.lo = 6 then !srcListed i
    else false
  | .TM_CH => decide (68 ≤ i) && (f.lo == 0 || f.lo == 8)
  | _ => false

/-! ## Frame payloads -/

/-- The offsets of an RD32 payload. -/
def parseOffs (p : List Byte) : List Nat := (leWords p).map (·.toNat)

/-- The pairs of a WR32 payload. -/
def parsePairs (p : List Byte) : List (Nat × Word) :=
  (List.range (p.length / 8)).map fun i => (ofLe ((p.drop (8 * i)).take 4), BitVec.ofNat 32 (ofLe ((p.drop (8 * i + 4)).take 4)))

/-- A number of `n` bytes at byte `o` of a payload. -/
def field (p : List Byte) (o n : Nat) : Nat := ofLe ((p.drop o).take n)

/-- The commit record of a COMMIT payload (R64); bits [63:48] of TARGET are 0. -/
def parseCommit (p : List Byte) : CommitRec :=
  let f := field p 1 1
  ⟨field p 0 1, f % 2 == 1, f / 2 % 2 == 1, f / 4 % 2 == 1, field p 4 4, field p 8 6⟩

/-- The result of a COMMIT (R64). -/
def commitResult (target gen reason : Nat) : List Byte := le 8 target ++ le 4 gen ++ le 2 reason ++ le 2 0

end Sys2Proof.Machine
end

