-- ==== Sys2Proof/Machine/Staging.lean ====
section
/-! DEFINITION. Staging and pending sets (R63), the values a commit makes govern (R21, R66, R67), the registers as work
of the next course sees them, and the perturbations in force (R408). -/

namespace Sys2Proof.Machine

/-- The key of a staged field. -/
def Staged.key (x : Staged) : Nat := 32 * x.off + x.lo

/-- Stage a field: a later write to the same field replaces the earlier one (R63). -/
def stageInto (l : List Staged) (x : Staged) : List Staged :=
  if l.any (fun y => y.key == x.key) then l.map (fun y => if y.key == x.key then x else y) else l ++ [x]

/-- Stage a field in a staging set. -/
def Dev.stage (d : Dev) (set : Nat) (x : Staged) : Dev :=
  let k := d.kset set
  d.setKset set { k with staging := stageInto k.staging x }

/-- The value of a field for the next COMMIT: staged if staged, else applied. -/
def stagedVal (l : List Staged) (f : Fld) (i j : Nat) : Option Nat :=
  (l.find? fun y => y.key == 32 * f.reg.off i j + f.lo).map (·.val)

/-- The device with staged fields made its register values. -/
def Dev.withFields (d : Dev) (l : List Staged) : Dev :=
  l.foldl (fun d x => d.setWord x.off (wput (d.word x.off) x.lo x.width x.val)) d

/-- The pending set returns to the staging set; a field staged since then keeps its later value (R63). -/
def Dev.returnPending (d : Dev) (set : Nat) : Dev :=
  let k := d.kset set
  let back := k.pending.filter fun x => !(k.staging.any fun y => y.key == x.key)
  d.setKset set { k with staging := back ++ k.staging, pending := [] }

/-- The registers as work of course CC + 1 of a bay sees them once the trigger of CC has been processed: with the host
and internal commits whose apply that trigger carried (R66). -/
def Dev.look (d : Dev) (b : Nat) : Dev :=
  let k := d.kset b
  let n := add48 (d.bay b).cc 1
  let d := if k.host.st = .armed && k.host.carried && k.host.target == n then d.withFields k.pending else d
  if k.int.st = .armed && k.int.carried && k.int.target == n then
    d.withFields ((k.intReq.map (·.fields)).getD [])
  else d

/-- The field staged and armed for an internal commit. -/
def mkStaged (f : Fld) (i j v : Nat) : Staged := ⟨f.reg.off i j, f.lo, f.width, v⟩

/-- Place a request in a bay's internal slot queue (R71, R264): a request of the same source and the same degrade mark
change replaces the one that waits. -/
def Dev.requestInternal (d : Dev) (b : Nat) (r : IntReq) : Dev :=
  let k := d.kset b
  d.setKset b { k with waiting := (k.waiting.filter fun w => !(w.src == r.src && w.mark == r.mark)) ++ [r] }

/-! ## Islands (R32) -/

/-- The wake time of an island in CK_POS cycles (R32). -/
def wakeTime (i : Nat) : Nat := if i < 4 then us 50 else if i < 8 then us 100 else if i = 8 then us 10 else if i < 11 then us 3 else ms 20

def Dev.islandOn (d : Dev) (i : Nat) : Bool := wbit (d.reg .GL_ISLAND) i
def Dev.setIsland (d : Dev) (i : Nat) (on : Bool) : Dev :=
  d.setWord (RegName.off .GL_ISLAND 0 0) (wput (d.reg .GL_ISLAND) i 1 (if on then 1 else 0))
def Dev.wakeAt (d : Dev) (i : Nat) : Option Nat := Store.get (fun _ => none) d.isl i
def Dev.setWake (d : Dev) (i : Nat) (t : Option Nat) : Dev := { d with isl := Store.set (fun _ => none) d.isl i t }

/-- An access to the frame store with a MEM island off wakes it (R32): the access waits, which takes no step of the model (log 166). -/
def Dev.memTouch (d : Dev) : Dev :=
  [9, 10].foldl (fun d i => if d.islandOn i || (d.wakeAt i).isSome then d else d.setWake i (some (d.now + wakeTime i))) d

/-! ## Perturbations in force (R408) -/

/-- A meter setting of R392 to R397 or R400 that is not at its reset value. -/
def Dev.meterOn (d : Dev) : Bool :=
  (List.range 32).any (fun xx => d.reg .SV_PARK xx != 0) || (List.range 4).any (fun j => d.reg .SV_FORCE j != 0)
    || d.reg .SV_MTEMP != 0 || d.reg .SV_PEN != 0 || d.reg .SV_PLUMB != 0

/-- PT_ACTIVE (R408). -/
def Dev.ptActive (d : Dev) : Nat :=
  (if (List.range 4).any fun j => d.fld .PT_MQDLY_DLY j != 0 then 1 else 0)
  + (if (List.range 4).any fun s => d.reg .PT_CREDIT s != 0 then 2 else 0)
  + (if d.fld .PT_CAMSTALL_GO != 0 then 4 else 0)
  + (if (List.range 4).any fun b => d.fld .PT_TRIGDLY_MODE b != 0 then 8 else 0)
  + (if d.fld .PT_ECC_COUNT != 0 then 16 else 0)
  + (if d.on .PT_ACTIVE_FORCED then 32 else 0)
  + (if d.meterOn then 64 else 0)

/-- Every open camera frame is marked PERT while a perturbation is in force (R236). -/
def Dev.markPert (d : Dev) : Dev :=
  if d.ptActive = 0 then d
  else
    let mark (f : CamFrame) : CamFrame := if f.closed then f else { f with flags := f.flags ||| 128 }
    { d with cams := d.cams.map fun x => (x.1, { x.2 with frames := x.2.frames.map mark }) }

/-- PT_CHANGED for a change of PT_ACTIVE from what it was: on E1 of the steward and of each present bay (R408, R410). -/
def Dev.ptNote (d : Dev) (old : Nat) : Dev :=
  if d.ptActive = old then d
  else
    let d := d.markPert
    let d := d.devEvent d.steward 1 0x1700 0xFF d.ptActive old
    (d.presentBays.filter fun b => b != d.steward).foldl (fun d b => d.devEvent b 1 0x1700 0xFF d.ptActive old) d

/-- Take up to `n` of the reads that PT_ECC corrupts, when `hit` says these reads match; answers how many were taken and
whether each flips two bits (R406). -/
def Dev.takeEcc (d : Dev) (hit : Bool) (n : Nat) : Dev × Nat × Bool :=
  if hit && d.fld .PT_ECC_COUNT != 0 && n != 0 then
    let c := d.fld .PT_ECC_COUNT
    let k := min c n
    let old := d.ptActive
    let d' := (d.setFld .PT_ECC_COUNT 0 0 (c - k)).ptNote old
    (d', k, d.on .PT_ECC_TWO)
  else (d, 0, false)

/-- Injected errors in `n` reads of an on-die SRAM group: corrected ones raise SRAM_CE (R135); answers how many are
uncorrectable. Group 1 screening tables of a port, 2 its waveform banks, 3 its health map, stamps and footprints, 4 the
tables and FIFO of a camera port (R406). -/
def Dev.sramHits (d : Dev) (group arg n : Nat) : Dev × Nat :=
  let g := d.fld .PT_ECC_GROUP
  let (d, k, two) := d.takeEcc (d.fld .PT_ECC_TARGET == 0 && (g == 0 || (g == group && d.fld .PT_ECC_ARG == arg))) n
  if two then (d, k) else (forN k (fun _ d => d.signal srcSramCe 0xFF) d, 0)

/-- As `sramHits`; answers whether a read was uncorrectable. -/
def Dev.sramRead (d : Dev) (group arg n : Nat) : Dev × Bool := let q := d.sramHits group arg n; (q.1, q.2 != 0)

end Sys2Proof.Machine
end

