-- ==== Sys2Proof/Machine/Intake.lean ====
section
/-! DEFINITION. Raster intake, frame store and course deadlines (R82 to R110): the error-checked frame store, the feed
queues with their frames, the course rings, the decision of R98 and its confirmation. -/

namespace Sys2Proof.Machine

/-! ## The frame store (R84, R85) -/

/-- What a frame-store byte that nothing has written reads as: 0 (DESIGN CHOICE, log 3), and a free value where a memory test has
overwritten its range (R391). -/
def Dev.fsDflt (d : Dev) (a : Nat) : Byte :=
  match d.fsLost.find? fun r => decide (r.1 ≤ a) && decide (a < r.2.1) with
  | some r => Config.testPattern r.2.2 a
  | none => 0

/-- CAP in bytes (R84). -/
def Dev.cap (d : Dev) : Nat := d.fld .RI_FSSTAT_CAPMIB * 2 ^ 20

/-- Record a frame-store error (R85): counters and address. -/
def Dev.noteEcc (d : Dev) (addr : Nat) (ue scrub : Bool) : Dev :=
  let d := d.bump (if ue then .RI_ECC_UE else .RI_ECC_CE) 0 0
  let d := d.setFld .RI_ECCALO_ADDR 0 0 (addr % 2 ^ 32)
  let d := d.setFld .RI_ECCAHI_ADDR 0 0 (addr / 2 ^ 32)
  (d.setOn .RI_ECCAHI_UE 0 0 ue).setOn .RI_ECCAHI_SCRUB 0 0 scrub

/-- The effects of an uncorrectable frame-store error beside its record: the source, for the bay whose course or port it
concerns or for none, and RI_ECC_UNCORR (R85, R108). -/
def Dev.raiseFsUe (d : Dev) (bay : Option Nat) (unit : Nat) : Dev :=
  let d := match bay with
    | some b => if h : b < 4 then d.signalBay srcFsUe 0xFF ⟨b, h⟩ else d.signal srcFsUe 0xFF
    | none => d.signal srcFsUe 0xFF
  d.unitEvent bay 1 0x0301 unit (d.reg .RI_ECCALO).toNat (d.reg .RI_ECCAHI).toNat

/-- Whether an 8-byte code word is marked uncorrectable. -/
def Dev.fsWordBad (d : Dev) (w : Nat) : Bool := Store.get (fun _ => false) d.fsBad w

/-- Check one 64-byte block as it is read (R85, R406): corrected errors are counted and recorded; answers whether an
uncorrectable one was found. -/
def fsCheckBlock (bay : Option Nat) (unit : Nat) (acc : Dev × Bool) (blk : Nat) : Dev × Bool :=
  let (d, ue) := acc
  let a := 64 * blk
  let bad := (List.range 8).any fun i => d.fsWordBad (8 * blk + i)
  let (d, k, two) := d.takeEcc (d.fld .PT_ECC_TARGET == 1 && a / 2 ^ 28 == d.fld .PT_ECC_ARG) 1
  if bad || (k == 1 && two) then ((d.noteEcc a true false).raiseFsUe bay unit, true)
  else if k == 1 then ((d.noteEcc a false false).signal srcFsCe 0xFF, ue)
  else (d, ue)

/-- Check every block of a range of data addresses as it is read. -/
def Dev.fsCheck (d : Dev) (bay : Option Nat) (unit addr n : Nat) : Dev × Bool :=
  if n = 0 then (d, false)
  else
    let b0 := addr / 64
    let b1 := (addr + n - 1) / 64
    (List.range (b1 + 1 - b0)).foldl (fun acc i => fsCheckBlock bay unit acc (b0 + i)) (d, false)

/-- The bytes of a range. -/
def Dev.fsBytes (d : Dev) (addr n : Nat) : List Byte := Store.getRun d.fsDflt d.fs addr n

/-- The next read of a block meets an injected uncorrectable error (R406). -/
def Dev.eccHits (d : Dev) (blk : Nat) : Bool :=
  d.fld .PT_ECC_TARGET == 1 && d.on .PT_ECC_TWO && d.fld .PT_ECC_COUNT != 0 && 64 * blk / 2 ^ 28 == d.fld .PT_ECC_ARG

/-- The read of a read-modify-write of a block (R85): the first word is marked where the error lies in it. -/
def Dev.fsEdge (d : Dev) (bay : Option Nat) (unit blk : Nat) : Dev :=
  let d' := (fsCheckBlock bay unit (d, false) blk).1
  if d.eccHits blk then { d' with fsBad := Store.set (fun _ => false) d'.fsBad (8 * blk) true } else d'

/-- Write bytes (R85): an edge that cuts a 64-byte block makes a read-modify-write of it, whose read is checked, and which keeps the
words it could not correct marked; of another block, an 8-byte word written whole is correct again. -/
def Dev.fsWrite (d : Dev) (bay : Option Nat) (unit addr : Nat) (bs : List Byte) : Dev :=
  let n := bs.length
  if n = 0 then d
  else
    let e := addr + n
    let cuts := (if addr % 64 ≠ 0 then [addr / 64] else []) ++
      (if e % 64 ≠ 0 && (addr % 64 = 0 || e / 64 ≠ addr / 64) then [e / 64] else [])
    let d := cuts.foldl (fun d blk => d.fsEdge bay unit blk) d.memTouch
    let w0 := (addr + 7) / 8
    let w1 := e / 8
    let d := { d with fsBad := d.fsBad.filter fun x => !(decide (w0 ≤ x.1) && decide (x.1 < w1)) || cuts.contains (x.1 / 8) }
    { d with fs := Store.setRun d.fsDflt d.fs addr bs }

/-! ## Formats and rings (R92, R94) -/

/-- B of a format code (R92). -/
def fmtBits : Nat → Nat
  | 0 => 8 | 1 => 10 | 2 => 1 | 3 => 2 | 4 => 3 | 5 => 4 | _ => 8

/-- The bytes of a slot (R94). -/
def slotBytes (format width : Nat) : Nat := (width * fmtBits format + 511) / 512 * 64

/-- The ring geometry that the registers give a port: FORMAT, WIDTH, BASE, SLOTS. -/
def Dev.geoOf (d : Dev) (xx : Nat) : Nat × Nat × Nat × Nat :=
  (d.fld .RI_FMT_FORMAT xx, d.fld .RI_FMT_WIDTH xx, d.fld .RI_RBASE_BASE xx, d.fld .RI_RSLOTS_SLOTS xx)

/-- The slot of a raster. -/
def Intake.slot (t : Intake) (r : Nat) : Option RSlot :=
  if t.geo.2.2.2 = 0 then none else Store.get (fun _ => none) t.slots (r % t.geo.2.2.2)

/-- Replace the slot a raster lives in. -/
def Intake.setSlot (t : Intake) (r : Nat) (x : Option RSlot) : Intake :=
  if t.geo.2.2.2 = 0 then t else { t with slots := Store.set (fun _ => none) t.slots (r % t.geo.2.2.2) x }

/-- The data address of the slot of a raster (R94). -/
def Intake.slotAddr (t : Intake) (r : Nat) : Nat :=
  t.geo.2.2.1 * 2 ^ 20 + (r % max 1 t.geo.2.2.2) * slotBytes t.geo.1 t.geo.2.1

/-- Raster r lies in the window u to u + S − 1 (R94). -/
def Intake.inWindow (t : Intake) (r : Nat) : Bool := decide (sub48 r t.u < t.geo.2.2.2)

/-- A slot is complete for raster r (R95). -/
def Intake.completeStamp (t : Intake) (r : Nat) : Option Nat :=
  match t.slot r with
  | some x => if x.raster = r && x.fill = t.geo.2.1 then x.stamp else none
  | none => none

/-- RI_STAT.COMPLETE: complete slots in the window (R110). -/
def Intake.completeCount (t : Intake) : Nat :=
  (t.slots.filter fun e =>
    match e.2 with
    | some x => x.stamp.isSome && t.inWindow x.raster
    | none => false).length

/-- Write the pixels of one course of a feed frame into its slot, as the bit stream of R91; the pad bits of a partly
filled last byte keep what they held. -/
def Dev.writePixels (d : Dev) (bay : Option Nat) (xx addr bits : Nat) (stream : Nat) : Dev :=
  let n := (bits + 7) / 8
  let old := ofLe (d.fsBytes addr n)
  let keep := old / 2 ^ bits * 2 ^ bits
  d.fsWrite bay xx addr (le n (keep + stream % 2 ^ bits))

/-- `n` pixels of B bits, all of one value, as a bit stream. -/
def fillStream (b n v : Nat) : Nat := forN n (fun i acc => acc + v * 2 ^ (b * i)) 0

/-! ## Feed frames (R88 to R96, R99) -/

/-- Whether a feed header passes R90, for CDATA (`isData`) and CFILL. -/
def feedHeaderOk (geo : Nat × Nat × Nat × Nat) (isData : Bool)
    (count offset pixels format reserved value len : Nat) : Bool :=
  let b := fmtBits geo.1
  format == geo.1 && decide (offset + pixels ≤ geo.2.1)
    && !(decide (1 < count) && (offset != 0 || pixels != geo.2.1))
    && count != 0 && pixels != 0 && offset % 32 == 0 && reserved == 0
    && (if isData then value == 0 else decide (value < 2 ^ b))
    && len == (if isData then 16 + count * ((pixels * b + 31) / 32 * 4) else 16)

/-- The disposition of a feed frame (R92). -/
def FeedEnt.disposition (e : FeedEnt) : List Byte := le 2 e.acc ++ le 2 e.late ++ le 2 e.ahead ++ le 2 e.gap

/-- What the execution of a feed frame came to. -/
inductive FeedRes where
  | done (st : Status) (payload : List Byte)
  | held (e : FeedEnt)
  deriving DecidableEq, Repr

/-- What becomes of one course of a feed frame: discarded as LATE, AHEAD or GAP, held, or stored as the first or a later
fragment of its raster (R94, R95, R99). -/
inductive CourseRes where
  | late | ahead | gap | hold | restart | extend
  deriving DecidableEq, Repr

/-- Raster r is the one that the course decided and not yet confirmed is to fire (R99). -/
def Intake.awaitsBoundary (t : Intake) (r : Nat) : Bool :=
  match t.dec with
  | some c => c.kind != .skip && c.raster == r
  | none => false

/-- The rule of R94, R95 and R99 for a write for raster r. -/
def Intake.courseRes (t : Intake) (eth : Bool) (r offset : Nat) : CourseRes :=
  if before48 r t.u then .late
  else if !t.inWindow r then (if eth then .ahead else .hold)
  else if t.awaitsBoundary r then .hold
  else if offset = 0 then .restart
  else match t.slot r with
    | some x => if x.raster = r && x.fill = offset then .extend else .gap
    | none => .gap

/-- Execute the courses of a CDATA or CFILL frame from `e.next` on; `stream k` is the pixel bit stream of course k. -/
def Dev.feedCourses (d : Dev) (e : FeedEnt) (raster offset pixels : Nat) (stream : Nat → Nat) : Nat → Dev × FeedRes
  | 0 => (d, .done .ok e.disposition)
  | k + 1 =>
    let xx := e.hdr.port.val
    let t := d.itk xx
    let r := add48 raster e.next
    let e' := { e with next := e.next + 1 }
    match t.courseRes (2 ≤ e.hdr.seat.val) r offset with
    | .hold => (d, .held e)
    | .late => Dev.feedCourses (d.bump .RI_STALECNT_STALE xx 0) { e' with late := e.late + 1 } raster offset pixels stream k
    | .ahead => Dev.feedCourses (d.bump .RI_CNT_AHEAD xx 0) { e' with ahead := e.ahead + 1 } raster offset pixels stream k
    | .gap => Dev.feedCourses (d.bump .RI_CNT_GAP xx 0) { e' with gap := e.gap + 1 } raster offset pixels stream k
    | .restart =>
      let b := fmtBits t.geo.1
      let d := d.writePixels (d.portBay xx) xx (t.slotAddr r) (b * pixels) (stream e.next)
      let d := d.setItk xx ((d.itk xx).setSlot r (some ⟨r, pixels, none⟩))
      Dev.feedCourses d { e' with acc := e.acc + 1 } raster offset pixels stream k
    | .extend =>
      let b := fmtBits t.geo.1
      let d := d.writePixels (d.portBay xx) xx (t.slotAddr r + b * offset / 8) (b * pixels) (stream e.next)
      let d := d.setItk xx ((d.itk xx).setSlot r (some ⟨r, offset + pixels, none⟩))
      Dev.feedCourses d { e' with acc := e.acc + 1 } raster offset pixels stream k

/-- Execute the feed frame at the head of its queue (R88 to R96). A frame that was held within its courses goes on with them; where a new
ring has come in between that cannot hold them, it ends with the courses it has stored (DESIGN CHOICE, log 165). -/
def Dev.feedExec (d : Dev) (e : FeedEnt) : Dev × FeedRes :=
  let xx := e.hdr.port.val
  let t := d.itk xx
  if !d.bayModes then (d, .done .mode [])
  else match e.feed with
  | .bad _ st => (d, .done (if st = 6 then .badOpcode else if st = 7 then .wrongQueue else .badFrame) [])
  | .fflush raster ok =>
    if !ok then (d, .done .badFrame [])
    else
      let gone (x : Nat × Option RSlot) : Bool := match x.2 with | some s => !before48 s.raster raster | none => false
      let n := (t.slots.filter gone).length
      (d.setItk xx { t with slots := t.slots.filter fun x => !gone x }, .done .ok (le 4 n))
  | .cdata raster count offset pixels format reserved value data =>
    if e.next != 0 && (t.geo.2.2.2 = 0 || format != t.geo.1 || t.geo.2.1 < offset + pixels) then (d, .done .ok e.disposition)
    else if t.geo.2.2.2 = 0 then (d, .done .refusedAccess [])
    else if !feedHeaderOk t.geo true count offset pixels format reserved value (16 + data.length) then (d, .done .badFrame [])
    else
      let per := (pixels * fmtBits t.geo.1 + 31) / 32 * 4
      d.feedCourses e raster offset pixels (fun k => ofLe ((data.drop (k * per)).take per)) (count - e.next)
  | .cfill raster count offset pixels format reserved value len =>
    if e.next != 0 && (t.geo.2.2.2 = 0 || format != t.geo.1 || t.geo.2.1 < offset + pixels) then (d, .done .ok e.disposition)
    else if t.geo.2.2.2 = 0 then (d, .done .refusedAccess [])
    else if !feedHeaderOk t.geo false count offset pixels format reserved value len then (d, .done .badFrame [])
    else d.feedCourses e raster offset pixels (fun _ => fillStream (fmtBits t.geo.1) pixels value) (count - e.next)

/-- The opcode of a feed frame (R89). -/
def Feed.opcode : Feed → Nat
  | .cdata .. => 0x40
  | .cfill .. => 0x41
  | .fflush .. => 0x42
  | .bad op _ => op

/-- The completion of a feed frame (R87): on PCIe in the descriptor's reply buffer only, with MSI-X vector 4 + xx for
IRQ; over Ethernet one datagram. -/
def Dev.feedComplete (d : Dev) (h : FeedHdr) (opcode : Nat) (st : Status) (payload : List Byte) : Dev :=
  let s := h.seat.val
  let xx := h.port.val
  let st' := sentStatus s h.replyLen payload.length h.noack st
  let d := d.noteStatus s (32 + xx) st st'
  if h.noack && st' = .ok then d
  else
    let f : Frame := { seat := s, queue := 32 + xx, flags := flagResp + (if h.irq then 4 else 0), seq := h.seq,
                       opcode := opcode % 2 ^ 15 + 2 ^ 15, status := st'.code, len := payload.length, payload := payload }
    if s < 2 then
      let d := d.emit (.reply s (32 + xx) f (min h.replyLen (16 + payload.length)))
      if h.irq && d.portBay xx == some s then d.raiseMsix s (4 + xx) else d
    else if (d.seat s).up && d.on .HS_LINK_BOUND s then d.emitDatagram s f
    else d

/-- The sequence rule of R48: the distance of a sequence number from the expected one. -/
def seqDist (q : CmdQ) (seq : Nat) : Nat := (seq + 65536 - q.exp % 65536) % 65536

/-- Remember the status of a feed frame (R48, R88). -/
def Dev.feedRemember (d : Dev) (xx seq status : Nat) : Dev :=
  let t := d.itk xx
  d.setItk xx { t with fq := t.fq.remember seq status }

/-- Run the feed queue of a port from its head until it is empty or a frame is held (R88, R94, R99). -/
def Dev.feedRun (d : Dev) (xx : Nat) : Nat → Dev
  | 0 => d
  | fuel + 1 =>
    let t := d.itk xx
    match t.frames with
    | [] => d
    | e :: rest =>
      let pop (d : Dev) : Dev := d.setItk xx { d.itk xx with frames := rest }
      let dist := seqDist t.fq e.hdr.seq
      if !e.taken && dist != 0 then
        let d := pop d
        let d := if 65520 ≤ dist then
            d.feedComplete e.hdr e.feed.opcode .duplicate
              (le 2 (((t.fq.hist.find? fun h => h.1 == e.hdr.seq).map (·.2)).getD 0) ++ le 2 0)
          else d.feedComplete e.hdr e.feed.opcode .sequence []
        Dev.feedRun d xx fuel
      else
        let d := if e.taken then d else d.setItk xx { t with fq := { t.fq with exp := (t.fq.exp + 1) % 65536 } }
        match d.feedExec { e with taken := true } with
        | (d, .held e') => d.setItk xx { d.itk xx with frames := e' :: rest }
        | (d, .done st payload) =>
          let d := pop d
          let d := d.feedRemember xx e.hdr.seq st.code
          Dev.feedRun (d.feedComplete e.hdr e.feed.opcode st payload) xx fuel

/-- A feed frame arrives for execution (R88): refused for a port outside the seat's bay, else placed in its queue. -/
def Dev.feedArrive (d : Dev) (h : FeedHdr) (feed : Feed) : Dev :=
  let xx := h.port.val
  if d.bayModes && d.portBay xx != some h.seat.val then d.feedComplete h feed.opcode .refusedBay []
  else
    let t := d.itk xx
    let d := d.setItk xx { t with frames := t.frames ++ [{ hdr := h, feed := feed }] }
    d.feedRun xx (t.frames.length + 1)

/-- Reset a feed queue (R46, R81): its frames, its expected sequence number, its ring indices. -/
def Dev.feedReset (d : Dev) (xx : Nat) : Dev :=
  let t := d.itk xx
  d.setItk xx { t with fq := {}, frames := [] }

/-! ## Courses (R93, R98 to R105) -/

/-- The bar of a port in the registers, if it is in one (R23). -/
def Dev.barOf (d : Dev) (xx : Nat) : Option Nat :=
  if d.on .SC_BAR_INBAR xx then some (d.fld .SC_BAR_BAR xx) else none

/-- R105: the intake of a port switches to a new ring geometry of the registers seen: the new ring starts empty. -/
def Dev.switchRing (d : Dev) (l : Dev) (b xx : Nat) : Dev :=
  let t := d.itk xx
  let g := l.geoOf xx
  if g = t.geo then d
  else d.setItk xx { t with geo := g, slots := [], dec := none,
                            u := sub48 (add48 (d.bay b).rn 1) (l.fld .RI_DELAY_DELAY xx) }

/-- The rasters released unfired when D shrank: those from u up to r (R98). -/
def dropsOf (u r : Nat) : Nat := if before48 u r then sub48 r u else 0

/-- The decision of R98 for course n of a head, made at boundary n − 1, whose trigger has stamp `tb`, from the
registers of course n. -/
def Dev.decide98 (d l : Dev) (b xx n tb : Nat) : Option Decision :=
  let t := d.itk xx
  if t.geo.2.2.2 = 0 then none
  else
    let r := sub48 (add48 (d.bay b).rn 1) (l.fld .RI_DELAY_DELAY xx)
    if before48 r t.u then some ⟨n, .skip, r, 0, false, false, false⟩
    else
      let ok := match t.completeStamp r with | some s => decide (s < tb) | none => false
      let kind := if ok then DecKind.fire
        else if before48 r (l.pair .RI_JOBLO_JOB .RI_JOBHI_JOB b) then .early else .late
      some ⟨n, kind, r, dropsOf t.u r, false, false, false⟩

/-- The ring read of a course to fire (R85): its pixels, and whether an uncorrectable error was met. -/
def Dev.readRaster (d : Dev) (b xx r : Nat) : Dev × List Nat × Bool :=
  let t := d.itk xx
  let bits := fmtBits t.geo.1
  let n := slotBytes t.geo.1 t.geo.2.1
  let (d, ue) := d.memTouch.fsCheck (some b) xx (t.slotAddr r) n
  let stream := ofLe (d.fsBytes (t.slotAddr r) n)
  (d, (List.range t.geo.2.1).map (fun i => stream / 2 ^ (bits * i) % 2 ^ bits), ue)

/-- R102: with LATEPOL, a late head blanks every head of its bar. -/
def Dev.barBlanks (d l : Dev) (b : Nat) : Dev :=
  if !l.on .RI_BAYCTL_LATEPOL b then d
  else
    let ports := d.portsOf b
    let lateBars := ports.filterMap fun xx =>
      match (d.itk xx).dec with
      | some c => if c.kind = .late then l.barOf xx else none
      | none => none
    ports.foldl (fun d xx =>
      match l.barOf xx, (d.itk xx).dec with
      | some bar, some c => if lateBars.contains bar then d.setItk xx { d.itk xx with dec := some { c with barBlank := true } } else d
      | _, _ => d) d

/-- Boundary n confirms an advancing course for one head (R98 to R103): its effects on counters, status and ring. -/
def Dev.confirmCourse (d : Dev) (b xx n : Nat) : Dev :=
  let t := d.itk xx
  match t.dec with
  | none => d
  | some c =>
    let d := d.setItk xx { t with dec := none }
    if c.course ≠ n then d
    else match c.kind with
    | .skip => let d := d.bump .RI_CNT_SKIP xx 0; if c.barBlank then d.bump .RI_STALECNT_BARBLANK xx 0 else d
    | k =>
      let d := d.bump .RI_CNT_DROP xx 0 c.drops
      let keep (x : Nat × Option RSlot) : Bool := match x.2 with | some s => after48 s.raster c.raster | none => false
      let t := d.itk xx
      let d := d.setItk xx { t with u := add48 c.raster 1, slots := t.slots.filter keep }
      let d := if c.ue then d.setOn .RI_STAT_UE xx 0 true else d
      if k = .late then
        let was := d.on .RI_STAT_LATE xx
        let d := (d.bump .RI_LATECNT_LATE xx 0).setOn .RI_STAT_LATE xx 0 true
        if was then d else d.bayEvent b 1 0x0300 xx (c.raster % 2 ^ 32) (d.fld .RI_LATECNT_LATE xx)
      else if c.barBlank then d.bump .RI_STALECNT_BARBLANK xx 0
      else d

/-- Boundary n does not advance: nothing of the decision takes effect (R100). -/
def Dev.dropDecision (d : Dev) (xx : Nat) : Dev :=
  let t := d.itk xx
  if t.dec = none then d else d.setItk xx { t with dec := none }

/-- The memory controller acknowledges the last write of a full slot (R95): the intake stamps it. -/
def Dev.slotAck (d : Dev) (xx r : Nat) : Dev :=
  let t := d.itk xx
  match t.slot r with
  | some x => d.setItk xx (t.setSlot r (some { x with stamp := some d.tb }))
  | none => d

/-- Whether a slot awaits its acknowledgement: it holds the raster, full and not stamped. -/
def Dev.slotAwaits (d : Dev) (xx r : Nat) : Bool :=
  let t := d.itk xx
  match t.slot r with
  | some x => x.raster == r && x.fill == t.geo.2.1 && x.stamp.isNone
  | none => false

/-! ## Apertures (R107) -/

/-- Whether a data address lies in a course ring of a bay. -/
def Dev.inRing (d : Dev) (b a : Nat) : Bool :=
  (d.portsOf b).any fun xx =>
    let g := (d.itk xx).geo
    let lo := g.2.2.1 * 2 ^ 20
    decide (lo ≤ a) && decide (a < lo + g.2.2.2 * slotBytes g.1 g.2.1)

end Sys2Proof.Machine
end

