-- ==== Sys2Proof/Machine/Tables.lean ====
section
/-! DEFINITION. The table windows (R446): their bases and sizes, their ROM defaults (R342), and the bytes and words of the
tables held in on-die SRAM. -/

namespace Sys2Proof.Machine

def Dev.engine (d : Dev) (xx : Nat) : Engine := Store.get (fun _ => {}) d.engines xx
def Dev.setEngine (d : Dev) (xx : Nat) (x : Engine) : Dev := { d with engines := Store.set (fun _ => {}) d.engines xx x }

/-! ## Bases (R133, R181, R223, R255, R384) -/

def arrayAt (a : Nat) : Nat := 0x01400000 + 0x8000 * a
def lutAt (xx : Nat) : Nat := 0x01480000 + 0x4000 * xx
def lvAt (xx : Nat) : Nat := 0x01482000 + 0x4000 * xx
def rampAt (b : Nat) : Nat := 0x01580000 + 0x100 * b
def bondAt (b k : Nat) : Nat := 0x01600000 + 0x80000 * b + 0x8000 * k
def waveAt (xx bank : Nat) : Nat := 0x01800000 + 0x10000 * xx + 0x8000 * bank
def footAt (xx : Nat) : Nat := 0x01A00000 + 0x8000 * xx
def mapAt (xx : Nat) : Nat := 0x01B00000 + 0x1000 * xx
def stampAt (xx : Nat) : Nat := 0x01B20000 + 0x2000 * xx
def captAt (xx : Nat) : Nat := 0x01B60000 + 0x200 * xx
def toneAt (n : Nat) : Nat := 0x01D00000 + 0x400 * n
def defectAt (n : Nat) : Nat := 0x01D10000 + 0x400 * n
def markAt (n : Nat) : Nat := 0x01D20000 + 0x100 * n
def listAt (e : Nat) : Nat := 0x000A0000 + 0x2000 * e

/-- Byte `i` of a 16-bit value. -/
def byteOf (v i : Nat) : Byte := BitVec.ofNat 8 (v / 2 ^ (8 * (i % 2)))

/-- The 16-bit word x of the default level LUT (R342): base 0 and fraction x, base 1 at the top. -/
def lutDefault (x : Nat) : Nat := if x < 4095 then 16 * x else 1

/-- The bytes of a density curve bank that the identity curve gives (R120): 17 knots of 12 bits per nozzle. -/
def curveByte (o : Nat) : Byte :=
  let knot (i : Nat) : Nat := if i % 17 = 16 then 4095 else 256 * (i % 17)
  let i := 8 * o / 12
  let lo := 8 * o % 12
  BitVec.ofNat 8 ((knot i + 4096 * knot (i + 1)) / 2 ^ lo)

/-- The active curve bank of HPxx in an image's tables (R133). -/
def curvesAt (xx : Nat) : Nat := 0x01000000 + 0x20000 * xx

/-- What a table byte that nothing has written reads as: the ROM default of its table (R342). -/
def tblByte (a : Nat) : Byte :=
  if 0x01000000 ≤ a ∧ a < 0x01400000 then (if a % 0x20000 < 104448 then curveByte (a % 0x20000) else 0)
  else if 0x01480000 ≤ a ∧ a < 0x01500000 then
    let o := a % 0x4000
    if o < 0x2000 then byteOf (lutDefault (o / 2)) o
    else if o < 0x2020 then byteOf (if o / 2 = 0x1000 then 0 else 4095) o
    else 0
  else if 0x01580000 ≤ a ∧ a < 0x01580400 then
    let o := a % 0x100
    if o < 128 then byteOf ((2 * (o / 2) + 1) * 4096 / 128) o else 0
  else if 0x01D00000 ≤ a ∧ a < 0x01D01000 then
    let o := a % 0x100
    if o < 130 then byteOf (min (4 * (o / 2)) 255) o else 0
  else if 0x01B00000 ≤ a ∧ a < 0x01B20000 then 0xE7
  else 0

/-- A byte of a table in on-die SRAM. -/
def Dev.tb8 (d : Dev) (a : Nat) : Nat := (Store.get tblByte d.tbl a).toNat
/-- A 16-bit word of a table. -/
def Dev.tb16 (d : Dev) (a : Nat) : Nat := d.tb8 a + 256 * d.tb8 (a + 1)
/-- A 32-bit word of a table. -/
def Dev.tb32 (d : Dev) (a : Nat) : Nat := d.tb16 a + 65536 * d.tb16 (a + 2)
/-- Write bytes of a table. -/
def Dev.setTbl (d : Dev) (a : Nat) (bs : List Byte) : Dev := { d with tbl := Store.setRun tblByte d.tbl a bs }

/-- Knot k of nozzle n in a curve bank given by its differences from the identity curve (R133). -/
def knotOf (m : Store Byte) (n k : Nat) : Nat :=
  let bit := 204 * n + 12 * k
  let a := bit / 8
  let v := (Store.get curveByte m a).toNat + 256 * (Store.get curveByte m (a + 1)).toNat
  v / 2 ^ (bit % 8) % 4096

/-! ## The health map (R213) and the waveform descriptors (R181) -/

/-- A state of the health map lets a nozzle fire: SOUND or UNKNOWN (R213). -/
def usableState (v : Nat) : Bool := v % 8 == 0 || v % 8 == 7

/-- A nozzle of a head is usable (R213). -/
def Dev.usable (d : Dev) (xx n : Nat) : Bool := usableState (d.tb8 (mapAt xx + n))

/-- The descriptor of a waveform: its base. -/
def wvDesc (xx bank w : Nat) : Nat := waveAt xx bank + 0x4000 + 0x40 * w
def Dev.wvLen (d : Dev) (xx bank w : Nat) : Nat := d.tb16 (wvDesc xx bank w)
def Dev.wvNwin (d : Dev) (xx bank w : Nat) : Nat := d.tb8 (wvDesc xx bank w + 2)
def Dev.wvStart (d : Dev) (xx bank w k : Nat) : Nat := d.tb16 (wvDesc xx bank w + 4 + 4 * k)
def Dev.wvEnd (d : Dev) (xx bank w k : Nat) : Nat := d.tb16 (wvDesc xx bank w + 6 + 4 * k)

/-- R181: a descriptor is valid. -/
def Dev.wvValid (d : Dev) (xx bank w : Nat) : Bool :=
  let len := d.wvLen xx bank w
  let n := d.wvNwin xx bank w
  1 ≤ len && len ≤ 512 && n ≤ 8 && (List.range n).all fun k =>
    decide (d.wvStart xx bank w k < d.wvEnd xx bank w k) && decide (d.wvEnd xx bank w k ≤ len) &&
      (k == 0 || decide (d.wvEnd xx bank w (k - 1) + 1 ≤ d.wvStart xx bank w k))

end Sys2Proof.Machine
end

