-- ==== Sys2Proof/Machine/Pacing.lean ====
section
/-! DEFINITION. Position channels, pacers, compare engines and encoder emulation (R141 to R174). Instants here are values of
the time base, in CK_POS cycles. -/

namespace Sys2Proof.Machine

def Dev.psc (d : Dev) (n : Nat) : PsChan := Store.get (fun _ => {}) d.ps n
def Dev.setPsc (d : Dev) (n : Nat) (x : PsChan) : Dev := { d with ps := Store.set (fun _ => {}) d.ps n x }
def Dev.cp (d : Dev) (e : Nat) : CpEngine := Store.get (fun _ => {}) d.cpe e
def Dev.setCp (d : Dev) (e : Nat) (x : CpEngine) : Dev := { d with cpe := Store.set (fun _ => {}) d.cpe e x }
def Dev.em (d : Dev) (n : Nat) : Emul := Store.get (fun _ => {}) d.ems n
def Dev.setEm (d : Dev) (n : Nat) (x : Emul) : Dev := { d with ems := Store.set (fun _ => {}) d.ems n x }
def Dev.pc (d : Dev) (b : Nat) : Pacer := (d.bay b).pc
def Dev.setPc (d : Dev) (b : Nat) (x : Pacer) : Dev := d.setBay b { d.bay b with pc := x }

/-- The position channel is fenced (R156, R302). -/
def Dev.psFenced (d : Dev) (n : Nat) : Bool := d.fbit .FC_FENCE2_PS 0 0 n

/-- One course in the pacer's fixed point. -/
def one32 : Int := 2 ^ 32

/-! ## Slow outputs (R141, R395) -/

/-- What SV_FORCE does to slow output p (R395): 0 nothing. -/
def Dev.forceCode (d : Dev) (p : Nat) : Nat := wget (d.reg .SV_FORCE (p / 16)) (2 * (p % 16)) 2

/-- A slow output takes a level, unless SV_FORCE holds it (R395). -/
def Dev.pinOut (d : Dev) (p : Nat) (level : Option Bool) : Dev := if d.forceCode p = 0 then d.emit (.pin p level) else d

/-- The level PSn_OUT is to have (R141): high impedance in no bay (R26, R443), else by OUTSEL; the SSI clock is high while idle. -/
def Dev.psWant (d : Dev) (n : Nat) : Option Bool :=
  if !d.running || (d.psBay n).isNone then none
  else if d.fld .PS_CFG_TYPE n = 3 then some true
  else match d.fld .PS_CFG_OUTSEL n with
    | 0 => some false
    | 1 => some true
    | 2 => some (d.on .PS_STAT_DIR n)
    | _ => some (d.fbit .PS_STAT_IN n 0 0)

/-- PSn_OUT: a fenced channel holds its last level, and an SSI channel its clock high (R156). -/
def Dev.psOut (d : Dev) (n : Nat) : Option Bool :=
  if d.psFenced n && d.fld .PS_CFG_TYPE n != 3 then (d.psc n).out else d.psWant n

/-- PSn_OUT follows (R141). -/
def Dev.psPin (d : Dev) (n : Nat) : Dev :=
  let w := d.psOut n
  if (d.psc n).out == w then d else (d.setPsc n { d.psc n with out := w }).pinOut n w

def Dev.psPins (d : Dev) : Dev := forN 8 (fun n d => d.psPin n) d

/-! ## The pacer's source (R158) -/

/-- The source PC_CTL and the mode in force select: 0 none, 1 channel, 2 generator (R158). -/
def Dev.srcNow (d : Dev) (b : Nat) : Nat :=
  if !d.bayModes || d.boot.phase == .reloadWait || !d.present b then 0
  else
    let m := (d.bay b).mode
    if (m = .prime && d.on .PC_CTL_GENPRIME b) || (m = .calibrate && d.on .PC_CTL_GENCAL b) then 2
    else d.fld .PC_CTL_SRCSEL b

/-- The sense in force (R159): true in reverse. -/
def Dev.reverseNow (d : Dev) (b : Nat) : Bool :=
  match d.fld .PC_CTL_SENSE b with
  | 0 => false
  | 1 => true
  | _ => d.on .PS_STAT_DIR (d.fld .PC_CTL_CHAN b)

/-- Rebase (R159): q = p, m = floor(p), rate = 0, and no interval held (R160). -/
def Pacer.rebase (x : Pacer) : Pacer :=
  { x with q := x.p, m := x.p / one32, cap := x.p, rate := 0, ivals := [], lastEv := none }

/-- The channel that paces a bay, when its source is a channel. -/
def Dev.pacedBy (d : Dev) (n : Nat) : Option Nat :=
  (List.range 4).find? fun b => (d.pc b).src == 1 && d.fld .PC_CTL_CHAN b == n && d.psBay n == some b

/-- The stall watch of a channel is armed (R155). -/
def Dev.stallArmed (d : Dev) (n : Nat) : Bool :=
  d.on .PS_CMD_MOVE n ||
    match d.pacedBy n with
    | some b => (match (d.bay b).mode with | .print | .degraded | .calibrate => true | _ => false)
    | none => false

/-- The watch runs: it is armed, and TIMEOUT is not 0 (R155). -/
def Dev.stallWatched (d : Dev) (n : Nat) : Bool := d.stallArmed n && d.fld .PS_STALL_TIMEOUT n != 0

/-- Watches armed by a change start from it (R155): `before` is the device before the change. -/
def Dev.restartStalls (d before : Dev) : Dev :=
  forN 8 (fun n d => if d.stallWatched n && !before.stallWatched n then
    d.setPsc n { d.psc n with stallFrom := d.tb, stalled := false } else d) d

/-- The active source is made the one that is now selected (R158, R162): a change rebases the pacer, starts the generator
at `base`, and raises PC_SOURCE unless `quiet`. -/
def Dev.updateSource (d : Dev) (b base : Nat) (quiet : Bool) : Dev :=
  let x := d.pc b
  let s := d.srcNow b
  if s = x.src then d
  else
    let x' := { x.rebase with src := s, genNext := base + d.fld .PC_GEN_PERIOD b }
    let d := (d.setPc b x').restartStalls d
    if quiet then d else d.bayEvent b 1 0x0701 b s x.src

/-- A stop request is registered at a bay's pacer (R61, R298); the first one waiting is kept. -/
def Dev.registerStop (d : Dev) (b source : Nat) : Dev :=
  let x := d.pc b
  if x.stop.isSome then d else d.setPc b { x with stop := some source }

/-- The pacer has issued no trigger for 1 ms or more (R70). -/
def Dev.pacerQuiet (d : Dev) (b : Nat) : Bool :=
  let x := d.pc b
  decide (ms 1 ≤ d.tb - max x.quietFrom (x.lastTrig.getD 0))

/-! ## Issuing triggers (R61, R66, R163, R168, R405) -/

/-- Source increments reach an emulation output (R168). -/
def Dev.emulate (d : Dev) (n : Nat) (inc : Int) : Dev :=
  let x := d.em n
  let den : Int := max 1 (d.fld .EM_RATIO_D n)
  let a := x.a + inc * d.fld .EM_RATIO_N n
  let steps : Int := if a ≥ 0 then a / den else -((-a) / den)
  let k := x.k + steps
  let x := { x with a := a - steps * den }
  let excess : Int := if k > 65535 then k - 65535 else if k < -65535 then -65535 - k else 0
  let d := d.setEm n { x with k := clampInt (-65535) 65535 k }
  if excess = 0 then d
  else
    let was := d.on .EM_STAT_EMULAG n
    let d := (d.bump .EM_LOST_LOST n 0 excess.toNat).setOn .EM_STAT_EMULAG n 0 true
    if was then d else d.unitEvent (d.emBay n) 1 0x0900 n (d.fld .EM_LOST_LOST n) 0

/-- The emulation outputs that count from a source: 0 to 7 channels, 8 a bay's triggers (R168). -/
def Dev.emulators (d : Dev) (src : Nat) (b : Option Nat) : List Nat :=
  (List.range 4).filter fun n => d.on .EM_CFG_EN n && d.fld .EM_CFG_SRC n == src && d.emBay n == b && b.isSome

/-- The course the pacer's agent counts (R68): the triggers issued and not yet processed have passed it. -/
def Dev.ccPacer (d : Dev) (b : Nat) : Nat := add48 (d.bay b).cc (d.pc b).trigs.length

/-- nSTOPb is low and connected (R62): from a fall, while the pin stays low. -/
def Dev.nstopLow (d : Dev) (b : Nat) : Bool :=
  d.on .KS_BAYCTL_NSTOPEN b && (match Store.get (fun _ => none) d.nstop b with
    | none => false
    | some none => true
    | some (some t) => decide (d.now < t))

/-- Issue a trigger with its stamp: it carries a registered stop, or nSTOPb's while the pin is low (R35, R62), and the apply of a commit whose target is the course after
it (R61, R66), and it counts for the period, the rate and the emulation outputs (R163, R168). -/
def Dev.issueNow (d : Dev) (b stamp : Nat) : Dev :=
  let x := d.pc b
  let k := add48 (d.bay b).cc (x.trigs.length + 1)
  let d := match x.lastTrig with
    | some t => d.setFld .PC_PERIOD_CYC b 0 (min (stamp - t) 0xFFFFFF)
    | none => d
  let d := d.setPc b { x with trigs := x.trigs ++ [⟨stamp, x.stop.or (if d.nstopLow b then some 1 else none)⟩], stop := none, lastTrig := some stamp,
                              recent := stamp :: (x.recent.filter fun t => decide (stamp < t + ms 10)) }
  let ks := d.kset b
  let mark (s : KSlot) : KSlot := if s.st = .armed && s.target == add48 k 1 then { s with carried := true } else s
  let d := d.setKset b { ks with host := mark ks.host, int := mark ks.int }
  (d.emulators 8 (some b)).foldl (fun d n => d.emulate n (if d.reverseNow b then -1 else 1)) d

/-- A trigger whose undelayed cycle is `t` (R405): delayed by PT_TRIGDLY, behind those already delayed, or issued. -/
def Dev.issueTrigger (d : Dev) (b t : Nat) : Dev :=
  let x := d.pc b
  let mode := d.fld .PT_TRIGDLY_MODE b
  let delay := if mode = 1 || mode = 2 then d.fld .PT_TRIGDLY_CYC b else 0
  let lastDelayed := x.delayed.getLast?
  let at_ := match lastDelayed with | some l => max (t + delay) (l + 1) | none => t + delay
  let old := d.ptActive
  let d := if mode = 2 then (d.setFld .PT_TRIGDLY_MODE b 0 0).ptNote old else d
  if delay = 0 && lastDelayed.isNone then d.issueNow b t
  else d.setPc b { d.pc b with delayed := x.delayed ++ [at_] }

/-- The delayed trigger next to issue is due. -/
def Dev.delayedDue (d : Dev) (b : Nat) : Bool :=
  match (d.pc b).delayed with
  | t :: _ => decide (t ≤ d.tb)
  | [] => false

/-- Issue the oldest delayed trigger, stamped with its delayed cycle (R405). -/
def Dev.issueDelayed (d : Dev) (b : Nat) : Dev :=
  let x := d.pc b
  match x.delayed with
  | t :: rest => (d.setPc b { x with delayed := rest }).issueNow b t
  | [] => d

/-! ## The pacer on position (R159, R160) -/

/-- q at instant t under the interpolator. -/
def Pacer.qAt (x : Pacer) (t : Nat) : Int :=
  if x.rate = 0 then x.q else min (x.q + x.rate * (t - x.qT)) (max x.cap x.q)

/-- The cycle in which q reaches mark m + 1, if it does: at once, or while the interpolator advances it. -/
def Pacer.crossAt (x : Pacer) : Option Nat :=
  let goal := (x.m + 1) * one32
  if goal ≤ x.q then some x.qT
  else if x.rate ≠ 0 && decide (goal ≤ x.cap) then
    some (x.qT + ((goal - x.q + x.rate - 1) / x.rate).toNat)
  else none

/-- The cycle of the next crossing, one cycle after the last trigger at the earliest (R159). -/
def Pacer.nextCross (x : Pacer) : Option Nat :=
  x.crossAt.map fun t => match x.lastTrig with | some l => max t (l + 1) | none => t

/-- An increment event reaches the pacer of a bay (R159, R160); in reverse sense it is negated. A course crossed by an event
that is not interpolated is issued with the event's stamp. -/
def Dev.pacerIncrement (d : Dev) (b : Nat) (inc : Int) (stamp : Nat) : Dev :=
  let x := d.pc b
  let dd := if d.reverseNow b then -inc else inc
  let ratio : Int := d.pair .PC_RATLO_FRAC .PC_RATHI_INT b
  let dp := dd * ratio
  let p := x.p + dp
  let avg := d.fld .PC_CTL_AVG b
  let ivals := match x.lastEv with
    | some e => (min (stamp - e) (2 ^ 24) :: x.ivals).take (2 ^ avg)
    | none => x.ivals
  let full := ivals.length == 2 ^ avg
  if d.on .PC_CTL_INTERP b && full then
    let q := x.qAt stamp
    let cap := p + max dp 0
    let sum := max 1 (ivals.foldl (· + ·) 0)
    let rate := if q < cap then ((cap - q).toNat * 2 ^ avg) / sum else 0
    d.setPc b { x with p := p, q := q, cap := cap, rate := rate, qT := stamp, ivals := ivals, lastEv := some stamp }
  else
    let x := { x with p := p, q := p, cap := p, rate := 0, qT := stamp, ivals := ivals, lastEv := some stamp }
    let d := d.setPc b x
    if x.m + 1 ≤ p / one32 then
      (d.setPc b { x with m := x.m + 1 }).issueTrigger b
        (match x.lastTrig with | some l => max stamp (l + 1) | none => stamp)
    else d

/-- The interpolated crossing of a bay is due: its source channel delivers (R158), and q has crossed the next course. -/
def Dev.interpDue (d : Dev) (b : Nat) : Bool :=
  let x := d.pc b
  x.src == 1 && !d.psFenced (d.fld .PC_CTL_CHAN b) &&
    match x.nextCross with
    | some t => decide (t ≤ d.tb)
    | none => false

/-- Issue the interpolated trigger (R159). -/
def Dev.interpIssue (d : Dev) (b : Nat) : Dev :=
  let x := d.pc b
  match x.nextCross with
  | some t => (d.setPc b { x with q := x.qAt t, qT := max t x.qT, m := x.m + 1 }).issueTrigger b t
  | none => d

/-- The generator's trigger is due (R162). -/
def Dev.genDue (d : Dev) (b : Nat) : Bool := (d.pc b).src == 2 && decide ((d.pc b).genNext ≤ d.tb)

/-- Issue the generator's trigger; the next follows PERIOD cycles later (R162). -/
def Dev.genIssue (d : Dev) (b : Nat) : Dev :=
  let x := d.pc b
  (d.setPc b { x with genNext := x.genNext + d.fld .PC_GEN_PERIOD b }).issueTrigger b x.genNext

/-! ## Counters, direction and stall (R151 to R155) -/

/-- COUNT takes a loaded value, clamped to the limits with LIMIT set (R152). -/
def Dev.loadCount (d : Dev) (n : Nat) (v : Int) : Dev :=
  if d.on .PS_CFG_WRAP n then d.setFld .PS_POS_COUNT n 0 (enc 32 v)
  else
    let lo := d.sfld .PS_LIMLO_LIM n
    let hi := d.sfld .PS_LIMHI_LIM n
    let c := clampInt lo hi v
    let d := d.setFld .PS_POS_COUNT n 0 (enc 32 c)
    if c = v then d
    else
      let was := d.on .PS_STAT_LIMIT n
      let d := d.setOn .PS_STAT_LIMIT n 0 true
      if was then d else d.unitEvent (d.psBay n) 1 0x0603 n (enc 32 c) 0

/-- PS_PREVAL loads into COUNT, and the increments of the same cycle add to it (R152); a fenced channel holds COUNT (R156). -/
def Dev.preload (d : Dev) (n : Nat) : Dev :=
  if d.psFenced n then d
  else
    let c := (d.psc n).cyc
    let d := d.loadCount n (d.sfld .PS_PREVAL_VAL n)
    if c.1 = d.tb && c.2 != 0 then d.loadCount n (d.sfld .PS_POS_COUNT n + c.2) else d

/-- DIR follows x with its dead-band (R153). -/
def Dev.updateDir (d : Dev) (n : Nat) (inc : Int) : Dev :=
  let x := d.psc n
  let pos := x.x + inc
  let db : Int := d.fld .PS_DB_DB n
  let dir := d.on .PS_STAT_DIR n
  let e := if dir then min x.e pos else max x.e pos
  let turn := if dir then decide (e + db + 1 ≤ pos) else decide (pos ≤ e - db - 1)
  if turn then
    let d := d.setPsc n { x with x := pos, e := pos }
    let d := d.setOn .PS_STAT_DIR n 0 (!dir)
    let d := d.unitEvent (d.psBay n) 1 0x0604 n (if dir then 0 else 1) (d.fld .PS_POS_COUNT n)
    match d.pacedBy n with
    | some b => if d.fld .PC_CTL_SENSE b = 2 then d.setPc b (d.pc b).rebase else d
    | none => d
  else d.setPsc n { x with x := pos, e := e }

/-- An increment event (R151): COUNT, direction, speed window, stall watch, pacer and emulation outputs. -/
def Dev.increment (d : Dev) (n : Nat) (inc : Int) (stamp : Nat) : Dev :=
  let d := d.loadCount n (d.sfld .PS_POS_COUNT n + inc)
  let d := d.updateDir n inc
  let x := d.psc n
  let x := { x with cyc := if x.cyc.1 = d.tb then (d.tb, x.cyc.2 + inc) else (d.tb, inc) }
  let d := d.setPsc n { x with spdSum := x.spdSum + inc, stallFrom := d.tb, stalled := false }
  let d := match d.pacedBy n with
    | some b => d.pacerIncrement b inc stamp
    | none => d
  (d.emulators n (d.psBay n)).foldl (fun d k => d.emulate k inc) d

/-- The stall watch has run out (R155). -/
def Dev.stallDue (d : Dev) (n : Nat) : Bool :=
  let x := d.psc n
  let limit := d.fld .PS_STALL_TIMEOUT n
  d.running && (d.psBay n).isSome && d.stallArmed n && limit != 0 && !x.stalled && decide (limit * 2000 ≤ d.tb - x.stallFrom)

/-- STALL sets, and the stall source is raised (R155). -/
def Dev.stallFire (d : Dev) (n : Nat) : Dev :=
  let d := d.setPsc n { d.psc n with stalled := true }
  let was := d.on .PS_STAT_STALL n
  let d := d.setOn .PS_STAT_STALL n 0 true
  let d := if was then d else d.unitEvent (d.psBay n) 1 0x0601 n (d.fld .PS_POS_COUNT n) (d.fld .PS_STALL_TIMEOUT n)
  d.signal srcPsStall n

/-! ## Decoding (R145 to R150) -/

/-- The quadrature state (A, B) as its place in the forward sequence 00, 10, 11, 01 (R146). -/
def quadPlace (i : Nat) : Nat := match i % 4 with | 0 => 0 | 1 => 1 | 3 => 2 | _ => 3

/-- The increment of a quadrature step from inputs `o` to `i` (bit 0 A, bit 1 B), by QMODE (R146); none when both change. -/
def quadStep (qmode o i : Nat) : Option Int :=
  let da := o % 2 != i % 2
  let db := o / 2 % 2 != i / 2 % 2
  if da && db then none
  else
    let fwd := (quadPlace i + 4 - quadPlace o) % 4 == 1
    let v : Int := if !da && !db then 0 else if fwd then 1 else -1
    if qmode = 0 then some (if da && i % 2 == 1 then (if i / 2 % 2 == 0 then 1 else -1) else 0)
    else if qmode = 1 then some (if da then v else 0)
    else some v

/-- The place of a Hall state in the forward sequence 1, 3, 2, 6, 4, 5 (R148). -/
def hallPlace (h : Nat) : Nat := match h with | 1 => 0 | 3 => 1 | 2 => 2 | 6 => 3 | 4 => 4 | _ => 5

/-- A Hall move between valid states: its count and whether it is a skip (R148). -/
def hallStep (o h : Nat) : Int × Bool :=
  match (hallPlace h + 6 - hallPlace o) % 6 with
  | 0 => (0, false)
  | 1 => (1, false)
  | 5 => (-1, false)
  | 2 => (2, true)
  | 4 => (-2, true)
  | _ => (0, true)

/-- The over-rate check of an accepted edge on input k (R145). -/
def Dev.overrate (d : Dev) (n k stamp : Nat) : Dev :=
  let x := d.psc n
  let m := d.fld .PS_RATE_MINIVL n
  let bad := match Store.get (fun _ => none) x.edgeAt k with
    | some t => m != 0 && decide (stamp < t + m) && d.fld .PS_CFG_TYPE n != 3
    | none => false
  d.setPsc n { x with edgeAt := Store.set (fun _ => none) x.edgeAt k (some stamp), subBad := x.subBad || bad }

/-- The levels of a channel's three pins are noted; no reset changes them. -/
def Dev.notePins (d : Dev) (n pins : Nat) : Dev :=
  { d with boot := { d.boot with pins := Store.set (fun _ => 0) d.boot.pins n pins } }

/-- The Hall state a decoder starts from: the levels, when they are a valid state (R148). -/
def hallStart (i : Nat) : Nat := if i = 7 then 0 else i

/-- The levels before and after the filter are shown, and a decoder starts from them (R141, R143, R396). -/
def Dev.psLevels (d : Dev) (n raw pins : Nat) : Dev :=
  let inv := d.fld .PS_CFG_INV n
  let i := Nat.xor (pins % 8) inv
  ((d.setFld .PS_STAT_IN n 0 i).setFld .PS_STAT_RAW n 0 (Nat.xor (raw % 8) inv)).setPsc n { d.psc n with hallLast := hallStart i }

/-- A channel starts from the levels of its pins (R141). -/
def Dev.psStart (d : Dev) (n : Nat) : Dev :=
  let p := Store.get (fun _ => 0) d.boot.pins n
  (d.psLevels n p p).psPin n

/-- The levels before the filter, after inversion: an input that changes is seen at its level from this cycle on (R143). -/
def Dev.rawLevels (d : Dev) (n r : Nat) : Dev :=
  let old := d.fld .PS_STAT_RAW n
  let x := d.psc n
  let from_ := forN 3 (fun k m => if old / 2 ^ k % 2 != r / 2 ^ k % 2 then Store.set (fun _ => 0) m k d.tb else m) x.rawFrom
  (d.setPsc n { x with rawFrom := from_ }).setFld .PS_STAT_RAW n 0 r

/-- The filter accepts the level of input k (R143): it has been seen in FILT + 1 consecutive samples. -/
def Dev.filtered (d : Dev) (n k : Nat) : Bool := decide (Store.get (fun _ => 0) (d.psc n).rawFrom k + d.fld .PS_CFG_FILT n ≤ d.tb)

/-- The levels after the filter, when `i` are those it is to accept: an input takes one that it has been seen at for long enough. -/
def Dev.accept (d : Dev) (n i : Nat) : Nat :=
  let o := d.fld .PS_STAT_IN n
  let r := d.fld .PS_STAT_RAW n
  forN 3 (fun k acc => acc + 2 ^ k * (if r / 2 ^ k % 2 = i / 2 ^ k % 2 && d.filtered n k then i / 2 ^ k % 2 else o / 2 ^ k % 2)) 0

/-- Z rises (R152): COUNT is latched, and PREVAL loaded with ZMODE 2; emulation outputs that follow the source's Z raise theirs at the
next count (R169). -/
def Dev.zRise (d : Dev) (n : Nat) : Dev :=
  if d.psFenced n then d
  else
    let zm := d.fld .PS_CFG_ZMODE n
    let d := if zm = 0 then d
      else
        let d := (d.setFld .PS_ZLAT_COUNT n 0 (d.fld .PS_POS_COUNT n)).setOn .PS_STAT_ZSEEN n 0 true
        if zm = 2 then d.preload n else d
    (d.emulators n (d.psBay n)).foldl (fun d k =>
      if d.fld .EM_CFG_ZMODE k = 2 then d.setEm k { d.em k with zNext := true } else d) d

/-- Inputs change (`raw` before the filter, `pins` what it is to accept; both before inversion; R143): the over-rate check of every input
accepted, then Z, then decoding by type (R146 to R148), stamped with the first sample at the new level. A fenced channel samples and
checks and delivers no increment (R156). -/
def Dev.positionEdge (d : Dev) (n raw pins : Nat) : Dev :=
  let d := d.notePins n raw
  let inv := d.fld .PS_CFG_INV n
  let d := d.rawLevels n (Nat.xor (raw % 8) inv)
  let i := d.accept n (Nat.xor (pins % 8) inv)
  let o := d.fld .PS_STAT_IN n
  let changed (k : Nat) : Bool := o / 2 ^ k % 2 != i / 2 ^ k % 2
  let since (k : Nat) : Nat := Store.get (fun _ => 0) (d.psc n).rawFrom k
  let stamp := forN 3 (fun k t => if changed k && (k < 2 || d.fld .PS_CFG_TYPE n == 2) then max t (since k) else t) 0
  let d := d.setFld .PS_STAT_IN n 0 i
  let d := forN 3 (fun k d => if changed k then d.overrate n k (since k) else d) d
  let d := if d.fld .PS_CFG_TYPE n = 2 then d else d.setPsc n { d.psc n with hallLast := hallStart i }
  let d := if d.fld .PS_CFG_TYPE n < 2 && changed 2 && i / 4 % 2 == 1 then d.zRise n else d
  let deliver (d : Dev) (v : Int) : Dev := if v = 0 || d.psFenced n then d else d.increment n v stamp
  match d.fld .PS_CFG_TYPE n with
  | 0 =>
    match quadStep (d.fld .PS_CFG_QMODE n) (o % 4) (i % 4) with
    | some v => deliver d v
    | none => d.bump .PS_ERRCNT_QERR n 0
  | 1 => deliver d (if changed 0 && i % 2 == 1 then (if i / 2 % 2 == 1 then 1 else -1) else 0)
  | 2 =>
    if i = o then d
    else if i = 0 || i = 7 then
      let was := d.on .PS_STAT_HALLBAD n
      let d := (d.setOn .PS_STAT_HALLBAD n 0 true).setFld .PS_STAT_HALLST n 0 i
      let d := d.setPsc n { d.psc n with lastBad := some d.now }
      let d := if was then d else d.unitEvent (d.psBay n) 1 0x0602 n i (d.psc n).hallLast
      d.signal srcPsInput n
    else
      let last := (d.psc n).hallLast
      let d := d.setPsc n { d.psc n with hallLast := i }
      if last = 0 then d
      else
        let (v, skip) := hallStep last i
        deliver (if skip then d.bump .PS_ERRCNT_SKIP n 0 else d) v
  | _ => d

/-- The filter accepts a rising edge of Z (R152). -/
def Dev.zEdge (d : Dev) (n : Nat) : Dev :=
  let stamp := if d.fbit .PS_STAT_RAW n 0 2 then Store.get (fun _ => 0) (d.psc n).rawFrom 2 else d.tb - d.fld .PS_CFG_FILT n
  let d := d.setFbit .PS_STAT_IN n 0 2 true
  let d := d.notePins n (Nat.xor (d.fld .PS_STAT_IN n) (d.fld .PS_CFG_INV n))
  let d := d.setPsc n { d.psc n with hallLast := hallStart (d.fld .PS_STAT_IN n) }
  let d := d.setPsc n { d.psc n with rawFrom := Store.set (fun _ => 0) (d.psc n).rawFrom 2 stamp }
  ((d.setFbit .PS_STAT_RAW n 0 2 true).overrate n 2 stamp).zRise n

/-- A 10 µs sub-window ends (R145). -/
def Dev.subWindowEnd (d : Dev) (n : Nat) : Dev :=
  let x := d.psc n
  let bad := x.subBad
  let run := if bad then x.badRun + 1 else 0
  let d := d.setPsc n { x with subEnd := x.subEnd + 2000, subBad := false, badRun := if run = 100 then 0 else run,
                               lastBad := if bad then some d.now else x.lastBad }
  let d := if bad then d.bump .PS_ERRCNT_OVRATE n 0 else d
  if run = 100 then
    let was := d.on .PS_STAT_CHATTER n
    let d := d.setOn .PS_STAT_CHATTER n 0 true
    let d := if was then d
      else d.unitEvent (d.psBay n) 1 0x0600 n (d.fld .PS_POS_COUNT n) (d.fld .PS_ERRCNT_OVRATE n)
    d.signal srcPsChatter n
  else d

/-- The clock period of an SSI channel in CK_POS cycles (R149). -/
def Dev.ssiClock (d : Dev) (n : Nat) : Nat := 2 * (d.fld .PS_SSI_CLKDIV n + 1)

/-- An SSI frame may start (R149, R156). -/
def Dev.ssiDue (d : Dev) (n : Nat) : Bool :=
  d.running && d.fld .PS_CFG_TYPE n == 3 && !d.psFenced n && (d.psc n).ssi.isNone &&
    (match d.psBay n with | some b => d.present b | none => false) && decide ((d.psc n).ssiNext ≤ d.tb)

/-- Gray code to binary (R150). -/
def grayDecode (bits w : Nat) : Nat := forN bits (fun k acc => Nat.xor acc (if k = 0 then 0 else w / 2 ^ k)) w

/-- The SSI word is decoded (R150). -/
def Dev.ssiDecode (d : Dev) (n raw : Nat) : Dev :=
  let x := d.psc n
  match x.ssi with
  | none => d
  | some (stamp, idleLow) =>
    if d.psFenced n then d.setPsc n { x with ssi := none } else
    let bits := d.fld .PS_SSI_BITS n
    let raw := raw % 2 ^ bits
    let w := if d.on .PS_SSI_GRAY n then grayDecode bits raw else raw
    let prev := x.ssiPrev.getD w
    let dd := sgn bits ((w + 2 ^ bits - prev) % 2 ^ bits)
    let far := decide ((d.fld .PS_SSIT_MAXSTEP n : Int) < (if dd < 0 then -dd else dd))
    let d := d.setPsc n { x with ssi := none }
    if idleLow || far then
      let d := d.setPsc n { d.psc n with lastBad := some d.now }
      let was := d.on .PS_STAT_SSIERR n
      let d := (d.setOn .PS_STAT_SSIERR n 0 true).bump .PS_ERRCNT_SSIERR n 0
      let d := if was then d else d.unitEvent (d.psBay n) 1 0x0605 n raw (if idleLow then 0 else 1)
      d.signal srcPsInput n
    else
      let d := d.setPsc n { d.psc n with ssiPrev := some w }
      if x.ssiPrev.isNone then d else d.increment n dd stamp

/-- A speed window ends (R154). -/
def Dev.speedWindowEnd (d : Dev) (n : Nat) : Dev :=
  let x := d.psc n
  let d := d.setFld .PS_SPEED_SUM n 0 (enc 32 x.spdSum)
  let d := d.setPair .PS_SPDTBLO_TB .PS_SPDTBHI_TB n 0 x.spdEnd
  d.setPsc n { x with spdSum := 0, spdEnd := x.spdEnd + d.fld .PS_SPDWIN_WIN n * 2000 }

/-- PC_SPEED.HZ (R163): |PS_SPEED| × ratio ÷ window of the source channel. -/
def Dev.pcSpeed (d : Dev) (b : Nat) : Nat :=
  if (d.pc b).src = 1 then
    let n := d.fld .PC_CTL_CHAN b
    let v := (d.sfld .PS_SPEED_SUM n).natAbs
    min (v * d.pair .PC_RATLO_FRAC .PC_RATHI_INT b * 100000 / (max 1 (d.fld .PS_SPDWIN_WIN n) * 2 ^ 32)) 0xFFFFF
  else 0

/-! ## Compare engines (R165 to R167) -/

/-- The value a compare engine compares (R166). -/
def Dev.cmpValue (d : Dev) (e : Nat) : Nat :=
  let s := d.fld .CP_CTL_SRC e
  if s = 8 then (match d.cpeBay e with | some b => (d.bay b).cc % 2 ^ 32 | none => 0) else d.fld .PS_POS_COUNT s

/-- g of R166: how far the value has passed the armed target. -/
def Dev.cmpGap (d : Dev) (e : Nat) : Int :=
  let v := d.cmpValue e
  let t := (d.cp e).target
  sgn 32 ((if d.on .CP_CTL_DOWN e then t + 2 ^ 32 - v else v + 2 ^ 32 - t) % 2 ^ 32)

/-- Arm entry `i` in lap `lap` (R166); an entry already reached is late, and the first of a run raises CP_LATE. -/
def Dev.cmpArm (d : Dev) (e i lap : Nat) : Dev :=
  let x := d.cp e
  let a := listAt e + 8 * i
  let t := enc 32 (sgn 32 (d.tb32 a) + (lap : Int) * d.sfld .CP_PERIOD_PERIOD e)
  let d := d.setCp e { x with run := true, idx := i, lap := lap, target := t, width := d.tb16 (a + 4), mask := d.tb16 (a + 6) }
  let d := (d.setFld .CP_STAT_PTR e 0 i).setFld .CP_STAT_LAP e 0 (min lap 4095)
  let d := d.setOn .CP_STAT_RUN e 0 true
  if 0 ≤ d.cmpGap e then
    let d := d.setOn .CP_STAT_LATE e 0 true
    if (d.cp e).lateSaid then d
    else (d.setCp e { d.cp e with lateSaid := true }).unitEvent (d.cpeBay e) 1 0x0801 e i (d.cmpValue e)
  else d

/-- EN goes from 0 to 1: the engine starts at entry 0 (R166). -/
def Dev.cmpStart (d : Dev) (e : Nat) : Dev :=
  (d.setCp e { d.cp e with lateSaid := false }).cmpArm e 0 0

/-- EN goes to 0: the engine stops comparing. -/
def Dev.cmpStop (d : Dev) (e : Nat) : Dev :=
  (d.setCp e { d.cp e with run := false }).setOn .CP_STAT_RUN e 0 false

/-- A pulse of any engine runs on an output. -/
def Dev.pulseOn (d : Dev) (o : Nat) : Bool :=
  (List.range 8).any fun e => (Store.get (fun _ => none) (d.cp e).pulses o).isSome

/-- The output is active: toggled on, or a pulse runs (R167). -/
def Dev.cmpActive (d : Dev) (o : Nat) : Bool := Store.get (fun _ => false) d.cmpT o || d.pulseOn o

/-- The level of a compare output: by POL while its bay is in a mode, high impedance as an unused port otherwise (R167, R441, R443). -/
def Dev.cmpLevel (d : Dev) (o : Nat) : Option Bool :=
  match d.cmpBay o with
  | some b => if d.bayModes && d.present b then some (d.cmpActive o != d.on .CP_OUT_POL o) else none
  | none => none

/-- The pins of the compare outputs that a change moved (R167). -/
def Dev.cmpPins (d before : Dev) (mask : Nat) : Dev :=
  forN 16 (fun o d => if mask / 2 ^ o % 2 = 1 && d.cmpLevel o != before.cmpLevel o then d.pinOut (8 + o) (d.cmpLevel o) else d) d

/-- Fire the armed entry (R166, R167) and arm the next. -/
def Dev.cmpFire (d : Dev) (e : Nat) : Dev :=
  let before := d
  let x := d.cp e
  let own := forN 16 (fun o acc => if x.mask / 2 ^ o % 2 = 1 && d.cmpBay o == d.cpeBay e then acc + 2 ^ o else acc) 0
  let d := forN 16 (fun o d =>
    if own / 2 ^ o % 2 = 0 then d
    else if x.width = 0 then { d with cmpT := Store.set (fun _ => false) d.cmpT o (!Store.get (fun _ => false) d.cmpT o) }
    else
      let y := d.cp e
      d.setCp e { y with pulses := Store.set (fun _ => none) y.pulses o (some (d.tb + 2 * x.width)) }) d
  let d := (d.cmpPins before own).bump .CP_CNT_FIRED e 0
  let last := d.fld .CP_CTL_LAST e
  if x.idx = last then
    if d.on .CP_CTL_CYCLIC e then d.cmpArm e 0 (x.lap + 1)
    else
      let d := ((d.setCp e { d.cp e with run := false }).setOn .CP_STAT_RUN e 0 false).setOn .CP_STAT_DONE e 0 true
      d.unitEvent (d.cpeBay e) 1 0x0800 e (d.fld .CP_STAT_LAP e) (d.fld .CP_CNT_FIRED e)
  else d.cmpArm e (x.idx + 1) x.lap

/-- A pulse of engine e on output o has run out (R167). -/
def Dev.pulseDue (d : Dev) (e o : Nat) : Bool :=
  match Store.get (fun _ => none) (d.cp e).pulses o with
  | some t => decide (t ≤ d.tb)
  | none => false

/-- It ends; the output releases unless another pulse or the toggle holds it. -/
def Dev.pulseStop (d : Dev) (e o : Nat) : Dev :=
  let x := d.cp e
  (d.setCp e { x with pulses := Store.set (fun _ => none) x.pulses o none }).cmpPins d (2 ^ o)

/-! ## Emulation (R168, R169) -/

/-- The source of an emulation output is fenced. -/
def Dev.emFenced (d : Dev) (n : Nat) : Bool := let s := d.fld .EM_CFG_SRC n; s < 8 && d.psFenced s

/-- The output may emit its next count (R168). -/
def Dev.emDue (d : Dev) (n : Nat) : Bool :=
  let x := d.em n
  d.running && (d.emBay n).isSome && d.on .EM_CFG_EN n && !d.emFenced n && x.k != 0 && x.pulseEnd.isNone &&
    decide (d.fld .EM_CFG_MINIVL n ≤ d.tb - x.edgeAt)

/-- Raise or lower a pin of an emulation output: 0 A, 1 B, 2 Z (R395 gives the pin indices). -/
def Dev.emPin (d : Dev) (n which : Nat) (level : Bool) : Dev := d.pinOut (24 + 3 * n + which) (some level)

/-- Z after a count (R169). -/
def Dev.emZ (d : Dev) (n : Nat) : Dev :=
  let x := d.em n
  let hit := match d.fld .EM_CFG_ZMODE n with
    | 1 => let z := d.fld .EM_ZPER_ZPER n; z != 0 && d.sfld .EM_POS_POS n % z == 0
    | 2 => x.zNext
    | _ => false
  if hit then (d.setEm n { x with lvZ := true, zNext := false, zEnd := some (d.tb + d.fld .EM_CFG_MINIVL n) }).emPin n 2 true
  else d

/-- Emit one count (R168, R169). In step/direction form a change of direction moves B first, and the step follows no
earlier than MINIVL cycles later. -/
def Dev.emEmit (d : Dev) (n : Nat) : Dev :=
  let x := d.em n
  let s : Int := if 0 < x.k then 1 else -1
  let up := decide (s = 1)
  let take (d : Dev) : Dev :=
    (d.setFld .EM_POS_POS n 0 (enc 32 (d.sfld .EM_POS_POS n + s))).setEm n { d.em n with k := x.k - s, edgeAt := d.tb }
  if d.on .EM_CFG_STEPDIR n then
    if x.lvB != up then (d.setEm n { x with lvB := up, edgeAt := d.tb }).emPin n 1 up
    else
      let d := take d
      let d := d.setEm n { d.em n with lvA := true, pulseEnd := some (d.tb + d.fld .EM_CFG_MINIVL n) }
      (d.emPin n 0 true).emZ n
  else
    let place := quadPlace ((if x.lvA then 1 else 0) + (if x.lvB then 2 else 0))
    let np := (place + (if up then 1 else 3)) % 4
    let na := np == 1 || np == 2
    let nb := np == 2 || np == 3
    let d := take d
    let d := d.setEm n { d.em n with lvA := na, lvB := nb }
    let d := if na != x.lvA then d.emPin n 0 na else d.emPin n 1 nb
    d.emZ n

/-- A step pulse or Z pulse of an emulation output has run out (R169): it holds while EN = 0 or the source is fenced. -/
def Dev.emPulseDue (d : Dev) (n : Nat) : Bool :=
  let x := d.em n
  d.on .EM_CFG_EN n && !d.emFenced n && ((match x.pulseEnd with | some t => decide (t ≤ d.tb) | none => false)
    || (match x.zEnd with | some t => decide (t ≤ d.tb) | none => false))

/-- The pulses that have run out fall. -/
def Dev.emPulseStop (d : Dev) (n : Nat) : Dev :=
  let x := d.em n
  let d := match x.pulseEnd with
    | some t => if t ≤ d.tb then (d.setEm n { x with lvA := false, pulseEnd := none, edgeAt := d.tb }).emPin n 0 false else d
    | none => d
  let x := d.em n
  match x.zEnd with
  | some t => if t ≤ d.tb then (d.setEm n { x with lvZ := false, zEnd := none }).emPin n 2 false else d
  | none => d

/-! ## What a commit applies in CK_POS (R164) -/

/-- The source channel of a bay's pacer is fenced (R158). -/
def Dev.srcFenced (d : Dev) (b : Nat) : Bool := (d.pc b).src == 1 && d.psFenced (d.fld .PC_CTL_CHAN b)

/-- NOSRC sets and PC_NOSOURCE is raised when the source channel of a pacer comes to be fenced (R158). -/
def Dev.noSource (d before : Dev) (b : Nat) : Dev :=
  if d.srcFenced b && !before.srcFenced b then
    (d.setOn .PC_STAT_NOSRC b 0 true).bayEvent b 1 0x0700 b (d.fld .PC_CTL_CHAN b) 0
  else d

/-- INTERP goes to 0 (R159): q stays where the interpolator has brought it, until the next event. -/
def Dev.interpEnd (d before : Dev) (b base : Nat) : Dev :=
  if before.on .PC_CTL_INTERP b && !d.on .PC_CTL_INTERP b then
    let x := d.pc b
    d.setPc b { x with q := x.qAt base, qT := base, rate := 0 }
  else d

/-- A changed INV inverts the levels before the filter at once (R141, R143); those after it follow as the filter accepts them. -/
def Dev.invApplied (d before : Dev) (b : Nat) : Dev :=
  forN 8 (fun n d => if d.psBay n == some b && d.fld .PS_CFG_INV n != before.fld .PS_CFG_INV n then
    d.rawLevels n (Nat.xor (Store.get (fun _ => 0) d.boot.pins n % 8) (d.fld .PS_CFG_INV n)) else d) d

/-- The effects of changed PS, PC, CP and EM registers of a bay at the trigger of their target, stamped `base`: the source
(R158), the sense and the interpolator (R159), the generator's period (R162), the levels of inputs and outputs (R141, R167), the compare
engines' enables (R166). `before` is the device
before the apply. -/
def Dev.pacingApplied (d before : Dev) (b base : Nat) (quiet : Bool) : Dev :=
  let d := d.updateSource b base quiet
  let d := if d.reverseNow b != before.reverseNow b || d.fld .PC_CTL_CHAN b != before.fld .PC_CTL_CHAN b then
      d.setPc b (d.pc b).rebase else d
  let d := if (d.pc b).src = 2 && d.fld .PC_GEN_PERIOD b != before.fld .PC_GEN_PERIOD b then
      d.setPc b { d.pc b with genNext := base + d.fld .PC_GEN_PERIOD b } else d
  let d := ((d.noSource before b).restartStalls before).interpEnd before b base
  let d := ((d.invApplied before b).cmpPins before 0xFFFF).psPins
  forN 8 (fun e d =>
    if d.cpeBay e != some b then d
    else if d.on .CP_CTL_EN e && !before.on .CP_CTL_EN e then d.cmpStart e
    else if !d.on .CP_CTL_EN e && before.on .CP_CTL_EN e then d.cmpStop e
    else d) d

end Sys2Proof.Machine
end

