-- ==== Sys2Proof/Machine/Screening.lean ====
section
/-! DEFINITION. Screening, density correction and bonds (R111 to R136): the stages of the per-port pipeline, the
error-diffusion buffers and the curve staging bank. Every stage reads its registers from the registers of the course
it serves (R21). -/

namespace Sys2Proof.Machine

/-! ## Stage 0: expansion and shift (R114 to R117) -/

/-- R114: a contone pixel as a 12-bit value. -/
def expand12 (format v : Nat) : Nat := if format = 0 then v * 16 + v / 16 else v * 4 + v / 256

/-- A pixel, or what lies outside the course (R116). -/
def pxAt (edge : Bool) (px : List Nat) (j : Int) : Nat :=
  let w : Int := px.length
  if 0 ≤ j ∧ j < w then px.getD j.toNat 0
  else if !edge then 0
  else if j < 0 then px.getD 0 0 else px.getD (px.length - 1) 0

/-- SHIFT + RSHIFT before and after saturation (R115). -/
def Dev.shiftOf (l : Dev) (xx : Nat) : Int × Int :=
  let raw := l.sfld .SC_SHIFT_SHIFT xx + l.sfld .SC_RSHIFT_RSHIFT xx
  (raw, clampInt (-16384) 16384 raw)

/-- R115: linear resampling of contone input. -/
def shiftContone (edge : Bool) (s : Int) (px : List Nat) (i : Nat) : Nat :=
  let p : Int := (i : Int) * 256 - s
  let i0 := p / 256
  let f := (p % 256).toNat
  (pxAt edge px i0 * (256 - f) + pxAt edge px (i0 + 1) * f + 128) / 256

/-- R117: whole-nozzle shift of pre-screened input. -/
def shiftLevels (edge : Bool) (s : Int) (px : List Nat) (i : Nat) : Nat := pxAt edge px ((i : Int) - (s + 128) / 256)

/-! ## Stage 1: stitch blend (R118) -/

/-- The ramp value at overlap index j of w (R118). -/
def Dev.ramp (d l : Dev) (b xx j w : Nat) : Nat :=
  if !l.on .SC_CTL_RAMP xx then (2 * j + 1) * 4096 / (2 * w)
  else min (d.tb16 (rampAt b + 2 * ((2 * j + 1) * 64 / (2 * w))) % 8192) 4096

/-- The head at a position of a bar (R119). -/
def Dev.headAt (l : Dev) (bar pos : Nat) : Option Nat :=
  (List.range 32).find? fun y => l.on .SC_BAR_INBAR y && l.fld .SC_BAR_BAR y == bar && l.fld .SC_BAR_POS y == pos

/-- The nozzle of the adjacent head that shares an overlap position with nozzle i (R220). -/
def Dev.partner (l : Dev) (xx width i : Nat) : Option (Nat × Nat) :=
  if !l.on .SC_BAR_INBAR xx then none
  else
    let bar := l.fld .SC_BAR_BAR xx
    let pos := l.fld .SC_BAR_POS xx
    let lw := l.fld .SC_BAR_LW xx
    let rw := l.fld .SC_BAR_RW xx
    if i < lw && pos != 0 then
      (l.headAt bar (pos - 1)).map fun y => (y, l.fld .RI_FMT_WIDTH y - l.fld .SC_BAR_RW y + i)
    else if width - rw ≤ i then (l.headAt bar (pos + 1)).map fun y => (y, i - (width - rw))
    else none

/-- R220: the nozzle is usable and its partner of the stitch is not. -/
def Dev.fullWeight (d l : Dev) (xx width i : Nat) : Bool :=
  l.on .HM_CFG_STITCH xx && d.usable xx i &&
    match l.partner xx width i with
    | some (y, p) => !d.usable y p
    | none => false

/-- R220: the nozzle is unusable and its partner of the stitch covers it. -/
def Dev.covered (d l : Dev) (xx width i : Nat) : Bool :=
  l.on .HM_CFG_STITCH xx && !d.usable xx i &&
    match l.partner xx width i with
    | some (y, p) => d.usable y p
    | none => false

/-- R118, R220: the share of nozzle i in its stitches. -/
def Dev.blend (d l : Dev) (b xx width i x : Nat) : Nat :=
  if !l.on .SC_CTL_STEN xx || d.fullWeight l xx width i then x
  else
    let lw := l.fld .SC_BAR_LW xx
    let rw := l.fld .SC_BAR_RW xx
    let g := if i < lw then d.ramp l b xx i lw else 4096
    let g := if width - rw ≤ i then 4096 - d.ramp l b xx (i - (width - rw)) rw else g
    (x * g + 2048) / 4096

/-! ## Stage 2: density correction (R120) -/

/-- R120: the curve of nozzle n at x. -/
def density (m : Store Byte) (n x : Nat) : Nat :=
  let k := x / 256
  let f0 := x % 256
  let f := if k = 15 then f0 + f0 / 128 else f0
  let c0 : Int := knotOf m n k
  let c1 : Int := knotOf m n (k + 1)
  (clampInt 0 4095 (c0 + ((c1 - c0) * f + 128) / 256)).toNat

/-- The curve bank that governs the course being screened: the staged one when the commit whose apply is carried takes
it (R121, R136), else the active one. -/
def Dev.curvesFor (d : Dev) (b xx : Nat) : Store Byte :=
  let k := d.kset b
  if k.host.st = .armed && k.host.carried && k.host.target == add48 (d.bay b).cc 1
      && d.on .SC_CVSTG_PEND b && d.fld .SC_CVSTG_HEAD b == xx then
    (Store.get (fun _ => none) d.cvBank b).getD []
  else (d.engine xx).curves

/-! ## Stage 3: screening to levels (R122 to R128) -/

/-- The LUT entry of x: base level and fraction (R122). -/
def Dev.lut (d : Dev) (xx x : Nat) : Nat × Nat :=
  let w := d.tb16 (lutAt xx + 2 * x)
  (w % 16, w / 16)

/-- lv[k] (R122). -/
def Dev.lv (d : Dev) (xx k : Nat) : Nat := d.tb16 (lvAt xx + 2 * k) % 4096

/-- Entry k of a pair of registers that hold sixteen 4-bit entries. -/
def Dev.nib (l : Dev) (r0 r1 : Fld) (i k : Nat) : Nat :=
  (if k < 8 then l.fld r0 i / 16 ^ k else l.fld r1 i / 16 ^ (k - 8)) % 16

/-- R123: threshold screening of nozzle i of raster r; the level, and whether the LUT base was clamped. -/
def Dev.threshold (d l : Dev) (xx r i x : Nat) : Nat × Bool :=
  let top := l.fld .SC_LEVELS_L xx - 1
  let (base, fr) := d.lut xx x
  let k := min base top
  let a := l.nib .SC_ARRSEL0_ARR .SC_ARRSEL1_ARR xx k
  let t := d.tb16 (arrayAt a + 2 * (128 * ((r + l.fld .SC_ARRPOS_YOFF xx) % 128) + (i + l.fld .SC_ARRPOS_XOFF xx) % 128)) % 4096
  (if k < top && decide (t < fr) then k + 1 else k, decide (top < base))

/-- R127: the level without halftoning. -/
def Dev.levelOnly (d l : Dev) (xx x : Nat) : Nat × Bool :=
  let top := l.fld .SC_LEVELS_L xx - 1
  let base := (d.lut xx x).1
  (min base top, decide (top < base))

/-- One nozzle of error diffusion (R125): from the carry, the value and the error it inherits, the level, the clamp, the
error e and the next carry. -/
def Dev.edStep (d l : Dev) (xx : Nat) (carry : Int) (x : Nat) (cur : Int) : Nat × Bool × Int × Int :=
  let top := l.fld .SC_LEVELS_L xx - 1
  let xe := clampInt (-2048) 6143 ((x : Int) + cur + carry)
  let xq := (clampInt 0 4095 xe).toNat
  let base := (d.lut xx xq).1
  let k := min base top
  let lvl := if k < top && decide ((d.lv xx k + d.lv xx (k + 1) + 1) / 2 ≤ xq) then k + 1 else k
  let e := xe - d.lv xx lvl
  (lvl, decide (top < base), e, (e * l.fld .SC_ED_WR xx + 8) / 16)

/-- The nozzles of a raster in scan order (R125): levels, clamps and errors, in the same order. -/
def Dev.edScan (d l : Dev) (xx : Nat) : Int → List (Nat × Int) → List (Nat × Bool × Int)
  | _, [] => []
  | carry, (x, cur) :: rest =>
    let (lvl, cl, e, c) := d.edStep l xx carry x cur
    (lvl, cl, e) :: Dev.edScan d l xx c rest

/-- A saturating signed 16-bit number. -/
def sat16 (v : Int) : Int := clampInt (-32768) 32767 v

/-- The next raster's errors (R125): each nozzle receives shares of its neighbours' errors, in scan order; `es` is in scan
order. -/
def diffuse (wdl wd wdr : Nat) (es : List Int) : List Int :=
  let prev := (0 :: es).take es.length
  let next := es.drop 1 ++ [0]
  (List.zip (List.zip prev es) next).map fun q =>
    let a := sat16 ((q.1.1 * wdr + 8) / 16)
    let a := sat16 (a + (q.1.2 * wd + 8) / 16)
    sat16 (a + (q.2 * wdl + 8) / 16)

/-- Error diffusion of a raster (R125): levels and clamps by nozzle, and the buffer it leaves. -/
def Dev.errorDiffuse (d l : Dev) (xx r : Nat) (cur : List Int) (xs : List Nat) : List (Nat × Bool) × List Int :=
  let curs := (List.range xs.length).map fun i => cur.getD i 0
  let rev := l.on .SC_CTL_SERP xx && r % 2 == 1
  let inp := List.zip xs curs
  let out := d.edScan l xx 0 (if rev then inp.reverse else inp)
  let nxt := diffuse (l.fld .SC_ED_WDL xx) (l.fld .SC_ED_WD xx) (l.fld .SC_ED_WDR xx) (out.map (·.2.2))
  let lv := out.map fun q => (q.1, q.2.1)
  if rev then (lv.reverse, nxt.reverse) else (lv, nxt)

/-! ## Stages 4 and 5 (R129 to R131) -/

/-- R129: the code of a level. -/
def Dev.codeOf (l : Dev) (xx lvl : Nat) : Nat := l.nib .SC_CODEMAP0_CODE .SC_CODEMAP1_CODE xx lvl

/-- R130, R131: whether the bond of a level masks nozzle i of raster r. -/
def Dev.masked (d l : Dev) (b r i lvl : Nat) : Bool :=
  if !l.on .BD_CFG_EN b || lvl == 0 then false
  else
    let passes := l.fld .BD_CFG_PASSES b + 1
    let dir := l.on .BD_PASS_DIR b
    let sel := if dir && l.on .BD_CFG_REVEN b then l.fld .BD_CFG_BONDREV b
      else if l.on .BD_CFG_PERLVL b then l.nib .BD_LVLSEL0_BOND .BD_LVLSEL1_BOND b lvl else l.fld .BD_CFG_BOND b
    let u := (i + l.fld .BD_POS_UOFF b) % 256
    let voff := l.fld .BD_POS_VOFF b
    let v := if dir && l.on .BD_CFG_MIRROR b then (voff + 256 - r % 256) % 256 else (r + voff) % 256
    let byte := d.tb8 (bondAt b sel + 128 * v + u / 2)
    let c := if u % 2 = 0 then byte % 16 else byte / 16
    c % passes != l.fld .BD_PASS_PASS b

/-! ## Stages 6 and 7 (R219, R220, R284) -/

/-- VOL[k] (R219). -/
def Dev.vol (l : Dev) (xx k : Nat) : Nat :=
  let f : Fld := match k / 4 with
    | 0 => .HM_VOL0_VOL | 1 => .HM_VOL1_VOL | 2 => .HM_VOL2_VOL | _ => .HM_VOL3_VOL
  l.fld f xx / 256 ^ (k % 4) % 256

/-- What an unusable nozzle gives its lower and its upper neighbour, and whether its volume is lost (R219). -/
structure Given where
  lower : Nat := 0
  upper : Nat := 0
  lost : Bool := false
  deriving DecidableEq, Repr

/-- R219: the shares of one nozzle, from its level, whether it and its neighbours are usable, and whether the stitch covers
it. -/
def Dev.share (l : Dev) (xx lvl : Nat) (here lf rt cov : Bool) : Given :=
  if here || lvl == 0 || cov then {}
  else
    let v := l.vol xx lvl
    if lf && rt then
      let vl := (v * l.fld .HM_CFG_WL xx + 8) / 16
      { lower := vl, upper := v - vl }
    else if lf then { lower := v }
    else if rt then { upper := v }
    else { lost := true }

/-- The level whose volume lies nearest to t, the lower of two (R219). -/
def Dev.nearest (l : Dev) (xx levels t : Nat) : Nat :=
  let gap (k : Nat) : Nat := let v := l.vol xx k; (v - t) + (t - v)
  (List.range levels).foldl (fun best k => if gap k < gap best then k else best) 0

/-- Repointing of a course (R219, R220): the levels, and how many were clamped and lost. -/
def Dev.repoint (d l : Dev) (xx : Nat) (contone : Bool) (lv : List Nat) : List Nat × Nat × Nat :=
  let n := lv.length
  let us := (List.range n).map (d.usable xx)
  if us.all id then (lv, 0, 0)
  else
    let top := l.fld .SC_LEVELS_L xx - 1
    let gs := (List.zip lv (List.zip us (List.zip (false :: us) (us.drop 1 ++ [false])))).mapIdx fun i q =>
      l.share xx q.1 q.2.1 q.2.2.1 q.2.2.2 (contone && !q.2.1 && d.covered l xx n i)
    let recv := (List.zip (({} : Given) :: gs) (gs.drop 1 ++ [({} : Given)])).map fun q => q.1.upper + q.2.lower
    let out := (List.zip (List.zip lv us) recv).map fun q =>
      let lvl := if q.1.2 then q.1.1 else 0
      if q.2 = 0 then (lvl, false)
      else
        let t := l.vol xx lvl + q.2
        if l.vol xx top < t then (top, true) else (l.nearest xx (top + 1) t, false)
    (out.map (·.1), (out.filter (·.2)).length, (gs.filter (·.lost)).length)

/-- The ordered matrix of R284. -/
def bay4 (r i : Nat) : Nat :=
  ([0, 8, 2, 10, 12, 4, 14, 6, 3, 11, 1, 9, 15, 7, 13, 5] : List Nat).getD (4 * (r % 4) + i % 4) 0

/-- The thermal clamp and duty cap of stage 7 (R284). -/
def Dev.thin (l : Dev) (b xx r i lvl : Nat) : Nat :=
  if !l.on .TM_ENF_ACT xx then lvl
  else
    let v := min lvl (l.fld .TM_ENF_CLAMPL xx)
    if v != 0 && l.fbit .TM_TTHIN_THINMASK b 0 v && decide (l.fld .TM_ENF_DUTY xx ≤ bay4 r i) then 0 else v

/-! ## A course -/

/-- What screening makes of a course: the codes by nozzle that the port loads, whether a level was clamped, how many codes the
bonds masked, how many levels repointing clamped and lost, and the error-diffusion buffer it leaves (none outside error
diffusion). -/
structure Screened where
  codes : List Nat
  clamped : Bool
  maskedN : Nat
  rpClamp : Nat := 0
  rpLost : Nat := 0
  ed : Option (List Int)
  deriving DecidableEq, Repr

/-- Stages 0 to 7 for a course of raster r with pixels `px` (R111). -/
def Dev.screen (d l : Dev) (b xx r : Nat) (px : List Nat) : Screened :=
  let fmt := l.fld .RI_FMT_FORMAT xx
  let w := px.length
  let edge := l.on .SC_CTL_EDGE xx
  let s := (l.shiftOf xx).2
  let top := l.fld .SC_LEVELS_L xx - 1
  let (lv, ed) : List (Nat × Bool) × Option (List Int) :=
    if 2 ≤ fmt then
      ((List.range w).map fun i => let v := shiftLevels edge s px i; (min v top, decide (top < v)), none)
    else
      let px12 := px.map (expand12 fmt)
      let curves := d.curvesFor b xx
      let xs := (List.range w).map fun i =>
        let x := d.blend l b xx w i (shiftContone edge s px12 i)
        if l.on .SC_CTL_DCEN xx then density curves i x else x
      match l.fld .SC_CTL_SCREEN xx with
      | 0 => (xs.mapIdx fun i x => d.threshold l xx r i x, none)
      | 1 => let q := d.errorDiffuse l xx r (d.engine xx).cur xs; (q.1, some q.2)
      | _ => (xs.map (d.levelOnly l xx), none)
  let levels := lv.map (·.1)
  let masks := levels.mapIdx fun i v => d.masked l b r i v
  let lv5 := (List.zip levels masks).map fun q => if q.2 then 0 else q.1
  let (lv6, cl, lost) := d.repoint l xx (fmt < 2) lv5
  { codes := lv6.mapIdx fun i v => l.codeOf xx (l.thin b xx r i v)
    clamped := lv.any (·.2)
    maskedN := (masks.filter id).length
    rpClamp := cl
    rpLost := lost
    ed := ed }

/-- R319: the levels of a course of PRIME. -/
def primeLevels (width levels c : Nat) : List Nat :=
  (List.range width).map fun n => if (n + 8 - c % 8) % 8 = 0 then levels - 1 else 0

/-- The effects of a screened course on status and counters: the shift clamp (R115), the level clamp (R122, R128), the
masked codes (R130), and the buffer to take if the course fires (R126). -/
def Dev.noteScreened (d l : Dev) (b xx : Nat) (o : Screened) : Dev :=
  let (raw, s) := l.shiftOf xx
  let pair := (l.sfld .SC_SHIFT_SHIFT xx, l.sfld .SC_RSHIFT_RSHIFT xx)
  let e := d.engine xx
  let d := if raw = s then d.setEngine xx { e with clamped := none }
    else
      let d := d.setOn .SC_STAT_SHCLAMP xx 0 true
      if e.clamped = some pair then d
      else (d.setEngine xx { e with clamped := some pair }).bayEvent b 1 0x0400 xx (enc 32 raw) (enc 32 s)
  let d := if !o.clamped then d
    else
      let was := d.on .SC_STAT_LVCLAMP xx
      let d := (d.bump .SC_CNT_LVCLAMP xx 0).setOn .SC_STAT_LVCLAMP xx 0 true
      if was then d else d.bayEvent b 1 0x0401 xx (d.fld .SC_CNT_LVCLAMP xx) 0
  let d := if o.maskedN = 0 then d else d.bump .BD_CNT_MASKED b 0 o.maskedN
  let d := if o.rpClamp = 0 then d else d.bump .HM_RPCNT_CLAMP xx 0 o.rpClamp
  let d := if o.rpLost = 0 then d else d.bump .HM_RPCNT_LOST xx 0 o.rpLost
  d.setEngine xx { d.engine xx with tent := o.ed }

/-- Clear both buffers and count it (R126). -/
def Dev.edClear (d : Dev) (xx : Nat) : Dev :=
  (d.setEngine xx { d.engine xx with cur := [], tent := none }).bump .SC_CNT_EDCLR xx 0

/-- The course fired its raster: the buffer it left is taken (R126). -/
def Dev.edTake (d : Dev) (xx : Nat) : Dev :=
  let e := d.engine xx
  match e.tent with
  | some n => d.setEngine xx { e with cur := n, tent := none }
  | none => d

/-- The course did not advance: the earlier state stands (R126). -/
def Dev.edRestore (d : Dev) (xx : Nat) : Dev := d.setEngine xx { d.engine xx with tent := none }

/-- A commit that applies at the next course changes what clears the buffers (R126). -/
def edFields : List Fld :=
  [.SC_CTL_SCREEN, .SC_LEVELS_L, .SC_ED_WR, .SC_ED_WDL, .SC_ED_WD, .SC_ED_WDR, .SC_CTL_SERP, .RI_FMT_FORMAT, .RI_FMT_WIDTH]

/-- Whether the registers of the next course differ from the present ones in a field of `edFields`. -/
def Dev.edChanges (d l : Dev) (xx : Nat) : Bool := edFields.any fun f => d.fld f xx != l.fld f xx

/-! ## Curve staging (R121) -/

/-- The staging bank of a bay: none before its first copy (its bytes read 0). -/
def Dev.bank (d : Dev) (b : Nat) : Option (Store Byte) := Store.get (fun _ => none) d.cvBank b
def Dev.setBank (d : Dev) (b : Nat) (m : Option (Store Byte)) : Dev :=
  { d with cvBank := Store.set (fun _ => none) d.cvBank b m }

/-- A byte of the staging window. -/
def Dev.stagingByte (d : Dev) (b o : Nat) : Byte :=
  match d.bank b with
  | some m => Store.get curveByte m o
  | none => 0

/-- Write bytes of the staging bank. -/
def Dev.setStaging (d : Dev) (b o : Nat) (bs : List Byte) : Dev :=
  d.setBank b (some (Store.setRun curveByte ((d.bank b).getD []) o bs))

/-- The claim copy ends: the staging bank holds the head's active curves, VALID is set and CLAIM clears. -/
def Dev.claimDone (d : Dev) (b : Nat) : Dev :=
  let h := d.fld .SC_CVSTG_HEAD b
  let d := d.setBank b (some (d.engine h).curves)
  (d.setOn .SC_CVSTG_VALID b 0 true).setOn .SC_CVSTG_CLAIM b 0 false

/-- The apply of a commit that took the staging bank: it becomes the head's active bank (R121). -/
def Dev.curveApply (d : Dev) (b : Nat) : Dev :=
  if d.on .SC_CVSTG_PEND b then
    let h := d.fld .SC_CVSTG_HEAD b
    let d := d.setEngine h { d.engine h with curves := (d.bank b).getD [] }
    ((d.setOn .SC_CVSTG_VALID b 0 false).setOn .SC_CVSTG_ARM b 0 false).setOn .SC_CVSTG_PEND b 0 false
  else d

end Sys2Proof.Machine
end

