-- ==== Sys2Proof/Machine/Firing.lean ====
section
/-! DEFINITION. Power islands and head power (R32, R196), the head link and the loading of codes (R175 to R180), waveforms and
firing groups (R181 to R187), configuration blocks (R188, R189), the minimum course period (R191) and the overspeed rule
(R192 to R194). Instants at a head port are ps of the time base. -/

namespace Sys2Proof.Machine

def Dev.hp (d : Dev) (xx : Nat) : HPort := Store.get (fun _ => {}) d.hps xx
def Dev.setHp (d : Dev) (xx : Nat) (x : HPort) : Dev := { d with hps := Store.set (fun _ => {}) d.hps xx x }

/-- The present instant in ps of the time base. -/
def Dev.nowPs (d : Dev) : Nat := 5000 * d.tb

/-! ## Power islands (R32, R41) -/

/-- The cluster of a head port. -/
def cluster (xx : Nat) : Nat := xx / 8

/-- A self-test or a meter setting uses a head port (R32, R390, R392). -/
def Dev.serviceUses (d : Dev) (xx : Nat) : Bool :=
  d.reg .SV_PARK xx != 0 || (match d.con.test with | some t => t.arg == xx && (t.test == 5 || t.test == 6) | none => false)

/-- An HCI island may be off: no port of the cluster needs it (R32). -/
def Dev.hciIdle (d : Dev) (k : Nat) : Bool :=
  (List.range 8).all fun i =>
    let xx := 8 * k + i
    if d.bayModes then
      match d.portBay xx with
      | none => true
      | some b => (d.bay b).mode == .standby && !d.on .HP_PWR_PEN xx
    else !d.on .HP_PWR_PEN xx && !(d.inService && d.serviceUses xx)

/-- A CAMI island may be off: the port is unassigned, or its bay is in STANDBY (R32), and no self-test uses it (R390). -/
def Dev.camiIdle (d : Dev) (n : Nat) : Bool :=
  !(match d.con.test with | some t => t.test == 9 && t.arg == n | none => false) &&
  match d.camBay n with
  | none => true
  | some b => d.bayModes && (d.bay b).mode == .standby

/-- A MEM island may be off: every present bay is in STANDBY (a SERVICE device without a present bay has none that is not), no access
waits for its wake, and no self-test of the frame store runs (R32, R390). -/
def Dev.memIdle (d : Dev) : Bool :=
  (d.wakeAt 9).isNone && (d.wakeAt 10).isNone &&
  (d.bayModes || (d.inService && d.presentBays.isEmpty)) && (d.presentBays.all fun b => (d.bay b).mode == .standby) &&
  !(match d.con.test with | some t => t.test == 8 | none => false)

/-- An island may be off (R32): 0 to 3 HCI, 4 to 7 CAMI, 8 PIPE, 9 and 10 MEM, 11 and 12 ETH. -/
def Dev.islandIdle (d : Dev) (i : Nat) : Bool :=
  if i < 4 then d.hciIdle i
  else if i < 8 then d.camiIdle (i - 4)
  else if i = 8 then (List.range 4).all d.camiIdle
  else if i < 11 then d.memIdle
  else !d.on .HS_CTL_EN (i - 9)

/-- An island follows its need: it powers down when it may, and starts to wake when it may not. -/
def Dev.followIsland (d : Dev) (i : Nat) : Dev :=
  if d.islandIdle i && !(i < 4 && (List.range 8).any fun k => (d.hp (8 * i + k)).penWait.isSome) then
    (d.setIsland i false).setWake i none
  else if d.islandOn i || (d.wakeAt i).isSome then d
  else d.setWake i (some (d.now + wakeTime i))

/-- Every island follows its need. -/
def Dev.followIslands (d : Dev) : Dev := forN 13 (fun i d => d.followIsland i) d

/-! ## Profile (R176, R178, R179, R185, R188) -/

/-- The frame time of a port in ps (R176). -/
def Dev.tfOf (l : Dev) (xx : Nat) : Nat :=
  match l.fld .HP_PROF_LRATE xx with | 0 => 50000 | 1 => 100000 | _ => 200000

/-- The sample time of a port in ps (R178). -/
def Dev.tsOf (l : Dev) (xx : Nat) : Nat := l.tfOf xx * 2 ^ l.fld .HP_PROF_SRDIV xx

/-- The lanes in use (R179). -/
def Dev.lanesOf (l : Dev) (xx : Nat) : Nat := match l.fld .HP_PROF_LANES xx with | 0 => 1 | 1 => 2 | _ => 4

/-- q of R179: the nozzles of a lane. -/
def Dev.perLane (l : Dev) (xx : Nat) : Nat :=
  let n := l.lanesOf xx
  (l.fld .HP_PROF_NOZZLES xx + n - 1) / n

/-- F of R179: the frames of a load. -/
def Dev.loadFrames (l : Dev) (xx : Nat) : Nat := (l.perLane xx * l.fld .HP_PROF_CODEW xx + 39) / 40

/-- Channel B is used (R185). -/
def Dev.twoCh (l : Dev) (xx : Nat) : Bool := l.on .HP_GRP_NCH xx

/-- SPC: the plays of a channel in a course (R185). -/
def Dev.spcOf (l : Dev) (xx : Nat) : Nat := 2 ^ l.fld .HP_GRP_GLOG2 xx / (if l.twoCh xx then 2 else 1)

/-- n of R188: the words of the configuration block. -/
def Dev.cfgCount (l : Dev) (xx : Nat) : Nat :=
  match l.fld .HP_PROF_CFGFMT xx with
  | 0 => 7 + l.fld .HP_LANE_CFGN xx
  | 1 => l.fld .HP_LANE_CFGN xx
  | _ => 0

/-- The waveforms on the used channels: channel and waveform (R183, R191). -/
def Dev.usedWaves (l : Dev) (xx : Nat) : List (Nat × Nat) :=
  (0, l.fld .WV_CTL_WA xx) :: (if l.twoCh xx then [(1, l.fld .WV_CTL_WB xx)] else [])

/-- tspan of R191 in ps, with the descriptors of the device's tables. -/
def Dev.tspan (d l : Dev) (xx : Nat) : Nat :=
  let bank := l.fld .WV_CTL_BANK xx
  let span (c w : Nat) : Nat :=
    ((if c = 1 then l.fld .HP_GSTEP_BOFF xx else 0) + (l.spcOf xx - 1) * l.fld .HP_GSTEP_GSTEP xx + d.wvLen xx bank w) * l.tsOf xx
  (l.usedWaves xx).foldl (fun m q => max m (span q.1 q.2)) 0

/-- tcfg of R191 in ps. -/
def Dev.tcfg (l : Dev) (xx : Nat) : Nat := if l.on .HP_PROF_CFGREP xx then l.cfgCount xx * l.tfOf xx else 0

/-- HP_PMIN.PMIN in ns (R191), with the registers of `l` and the waveform descriptors of `d`; 0 while a used channel's
waveform is empty. -/
def Dev.pmin (d l : Dev) (xx : Nat) : Nat :=
  let bank := l.fld .WV_CTL_BANK xx
  if (l.usedWaves xx).any fun q => d.wvLen xx bank q.2 == 0 then 0
  else
    let tf := l.tfOf xx
    let strb := l.fld .HP_LATCH_STRB xx * 2500
    let load := strb + 2 * tf + l.loadFrames xx * tf
    let fire := strb + 2 * tf + d.tspan l xx + l.tcfg xx
    let scr := 1200000 + (l.fld .RI_FMT_WIDTH xx + 128) * 1000 + 2 * tf
    (tf + max load (max fire scr) + 999) / 1000

/-- pmin_b of R191: the largest PMIN of the bay's ports. -/
def Dev.pminBay (d l : Dev) (b : Nat) : Nat := (d.portsOf b).foldl (fun m xx => max m (d.pmin l xx)) 0

/-- maxrate of R194; with no minimum period known, the limit of 120,000 Hz. -/
def Dev.maxrate (d : Dev) (b : Nat) : Nat :=
  let p := d.pminBay d b
  if p = 0 then 120000 else min (1000000000 / p) 120000

/-! ## Frames (R177, R188) -/

/-- A control frame with LD = 0 (R177). -/
def controlFrame (type word : Nat) : Nat := type % 16 * 16 + word % 2 ^ 32 * 256

/-- The words of the configuration block (R188). -/
def Dev.cfgWords (l : Dev) (xx : Nat) : List Nat :=
  let n := l.cfgCount xx
  let extra := (List.range (l.fld .HP_LANE_CFGN xx)).map fun k => l.fld .HP_CFGX_WORD xx k
  match l.fld .HP_PROF_CFGFMT xx with
  | 0 =>
    let w1 := l.fld .HP_PROF_NOZZLES xx + 2 ^ 13 * l.fld .HP_PROF_CODEW xx + 2 ^ 16 * l.fld .HP_GRP_GLOG2 xx
      + 2 ^ 18 * l.fld .HP_GRP_NCH xx + 2 ^ 19 * l.fld .HP_GRP_GMODE xx
    let body := [0xC0F10000 + n, w1, l.fld .HP_RECIPE0_RCP xx, l.fld .HP_RECIPE1_RCP xx, l.fld .HP_RECIPE2_RCP xx,
                 l.fld .HP_RECIPE3_RCP xx] ++ extra
    body ++ [(crc32 (body.flatMap (le 4))).toNat]
  | 1 => extra
  | _ => []

/-- The control frames of a block, one word each (R188). -/
def cfgFrames (ws : List Nat) : List Nat :=
  ws.mapIdx fun i w =>
    controlFrame (if ws.length = 1 then 3 else if i = 0 then 1 else if i + 1 = ws.length then 2 else 0) w

/-- A frame as HPxx_WV sends it: swapped in polarity by LINV (R176). -/
def wvPolarity (inverted : Bool) (f : Nat) : Nat := if inverted then 2 ^ 40 - 1 - f else f

/-- LINV of HPxx_WV. -/
def Dev.wvInverted (l : Dev) (xx : Nat) : Bool := l.fbit .HP_LANE_LINV xx 0 4

/-- A sample frame with LD = 0 (R177): the G bits, the local groups, and a sample for each channel. -/
def sampleFrame (ga gb : Bool) (sa sb : Nat) (a b : Int) : Nat :=
  1 + (if ga then 4 else 0) + (if gb then 8 else 0) + 16 * (sa % 4) + 64 * (sb % 4) + 2 ^ 8 * enc 16 a + 2 ^ 24 * enc 16 b

/-- The port that PLUMB selection 17 has send its test level (R400). -/
def Dev.plumbPort (d : Dev) : Option Nat := if d.fld .SV_PLUMB_SEL = 17 then some (d.fld .SV_PLUMB_ARG) else none

/-- The rest frame of a port (R178), by the registers of `l`; with PLUMB selection 17 both channels are at its LEVEL (R400). -/
def Dev.restFrame (l : Dev) (xx : Nat) : Nat :=
  let test := l.plumbPort == some xx
  let rest (f : Fld) : Int := if test then l.sfld .SV_PLUMB_LEVEL else l.sfld f xx
  wvPolarity (l.wvInverted xx) (sampleFrame false false 0 0 (rest .WV_REST_RESTA) (rest .WV_REST_RESTB))

/-- A ready port sends rest frames from the next frame boundary on, in place of what it plays (R196, R197). -/
def Dev.restNow (d : Dev) (xx : Nat) : Dev :=
  let h := d.hp xx
  if d.on .HP_PWR_READY xx then d.emit (.rest xx (h.grid + (d.nowPs - h.grid + d.tfOf xx - 1) / d.tfOf xx * d.tfOf xx) (d.restFrame xx)) else d

/-- 256 alignment frames (R177, R196, R197). -/
def Dev.sendAlignment (d : Dev) (xx : Nat) : Dev :=
  d.emit (.alignment xx (List.replicate 256 (wvPolarity (d.wvInverted xx) (controlFrame 15 0))))

/-- The port sends the configuration block that the registers of `l` give, if they give one (R189). -/
def Dev.sendCfgOf (d l : Dev) (xx : Nat) : Dev :=
  let ws := l.cfgWords xx
  let d := d.setHp xx { d.hp xx with cfgSent := d.tb, cfgDue := false }
  if ws = [] then d
  else (d.emit (.cfgBlock xx ((cfgFrames ws).map (wvPolarity (l.wvInverted xx))))).bump .HP_CNT_CFGTX xx 0

/-- The port sends its configuration block. -/
def Dev.sendCfg (d : Dev) (xx : Nat) : Dev := d.sendCfgOf d xx

/-! ## Loading codes (R179) -/

/-- The bits of a code in the order sent. -/
def codeBits (w : Nat) (lsbFirst : Bool) (v : Nat) : List Bool :=
  let bits := (List.range w).map fun i => v / 2 ^ i % 2 == 1
  if lsbFirst then bits else bits.reverse

/-- The number whose bit i is the i-th of a list. -/
def ofBits : List Bool → Nat
  | [] => 0
  | b :: r => (if b then 1 else 0) + 2 * ofBits r

/-- The nozzles of a logical lane, in the order sent (R179). -/
def Dev.laneNozzles (l : Dev) (xx k : Nat) : List Nat :=
  let n := l.fld .HP_PROF_NOZZLES xx
  let lanes := l.lanesOf xx
  let q := l.perLane xx
  let ns := (List.range n).filter fun i => if l.on .HP_PROF_LMAP xx then i / q == k else i % lanes == k
  if l.on .HP_PROF_SHIFTDIR xx then ns.reverse else ns

/-- The bits of one logical lane in a load: zeros in front, so that all lanes end together (R179). -/
def Dev.laneBits (l : Dev) (xx k : Nat) (codes : List Nat) : Nat :=
  let w := l.fld .HP_PROF_CODEW xx
  let bits := (l.laneNozzles xx k).flatMap fun i => codeBits w (l.on .HP_PROF_BITORD xx) (codes.getD i 0)
  ofBits bits * 2 ^ (40 * l.loadFrames xx - bits.length)

/-- The lanes of a load with their physical places and polarities (R176, R179). -/
def Dev.loadLanes (l : Dev) (xx : Nat) (codes : List Nat) : List (Nat × Bool × Nat) :=
  (List.range (l.lanesOf xx)).map fun k =>
    let m := l.fld .HP_LANE_LSWAP xx / 4 ^ k % 4
    (m, l.fbit .HP_LANE_LINV xx 0 m, l.laneBits xx k codes)

/-! ## The frame grid and the queue of courses (R178 to R180, R190) -/

/-- The first frame boundary at or after an instant (R178). -/
def frameAt (grid tf t : Nat) : Nat := if t ≤ grid then grid else grid + (t - grid + tf - 1) / tf * tf

/-- The last frame boundary at or before an instant. -/
def frameBefore (grid tf t : Nat) : Nat := grid + (t - grid) / tf * tf

/-- The port can load and latch: READY, and no power-down under way (R196). -/
def Dev.portReady (d : Dev) (xx : Nat) : Bool := d.on .HP_PWR_READY xx && (d.hp xx).downAt.isNone

/-- Boundary N − 1 hands the codes of course N to the port, by the head profile of course N in `l` (R21, R179, R180, R196). The load starts at the first frame boundary
after the trailing edge of the latch before it, or after this instant. -/
def Dev.queueCourse (d l : Dev) (xx n : Nat) (codes : List Nat) (blank : Bool := false) : Dev :=
  let h := d.hp xx
  let tf := l.tfOf xx
  let job : Job := { course := n, codes := codes, tf := tf, frames := l.loadFrames xx, lanes := l.loadLanes xx codes,
                     start := frameAt h.grid tf (max h.trail d.nowPs + 1), ready := d.portReady xx, blank := blank }
  d.setHp xx { h with jobs := h.jobs ++ [job] }

/-- The load of the course at the head of the queue can have ended (R179). -/
def Dev.loadDue (d : Dev) (xx : Nat) : Bool :=
  d.portReady xx && match (d.hp xx).jobs with
    | j :: _ => j.ready && j.lend.isNone && decide (j.start + j.frames * j.tf ≤ d.nowPs)
    | [] => false

/-- The load of that course ends at the frame boundary reached (R179). -/
def Dev.loadEnd (d : Dev) (xx : Nat) : Dev :=
  let h := d.hp xx
  match h.jobs with
  | j :: r =>
    let e := frameBefore h.grid j.tf d.nowPs
    (d.setHp xx { h with jobs := { j with lend := some e } :: r }).emit (.codeLoad xx j.course j.frames e j.lanes)
  | [] => d

/-- lend of a course, predicted from the frames that remain while its load has not ended (R192): `from_` is the trailing edge
before it. -/
def Job.predict (j : Job) (grid now from_ : Nat) : Nat :=
  match j.lend with
  | some t => t
  | none => max (max j.start (frameAt grid j.tf (from_ + 1)) + j.frames * j.tf) (frameAt grid j.tf now)

/-- lend of course n through the courses ahead of it. -/
def predictLend (grid now n : Nat) : Nat → List Job → Option Nat
  | _, [] => none
  | t, j :: r =>
    let e := j.predict grid now t
    if j.course = n then some e
    else predictLend grid now n (match j.latch with | some p => p.trail | none => t) r

/-! ## The reference instant and the overspeed rule (R187, R192, R193) -/

/-- The phase term: PHASE with the registration phase (R187, R262). -/
def Dev.phaseOf (d : Dev) (xx : Nat) : Nat :=
  (clampInt 0 255 ((d.fld .RI_DELAY_PHASE xx : Int) + d.sfld .IN_RPH_RPH xx)).toNat

/-- m of R187 in ps, rounded down to a whole cycle. -/
def Dev.meanDelay (d : Dev) (xx : Nat) : Nat :=
  let k := (d.spcOf xx - 1) * d.fld .HP_GSTEP_GSTEP xx + (if d.twoCh xx then d.fld .HP_GSTEP_BOFF xx else 0)
  d.tsOf xx * k / 2 / 2500 * 2500

/-- The computed latch instant of a course whose trigger has stamp t, and whether compensation was clamped (R187). -/
def Dev.nomOf (d : Dev) (b xx t : Nat) : Nat × Bool :=
  let c := 2 * d.fld .PC_PERIOD_CYC b
  let base := 5000 * t + 80000
  let nom := base + d.fld .HP_LATCH_FOFF xx * 2500 + d.phaseOf xx * c / 256 * 2500
  if d.on .HP_GRP_COMP xx then
    let m := d.meanDelay xx
    if nom < base + m then (base, true) else (nom - m, false)
  else (nom, false)

/-- The port is fenced (R197). -/
def Dev.hpFenced (d : Dev) (xx : Nat) : Bool := d.fbit .FC_FENCE0_HP 0 0 xx

/-- The screening engine of the head is fenced (R302). -/
def Dev.scFenced (d : Dev) (xx : Nat) : Bool := d.fbit .FC_FENCE1_SC 0 0 xx

/-- A sensor of the head is HELD: the port is in thermal hold (R279). -/
def Dev.thermalHold (d : Dev) (xx : Nat) : Bool := d.on .TM_STAT_HELD (2 * xx) || d.on .TM_STAT_HELD (2 * xx + 1)

/-- A bay fires in a mode (R34). -/
def Mode.fires : Mode → Bool
  | .prime | .print | .calibrate | .degraded => true
  | _ => false

/-- The computed latch instant of the last latched course, or of the last decided one (R192). -/
def HPort.lastLatch (h : HPort) : Option Nat :=
  h.jobs.foldl (fun a j => match j.latch with | some p => some (p.nom + p.defer) | none => a) h.last

/-- A trigger message that a perturbation holds up reaches the port (R402): its instant in ps. -/
def Dev.msgAt (d : Dev) (xx t : Nat) : Nat :=
  let dly := (List.range 4).foldl (fun m j =>
    if d.fld .PT_MQDLY_SRC j = 5 ∧ d.fld .PT_MQDLY_DST j = 1 + cluster xx then max m (d.fld .PT_MQDLY_DLY j) else m) 0
  5000 * t + 12500 + dly * 2500

/-- All codes of a course are zero: it prints blank though it is latched. -/
def Job.empty (j : Job) : Bool := j.codes.all (· == 0)

/-- The course leaves the queue of a port without a latch (R192, R196, R197). -/
def Dev.dropJob (d : Dev) (xx n : Nat) (t : Nat) : Dev :=
  let h := d.hp xx
  let rest := h.jobs.filter fun j => j.course != n
  d.setHp xx { h with jobs := rest, trail := if rest = [] then max h.trail t else h.trail }

/-- A course prints blank on a port (R202). -/
def Dev.blank (d : Dev) (xx : Nat) : Dev := d.bump .HP_CNT_BLANK xx 0

/-- The port takes part in the decision of course n (R192): it is ready, unfenced and unshut, and its course is loaded. A course whose
engine was fenced by boundary N − 1 is loaded with all-zero codes and latched; one whose engine is found fenced only at boundary N
sends no latch. -/
def Dev.takesPart (d : Dev) (xx n : Nat) : Bool :=
  d.portReady xx && !d.hpFenced xx && !d.on .HP_STAT_SHUT xx && !d.thermalHold xx &&
    (d.hp xx).jobs.any fun j => j.course == n && j.ready && (!d.scFenced xx || j.blank)

/-- lam of R192 over the ports that take part. -/
def Dev.lam (d : Dev) (b n t : Nat) (ports : List Nat) : Int :=
  ports.foldl (fun (a : Int) xx =>
    let h := d.hp xx
    let nom : Int := (d.nomOf b xx t).1
    let a := match h.lastLatch with | some l => max a ((l : Int) + d.pmin d xx * 1000 - nom) | none => a
    let tf := d.tfOf xx
    match predictLend h.grid d.nowPs n h.trail h.jobs with
    | some e => max a ((e : Int) + tf - nom)
    | none => a) (-(2 ^ 62))

/-- The decision of R192 and R193: the deferral in ps, or none for an overspeed blank. -/
def Dev.overspeed (d : Dev) (b n : Nat) (lam : Int) : Dev × Option Nat :=
  let run := d.fld .HP_OSRUN_RUN b
  let bound : Int := d.fld .HP_OSCTL_SLIPB b * d.pminBay d b / 256 * 1000
  let setRun (d : Dev) (v : Nat) : Dev := (d.setFld .HP_OSRUN_RUN b 0 v).setOn .HP_BAYSTAT_RUN b 0 (v != 0)
  let defer (d : Dev) (v : Nat) : Dev := d.setFld .HP_OSRUN_DEFER b 0 (min ((v + 2499) / 2500) 65535)
  let grow (d : Dev) : Dev :=
    let d := setRun d (min (run + 1) 65535)
    if run + 1 == d.fld .HP_OSCTL_K b then
      (if h : b < 4 then d.signalAs srcHpOverspeed 0xFF (some ⟨b, h⟩) n false else d)
    else d
  if lam ≤ 0 then
    (defer (setRun { d with osRun := Store.set (fun _ => false) d.osRun b false } 0) 0, some 0)
  else if lam ≤ bound then (defer (grow (d.bump .HP_BAYCNT_SLIP b 0)) lam.toNat, some lam.toNat)
  else
    let d := d.bump .HP_BAYCNT_OSPD b 0
    let said := Store.get (fun _ => false) d.osRun b
    let d := if said then d
      else { d with osRun := Store.set (fun _ => false) d.osRun b true }.bayEvent b 1 0x0A01 0xFF
        (min (lam.toNat / 1000) (2 ^ 32 - 1)) (d.fld .HP_BAYCNT_OSPD b)
    (grow d, none)

/-- The latch of a course is fixed (R187, R190, R199). -/
def Dev.setLatch (d : Dev) (b xx n t defer : Nat) : Dev :=
  let h := d.hp xx
  let (nom, cl) := d.nomOf b xx t
  let d := if cl then d.setOn .HP_STAT_COMPCLAMP xx 0 true else d
  let tf := d.tfOf xx
  let lend := (predictLend h.grid d.nowPs n h.trail h.jobs).getD 0
  let lead := max (frameAt h.grid tf (nom + defer)) (lend + tf)
  let p : LatchP :=
    { nom := nom, defer := defer, lead := lead, trail := lead + d.fld .HP_LATCH_STRB xx * 2500,
      high := !d.on .HP_PROF_LATPOL xx, tf := tf, ts := d.tsOf xx,
      spc := d.spcOf xx, gstep := d.fld .HP_GSTEP_GSTEP xx, boff := d.fld .HP_GSTEP_BOFF xx, nch := d.twoCh xx,
      rot := d.on .HP_GRP_ROT xx, bank := d.fld .WV_CTL_BANK xx, wa := d.fld .WV_CTL_WA xx, wb := d.fld .WV_CTL_WB xx,
      ampA := d.fld .WV_AMP_AMPA xx, ampB := d.fld .WV_AMP_AMPB xx, restA := d.sfld .WV_REST_RESTA xx,
      restB := d.sfld .WV_REST_RESTB xx, wvInv := d.wvInverted xx, sound := none }
  d.setHp xx { h with jobs := h.jobs.map fun j => if j.course = n then { j with latch := some p } else j }

/-- Trigger n with stamp t fixes what course n does at each port of the bay (R190, R192, R196, R197, R279). -/
def Dev.fireCourse (d : Dev) (b n t : Nat) (mode : Mode) : Dev :=
  let ports := d.portsOf b
  let dec := 5000 * t + 12500
  if !mode.fires then
    ports.foldl (fun d xx => (if mode = .hold then d.blank xx else d).dropJob xx n dec) d
  else
    let part := ports.filter fun xx => d.takesPart xx n
    let d := ports.foldl (fun d xx =>
      if part.contains xx then d
      else
        let had := (d.hp xx).jobs.any fun j => j.course == n
        let ready := d.portReady xx && (!had || (d.hp xx).jobs.any fun j => j.course == n && j.ready)
        let d := if ready then d else d.setOn .HP_STAT_NOTREADY xx 0 true
        (d.blank xx).dropJob xx n dec) d
    if part = [] then d
    else
      let (d, r) := d.overspeed b n (d.lam b n t part)
      match r with
      | none => part.foldl (fun d xx => (d.blank xx).dropJob xx n dec) d
      | some defer => part.foldl (fun d xx =>
          if (d.nomOf b xx t).1 + defer < d.msgAt xx t && d.msgAt xx t != dec then (d.blank xx).dropJob xx n dec
          else
            let d := d.setLatch b xx n t defer
            if (d.hp xx).jobs.any fun j => j.course == n && j.empty then d.blank xx else d) d

/-! ## The latch and the plays (R180, R183 to R186, R190, R198) -/

/-- The leading edge of the course at the head of the queue is due. -/
def Dev.latchDue (d : Dev) (xx : Nat) : Bool :=
  match (d.hp xx).jobs with
  | j :: _ => (match j.latch with | some p => !j.led && decide (p.lead ≤ d.nowPs) | none => false)
  | [] => false

/-- The load ended in time for the latch computed (R192). -/
def Job.inTime (j : Job) (p : LatchP) : Bool := match j.lend with | some e => decide (e + j.tf ≤ p.lead) | none => false

/-- The next course may load from the first frame boundary after an instant (R180). -/
def HPort.pop (h : HPort) (t : Nat) : HPort :=
  { h with trail := max h.trail t,
           jobs := match h.jobs.drop 1 with
             | j :: r => { j with start := max j.start (frameAt h.grid j.tf (t + 1)) } :: r
             | [] => [] }

/-- A course that could have sounded sends no latch or plays nothing: it is missed if its window has closed (R205). -/
def Dev.soundFailed (d : Dev) (xx : Nat) (p : LatchP) : Dev :=
  match p.sound with
  | some s => if s.owes then d.bump .SN_CNT_MISS xx 0 else d
  | none => d

/-- The decided courses of a port that are still to be latched send no latch (R196, R197, R279), and print blank; `all` drops the
latched one too, which then plays nothing. -/
def Dev.stopLatches (d : Dev) (xx : Nat) (all : Bool) : Dev :=
  let h := d.hp xx
  let gone := h.jobs.filter fun j => all || !j.led
  let d := gone.foldl (fun d j => match j.latch with
    | some p => (if j.empty then d else d.blank xx).soundFailed xx p
    | none => d) d
  d.setHp xx { d.hp xx with jobs := if all then [] else h.jobs.filter fun j => j.led }

/-- The leading edge (R190); a load that ended late makes the course an overspeed blank of this port alone, which clears the
diffusion buffers, and twice in a row raises the screening-overrun source (R126, R192, R291). -/
def Dev.latchEdge (d : Dev) (xx : Nat) : Dev :=
  let h := d.hp xx
  match h.jobs with
  | [] => d
  | j :: r =>
    match j.latch with
    | none => d
    | some p =>
      if j.inTime p then
        let d := d.setHp xx { h with jobs := { j with led := true } :: r, last := some (p.nom + p.defer), late := false }
        d.emit (.latch xx j.course j.codes p.lead p.trail p.high)
      else
        let d := d.setHp xx { h.pop p.lead with late := true }
        let d := (if j.empty then d else d.blank xx).soundFailed xx p
        let primed := match d.portBay xx with | some b => (d.bay b).mode == .prime | none => true
        let d := if j.blank || primed then d else d.edClear xx
        if h.late then d.signal srcScOverrun xx else d

/-- The trailing edge of the course at the head of the queue is due. -/
def Dev.trailDue (d : Dev) (xx : Nat) : Bool :=
  match (d.hp xx).jobs with
  | j :: _ => j.led && (match j.latch with | some p => decide (p.trail ≤ d.nowPs) | none => false)
  | [] => false

/-- The samples of a play, scaled (R183), and whether one saturated. -/
def Dev.playSamples (d : Dev) (xx bank w : Nat) (amp : Int) : List Int × Bool :=
  let out := (List.range (d.wvLen xx bank w)).map fun j =>
    (sgn 16 (d.tb16 (waveAt xx bank + 0x400 * w + 2 * j)) * amp + 16384) / 32768
  (out.map (clampInt (-32768) 32767), out.any fun v => decide (v < -32768) || decide (32767 < v))

/-- Slot 0 of channel A (R190). -/
def LatchP.slot0 (p : LatchP) (grid : Nat) : Nat := frameAt grid p.tf (p.trail + p.tf)

/-- The local group of slot s (R186). -/
def LatchP.groupAt (p : LatchP) (c s : Nat) : Nat := if p.rot then (s + p.spc - c % p.spc) % p.spc else s

/-- Clipping is noted (R183). -/
def Dev.noteClip (d : Dev) (xx w ch : Nat) : Dev :=
  let was := d.on .WV_STAT_CLIP xx
  let d := (d.bump .WV_STAT_CLIPCNT xx 0).setOn .WV_STAT_CLIP xx 0 true
  if was then d else d.unitEvent (d.portBay xx) 1 0x0B00 xx (w + 16 * ch) (d.fld .WV_STAT_CLIPCNT xx)

/-- A sample lies in a drive window of a waveform (R184). -/
def Dev.inWindow (d : Dev) (xx bank w j : Nat) : Bool :=
  (List.range (d.wvNwin xx bank w)).any fun k => decide (d.wvStart xx bank w k ≤ j) && decide (j < d.wvEnd xx bank w k)

/-- What a channel sends at sample k after slot 0 of channel A (R183, R184, R186): G, S and the sample. `out` holds the samples of a play
with their G, `off` is where slot 0 of the channel starts, and `rest` is sent outside the plays. -/
def LatchP.channelAt (p : LatchP) (course off : Nat) (out : Array (Bool × Int)) (rest : Int) (k : Nat) : Bool × Nat × Int :=
  if k < off then (false, 0, rest)
  else
    let s := if p.spc = 1 then 0 else min ((k - off) / p.gstep) (p.spc - 1)
    match out[k - off - s * p.gstep]? with
    | some q => (q.1, p.groupAt course s, q.2)
    | none => (false, 0, rest)

/-- The samples from slot 0 of channel A to the end of the last play. -/
def LatchP.span (p : LatchP) (lenA lenB : Nat) : Nat :=
  max ((p.spc - 1) * p.gstep + lenA) (if p.nch then p.boff + (p.spc - 1) * p.gstep + lenB else 0)

/-- The sample frames of the plays of a course (R177, R183 to R186). -/
def Dev.playFrames (d : Dev) (xx course : Nat) (p : LatchP) : List Nat :=
  let out (w : Nat) (amp : Int) : Array (Bool × Int) :=
    ((d.playSamples xx p.bank w amp).1.mapIdx fun j v => (d.inWindow xx p.bank w j, v)).toArray
  let a := out p.wa p.ampA
  let b := if p.nch then out p.wb p.ampB else #[]
  (List.range (p.span a.size b.size)).map fun k =>
    let x := p.channelAt course 0 a p.restA k
    let y := p.channelAt course p.boff b p.restB k
    wvPolarity p.wvInv (sampleFrame x.1 y.1 x.2.1 y.2.1 x.2.2 y.2.2)

/-- The waveforms that a course plays: channel, waveform and amplitude. -/
def LatchP.waves (p : LatchP) : List (Nat × Nat × Int) := (0, p.wa, p.ampA) :: (if p.nch then [(1, p.wb, p.ampB)] else [])

/-- An uncorrectable word of a waveform bank (R198): the course prints blank. -/
def Dev.bankError (d : Dev) (xx : Nat) (j : Job) : Dev :=
  let d := d.setOn .HP_STAT_UE xx 0 true
  let d := if j.empty then d else d.blank xx
  match d.portBay xx with
  | some b => if h : b < 4 then d.signalBay srcSramUe 0xFF ⟨b, h⟩ else d
  | none => d.signal srcSramUe 0xFF

/-- The plays of a course start (R183 to R186): a fenced or held port plays rest frames (R197, R279), and so does one that meets an uncorrectable bank
word (R198); answers whether it plays. -/
def Dev.playCourse (d : Dev) (xx : Nat) (j : Job) (p : LatchP) : Dev × Bool :=
  if d.hpFenced xx || d.thermalHold xx then (if j.empty then d else d.blank xx, false)
  else
    let (d, ue) := d.sramRead 2 xx (p.waves.foldl (fun n q => n + d.wvLen xx p.bank q.2.1) 0)
    if ue then (d.bankError xx j, false)
    else
      let d := d.emit (.play xx j.course (p.slot0 (d.hp xx).grid) (p.ts / p.tf) (d.playFrames xx j.course p)
        (wvPolarity p.wvInv (sampleFrame false false 0 0 p.restA p.restB)))
      let clips := p.waves.filter fun q => (d.playSamples xx p.bank q.2.1 q.2.2).2
      (match clips with | q :: _ => d.noteClip xx q.2.1 q.1 | [] => d, true)

/-- The trailing edge (R180, R190): the course leaves the queue, its plays start, and a repeat that is due goes out after
them (R189). Answers whether channel A played. -/
def Dev.trailEdge (d : Dev) (xx : Nat) : Dev × Bool :=
  let h := d.hp xx
  match h.jobs with
  | j :: _ =>
    match j.latch with
    | some p =>
      let d := d.setHp xx (h.pop p.trail)
      let (d, played) := d.playCourse xx j p
      (if h.cfgDue then d.sendCfg xx else d, played)
    | none => (d, false)
  | [] => (d, false)

/-- The repeat of the configuration block falls due (R189). -/
def Dev.cfgRepeatDue (d : Dev) (xx : Nat) : Bool :=
  let h := d.hp xx
  d.portReady xx && d.on .HP_PROF_CFGREP xx && d.cfgCount xx != 0 && !h.cfgDue && decide (ms 100 ≤ d.tb - h.cfgSent)

/-! ## Head power (R196, R197) -/

/-- The level HPxx_PEN is to have (R196, R369, R397): never high while the port is shut, refused, its head gone or being read. -/
def Dev.penWant (d : Dev) (xx : Nat) : Bool :=
  !d.on .HP_STAT_SHUT xx && !d.on .HP_PWR_REFUSED xx && d.fld .TR_STAT_STATE xx != 7 && d.fld .TR_STAT_STATE xx != 1 && (d.portBay xx).isSome && d.boot.phase == .running &&
    (if d.boot.service then d.fbit .SV_PEN_PEN 0 0 xx
     else match d.portBay xx with
      | some b => d.present b && (if (d.bay b).mode = .standby then d.on .HP_PWR_REQ xx else true)
      | none => false)

/-- HP_POWER on E1 of the bay (R200). -/
def Dev.powerEvent (d : Dev) (xx level cause : Nat) : Dev := d.unitEvent (d.portBay xx) 1 0x0A02 xx level cause

/-- HPxx_PEN rises, and the power-up sequence begins (R196); the lane clock waits for the island of its cluster (R32). -/
def Dev.penRise (d : Dev) (xx cause : Nat) : Dev :=
  let d := (d.setOn .HP_PWR_PEN xx 0 true).followIsland (cluster xx)
  let wake := match d.wakeAt (cluster xx) with | some t => t - d.now | none => 0
  let settle := max (d.fld .HP_PWR_TPON xx * us 10) wake + (256 + d.cfgCount xx) * d.tfOf xx / 5000
  let d := d.setHp xx { d.hp xx with settleAt := some (d.now + settle), penAt := some d.now, penWait := none }
  { d with wear := { d.wear with orderlyHeld := false } }.powerEvent xx 1 cause

/-- The power-down begins (R196): no more latches, plays cut, and rest frames. -/
def Dev.penFall (d : Dev) (xx cause : Nat) : Dev :=
  let d := (d.stopLatches xx true).restNow xx
  d.setHp xx { d.hp xx with settleAt := none, downAt := some (1, d.now + us 10, cause) }

/-- The power of a head follows what it is to be (R196); a rise that a mode
causes waits for the island of its cluster. -/
def Dev.followPower (d : Dev) (xx cause : Nat) : Dev :=
  let want := d.penWant xx
  let h := d.hp xx
  let pen := d.on .HP_PWR_PEN xx
  if want && !pen && h.downAt.isNone then
    if cause != 1 || d.islandOn (cluster xx) then d.penRise xx cause
    else if h.penWait.isSome then d
    else (d.setHp xx { h with penWait := some cause }).followIsland (cluster xx)
  else if !want && pen && h.downAt.isNone then d.penFall xx cause
  else if !want && !pen then d.setHp xx { h with penWait := none }
  else d

/-- READY is due. -/
def Dev.settleDue (d : Dev) (xx : Nat) : Bool := match (d.hp xx).settleAt with | some t => decide (t ≤ d.now) | none => false

/-- The lane clock runs, and alignment frames and the configuration block have gone out: READY (R196); the loopback compare may fail (R291). -/
def Dev.settle (d : Dev) (xx : Nat) (loopback : Bool) : Dev :=
  let d := (d.emit (.laneClock xx (match d.fld .HP_PROF_LRATE xx with | 0 => 400 | 1 => 200 | _ => 100) (d.fbit .HP_LANE_LINV xx 0 5))).sendAlignment xx
  let h := d.hp xx
  let d := d.setHp xx { h with settleAt := none, grid := d.nowPs, trail := d.nowPs, last := none, late := false }
  let d := ((d.sendCfg xx).setOn .HP_PWR_READY xx 0 true).restNow xx
  if loopback then d else d.signal srcHpLink xx

/-- A step of the power-down is due. -/
def Dev.downDue (d : Dev) (xx : Nat) : Bool := match (d.hp xx).downAt with | some (_, t, _) => decide (t ≤ d.now) | none => false

/-- The next step of the power-down (R196): PEN low and READY 0, then the link pins in the unused-port state. -/
def Dev.downStep (d : Dev) (xx : Nat) : Dev :=
  let h := d.hp xx
  match h.downAt with
  | some (1, _, cause) =>
    let d := d.setHp xx { h with downAt := some (2, d.now + us 10, cause) }
    (((d.setOn .HP_PWR_PEN xx 0 false).setOn .HP_PWR_READY xx 0 false).powerEvent xx 0 cause)
  | some (_, _, _) => ((((d.setHp xx { h with downAt := none }).emit (.linkOff xx)).followPower xx 1).followIsland (cluster xx))
  | none => d

/-- An island has woken (R32): its bit sets, and what waited goes on. -/
def Dev.islandAwake (d : Dev) (i : Nat) : Dev :=
  let d := (d.setIsland i true).setWake i none
  if i < 4 then
    forN 8 (fun k d => match (d.hp (8 * i + k)).penWait with
      | some cause => if d.penWant (8 * i + k) && d.fld .TR_STAT_STATE (8 * i + k) != 1 then d.penRise (8 * i + k) cause else d
      | none => d) d
  else d

/-- The pre-warning of R194, at the end of a speed window of channel n. -/
def Dev.preWarn (d : Dev) (n : Nat) : Dev :=
  forN 4 (fun b d =>
    if d.bayModes && d.present b && d.fld .PC_CTL_CHAN b == n && d.psBay n == some b && d.on .HP_OSCTL_PWEN b then
      let hz := d.pcSpeed b
      let m := d.maxrate b
      if (95 * m + 99) / 100 ≤ hz then
        if d.on .HP_BAYSTAT_PREWARN b then d
        else (d.setOn .HP_BAYSTAT_PREWARN b 0 true).bayEvent b 1 0x0A00 0xFF hz m
      else if hz < 93 * m / 100 then d.setOn .HP_BAYSTAT_PREWARN b 0 false
      else d
    else d) d

end Sys2Proof.Machine
end

