-- ==== Sys2Proof/Machine/Sounding.lean ====
section
/-! DEFINITION. Sounding, the health map and learning (R204 to R228): windows and candidates, the capture, its features and
classification, the entries of the health map with their stamps and ages, the suspect list, host declarations, and the
footprints. -/

namespace Sys2Proof.Machine

def Dev.sn (d : Dev) (xx : Nat) : Snd := Store.get (fun _ => {}) d.snd xx
def Dev.setSn (d : Dev) (xx : Nat) (x : Snd) : Dev := { d with snd := Store.set (fun _ => {}) d.snd xx x }

/-! ## The health map (R213 to R218) -/

/-- States of R213. -/
def stSound := 0
def stBubble := 1
def stClog := 2
def stDry := 3
def stOpen := 4
def stMissing := 5
def stDeclared := 6
def stUnknown := 7

/-- An entry: STATE, CONF and AGE (R213). -/
def Dev.hmState (d : Dev) (xx n : Nat) : Nat := d.tb8 (mapAt xx + n) % 8
def Dev.hmConf (d : Dev) (xx n : Nat) : Nat := d.tb8 (mapAt xx + n) / 8 % 4
def Dev.hmAge (d : Dev) (xx n : Nat) : Nat := d.tb8 (mapAt xx + n) / 32

/-- Write an entry without its consequences. -/
def Dev.hmPut (d : Dev) (xx n state conf age : Nat) : Dev :=
  d.setTbl (mapAt xx + n) [BitVec.ofNat 8 (state % 8 + 8 * (conf % 4) + 32 * (age % 8))]

/-- A change of entry with its consequences (R214, R218, R228, R231): the sums, the counts, the churn of R381, HM_CHANGED and the nozzle-loss source.
`src` is 0 sounding, 1 camera, 2 host. -/
def Dev.hmSet (d : Dev) (xx n state conf age src : Nat) : Dev :=
  let old := d.hmState xx n
  let d := d.hmPut xx n state conf age
  let unk := d.fld .HM_SUM_UNKNOWN xx - (if old = stUnknown then 1 else 0) + (if state = stUnknown then 1 else 0)
  let d := if old = state then d else d.setFld .HM_SUM_UNKNOWN xx 0 unk
  let was := usableState old
  let now := usableState state
  if was == now then d
  else
    let u := d.fld .HM_SUM_UNUSABLE xx
    let u' := if now then u - 1 else u + 1
    let d := (d.setFld .HM_SUM_UNUSABLE xx 0 u').bump (if now then .HM_CNT_UP else .HM_CNT_DOWN) xx 0
    let churn := Store.set (fun _ => 0) d.wear.churnHour xx (Store.get (fun _ => 0) d.wear.churnHour xx + 1)
    let d := { d with wear := { d.wear with churnHour := churn } }
    let d := d.unitEvent (d.portBay xx) 1 0x0D00 xx (n + 65536 * state + 1048576 * old + 16777216 * src) u'
    let max := d.fld .HM_LIMIT_MAX xx
    if u ≤ max && max < u' then d.signal srcNozzleLoss xx else d

/-- The stamp of an entry takes a course (R215). -/
def Dev.hmStamp (d : Dev) (xx n course : Nat) : Dev := d.setTbl (stampAt xx + 2 * n) (le 2 (course / 256 % 65536))

/-- The suspect list after a touch (R217): `enter` when the nozzle enters it. -/
def Dev.hmSuspect (d : Dev) (xx n : Nat) (enter : Bool) : Dev :=
  let s := d.sn xx
  let l := if enter && !s.suspects.contains n && decide (s.suspects.length < 16) then s.suspects ++ [n] else s.suspects
  let l := if d.hmConf xx n = 3 || d.hmState xx n = stDeclared then l.filter (· != n) else l
  d.setSn xx { s with suspects := l }

/-- A result is merged (R214, R215, R217). -/
def Dev.hmResult (d : Dev) (xx n res src course : Nat) : Dev :=
  let d := d.hmStamp xx n course
  let st := d.hmState xx n
  let conf := d.hmConf xx n
  if st = stDeclared then d
  else
    let d := if res = stSound ∧ st = stUnknown then
        if conf = 3 then d.hmSet xx n stSound 3 0 src else d.hmPut xx n st (conf + 1) 0
      else if res = st then d.hmPut xx n st (min (conf + 1) 3) 0
      else
        let step := if usableState st then d.fld .HM_CFG_FAILSTEP xx else 1
        if step ≤ conf then d.hmPut xx n st (conf - step) 0 else d.hmSet xx n res 0 0 src
    d.hmSuspect xx n (res != st)

/-- A camera result (R214): MISSING, or PRESENT. -/
def Dev.hmCamera (d : Dev) (xx n : Nat) (present : Bool) (course : Nat) : Dev :=
  if !present then d.hmResult xx n stMissing 1 course
  else if d.on .HM_CFG_CAMGOOD xx then d.hmResult xx n stSound 1 course
  else d.hmStamp xx n course

/-- A host declaration: 0 declare, 1 clear, 2 force good (R216). -/
def Dev.hmDeclare (d : Dev) (xx n act : Nat) : Dev :=
  let age := d.hmAge xx n
  let d := match act with
    | 0 => d.hmSet xx n stDeclared 3 age 2
    | 1 => d.hmSet xx n stUnknown 0 age 2
    | _ => d.hmSet xx n stSound 3 age 2
  d.hmSuspect xx n (act == 1)

/-- The AGE of e elapsed courses (R215). -/
def ageOf (e : Nat) : Nat :=
  if e < 4096 then 0 else if e < 8192 then 1 else if e < 16384 then 2 else if e < 32768 then 3
  else if e < 65536 then 4 else if e < 131072 then 5 else if e < 262144 then 6 else 7

/-- The entries of an uncorrectable map word (`per` = 4) or stamp word (2) that holds nozzle n (R222). -/
def Dev.hmReset (d : Dev) (xx n per : Nat) : Dev :=
  forN per (fun k d =>
    let m := n / per * per + k
    (d.hmSet xx m stUnknown 0 7 0).hmSuspect xx m true) d

/-- An uncorrectable word that a block of a port's bay has read (R135, R295). -/
def Dev.portSramUe (d : Dev) (xx : Nat) : Dev :=
  match d.portBay xx with
  | some b => if h : b < 4 then d.signalBay srcSramUe 0xFF ⟨b, h⟩ else d
  | none => d.signal srcSramUe 0xFF

/-- Such a map or stamp word (R222). -/
def Dev.hmTableError (d : Dev) (xx n per : Nat) : Dev := (d.hmReset xx n per).portSramUe xx

/-- `k` words of a port's map (`per` = 4) or stamps (2) are read, from that of nozzle `n` on (R222, R406): injected uncorrectable errors
strike the first ones. -/
def Dev.hmRead (d : Dev) (xx n k per : Nat) : Dev :=
  let (d, hits) := d.sramHits 3 xx k
  forN hits (fun i d => d.hmTableError xx (n + per * i) per) d

/-- The aging pass visits a nozzle and reads its map and stamp word (R215, R222): an entry at AGE 7 stays there. -/
def Dev.hmAgeVisit (d : Dev) (xx n : Nat) : Dev :=
  let d := (d.hmRead xx n 1 4).hmRead xx n 1 2
  if d.hmAge xx n = 7 then d
  else
    let cc := match d.portBay xx with | some b => (d.bay b).cc | none => 0
    let e := (cc / 256 % 65536 + 65536 - d.tb16 (stampAt xx + 2 * n)) % 65536 * 256
    d.hmPut xx n (d.hmState xx n) (d.hmConf xx n) (ageOf e)

/-! ## Footprints (R224) -/

def Dev.fpF0 (d : Dev) (xx n : Nat) : Nat := d.tb16 (footAt xx + 8 * n)
def Dev.fpFl (d : Dev) (xx n : Nat) : Nat := d.tb16 (footAt xx + 8 * n + 2)
def Dev.fpA0 (d : Dev) (xx n : Nat) : Nat := d.tb16 (footAt xx + 8 * n + 4) % 4096
def Dev.fpValid (d : Dev) (xx n : Nat) : Bool := d.tb16 (footAt xx + 8 * n + 4) / 4096 % 2 == 1
def Dev.fpLfail (d : Dev) (xx n : Nat) : Bool := d.tb16 (footAt xx + 8 * n + 4) / 8192 % 2 == 1
def Dev.fpR0 (d : Dev) (xx n : Nat) : Nat := d.tb8 (footAt xx + 8 * n + 6)

/-- Write a footprint (R224). -/
def Dev.setFp (d : Dev) (xx n f0 fl a0 r0 : Nat) (valid lfail : Bool) : Dev :=
  d.setTbl (footAt xx + 8 * n)
    (le 2 f0 ++ le 2 fl ++ le 2 (a0 % 4096 + (if valid then 4096 else 0) + (if lfail then 8192 else 0)) ++ le 1 r0 ++ [0])

/-- An uncorrectable footprint word clears VALID (R222). -/
def Dev.fpLost (d : Dev) (xx n : Nat) : Dev :=
  d.setFp xx n (d.fpF0 xx n) (d.fpFl xx n) (d.fpA0 xx n) (d.fpR0 xx n) false (d.fpLfail xx n)

/-- A port has a learned footprint (R227). -/
def Dev.anyLearned (d : Dev) (xx : Nat) : Bool :=
  (List.range (d.fld .HP_PROF_NOZZLES xx)).any fun n => d.fpValid xx n

/-! ## Windows (R204 to R206) -/

/-- The sweep candidate steps (R205, R206). -/
def Dev.sweepStep (d : Dev) (xx : Nat) : Dev :=
  let n := d.fld .HP_PROF_NOZZLES xx
  let next := d.fld .SN_SWEEP_NEXT xx + 1
  if next < n then d.setFld .SN_SWEEP_NEXT xx 0 next
  else
    let s := d.sn xx
    let d := (d.setFld .SN_SWEEP_NEXT xx 0 0).setFld .SN_SWEEP_LASTMS xx 0 (min ((d.tb - s.sweepAt.getD d.tb) / ms 1) 65535)
    d.setSn xx { s with sweepAt := some d.tb }

/-- A course on its way may still sound for the window that opened at course `first`. -/
def Dev.soundPends (d : Dev) (xx first : Nat) : Bool :=
  (d.hp xx).jobs.any fun j => match j.latch with
    | some p => (match p.sound with | some s => s.cand.isSome && s.first == first | none => false)
    | none => false

/-- The last course on its way for that window makes it a missed one if it fails as well. -/
def Dev.soundOwes (d : Dev) (xx first : Nat) : Dev :=
  let h := d.hp xx
  let mine (j : Job) : Bool := match j.latch with
    | some p => (match p.sound with | some s => s.cand.isSome && s.first == first | none => false)
    | none => false
  let last := (h.jobs.filter mine).getLast?.map (·.course)
  d.setHp xx { h with jobs := h.jobs.map fun j =>
    if (last == some j.course) then { j with latch := j.latch.map fun p => { p with sound := p.sound.map fun s => { s with owes := true } } } else j }

/-- An open window ends (R205); `missed` when it counts as missed unless its candidate has been sounded, or is by a course on its way. -/
def Dev.windowEnd (d : Dev) (xx : Nat) (missed : Bool) : Dev :=
  let s := d.sn xx
  match s.win with
  | none => d
  | some w =>
    let d := d.setSn xx { s with win := none }
    if missed && !w.done then
      let d := if d.soundPends xx w.first then d.soundOwes xx w.first else d.bump .SN_CNT_MISS xx 0
      if w.sweep then d.sweepStep xx else d
    else d

/-- Course n of a port has a latch on its way and its waveform has the stimulus window (R204, R208). -/
def Dev.canSound (d : Dev) (xx n : Nat) : Bool :=
  decide (d.fld .SN_CFG_SWIN xx < d.wvNwin xx (d.fld .WV_CTL_BANK xx) (d.fld .WV_CTL_WA xx)) &&
    (d.hp xx).jobs.any fun j => j.course == n && j.latch.isSome

/-- The code of a nozzle is 0 in a course (R205). -/
def Job.zeroAt (j : Job) (noz : Nat) : Bool := decide (noz < j.codes.length) && j.codes.getD noz 1 == 0

/-- The SN registers. -/
def Dev.snRegs (d : Dev) : Store Word := d.regs.filter fun x => decide (0x00600000 ≤ x.1) && decide (x.1 < 0x00604000)

/-- The SN registers of a course as the device they are read from (R21). -/
def Dev.asSounded (d : Dev) (regs : Store Word) : Dev :=
  { d with regs := regs }

/-- Course n may sound. -/
def Dev.offerSound (d : Dev) (xx n : Nat) (cand : Option Nat) (first : Nat) (sweep owes : Bool) : Dev :=
  let h := d.hp xx
  let s : SoundP := ⟨cand, first, sweep, owes, d.fld .SN_CFG_SWIN xx, d.fld .SN_CFG_SETTLE xx, d.snRegs⟩
  d.setHp xx { h with jobs := h.jobs.map fun j =>
    if j.course = n then { j with latch := j.latch.map fun p => { p with sound := some s } } else j }

/-- Open the window of boundary n (R205). The first sweep begins with its first sweep window
(R206). -/
def Dev.windowOpen (d : Dev) (xx n : Nat) : Dev :=
  let s := d.sn xx
  let e := d.fld .SN_CFG_EVERY xx
  let p := d.fld .SN_CFG_PRIO xx
  let cand := if p != 0 && n / e % p == 0 then s.suspects.head? else none
  let next := let v := d.fld .SN_SWEEP_NEXT xx; if v < d.fld .HP_PROF_NOZZLES xx then v else 0
  d.setSn xx { s with win := some ⟨n, e, p, cand.getD next, cand.isNone, false⟩,
                      sweepAt := if cand.isNone && s.sweepAt.isNone then some d.tb else s.sweepAt }

/-- Course n may sound the candidate of the open window: every course with code 0 may until one has (R205). -/
def Dev.windowCourse (d : Dev) (xx n : Nat) : Dev :=
  match (d.sn xx).win with
  | some w =>
    if !w.done && d.canSound xx n && (d.hp xx).jobs.any (fun j => j.course == n && j.zeroAt w.cand) then
      d.offerSound xx n (some w.cand) w.first w.sweep false
    else d
  | none => d

/-- Boundary n for the sounding of a port, after its course has been decided (R204, R205, R226). At a boundary without sounding an open
window closes and nothing is missed. -/
def Dev.soundBoundary (d : Dev) (b xx n : Nat) : Dev :=
  let live := d.on .SN_CFG_EN xx && (d.bay b).mode.fires
  if (d.sn xx).learn.isSome then
    let d := d.windowEnd xx false
    if !live then d
    else if d.canSound xx n then d.offerSound xx n none n false true
    else d.bump .SN_CNT_MISS xx 0
  else if !live then d.windowEnd xx false
  else
    let d := match (d.sn xx).win with
      | some w =>
        if w.every ≤ sub48 n w.first || w.every != d.fld .SN_CFG_EVERY xx || w.prio != d.fld .SN_CFG_PRIO xx then d.windowEnd xx true
        else d
      | none => d
    let e := d.fld .SN_CFG_EVERY xx
    let d := if e != 0 && (d.sn xx).win.isNone && n % e == 0 then d.windowOpen xx n else d
    d.windowCourse xx n

/-- The select word of R207. -/
def selectWord (noz swin : Nat) : Nat := noz % 8192 + 8192 * (swin % 8) + 65536

/-- The nozzle that a course sounds as its plays start: the candidate of its window unless an earlier course has sounded it, or the nozzle
that learning is at, where its code is 0 (R205, R226). -/
def Dev.soundNozzle (d : Dev) (xx : Nat) (j : Job) (s : SoundP) : Option Nat :=
  match s.cand with
  | some noz =>
    (match (d.sn xx).win with
     | some w => if w.first == s.first && w.done then none else some noz
     | none => some noz)
  | none => (match (d.sn xx).learn with
    | some l => if j.zeroAt l.noz then some l.noz else none
    | none => none)

/-- The candidate of the open window has been sounded: a sweep slot steps the sweep (R205). -/
def Dev.soundTaken (d : Dev) (xx : Nat) (s : SoundP) : Dev :=
  match (d.sn xx).win with
  | some w =>
    if s.cand.isSome && w.first == s.first && !w.done then
      let d := d.setSn xx { d.sn xx with win := some { w with done := true } }
      if w.sweep then d.sweepStep xx else d
    else d
  | none => d

/-- A course whose plays have started sounds its nozzle, where it may: the select frame goes out, and the capture is set up (R207,
R209). -/
def Dev.soundStart (d : Dev) (xx : Nat) (j : Job) (p : LatchP) (s : SoundP) : Dev :=
  match d.soundNozzle xx j s with
  | none => if s.cand.isNone then d.soundFailed xx p else d
  | some noz =>
    if (d.sn xx).capt.isSome then d.soundFailed xx p
    else
      let start := p.slot0 (d.hp xx).grid + d.wvEnd xx p.bank p.wa s.swin * p.ts + p.tf + s.settle * 20000
      let d := (d.soundTaken xx s).emit (.soundSelect xx (wvPolarity p.wvInv (controlFrame 8 (selectWord noz s.swin))))
      d.setSn xx { d.sn xx with capt := some ⟨j.course, noz, start + 5120000, s.cand.isNone, s.regs⟩ }

/-! ## Features and classification (R209 to R212) -/

/-- The features of a capture (R210): b, a1, r, nz, f. -/
structure Features where
  a1 : Nat
  r : Nat
  nz : Nat
  f : Nat
  deriving DecidableEq, Repr

/-- The largest magnitude of a run of values, saturating at 4,095. -/
def peak (xs : List Int) : Nat := min 4095 (xs.foldl (fun m x => max m x.natAbs) 0)

/-- The state of the crossing counter: sg, nz, ifirst, ilast. -/
def crossing (zh : Nat) (acc : Int × Nat × Nat × Nat) (q : Nat × Int) : Int × Nat × Nat × Nat :=
  let (sg, nz, first, last) := acc
  let v : Int := if (zh : Int) ≤ q.2 then 1 else if q.2 ≤ -(zh : Int) then -1 else 0
  if v = 0 then acc
  else if sg ≠ 0 ∧ v ≠ sg then (v, nz + 1, if nz = 0 then q.1 else first, q.1)
  else (v, nz, first, last)

/-- R210 on 256 samples s. -/
def features (zh : Nat) (s : List Int) : Features :=
  let b := (s.foldl (· + ·) 0 + 128) / 256
  let x := s.map (· - b)
  let a1 := peak (x.take 32)
  let a2 := peak ((x.drop 128).take 32)
  let (_, nz, first, last) := (List.zip (List.range 256) x).foldl (crossing zh) (0, 0, 0, 0)
  { a1 := a1
    r := if a1 = 0 then 0 else min 255 (a2 * 256 / a1)
    nz := nz
    f := if nz < 3 then 0 else (nz - 1) * 25000 / (last - first) }

/-- The OPEN condition (R211). -/
def Dev.openCond (l : Dev) (xx : Nat) (q : Features) : Bool := decide (q.a1 < l.fld .SN_THR0_OPENA xx) || decide (q.nz < 3)

/-- R211 and R212: the result, 7 for none, with the thresholds of `l`. -/
def Dev.classify (d l : Dev) (xx n : Nat) (q : Features) : Nat :=
  let st := d.hmState xx n
  let cut (s : Nat) (f : Fld) : Int := let t := l.fld f xx; if st = s then t * 3 / 4 else t
  let f0 : Int := d.fpF0 xx n
  let df : Int := Int.tdiv (((q.f : Int) - f0) * 1000) f0
  let dr : Int := (q.r : Int) - d.fpR0 xx n
  if l.openCond xx q then stOpen
  else if !d.fpValid xx n || f0 = 0 then 7
  else if cut stDry .SN_THR0_DRYF ≤ df && cut stDry .SN_THR0_DRYR ≤ dr then stDry
  else if df ≤ -(cut stBubble .SN_THR1_BUBF) then stBubble
  else if cut stClog .SN_THR1_CLOGF ≤ df || cut stClog .SN_THR1_CLOGR ≤ dr then stClog
  else stSound

/-- A step of footprint tracking: v moves toward x by an arithmetic shift (R227). -/
def track (h v x : Nat) : Nat := ((v : Int) + ((x : Int) - v) / 2 ^ h).toNat

/-- A classified capture (R211, R214, R227, R230), by the SN registers of its course. -/
def Dev.soundResult (d : Dev) (xx n course : Nat) (regs : Store Word) (q : Features) : Dev :=
  let l := d.asSounded regs
  let (d, ue) := d.sramRead 3 xx 1
  let d := if ue then (d.fpLost xx n).portSramUe xx else d
  let d := d.hmRead xx n 1 4
  let res := d.classify l xx n q
  let d := (d.setFld .SN_LAST0_NOZ xx 0 n).setFld .SN_LAST0_RES xx 0 res
  let d := (d.setFld .SN_LAST0_R xx 0 q.r).setFld .SN_LAST0_NZ xx 0 (min q.nz 255)
  let d := (d.setFld .SN_LAST1_F xx 0 (min q.f 65535)).setFld .SN_LAST1_A1 xx 0 q.a1
  let d := d.bump .SN_CNT_SOUNDED xx 0
  if res = 7 then (d.bump .SN_CNT_NOFP xx 0).hmStamp xx n course
  else
    let printing := match d.portBay xx with
      | some b => (match (d.bay b).mode with | .print | .degraded => true | _ => false)
      | none => false
    let d := if res = stSound && d.hmState xx n = stSound && d.hmConf xx n = 3 && l.on .SN_CFG_TRACK xx && printing then
        let h := l.fld .SN_CFG_TRACKSH xx
        d.setFp xx n (track h (d.fpF0 xx n) q.f) (d.fpFl xx n) (track h (d.fpA0 xx n) q.a1) (track h (d.fpR0 xx n) q.r)
          true (d.fpLfail xx n)
      else d
    d.hmResult xx n res 0 course

/-! ## Learning (R226) -/

/-- Learning ends: `aborted` when the bay left CALIBRATE. -/
def Dev.learnEnd (d : Dev) (xx : Nat) (aborted : Bool) : Dev :=
  let s := d.sn xx
  match s.learn with
  | none => d
  | some l =>
    let d := d.setSn xx { s with learn := none }
    let d := (d.setOn .SN_LEARN_BUSY xx 0 false).setOn .SN_LEARN_STIMCHG xx 0 false
    let d := d.setFld .SN_LEARN_FAILED xx 0 (min l.failed 65535)
    let d := if aborted then d.setOn .SN_LEARN_ABORTED xx 0 true else d
    d.unitEvent (d.portBay xx) 1 0x0C00 xx l.learned (min l.failed 65535 + (if aborted then 2 ^ 31 else 0))

/-- A write of 1 to SN_LEARN.START in CALIBRATE; one while learning runs has no further effect (R7). -/
def Dev.learnStart (d : Dev) (xx : Nat) : Dev :=
  if d.on .SN_LEARN_BUSY xx then d
  else (d.setOn .SN_LEARN_BUSY xx 0 true).setSn xx { d.sn xx with learn := some ⟨0, [], false, 0, 0⟩ }

/-- The rounded mean of a list. -/
def meanOf (l : List Nat) : Nat := (l.foldl (· + ·) 0 + l.length / 2) / max 1 l.length

/-- The spread of the frequencies lies above the tolerance (R226). -/
def spreadOver (ltol : Nat) (fs : List Nat) : Bool :=
  let hi := fs.foldl max 0
  let lo := fs.foldl min hi
  decide (ltol * fs.foldl (· + ·) 0 < (hi - lo) * 1000 * fs.length)

/-- All captures of a nozzle are in: its footprint and entry are decided (R226). -/
def Dev.learnDecide (d : Dev) (xx : Nat) (l : Learn) : Dev :=
  let n := l.noz
  let bad := l.opn || spreadOver (d.fld .SN_LEARN_LTOL xx) (l.got.map (·.1))
  let d := if bad then d.setFp xx n (d.fpF0 xx n) (d.fpFl xx n) (d.fpA0 xx n) (d.fpR0 xx n) false true
    else
      let f := meanOf (l.got.map (·.1))
      d.setFp xx n f f (meanOf (l.got.map (·.2.1))) (meanOf (l.got.map (·.2.2))) true false
  let d := if d.hmState xx n = stDeclared then d
    else if l.opn then d.hmSet xx n stOpen 0 0 0
    else if bad then d.hmSet xx n stUnknown 0 0 0
    else d.hmSet xx n stSound 1 0 0
  let l' : Learn := ⟨n + 1, [], false, l.learned + (if bad then 0 else 1), l.failed + (if bad then 1 else 0)⟩
  let d := d.setSn xx { d.sn xx with learn := some l' }
  if d.fld .HP_PROF_NOZZLES xx ≤ n + 1 then d.learnEnd xx false else d

/-- A capture of learning (R226). -/
def Dev.learnTake (d : Dev) (xx n course : Nat) (regs : Store Word) (q : Features) : Dev :=
  match (d.sn xx).learn with
  | none => d
  | some l =>
    if l.noz ≠ n then d
    else
      let d := d.hmStamp xx n course
      let l := { l with got := (q.f, q.a1, q.r) :: l.got, opn := l.opn || (d.asSounded regs).openCond xx q }
      if l.got.length < 2 ^ d.fld .SN_LEARN_LN xx then d.setSn xx { d.sn xx with learn := some l }
      else d.learnDecide xx l

/-! ## The end of a capture (R209, R210) -/

/-- The 256 samples of a capture are taken. -/
def Dev.captureDue (d : Dev) (xx : Nat) : Bool :=
  match (d.sn xx).capt with | some c => decide (c.endPs ≤ d.nowPs) | none => false

/-- The capture ends with the codes of the sense ADC (R209): discarded when more than 8 lie at the ends of the range, else
reduced, classified and merged. -/
def Dev.captureDone (d : Dev) (xx : Nat) (samples : List Nat) : Dev :=
  let s := d.sn xx
  match s.capt with
  | none => d
  | some c =>
    let codes := (List.range 256).map fun i => samples.getD i 2048 % 4096
    let x : List Int := codes.map fun (v : Nat) => (v : Int) - 2048
    let d := d.setTbl (captAt xx) (x.flatMap fun v => le 2 (enc 16 v))
    if 8 < (codes.filter fun v => v == 0 || v == 4095).length then
      let run := s.aborts + 1
      let d := (d.setSn xx { s with capt := none, aborts := if run = 16 then 0 else run }).bump .SN_CNT_ABORT xx 0
      if run = 16 then d.signal srcSnSense xx else d
    else
      let d := d.setSn xx { s with capt := none, aborts := 0 }
      let q := features ((d.asSounded c.regs).fld .SN_THR1_ZHYS xx) x
      if c.learning then d.learnTake xx c.nozzle c.course c.regs q else d.soundResult xx c.nozzle c.course c.regs q

/-- A commit changed the stimulus of a port with learned footprints (R227): `before` is the device before the apply. -/
def Dev.stimChange (d before : Dev) (xx : Nat) : Dev :=
  let fs : List Fld := [.WV_CTL_WA, .WV_AMP_AMPA, .WV_CTL_BANK, .SN_CFG_SWIN, .SN_CFG_SETTLE]
  if (fs.any fun f => d.fld f xx != before.fld f xx) && d.anyLearned xx then d.setOn .SN_LEARN_STIMCHG xx 0 true else d

end Sys2Proof.Machine
end

