-- ==== Sys2Proof/Machine/Thermal.lean ====
section
/-! DEFINITION. Temperature sensing and thermal management (R271 to R290): conversions, the cross-check with substitution,
levels and bands, the throttle sequence, and the shut of heads. -/

namespace Sys2Proof.Machine

def Dev.tc (d : Dev) (c : Nat) : TherCh := Store.get (fun _ => {}) d.tch c
def Dev.setTc (d : Dev) (c : Nat) (x : TherCh) : Dev := { d with tch := Store.set (fun _ => {}) d.tch c x }
def Dev.thro (d : Dev) (b : Nat) : Throttle := Store.get (fun _ => {}) d.thr b
def Dev.setThro (d : Dev) (b : Nat) (x : Throttle) : Dev := { d with thr := Store.set (fun _ => {}) d.thr b x }

/-! ## Readings (R272, R273) -/

/-- R272: the temperature of a diode in 1/16 °C. -/
def diodeTemp (v1 v2 v3 : Int) (ideal : Nat) : Int :=
  let d := 4 * (v2 - v1) - (v3 - v2)
  Int.tdiv (d * 182865 + ideal * 500) (ideal * 1000) - 4370

/-- The natural logarithm of num ÷ den in units of 2^-48: the power of two, and the series of the area tangent. -/
def ln48 (num den : Nat) : Int :=
  let k : Int := (Nat.log2 num : Int) - Nat.log2 den
  let n := if k < 0 then num * 2 ^ (-k).toNat else num
  let m := if k < 0 then den else den * 2 ^ k.toNat
  let y : Int := (((n : Int) - m) * 2 ^ 48) / ((n : Int) + m)
  let y2 := y * y / 2 ^ 48
  let sum := ((List.range 24).foldl (fun (acc : Int × Int) (i : Nat) => (acc.1 + acc.2 / (2 * (i : Int) + 1), acc.2 * y2 / 2 ^ 48)) (0, y)).1
  2 * sum + k * 195103586505167

/-- R273: the temperature of a thermistor in thousandths of 1/16 °C, rounded down, from its ratio; none where the formula
gives none. -/
def thermistorMilli (rho rnom beta : Nat) : Option Int :=
  if rnom = 0 ∨ beta = 0 ∨ rho = 0 ∨ 2 ^ 20 ≤ rho then none
  else
    let l := ln48 (10000 * rho) ((2 ^ 20 - rho) * (10 * rnom))
    let den : Int := beta * 2 ^ 48 * 100 + 29815 * l
    if den ≤ 0 then none
    else some ((16 * 1000 * (beta : Int) * 29815 * 2 ^ 48) / den - 4370400)

/-- The reported temperature: a step of 1/16 °C within the error bound of 0.05 °C (R273); where two steps are, either. -/
def thermistorTemp (rho rnom beta : Nat) : Int :=
  match thermistorMilli rho rnom beta with
  | none => Config.thermistorNone rho rnom beta
  | some e =>
    let lo := e / 1000
    let f := e % 1000
    if f < 200 then lo
    else if 800 ≤ f then lo + 1
    else if Config.thermistorUp rho rnom beta then lo + 1 else lo

/-- A conversion's reading: t, OPEN, SHORT (R272, R273). -/
def Dev.readCh (d : Dev) (c : Nat) : Reading → Int × Bool × Bool
  | .diode v1 v2 v3 => (diodeTemp v1 v2 v3 (d.fld .TM_CH_IDEAL c), decide (950000 < v3), decide (v3 < 150000))
  | .ratio rho => (thermistorTemp rho (d.fld .TM_THM_RNOM c) (d.fld .TM_THM_BETA c),
      decide (98 * 2 ^ 20 < 100 * rho), decide (100 * rho < 2 * 2 ^ 20))

/-- The reading is of the channel's mode (R271): on-die channels are diodes. -/
def Dev.modeFits (d : Dev) (c : Nat) : Reading → Bool
  | .diode .. => decide (68 ≤ c) || d.fld .TM_CH_MODE c == 1
  | .ratio _ => decide (c < 68) && d.fld .TM_CH_MODE c == 2

/-! ## Cross-check (R276 to R279) -/

/-- A channel is enabled (R271). -/
def Dev.chOn (d : Dev) (c : Nat) : Bool := decide (c < 74) && (decide (68 ≤ c) || d.fld .TM_CH_MODE c != 0)

/-- A thermal channel is fenced (R302). -/
def Dev.chFenced (d : Dev) (c : Nat) : Bool :=
  if c < 32 then d.fbit .FC_FENCE3_TM 0 0 c else if c < 64 then d.fbit .FC_FENCE4_TM 0 0 (c - 32)
  else d.fbit .FC_FENCE5_TM 0 0 (c - 64)

/-- A neighbour is valid (R276, R302). -/
def Dev.chValid (d : Dev) (c : Nat) : Bool :=
  d.chOn c && !d.on .TM_STAT_SUSPECT c && !d.on .TM_STAT_HELD c && !d.chFenced c && (d.tc c).inRange &&
    (match (d.tc c).last with | some t => decide (d.now - t ≤ ms 40) | none => false)

/-- The neighbours of a channel, in order (R276). -/
def Dev.nbs (d : Dev) (c : Nat) : List Nat :=
  ([.TM_NB_NB0, .TM_NB_NB1, .TM_NB_NB2, .TM_NB_NB3] : List Fld).map fun f => d.fld f c

/-- The last reading of a channel. -/
def Dev.meas (d : Dev) (c : Nat) : Int := d.sfld .TM_VAL_MEAS c

/-- A number placed into a list in rising order. -/
def insertInt (v : Int) : List Int → List Int
  | [] => [v]
  | a :: r => if v ≤ a then v :: a :: r else a :: insertInt v r

/-- The median of R276; 0 for an empty list. -/
def median (l : List Int) : Int :=
  let s := l.foldl (fun acc v => insertInt v acc) []
  let k := s.length
  if k = 0 then 0 else if k % 2 = 1 then s.getD (k / 2) 0 else (s.getD (k / 2 - 1) 0 + s.getD (k / 2) 0) / 2

/-- R278. -/
def Dev.warming (d : Dev) (c : Nat) : Bool :=
  decide (c < 64) && match (d.hp (c / 2)).penAt with
    | some t => decide (d.now < t + sec (d.fld .TM_CFG_XWAIT))
    | none => false

/-- A 16-bit signed value, saturating. -/
def put16 (v : Int) : Nat := enc 16 (clampInt (-32768) 32767 v)

/-- What the cross-check of R277 decides: suspect, bad, good, the learned offset, the value in use, substituted, held. -/
structure Judged where
  suspect : Bool
  bad : Nat
  good : Nat
  off : Int
  v : Int
  subst : Bool
  held : Bool
  deriving DecidableEq, Repr

/-- R277, with the state of the channel before the conversion: `k` valid neighbours with median `med`, the partner's
reading where the partner is valid, and whether the offset is frozen (R302). -/
def judge (oor judged suspect frozen : Bool) (t med off v : Int) (k nbmin tol bad good : Nat) (offlim : Int)
    (partner : Option Int) : Judged :=
  let dd := t - (med + off)
  let near (x : Int) (lim : Int) : Bool := decide (x ≤ lim) && decide (-lim ≤ x)
  let agree := near dd tol || (match partner with | some p => near (t - p) tol | none => false)
  let (s, bad, good, off') : Bool × Nat × Nat × Int :=
    if oor then (true, 0, 0, off)
    else if judged then
      if !agree then
        let bad := min (bad + 1) 3
        (suspect || bad == 3, bad, 0, off)
      else if suspect then (suspect, 0, if near dd (tol / 2) then good + 1 else 0, off)
      else if near dd tol && !frozen then (suspect, 0, good, clampInt (-offlim) offlim (off + (t - med - off) / 64))
      else (suspect, 0, good, off)
    else (suspect, 0, if suspect then good + 1 else good, off)
  let (s, good) := if s && 8 ≤ good then (false, 0) else (s, good)
  if !s then ⟨s, bad, good, off', t, false, false⟩
  else if nbmin ≤ k then ⟨s, bad, good, off', med + off', true, false⟩
  else ⟨s, bad, good, off', v, false, true⟩

/-! ## Scopes, levels and bands (R274, R280, R281) -/

/-- The scope of a channel (R281). -/
def Dev.inScope (d : Dev) (c xx : Nat) : Bool := if c < 64 then c / 2 == xx else d.fbit .TM_SCOPE_HP (c - 64) 0 xx

/-- The ports of present bays in a channel's scope: those its levels act on (R26, R281). -/
def Dev.scopePorts (d : Dev) (c : Nat) : List Nat :=
  (List.range 32).filter fun xx => d.inScope c xx && (match d.portBay xx with | some b => d.present b | none => false)

/-- The bays of a channel (R281). -/
def Dev.chBays (d : Dev) (c : Nat) : List Nat :=
  (List.range 4).filter fun b => (d.scopePorts c).any fun xx => d.portBay xx == some b

/-- An event of a channel: on E1 of its bays, and of the steward for channels 64 to 73 (R281, R287). -/
def Dev.chEvent (d : Dev) (c code unit d0 d1 : Nat) : Dev :=
  let d := (d.chBays c).foldl (fun d b => d.bayEvent b 1 code unit d0 d1) d
  if 64 ≤ c then d.devEvent d.steward 1 code unit d0 d1 else d

/-- The thresholds of WARN, THROTTLE and SHUT, and their clear points (R280). -/
def Dev.thrOf (d : Dev) (c k : Nat) : Int :=
  match k with | 0 => d.sfld .TM_THR0_WARN c | 1 => d.sfld .TM_THR0_THROT c | _ => d.sfld .TM_THR1_SHUT c
def Dev.clearOf (d : Dev) (c k : Nat) : Int :=
  d.thrOf c k - 8 * (match k with | 0 => d.fld .TM_THR1_HW c | 1 => d.fld .TM_THR1_HT c | _ => d.fld .TM_THR1_HS c)
def Dev.levelOf (d : Dev) (c k : Nat) : Bool :=
  match k with | 0 => d.on .TM_STAT_WARN c | 1 => d.on .TM_STAT_THROT c | _ => d.on .TM_STAT_SHUT c

/-- A level after a conversion with value v (R280): `higher` tells whether the next higher level is set. -/
def Dev.levelNext (d : Dev) (c k : Nat) (v : Int) (higher : Bool) : Bool :=
  if d.thrOf c k ≤ v || higher then true
  else if v < d.clearOf c k then false
  else d.levelOf c k

/-- The distance of v from the channel's nearest point (R274); none when it has none. -/
def Dev.nearPoint (d : Dev) (c : Nat) (v : Int) : Option Nat :=
  let up := (List.range 3).find? fun k => !d.levelOf c k && decide (v < d.thrOf c k)
  let dn := ([2, 1, 0] : List Nat).find? fun k => d.levelOf c k
  let pts := (up.map (d.thrOf c)).toList ++ (dn.map (d.clearOf c)).toList
  match pts.map fun p => (p - v).natAbs with
  | [] => none
  | a :: r => some (r.foldl min a)

/-- The scan band of a value (R274). -/
def Dev.bandOf (d : Dev) (c : Nat) (v : Int) : Nat :=
  match d.nearPoint c v with | some n => if n ≤ 32 then 2 else if n ≤ 80 then 1 else 0 | none => 0

/-- The scan period of a band in cycles (R274). -/
def bandPeriod (k : Nat) : Nat := match k with | 0 => ms 20 | 1 => ms 2 | _ => us 500

/-- TM_SCAN.LOAD (R274): conversions per second that the bands demand. -/
def Dev.scanLoad (d : Dev) : Nat :=
  (List.range 74).foldl (fun n c => if d.chOn c then n + (match d.fld .TM_STAT_BAND c with | 0 => 50 | 1 => 500 | _ => 2000) else n) 0

/-! ## Throttle (R282, R283, R316) -/

/-- A record holds the bay degraded (R298). -/
def Dev.heldDegraded (d : Dev) (b : Nat) : Bool := d.fbit .FC_REC_REACT b 0 1 || d.fbit .FC_REC_REACT 4 0 1

/-- The ports of a bay in the scope of a throttling channel, and the lowest such channel (R282). -/
def Dev.thrPorts (d : Dev) (b : Nat) : List Nat :=
  (d.portsOf b).filter fun xx => (List.range 74).any fun c => d.on .TM_STAT_THROT c && d.inScope c xx
def Dev.thrFirst (d : Dev) (b : Nat) : Nat :=
  ((List.range 74).find? fun c => d.on .TM_STAT_THROT c && (d.portsOf b).any (d.inScope c)).getD 0xFF

/-- TM_THROTTLE (R287). -/
def Dev.thrEvent (d : Dev) (b what unit : Nat) : Dev := d.bayEvent b 1 0x1101 unit what (d.fld .TM_TACT_RATE b)

/-- The throttle request line of a bay moves (R282); nTHRQb is pin 48 + b of R395. -/
def Dev.setThrq (d : Dev) (b : Nat) (low : Bool) : Dev :=
  if d.on .TM_BSTAT_THRQ b == low then d else (d.setOn .TM_BSTAT_THRQ b 0 low).pinOut (48 + b) (if low then some false else none)

/-- The enforcing commit is requested (R283). -/
def Dev.thrEnforce (d : Dev) (b : Nat) : Dev :=
  let ports := d.thrPorts b
  let fs := ports.flatMap fun xx =>
    [mkStaged .TM_ENF_ACT xx 0 1, mkStaged .TM_ENF_CLAMPL xx 0 (d.fld .TM_TACT_CLAMPL b), mkStaged .TM_ENF_DUTY xx 0 (d.fld .TM_TACT_DUTY b)]
  let d := d.setThro b { d.thro b with busy := some .enforce, asked := ports, first := d.thrFirst b }
  d.requestInternal b ⟨.thermal, fs, .degrade, false⟩

/-- The releasing commit is requested (R283). -/
def Dev.thrRelease (d : Dev) (b : Nat) : Dev :=
  let fs := (d.portsOf b).map fun xx => mkStaged .TM_ENF_ACT xx 0 0
  let d := d.setThro b { d.thro b with busy := some .release, asked := [] }
  d.requestInternal b ⟨.thermal, fs, if d.heldDegraded b then .keep else .back, false⟩

/-- The sequence returns to IDLE (R282). -/
def Dev.thrIdle (d : Dev) (b : Nat) : Dev :=
  let d := d.setThro b {}
  ((d.setFld .TM_BSTAT_STATE b 0 0).setThrq b false).thrEvent b 2 0xFF

/-- The sequence of a bay follows its channels (R282, R283); `test` at the rate test of every 100 µs. -/
def Dev.thrEval (d : Dev) (b : Nat) (test : Bool) : Dev :=
  if !d.present b || !d.running then d
  else
    let x := d.thro b
    let ports := d.thrPorts b
    match d.fld .TM_BSTAT_STATE b with
    | 0 =>
      if ports = [] then d
      else
        let d := d.setThro b { x with graceEnd := some (d.now + ms 10 * d.fld .TM_TTHIN_GRACE b) }
        let d := (d.setFld .TM_BSTAT_STATE b 0 1).bump .TM_TCNT_REQ b 0
        (d.setThrq b true).thrEvent b 0 (d.thrFirst b)
    | 1 =>
      if x.busy.isSome then d
      else if ports = [] then d.thrIdle b
      else
        let lapsed := match x.graceEnd with | some t => decide (t ≤ d.now) | none => false
        let moving := match (d.bay b).mode with | .standby | .hold => false | _ => true
        if test && lapsed && d.bayModes && moving && decide (d.fld .TM_TACT_RATE b < d.fld .PC_RATE_CNT b * 100) then d.thrEnforce b else d
    | _ =>
      if x.busy.isSome || !d.bayModes then d
      else if ports = [] then (if test then d.thrRelease b else d)
      else if test && ports.any fun xx => !x.ports.contains xx then d.thrEnforce b
      else d

/-- As `thrEval` when a level changes: the releasing commit, or the one that adds ports, is requested at once (R283). -/
def Dev.thrChanged (d : Dev) (b : Nat) : Dev :=
  if d.fld .TM_BSTAT_STATE b = 2 then d.thrEval b true else d.thrEval b false

/-- A thermal commit of a bay ended: applied or not (R282, R283). -/
def Dev.thrDone (d : Dev) (b : Nat) (applied : Bool) : Dev :=
  let x := d.thro b
  match x.busy with
  | none => d
  | some r =>
    let d := d.setThro b { x with busy := none }
    if !applied then d
    else match r with
    | .enforce =>
      let d := d.setThro b { d.thro b with ports := x.ports ++ x.asked.filter fun xx => !x.ports.contains xx, graceEnd := none }
      let d := if d.fld .TM_BSTAT_STATE b = 2 then d
        else ((d.setFld .TM_BSTAT_STATE b 0 2).bump .TM_TCNT_ENF b 0).thrEvent b 1 x.first
      d.thrChanged b
    | .release => (d.thrIdle b).thrChanged b
    | .redegrade => d.thrChanged b

/-- While ENFORCED, a bay that is in PRINT again is moved back to DEGRADED (R316). -/
def Dev.thrBoundary (d : Dev) (b : Nat) : Dev :=
  if d.fld .TM_BSTAT_STATE b = 2 && (d.thro b).busy.isNone && (d.bay b).mode == .print then
    (d.setThro b { d.thro b with busy := some .redegrade, asked := [] }).requestInternal b ⟨.thermal, [], .degrade, false⟩
  else d

/-! ## Shut (R285, R286) -/

/-- A SHUT level with the port in its scope is set. -/
def Dev.shutHeld (d : Dev) (xx : Nat) : Bool := (List.range 74).any fun c => d.on .TM_STAT_SHUT c && d.inScope c xx

/-- A SHUT level sets (R285). -/
def Dev.shutOn (d : Dev) (c : Nat) : Dev :=
  let d := (d.scopePorts c).foldl (fun d xx =>
    if d.on .HP_STAT_SHUT xx then d
    else
      let d := ((d.setFbit .TM_SHUTST_SHUT 0 0 xx true).setOn .HP_STAT_SHUT xx 0 true).followPower xx 2
      d.signal srcTmShut xx) d
  if 68 ≤ c then d.signal srcTmDie 0xFF else d

/-- The shut of a port ends when it may (R286). -/
def Dev.shutEval (d : Dev) (xx : Nat) : Dev :=
  if d.on .HP_STAT_SHUT xx && !d.shutHeld xx && (!d.on .TM_CFG_SHUTLATCH || !d.fbit .TM_SHUTST_SHUT 0 0 xx) then
    ((d.setOn .HP_STAT_SHUT xx 0 false).setFbit .TM_SHUTST_SHUT 0 0 xx false).followPower xx 2
  else d

/-- The shut of every port ends where it may. -/
def Dev.shutEvalAll (d : Dev) : Dev := forN 32 (fun xx d => d.shutEval xx) d

/-! ## A conversion (R274, R277, R280) -/

/-- A channel converts in the present phase (R275), unless the meter current is on it (R394). -/
def Dev.chRuns (d : Dev) (c : Nat) : Bool :=
  d.chOn c && (68 ≤ c || d.running) && (d.tc c).due.isSome && !(d.on .SV_MTEMP_EN && d.fld .SV_MTEMP_CH == c)

/-- The due channel that fell due earliest, ties to the lower number (R274). -/
def Dev.chNext (d : Dev) : Option Nat :=
  ((List.range 74).foldl (fun (best : Option (Nat × Nat)) c =>
    match d.chRuns c, (d.tc c).due with
    | true, some t =>
      if t ≤ d.now then (match best with | some (u, _) => if t < u then some (t, c) else best | none => some (t, c)) else best
    | _, _ => best) none).map (·.2)

/-- A conversion of a channel with a reading is what the scan does now (R274): one every 62.5 µs. -/
def Dev.convDue (d : Dev) (c : Nat) (r : Reading) : Bool :=
  d.chNext == some c && d.modeFits c r && (match d.tSlot with | some t => decide (t + 12500 ≤ d.now) | none => true)

/-- The THROTTLE level of a channel has changed (R281, R282): the sequences follow, and every bay of the channel is told, by the event of
its sequence or by one that says where it stands (DESIGN CHOICE, log 78); the steward too for channels 64 to 73. -/
def Dev.throttleMoved (d : Dev) (c : Nat) (set : Bool) : Dev :=
  let before := d
  let d := forN 4 (fun b d => d.thrChanged b) d
  let d := (d.chBays c).foldl (fun d b =>
    let st := d.fld .TM_BSTAT_STATE b
    if st = before.fld .TM_BSTAT_STATE b then d.thrEvent b (match st with | 0 => 2 | 1 => 0 | _ => 1) c else d) d
  if 64 ≤ c then d.devEvent d.steward 1 0x1101 c (if set then 0 else 2) (d.fld .TM_TACT_RATE d.steward) else d

/-- The levels of a channel after a conversion with value v (R280, R281, R282, R285). -/
def Dev.setLevels (d : Dev) (c : Nat) (v : Int) : Dev :=
  let w0 := d.levelOf c 0
  let t0 := d.levelOf c 1
  let s0 := d.levelOf c 2
  let s := d.levelNext c 2 v false
  let t := d.levelNext c 1 v s
  let w := d.levelNext c 0 v t
  let d := ((d.setOn .TM_STAT_SHUT c 0 s).setOn .TM_STAT_THROT c 0 t).setOn .TM_STAT_WARN c 0 w
  let d := if w == w0 then d else d.chEvent c 0x1100 c (c + (if w then 256 else 0)) (d.reg .TM_VAL c).toNat
  let d := if t == t0 then d else d.throttleMoved c t
  if s == s0 then d
  else
    let d := if s then d.shutOn c else d.shutEvalAll
    d.chEvent c 0x1102 c (c + (if s then 256 else 0)) (d.reg .TM_SHUTST).toNat

/-- The conversion of channel c (R277); a head channel that comes to be HELD stops the latches of its port (R279). -/
def Dev.convert (d : Dev) (c : Nat) (r : Reading) : Dev :=
  let x := d.tc c
  let (t, isOpen, isShort) := d.readCh c r
  let oor := isOpen || isShort || decide (t < -720) || decide (2160 < t)
  let late := match x.due with | some u => decide (u + 12500 < d.now) | none => false
  let d := if late then d.bump .TM_SCAN_LAG 0 0 else d
  let valid := (d.nbs c).filter d.chValid
  let k := valid.length
  let med := if k = 0 then d.sfld .TM_OFF_MED c else median (valid.map d.meas)
  let nb0 := d.fld .TM_NB_NB0 c
  let partner := if d.chValid nb0 then some (d.meas nb0) else none
  let nbmin := d.fld .TM_NB_NBMIN c
  let was := d.on .TM_STAT_SUSPECT c
  let wasHeld := d.on .TM_STAT_HELD c
  let j := judge oor (d.on .TM_CH_XCHK c && decide (nbmin ≤ k) && !d.warming c) was (d.chFenced c) t med (d.sfld .TM_OFF_OFF c)
    (d.sfld .TM_VAL_USED c) k nbmin (8 * d.fld .TM_CH_TOL c) x.bad x.good (d.fld .TM_CFG_OFFLIM) partner
  let d := { d with tSlot := some d.now }
  let d := (d.setFld .TM_VAL_MEAS c 0 (put16 t)).setFld .TM_VAL_USED c 0 (put16 j.v)
  let d := (d.setFld .TM_OFF_OFF c 0 (put16 j.off)).setFld .TM_OFF_MED c 0 (put16 med)
  let d := (((d.setOn .TM_STAT_OPEN c 0 isOpen).setOn .TM_STAT_SHORT c 0 isShort).setOn .TM_STAT_SUSPECT c 0 j.suspect)
  let d := (d.setOn .TM_STAT_SUBST c 0 j.subst).setOn .TM_STAT_HELD c 0 j.held
  let failing := oor || j.suspect || j.held || was || wasHeld
  let d := d.setTc c { x with last := some d.now, inRange := !oor, bad := j.bad, good := j.good,
                              lastBad := if failing then some d.now else x.lastBad }
  let d := if j.suspect == was then d
    else
      let d := if j.suspect then (d.bump .TM_STAT_SUSCNT c 0).signal srcTmSensor c else d
      d.chEvent c 0x1103 c (c + (if j.suspect then 256 else 0) + (if j.held then 512 else 0)) (d.reg .TM_VAL c).toNat
  let d := if j.held && !wasHeld then (if c < 64 then (d.stopLatches (c / 2) false).restNow (c / 2) else d).signal srcTmSensor c else d
  let d := if j.held then d else d.setLevels c j.v
  let band := d.bandOf c j.v
  let d := d.setFld .TM_STAT_BAND c 0 band
  d.setTc c { d.tc c with due := some (d.now + bandPeriod band) }

/-- Channels that a commit or LOAD switches on fall due at once (R274, R275). -/
def Dev.scanStart (d : Dev) : Dev :=
  forN 74 (fun c d => if d.chOn c && (d.tc c).due.isNone then d.setTc c { d.tc c with due := some d.now }
    else if !d.chOn c then d.setTc c { d.tc c with due := none } else d) d

/-- On-die channels convert from the end of the OTP integrity check (R275). -/
def Dev.scanStartDie (d : Dev) : Dev :=
  forN 6 (fun k d => d.setTc (68 + k) { d.tc (68 + k) with due := some d.now }) d

end Sys2Proof.Machine
end

