-- ==== Sys2Proof/Machine/Inspection.lean ====
section
/-! DEFINITION. Inspection: camera ports and their frames (R232 to R247), sensor control (R238 to R240), the image pipeline
(R248 to R253), statistics and buffers (R241, R254), nozzle-check analysis (R259, R260) and registration (R261 to R264). -/

namespace Sys2Proof.Machine

def Dev.cam (d : Dev) (n : Nat) : Cam := Store.get (fun _ => {}) d.cams n
def Dev.setCam (d : Dev) (n : Nat) (x : Cam) : Dev := { d with cams := Store.set (fun _ => {}) d.cams n x }
def Dev.camFenced (d : Dev) (n : Nat) : Bool := d.fbit .FC_FENCE2_CAM 0 0 n

/-- An event of a camera port: to its bay (R266). -/
def Dev.camEvent (d : Dev) (n q code d0 d1 : Nat) : Dev := d.unitEvent (d.camBay n) q code n d0 d1

/-- The bits of a pixel by DT (R232). -/
def dtBits (dt : Nat) : Nat := match dt with | 0 => 8 | 1 => 10 | _ => 12

/-- A camera port receives frames (R258): enabled, its bay in another mode than STANDBY, its island on. -/
def Dev.camLive (d : Dev) (n : Nat) : Bool :=
  d.bayModes && d.on .CM_CFG_EN n && d.islandOn (4 + n) &&
    (match d.camBay n with | some b => (d.bay b).mode != .standby | none => false)

/-- The mode lets registration act and the frame start be watched (R258, R263). -/
def Mode.prints : Mode → Bool
  | .print | .degraded | .calibrate => true
  | _ => false

/-- The mode of the port's bay does so. -/
def Dev.camPrints (d : Dev) (n : Nat) : Bool := match d.camBay n with | some b => (d.bay b).mode.prints | none => false

/-! ## Frames (R234 to R236) -/

/-- Frame number a is b or newer (R234). -/
def fnFrom (a b : Nat) : Bool := decide ((a + 65536 - b % 65536) % 65536 < 32768)

/-- The open frame of a port. -/
def Cam.openFrame (c : Cam) : Option CamFrame := c.frames.find? fun f => !f.closed

/-- Replace a frame by its number. -/
def Cam.upd (c : Cam) (fn : Nat) (g : CamFrame → CamFrame) : Cam :=
  { c with frames := c.frames.map fun f => if f.fn == fn then g f else f }

/-- The bits [5:0] flag a frame (R236). -/
def flagged (flags : Nat) : Bool := flags % 64 != 0

/-- Set a bit of a frame's FLAGS, with the sticky bit of CM_STAT and CM_FLAGGED, and the registers that show an already closed
frame (R235, R236). -/
def Dev.flagFrame (d : Dev) (n fn bit : Nat) : Dev :=
  match (d.cam n).frames.find? fun f => f.fn == fn with
  | none => d
  | some f =>
    if f.flags / 2 ^ bit % 2 = 1 then d
    else
      let flags := f.flags + 2 ^ bit
      let d := d.setCam n ((d.cam n).upd fn fun f => { f with flags := flags })
      let d := if f.closed && d.fld .CM_FRAME_FN n == fn then d.setFld .CM_FRAME_FLAGS n 0 flags else d
      let d := if f.closed && !flagged f.flags && flagged flags then d.bump .CM_CNT_FLAGGED n 0 else d
      if bit < 6 && !d.fbit .CM_STAT_FLAGS n 0 bit then
        (d.setFbit .CM_STAT_FLAGS n 0 bit true).camEvent n 1 0x0E00 fn flags
      else d

/-- Set several bits. -/
def Dev.flagAll (d : Dev) (n fn : Nat) (bits : List Nat) : Dev := bits.foldl (fun d b => d.flagFrame n fn b) d

/-- The CM, IP and IN registers as they stand (R252). -/
def Dev.camRegs (d : Dev) : Store Word := d.regs.filter fun x => decide (0x00800000 ≤ x.1) && decide (x.1 < 0x00A04000)

/-- The device as a frame sees it: with the CM, IP and IN values of its FS. -/
def Dev.asOf (d : Dev) (f : CamFrame) : Dev := { d with regs := f.regs }

/-- The frame gets UNSURE (R239), judged at its close. -/
def Cam.unsure (c : Cam) (fn : Nat) : Bool :=
  c.woke || c.unsureAt.contains fn || (c.seqRun && fn == (c.seqFrame + c.seqLat) % 65536)
    || (match c.unsureFrom with | some f => fnFrom fn f | none => false)
    || (match c.unsureBefore with | some f => !fnFrom fn f | none => false)

/-- The sensor set of a frame: every set whose first frame it has reached governs (R239); the numbers behind UNSURE keep up with the
frames, which count modulo 65,536. -/
def Cam.govern (c : Cam) (fn : Nat) : Cam :=
  let now := c.future.filter fun x => fnFrom fn x.1
  { c with inForce := now.foldl (fun _ x => x.2) c.inForce, future := c.future.filter fun x => !fnFrom fn x.1,
           unsureAt := c.unsureAt.filter fun x => x == fn || !fnFrom fn x,
           unsureFrom := c.unsureFrom.map fun f => if fnFrom fn (f + 16384) then (fn + 65536 - 8192) % 65536 else f,
           unsureBefore := match c.unsureBefore with | some f => if fnFrom fn f then none else some f | none => none }

/-- The tag of a frame lies at or after the job's (R259, R20). -/
def Dev.ncTag (d : Dev) (n k : Nat) : Nat := d.pair .IN_NCTAGLO_TAG .IN_NCTAGHI_TAG n k

/-- Close the open frame of a port (R235), with the flags its closing gives it. Armed nozzle-check jobs take it. -/
def Dev.closeFrame (d : Dev) (n : Nat) (bits : List Nat) : Dev :=
  match (d.cam n).openFrame with
  | none => d
  | some f =>
    let d := d.flagAll n f.fn bits
    let d := if (d.cam n).unsure f.fn then d.flagFrame n f.fn 4 else d
    let d := if d.ptActive != 0 then d.flagFrame n f.fn 7 else d
    let c := (d.cam n).govern f.fn
    let b := d.camBay n
    let js := [0, 1].filter fun k => d.fld .IN_NCRES_STATE n k == 1 && !before48 f.tag (d.ncTag n k)
    let c := c.upd f.fn fun f =>
      { f with closed := true, set := c.inForce, fenced := f.fenced || d.camFenced n, tbClose := d.tb,
               modeClose := d.camPrints n, genClose := (match b with | some b => (d.bay b).gen | none => 0),
               ptClose := d.ptActive, jobs := js }
    let d := d.setCam n c
    let flags := ((c.frames.find? fun g => g.fn == f.fn).map (·.flags)).getD 0
    let d := (d.setFld .CM_FRAME_FN n 0 f.fn).setFld .CM_FRAME_FLAGS n 0 flags
    let d := d.bump .CM_CNT_FRAMES n 0
    let d := if flagged flags then d.bump .CM_CNT_FLAGGED n 0 else d.setCam n { d.cam n with lastGood := some d.now }
    js.foldl (fun d k => d.setFld .IN_NCRES_STATE n k 2) d

/-! ## Triggers (R237) -/

/-- The pin of CAMn_TRIG with the trigger active or not, from an instant on. -/
def Dev.trigPin (d : Dev) (n : Nat) (active : Bool) (at_ : Nat) : Dev := d.emit (.camTrig n (active != d.on .CM_TRIG_POL n) at_)

/-- The running pulse of CAMn_TRIG ends. -/
def Dev.camPulseStop (d : Dev) (n : Nat) (at_ : Nat) : Dev := (d.setCam n { d.cam n with pulseEnd := none }).trigPin n false at_

/-- The end of a pulse that copies a compare output: it has none of its own. -/
def pulseOpen : Nat := 2 ^ 64

/-- A pulse of CAMn_TRIG starts at an instant and records the course of the bay; one that would start during the previous pulse, or while
the port takes no frames, is not issued. `till` is when it ends of itself. -/
def Dev.camPulse (d : Dev) (n at_ till : Nat) : Dev :=
  let d := match (d.cam n).pulseEnd with
    | some e => if e ≤ at_ then d.camPulseStop n e else d
    | none => d
  let c := d.cam n
  if !d.camLive n || c.pulseEnd.isSome then d
  else
    let cc := match d.camBay n with | some b => (d.bay b).cc | none => 0
    (d.setCam n { c with pulseEnd := some till, pulseTag := some cc, pulsed := true,
                         watch := if c.watch.isSome then c.watch else some at_ }).trigPin n true at_

/-- The end of a pulse of WIDTH × 100 ns. -/
def Dev.pulseTill (d : Dev) (n at_ : Nat) : Nat := at_ + 20 * d.fld .CM_TRIG_WIDTH n

/-- MODE 1: the trigger of course c of the bay; its pulse starts 80 ns after the stamp. -/
def Dev.camTrigger (d : Dev) (b c stamp : Nat) : Dev :=
  let at_ := d.instantOf stamp + 16
  forN 4 (fun n d =>
    if d.camBay n == some b && d.fld .CM_TRIG_MODE n == 1 && c % d.fld .CM_TRIGP_PER n == 0 then d.camPulse n at_ (d.pulseTill n at_)
    else d) d

/-- What an apply of the trigger's settings does to the pin: a copy ends that MODE or CMP no longer gives, one begins whose output is
active, and the pin takes the level of POL. -/
def Dev.camRelevel (d before : Dev) (n : Nat) : Dev :=
  let copies := d.fld .CM_TRIG_MODE n == 2 && d.cmpActive (d.fld .CM_TRIG_CMP n)
  let d := if d.on .CM_TRIG_POL n != before.on .CM_TRIG_POL n then d.trigPin n (d.cam n).pulseEnd.isSome d.now else d
  if d.fld .CM_TRIG_MODE n == before.fld .CM_TRIG_MODE n && d.fld .CM_TRIG_CMP n == before.fld .CM_TRIG_CMP n then d
  else if copies then d.camPulse n d.now pulseOpen
  else if (d.cam n).pulseEnd == some pulseOpen then d.camPulseStop n d.now
  else d

/-- MODE 2: the trigger copies a compare output. -/
def Dev.camFollowCmp (d before : Dev) : Dev :=
  forN 4 (fun n d =>
    let o := d.fld .CM_TRIG_CMP n
    if d.fld .CM_TRIG_MODE n != 2 || d.cmpActive o == before.cmpActive o then d
    else if d.cmpActive o then d.camPulse n d.now pulseOpen
    else if (d.cam n).pulseEnd == some pulseOpen then d.camPulseStop n d.now
    else d) d

/-- A pulse of a camera trigger has run out. -/
def Dev.camPulseDue (d : Dev) (n : Nat) : Bool := match (d.cam n).pulseEnd with | some t => decide (t ≤ d.now) | none => false

/-- It ends. -/
def Dev.camPulseOver (d : Dev) (n : Nat) : Dev := d.camPulseStop n ((d.cam n).pulseEnd.getD d.now)

/-- MODE 3 is due. -/
def Dev.camTimerDue (d : Dev) (n : Nat) : Bool :=
  d.fld .CM_TRIG_MODE n == 3 && d.camLive n && (match (d.cam n).trigNext with | some t => decide (t ≤ d.now) | none => true)

/-- MODE 3: a pulse, and the next one PER × 10 µs later. -/
def Dev.camTimer (d : Dev) (n : Nat) : Dev :=
  let at_ := ((d.cam n).trigNext).getD d.now
  (d.setCam n { d.cam n with trigNext := some (at_ + us (10 * d.fld .CM_TRIGP_PER n)) }).camPulse n at_ (d.pulseTill n at_)

/-! ## Sensor control (R238 to R240) -/

/-- The sensor-matched set of the registers. -/
def Dev.sensorSet (d : Dev) (n : Nat) : SensorSet :=
  ⟨d.fld .CM_EXP_EXP n, d.fld .CM_GAIN_GAIN n, d.fld .IP_NGAIN_NGAIN n, (d.reg .IP_BLK0 n).toNat, (d.reg .IP_BLK1 n).toNat⟩

/-- The transactions of a sequence (R239). -/
def Dev.sensorSeq (d : Dev) (n : Nat) : List I2cTxn :=
  let hold (v : Nat) : List I2cTxn := if d.on .CM_SENS_HOLDEN n then [⟨false, false, d.fld .CM_HOLDREG_REG n, 1, v⟩] else []
  let val (reg nb v : Nat) : List I2cTxn := if nb = 0 then [] else [⟨false, false, reg, nb, v % 2 ^ (8 * nb)⟩]
  hold (d.fld .CM_HOLDREG_HOLDV n) ++ val (d.fld .CM_EXPREG_REG n) (d.fld .CM_EXPREG_NB n) (d.fld .CM_EXP_EXP n)
    ++ val (d.fld .CM_GAINREG_REG n) (d.fld .CM_GAINREG_NB n) (d.fld .CM_GAIN_GAIN n) ++ hold (d.fld .CM_HOLDREG_RELV n)

/-- A sequence has completed: its set governs from frame f + LAT, or one later with f + LAT UNSURE (R239). -/
def Cam.seqDone (c : Cam) : Cam :=
  let e := (c.seqFrame + c.seqLat + (if c.seqLate then 1 else 0)) % 65536
  { c with seqRun := false, future := c.future ++ [(e, c.seqSet)], unsureFrom := none,
           unsureAt := if c.seqLate then c.unsureAt ++ [(c.seqFrame + c.seqLat) % 65536] else c.unsureAt,
           unsureBefore := if c.woke then some e else c.unsureBefore, woke := false }

/-- The value bytes of a write in the order sent (R238). -/
def Dev.i2cData (d : Dev) (n : Nat) (t : I2cTxn) : List Byte :=
  let bs := le t.bytes t.data
  if t.rd then [] else if d.on .CM_SENS_ORD n then bs else bs.reverse

/-- A transaction as it goes out: the register address has 16 bits, most significant byte first, with RA16, else 8 (R238). -/
def Dev.i2cOut (d : Dev) (n : Nat) (t : I2cTxn) : Out :=
  .i2c n (d.fld .CM_SENS_SPEED n) (d.fld .CM_SENS_ADDR n) t.rd (if d.on .CM_SENS_RA16 n then (le 2 t.reg).reverse else le 1 t.reg)
    (d.i2cData n t)

/-- A transaction goes out. -/
def Dev.i2cSend (d : Dev) (n : Nat) (t : I2cTxn) : Dev :=
  (d.setCam n { d.cam n with txn := some t, sent := [d.i2cOut n t] }).emit (d.i2cOut n t)

/-- An idle I²C master takes up what waits: the running sequence first, then the host's transaction (R240); with the island off only the
latter (R258). -/
def Dev.i2cNext (d : Dev) (n : Nat) : Dev :=
  let d := if (d.cam n).seqRun && !d.islandOn (4 + n) then d.setCam n { d.cam n with seq := [], seqRun := false } else d
  let c := d.cam n
  if c.txn.isSome then d
  else if c.seqRun then
    match c.seq with
    | t :: r => (d.setCam n { c with seq := r }).i2cSend n t
    | [] => let d := d.setCam n c.seqDone
            if c.hostWaits then
              (d.setCam n { d.cam n with hostWaits := false }).i2cSend n
                ⟨true, d.on .CM_I2CCMD_RD n, d.fld .CM_I2CCMD_REG n, 1, d.fld .CM_I2CCMD_DATA n⟩
            else d
  else if c.hostWaits then
    (d.setCam n { c with hostWaits := false }).i2cSend n
      ⟨true, d.on .CM_I2CCMD_RD n, d.fld .CM_I2CCMD_REG n, 1, d.fld .CM_I2CCMD_DATA n⟩
  else d

/-- A transaction ends, acknowledged after so many NACKs or after a third one (R238, R239, R240): each NACK but the third has sent it
again. -/
def Dev.i2cDone (d : Dev) (n : Nat) (acked : Option (Fin 3)) (data : Nat) : Dev :=
  let c := d.cam n
  let ack := acked.isSome
  match c.txn with
  | none => d
  | some t =>
    let again := match acked with | some k => k.val | none => 2
    let d := forN again (fun _ d => c.sent.foldl (fun d o => d.emit o) d) d
    let d := d.setCam n { c with txn := none, sent := [] }
    let d := if ack then d
      else ((d.setOn .CM_STAT_I2CERR n 0 true).camEvent n 1 0x0E01 t.reg (if t.host then 1 else 0)).signal srcCamI2c n
    if t.host then
      let d := (d.setOn .CM_I2CCMD_BUSY n 0 false).setOn .CM_I2CCMD_NACK n 0 (!ack)
      (if ack && t.rd then d.setFld .CM_I2CCMD_DATA n 0 data else d).i2cNext n
    else if ack then d.i2cNext n
    else
      let d := d.setCam n { d.cam n with seq := [], seqRun := false, unsureFrom := some ((c.seqFrame + c.seqLat) % 65536) }
      d.i2cNext n

/-- A write of 1 to CM_I2CCMD.GO (R240). -/
def Dev.i2cHost (d : Dev) (n : Nat) : Dev :=
  if d.on .CM_I2CCMD_BUSY n then d
  else ((d.setOn .CM_I2CCMD_BUSY n 0 true).setCam n { d.cam n with hostWaits := true }).i2cNext n

/-- The CAMI island of a port wakes: the whole set is written at the first FS (R239). -/
def Dev.camWake (d : Dev) (n : Nat) : Dev := d.setCam n { d.cam n with woke := true, want := true, watch := none, trigNext := none }

/-! ## Reception (R233, R235, R246) -/

/-- A Frame Start packet (R234, R235, R237, R239). -/
def Dev.frameStart (d : Dev) (n sensorFn : Nat) : Dev :=
  let d := d.closeFrame n [0, 6]
  let c := d.cam n
  let mode := d.fld .CM_TRIG_MODE n
  let cc := match d.camBay n with | some b => (d.bay b).cc | none => 0
  let fn := c.next
  let start := c.want && !c.seqRun
  let f : CamFrame :=
    { fn := fn, sensorFn := sensorFn % 65536, flags := 0, tag := if mode = 0 then cc else c.pulseTag.getD (Config.noPulseTag n % M48),
      tbFs := d.tb, at_ := d.now, regs := d.camRegs, set := c.inForce, modeFs := d.camPrints n, fenced := d.camFenced n }
  let c := { c with next := (fn + 1) % 65536, frames := c.frames ++ [f], pulsed := false,
                    watch := if mode = 0 then some d.now else none,
                    stallFor := 0, stallTill := if c.stallFor = 0 then c.stallTill else some (d.now + us c.stallFor),
                    seqLate := c.seqLate || c.seqRun }
  let c := if start then
      { c with want := false, seqRun := true, seq := d.sensorSeq n, seqSet := d.sensorSet n, seqFrame := fn,
               seqLat := d.fld .CM_SENS_LAT n, seqWrow := d.fld .CM_SENS_WROW n, seqLate := false }
    else c
  let noTrig := mode != 0 && !(d.cam n).pulsed
  let d := d.setCam n c
  let d := if noTrig then d.flagFrame n fn 5 else d
  let d := if d.ptActive != 0 then d.flagFrame n fn 7 else d
  if start then d.i2cNext n else d

/-- A Frame End packet (R235). -/
def Dev.frameEnd (d : Dev) (n : Nat) : Dev :=
  match (d.cam n).openFrame with
  | none => d
  | some f =>
    let rows := (d.asOf f).fld .CM_GEOM_ROWS n
    d.closeFrame n (if f.recv < rows then [0, 6] else if rows < f.recv then [1] else [])

/-- The bytes of a row in the FIFO (R242). -/
def Dev.rowBytes (l : Dev) (n : Nat) : Nat := l.fld .CM_GEOM_WIDTH n * dtBits (l.fld .CM_CFG_DT n) / 8

/-- The bytes of a port's FIFO in use: rows received and not yet processed. -/
def Dev.fifoUsed (d : Dev) (n : Nat) : Nat :=
  (d.cam n).frames.foldl (fun acc f => acc + (f.rows.length - f.done) * (d.asOf f).rowBytes n) 0

/-- A row of the open frame arrives (R233, R235, R246): `good` when its length and CRC are right. -/
def Dev.rowArrive (d : Dev) (n : Nat) (good : Bool) (px : List Nat) : Dev :=
  match (d.cam n).openFrame with
  | none => d
  | some f =>
    let l := d.asOf f
    let w := l.fld .CM_GEOM_WIDTH n
    let bits := dtBits (l.fld .CM_CFG_DT n)
    let row := if good then (List.range w).map fun i => px.getD i 0 % 2 ^ bits
      else f.rows.getLast?.getD (List.replicate w 0)
    let d := if good then d else d.flagFrame n f.fn 3
    let late := (d.cam n).seqRun && (d.cam n).seqFrame == f.fn && decide ((d.cam n).seqWrow ≤ f.recv)
    let d := d.setCam n { (d.cam n).upd f.fn (fun f => { f with recv := f.recv + 1 }) with seqLate := (d.cam n).seqLate || late }
    if l.fld .CM_GEOM_ROWS n ≤ f.recv || f.overrun then d
    else if 262144 < d.fifoUsed n + l.rowBytes n then
      let d := d.setCam n ((d.cam n).upd f.fn fun f => { f with overrun := true })
      (d.flagAll n f.fn [2, 6]).signal srcCamOvf n
    else
      let d := d.setCam n ((d.cam n).upd f.fn fun f => { f with rows := f.rows ++ [row] })
      let k := (d.fifoUsed n + 1023) / 1024
      if d.fld .CM_FIFO_HWM n < k then d.setFld .CM_FIFO_HWM n 0 k else d

/-- A packet that is neither FS nor FE (R232, R233). -/
def Dev.packet (d : Dev) (n vc dt : Nat) (hdrBad : Bool) (wc : Nat) (crcOk : Bool) (px : List Nat) : Dev :=
  if hdrBad then
    let d := d.bump .CM_ERRCNT_HDR n 0
    match (d.cam n).openFrame with
    | some f => d.flagFrame n f.fn 3
    | none => d
  else if vc != d.fld .CM_CFG_VC n then d.bump .CM_ERRCNT_DT n 0
  else if dt = 0x02 || dt = 0x03 then d
  else if dt = 0x2A + d.fld .CM_CFG_DT n then
    match (d.cam n).openFrame with
    | none => d
    | some _ =>
      let want := d.rowBytes n
      let d := if wc != want then d.bump .CM_ERRCNT_WC n 0 else d
      let d := if crcOk then d else d.bump .CM_ERRCNT_CRC n 0
      d.rowArrive n (wc == want && crcOk) px
  else if dt = 0x12 || (0x08 ≤ dt && dt ≤ 0x0F) then d
  else d.bump .CM_ERRCNT_DT n 0

/-- The declared frame period has passed `k` times since an instant (R235, R258): 100 ÷ FPS seconds each. -/
def Dev.framesPast (d : Dev) (n k t : Nat) : Bool := decide (k * 20000000000 ≤ (d.now - t) * d.fld .CM_RATE_FPS n)

/-- No FE within 2 × Tf of FS. -/
def Dev.frameLate (d : Dev) (n : Nat) : Bool :=
  match (d.cam n).openFrame with
  | some f => (d.asOf f).framesPast n 2 f.at_
  | none => false

/-- No FS within 4 × Tf of the trigger pulse, or in MODE 0 of the last FS (R258). -/
def Dev.fsLate (d : Dev) (n : Nat) : Bool :=
  d.camLive n && d.camPrints n && (match (d.cam n).watch with | some t => d.framesPast n 4 t | none => false)

/-! ## Tiles (R243, R245) -/

/-- The processing time of a tile in ns (R243). -/
def ttile (rows width : Nat) : Nat := rows * (width / 2 + 8) + 64

/-- The rows a port's FIFO holds for the next tile: 64, or what remains of a closed frame; 0 when it holds no whole tile. -/
def Dev.tileRows (d : Dev) (n : Nat) : Nat :=
  match (d.cam n).frames.find? fun f => decide (f.done < f.rows.length) with
  | none => 0
  | some f => let r := f.rows.length - f.done; if 64 ≤ r then 64 else if f.closed then r else 0

/-- A port is eligible (R243), unless a perturbation stalls it (R404). -/
def Dev.tileReady (d : Dev) (n : Nat) : Bool :=
  d.tileRows n != 0 && (match (d.cam n).stallTill with | some t => decide (t ≤ d.now) | none => true)

/-- The port granted next: in index order, beginning after the one served last. -/
def Dev.tileNext (d : Dev) : Option Nat := ((List.range 4).map fun i => (d.lastServed + 1 + i) % 4).find? d.tileReady

/-- The pipeline takes up a tile. -/
def Dev.tileGrant (d : Dev) (n : Nat) : Dev :=
  match (d.cam n).frames.find? fun f => decide (f.done < f.rows.length) with
  | none => d
  | some f =>
    let r := d.tileRows n
    { d with tile := some ⟨n, r, d.now + (ttile r ((d.asOf f).fld .CM_GEOM_WIDTH n) + 4) / 5⟩, lastServed := n }

/-- An uncorrectable error met by the pipeline for a frame (R257). -/
def Dev.pipeError (d : Dev) (n fn : Nat) : Dev :=
  let d := d.flagFrame n fn 3
  match d.camBay n with
  | some b => if h : b < 4 then d.signalBay srcSramUe 0xFF ⟨b, h⟩ else d
  | none => d.signal srcSramUe 0xFF

/-- The tile is processed: its rows leave the FIFO. -/
def Dev.tileEnd (d : Dev) (t : Tile) : Dev :=
  let d := { d with tile := none }
  match (d.cam t.port).frames.find? fun f => decide (f.done < f.rows.length) with
  | none => d
  | some f =>
    let (d, ue) := d.sramRead 4 t.port (t.rows * (d.asOf f).fld .CM_GEOM_WIDTH t.port)
    let d := if ue then d.pipeError t.port f.fn else d
    d.setCam t.port ((d.cam t.port).upd f.fn fun f => { f with done := f.done + t.rows })

/-- R245: the bytes a port needs while the others each take one full tile. -/
def Dev.fifoNeed (d : Dev) (n : Nat) : Nat :=
  let others := (List.range 4).filter fun m => m != n && d.on .CM_CFG_EN m && (d.camBay m).isSome
  let wait := others.foldl (fun acc m => acc + ttile 64 (d.fld .CM_GEOM_WIDTH m)) 0
  let tr := max 1 (10 * d.fld .CM_ROWT_ROWNS n)
  (64 + (wait + tr - 1) / tr + 1) * d.fld .CM_GEOM_WIDTH n * dtBits (d.fld .CM_CFG_DT n) / 8

/-! ## The pipeline (R248 to R251) -/

/-- The width and height of a mosaic pattern (R249). -/
def mosaicDim (m : Nat) : Nat := match m with | 0 => 1 | 3 => 4 | _ => 2

/-- The channel of a pixel: 0 R (or Y), 1 G or C, 2 B, 3 IR (R249). -/
def chanOf (mosaic mph x y : Nat) : Nat :=
  let i := (x + mph % 4) % mosaicDim mosaic
  let j := (y + mph / 4) % mosaicDim mosaic
  match mosaic with
  | 0 => 0
  | 3 => (match j with | 0 => [2, 1, 0, 1] | 2 => [0, 1, 2, 1] | _ => [1, 3, 1, 3]).getD i 0
  | _ => if j = 0 then i else 1 + i

/-- A column or row read outside the frame (R249). -/
def reflect (n : Nat) (v : Int) : Nat := (if v < 0 then -v else if (n : Int) ≤ v then 2 * (n : Int) - 4 - v else v).toNat

/-- The black level and normalization of a raw value (R248). -/
def normalize (set : SensorSet) (bits ch raw : Nat) : Nat :=
  let blk := match ch with
    | 0 => set.blk0 % 4096 | 1 => set.blk0 / 65536 % 4096 | 2 => set.blk1 % 4096 | _ => set.blk1 / 65536 % 4096
  let p := raw * 2 ^ (12 - bits)
  min 4095 (((p - blk) * set.ngain + 2048) / 4096)

/-- The nearest pixel of the same channel on one side, within a pattern's reach, by its column. -/
def nearSame (mosaic mph w y x : Nat) (left : Bool) : Nat :=
  let at_ (k : Nat) : Nat := reflect w (if left then (x : Int) - (k + 1 : Nat) else (x : Int) + (k + 1 : Nat))
  (((List.range 8).map at_).find? fun c => chanOf mosaic mph c y == chanOf mosaic mph x y).getD x

/-- Defect correction of a row (R248). -/
def Dev.defects (d l : Dev) (n y : Nat) (row : List Nat) : List Nat :=
  let w := row.length
  let mo := l.fld .CM_CFG_MOSAIC n
  let ph := l.fld .CM_CFG_MPH n
  let listed := ((List.range (min 256 (l.fld .IP_CFG_NDEF n))).map fun i => d.tb32 (defectAt n + 4 * i)).filterMap fun e =>
    if e / 65536 % 8192 = y then some (e % 8192) else none
  let dthr := l.fld .IP_CFG_DTHR n
  row.mapIdx fun x p2 =>
    let a := row.getD (nearSame mo ph w y x true) 0
    let b := row.getD (nearSame mo ph w y x false) 0
    if l.on .IP_CFG_SDEN n && listed.contains x then (a + b + 1) / 2
    else if l.on .IP_CFG_DDEN n && (decide (max a b + dthr < p2) || decide (p2 + dthr < min a b)) then (a + b + 1) / 2
    else p2

/-- A processed picture before the colour stages: geometry and the rows of 12-bit values. -/
structure Raw12 where
  w : Nat
  h : Nat
  mosaic : Nat
  mph : Nat
  rows : List (List Nat)
  deriving DecidableEq, Repr

/-- The row read for a row number (R249): reflected at the frame, and the last row received beyond it. -/
def Raw12.rowAt (p : Raw12) (y : Int) : Nat := min (reflect p.h y) (p.rows.length - 1)

/-- The values of channel c at Chebyshev distance r from a pixel (r = 1 takes the pixel itself too). -/
def Raw12.ring (p : Raw12) (c x y r : Nat) : List Nat :=
  (List.range (2 * r + 1)).flatMap fun (j : Nat) => (List.range (2 * r + 1)).filterMap fun (i : Nat) =>
    let dx : Int := (i : Int) - (r : Int)
    let dy : Int := (j : Int) - (r : Int)
    if r = 1 || dx.natAbs = r || dy.natAbs = r then
      let cx := reflect p.w (x + dx)
      let cy := p.rowAt (y + dy)
      if chanOf p.mosaic p.mph cx cy = c then some ((p.rows.getD cy []).getD cx 0) else none
    else none

/-- A colour value the pixel lacks (R249). -/
def Raw12.interp (p : Raw12) (c x y : Nat) : Nat :=
  let mean (l : List Nat) : Nat := (l.foldl (· + ·) 0 + l.length / 2) / l.length
  match p.ring c x y 1, p.ring c x y 2 with
  | [], [] => Config.demosaicNone c x y % 4096
  | [], l => mean l
  | l, _ => mean l

/-- The four values of a pixel (R249). -/
def Raw12.demosaic (p : Raw12) (x y : Nat) : List Nat :=
  let own := (p.rows.getD y []).getD x 0
  let ch := chanOf p.mosaic p.mph x y
  if p.mosaic = 0 then [own, own, own, 0]
  else
    let v (c : Nat) : Nat := if c = ch then own else p.interp c x y
    [v 0, v 1, v 2, if p.mosaic = 3 then v 3 else 0]

/-- The tone curve (R250, R251). -/
def Dev.tone (d : Dev) (n t v : Nat) : Nat :=
  let knot (i : Nat) : Int := (d.tb8 (toneAt n + 0x100 * t + 2 * i) : Int)
  let k := v / 64
  (knot k + ((knot (k + 1) - knot k) * (v % 64 : Nat) + 32) / 64).toNat

/-- A processed pixel: the tone outputs and Y. -/
structure Px where
  r : Nat
  g : Nat
  b : Nat
  i : Nat
  y : Nat
  deriving DecidableEq, Repr

/-- The colour stages of a pixel (R250). -/
def Dev.colour (d l : Dev) (n : Nat) (c : List Nat) : Px :=
  let wb (k : Nat) : Nat := match k with
    | 0 => l.fld .IP_WB0_WBR n | 1 => l.fld .IP_WB0_WBG n | 2 => l.fld .IP_WB1_WBB n | _ => l.fld .IP_WB1_WBI n
  let w (k : Nat) : Nat := min 4095 ((c.getD k 0 * wb k + 2048) / 4096)
  let m (j k : Nat) : Int := match 2 * j + k / 2, k % 2 with
    | 0, 0 => l.sfld .IP_CM0_M0 n | 0, _ => l.sfld .IP_CM0_M1 n | 1, 0 => l.sfld .IP_CM1_M0 n | 1, _ => l.sfld .IP_CM1_M1 n
    | 2, 0 => l.sfld .IP_CM2_M0 n | 2, _ => l.sfld .IP_CM2_M1 n | 3, 0 => l.sfld .IP_CM3_M0 n | 3, _ => l.sfld .IP_CM3_M1 n
    | 4, 0 => l.sfld .IP_CM4_M0 n | 4, _ => l.sfld .IP_CM4_M1 n | _, 0 => l.sfld .IP_CM5_M0 n | _, _ => l.sfld .IP_CM5_M1 n
  let o (j : Nat) : Int := m j 0 * w 0 + m j 1 * w 1 + m j 2 * w 2 + m j 3 * w 3
  let q (j : Nat) : Nat := (clampInt 0 4095 ((o j + 512) / 1024)).toNat
  let r := d.tone n 0 (q 0)
  let g := d.tone n 1 (q 1)
  let b := d.tone n 2 (q 2)
  ⟨r, g, b, d.tone n 3 (w 3), (77 * r + 150 * g + 29 * b + 128) / 256⟩

/-- The processed rows of a frame (R248 to R250). -/
def Dev.process (d : Dev) (n : Nat) (f : CamFrame) : List (List Px) :=
  let l := d.asOf f
  let mo := l.fld .CM_CFG_MOSAIC n
  let ph := l.fld .CM_CFG_MPH n
  let bits := dtBits (l.fld .CM_CFG_DT n)
  let norm := f.rows.mapIdx fun y row => row.mapIdx fun x v => normalize f.set bits (chanOf mo ph x y) v
  let pic : Raw12 := ⟨l.fld .CM_GEOM_WIDTH n, l.fld .CM_GEOM_ROWS n, mo, ph, norm.mapIdx fun y row => d.defects l n y row⟩
  pic.rows.mapIdx fun y row => row.mapIdx fun x _ => d.colour l n (pic.demosaic x y)

/-! ## Statistics (R253, R254) -/

/-- A source of a pixel (R253). -/
def Px.src (p : Px) (s : Nat) : Nat := match s with | 0 => p.y | 1 => p.r | 2 => p.g | 3 => p.b | _ => p.i

/-- The pixels of an inclusive window, clipped to the rows there are, with their columns and rows. -/
def window (img : List (List Px)) (x0 x1 y0 y1 : Nat) : List (Nat × Nat × Px) :=
  (img.zipIdx).flatMap fun r => if y0 ≤ r.2 ∧ r.2 ≤ y1 then
    ((r.1.zipIdx).filter fun c => decide (x0 ≤ c.2) && decide (c.2 ≤ x1)).map fun c => (c.2, r.2, c.1) else []

/-- The histogram. -/
def histogram (vs : List Nat) : List Nat := vs.foldl (fun h v => h.modify v (· + 1)) (List.replicate 256 0)

/-- A mark's measurement: cx, cy, np and FOUND. -/
structure MarkRes where
  cx : Nat
  cy : Nat
  np : Nat
  found : Bool
  deriving DecidableEq, Repr

/-- The measurement of an enabled mark window m (R253, R255). -/
def Dev.markOf (d : Dev) (n m : Nat) (img : List (List Px)) : Option MarkRes :=
  let a := markAt n + 16 * m
  if d.tb8 (a + 9) / 128 = 0 then none
  else
    let thr := d.tb8 (a + 8)
    let s := d.tb8 (a + 9) % 8
    let ps := (window img (d.tb16 a) (d.tb16 (a + 2)) (d.tb16 (a + 4)) (d.tb16 (a + 6))).filterMap fun p =>
      let v := p.2.2.src s
      if v < thr then some (thr - v, p.1, p.2.1) else none
    let sw := ps.foldl (fun t p => t + p.1) 0
    let sx := ps.foldl (fun t p => t + p.1 * p.2.1) 0
    let sy := ps.foldl (fun t p => t + p.1 * p.2.2) 0
    let c (v i : Nat) : Nat := if sw = 0 then Config.markNone m i % 2 ^ 32 else (v * 16 + sw / 2) / sw
    some ⟨c sx 0, c sy 1, ps.length, decide (d.tb16 (a + 10) ≤ ps.length)⟩

/-- Where statistics buffer k of a port lies (R255). -/
def statsAt (n k : Nat) : Nat := 0x01C00000 + 0x40000 * n + 0x20000 * k

/-- The window buffer a frame is written to (R254). -/
def Dev.statsBuffer (d : Dev) (n : Nat) : Option Nat :=
  let k := 1 - d.fld .IP_STLOCK_NEWEST n
  if !d.fbit .IP_STLOCK_LOCK n 0 k then some k else if !d.fbit .IP_STLOCK_LOCK n 0 (1 - k) then some (1 - k) else none

/-- Write a frame's statistics into buffer k. -/
def Dev.writeStats (d : Dev) (n k : Nat) (f : CamFrame) (img : List (List Px)) (marks : List (Option MarkRes)) : Dev :=
  let l := d.asOf f
  let a := statsAt n k
  let d := d.setTbl a (le 2 f.fn ++ le 2 f.flags ++ le 2 f.sensorFn ++ le 2 (min 65535 f.recv) ++ le 6 f.tag ++ le 2 0 ++ le 8 f.tbFs
    ++ le 8 f.tbClose ++ le 4 f.set.exp ++ le 4 f.set.gain ++ le 4 f.genClose ++ le 4 f.ptClose)
  let d := (marks.zipIdx).foldl (fun d m => match m.1 with
    | some r => d.setTbl (a + 0x100 + 16 * m.2) (le 4 r.cx ++ le 4 r.cy ++ le 4 r.np ++ le 4 (if r.found then 1 else 0))
    | none => d) d
  let roi := window img (l.fld .IP_HROIX_X0 n) (l.fld .IP_HROIX_X1 n) (l.fld .IP_HROIY_Y0 n) (l.fld .IP_HROIY_Y1 n)
  let d := d.setTbl (a + 0x400) ((histogram (roi.map fun p => p.2.2.src (l.fld .IP_CFG_HSRC n))).flatMap (le 4))
  forN 4 (fun i d =>
    let r0 := l.fld .IP_BAND_R0 n i
    let r1 := l.fld .IP_BAND_R1 n i
    let s := l.fld .IP_BAND_SRC n i
    if r1 < r0 then d
    else
      let rows := (img.drop r0).take (r1 + 1 - r0)
      let sums := (List.range (l.fld .CM_GEOM_WIDTH n)).map fun x => rows.foldl (fun t r => t + ((r[x]?).map (·.src s)).getD 0) 0
      d.setTbl (a + 0x1000 + 0x4000 * i) (sums.flatMap (le 4))) d

/-- The bytes of a pixel in the ring (R241). -/
def ringPx (fmt : Nat) : Nat := match fmt with | 1 => 2 | 2 => 4 | 3 => 1 | _ => 0

/-- The span of a slot (R241). -/
def ringSpan (fmt width rows : Nat) : Nat := (width * rows * ringPx fmt + 4095) / 4096 * 4096

/-- Write the frame to its ring, every EVERY-th (R241). -/
def Dev.writeRing (d : Dev) (n : Nat) (f : CamFrame) (img : List (List Px)) : Dev :=
  let l := d.asOf f
  let fmt := l.fld .CM_BUF_FMT n
  if fmt = 0 then d
  else
    let c := d.cam n
    if c.count + 1 < l.fld .CM_BUF_EVERY n then d.setCam n { c with count := c.count + 1 }
    else
      let w := l.fld .CM_GEOM_WIDTH n
      let base := l.fld .CM_BUF_BASE n * 2 ^ 20 + c.slot * ringSpan fmt w (l.fld .CM_GEOM_ROWS n)
      let rowOf (y : Nat) : List Byte := match fmt with
        | 1 => (f.rows.getD y []).flatMap (le 2)
        | 2 => (img.getD y []).flatMap fun p => le 1 p.r ++ le 1 p.g ++ le 1 p.b ++ le 1 p.i
        | _ => (img.getD y []).flatMap fun p => le 1 p.y
      let d := d.setCam n { c with count := 0, slot := (c.slot + 1) % max 1 (l.fld .CM_BUFN_COUNT n) }
      let d := forN f.rows.length (fun y d => d.fsWrite (d.camBay n) 0xFF (base + y * w * ringPx fmt) (rowOf y)) d
      (d.setFld .CM_BUFN_LAST n 0 c.slot).setFld .CM_BUFN_LASTFN n 0 f.fn

/-! ## Registration (R261 to R264) -/

/-- Bring a registration request to a bay's internal slot: it joins the one that waits (R264). -/
def Dev.requestReg (d : Dev) (b : Nat) (fields : List Staged) (reset : Bool) : Dev :=
  if fields.isEmpty then d
  else
    let k := d.kset b
    let old := k.waiting.find? fun r => r.src == .registration
    let r : IntReq := ⟨.registration, fields.foldl stageInto ((old.map (·.fields)).getD []), .keep, reset || (old.map (·.reset)).getD false⟩
    d.setKset b { k with waiting := (k.waiting.filter fun r => r.src != .registration) ++ [r] }

/-- A registration request stages a field of a head. -/
def IntReq.movesHead (r : IntReq) (xx : Nat) : Bool :=
  r.src == .registration &&
    r.fields.any fun x => x.off == RegName.off .SC_RSHIFT xx 0 || x.off == RegName.off .IN_RPH xx 0

/-- A registration commit that moves the head is CHECKING or PREPARING (R263). -/
def Dev.regBusyHead (d : Dev) (b xx : Nat) : Bool :=
  let k := d.kset b
  (k.int.st == .checking || k.int.st == .preparing) && (match k.intReq with | some r => r.movesHead xx | none => false)

/-- IN_RCTL.BUSY: a registration commit is in flight. -/
def Dev.regBusy (d : Dev) (b : Nat) : Bool :=
  let k := d.kset b
  k.int.st != .idle && (match k.intReq with | some r => r.src == .registration | none => false)

/-- IN_RCTL.RESET (R7, R262): a registration commit with a reset waits or is in flight. -/
def Dev.regResets (d : Dev) (b : Nat) : Bool :=
  let k := d.kset b
  k.waiting.any (·.reset) || (match k.intReq with | some r => r.reset | none => false)

/-- The target of the last registration commit of a bay that changed a head (R263): the one ARMED, or the last that applied. -/
def Dev.regTarget (d : Dev) (b xx : Nat) : Option Nat :=
  let k := d.kset b
  if k.int.st == .armed && (match k.intReq with | some r => r.src == .registration && r.movesHead xx | none => false) then some k.int.target
  else Store.get (fun _ => none) d.regTgt xx

/-- One head's measurement: counted, or its correction added to the fields staged (R261, R263). -/
def Dev.regHead (d : Dev) (n b : Nat) (f : CamFrame) (marks : List (Option MarkRes)) (acc : List Staged) (xx : Nat) :
    Dev × List Staged :=
  let l := d.asOf f
  if !(l.on .IN_REG_EN xx && l.fld .IN_REG_CAM xx == n) then (d, acc)
  else if !(l.on .IN_RCTL_EN b && f.modeFs && f.modeClose) || flagged f.flags || f.fenced || d.camFenced n then (d, acc)
  else
    let m := (marks.getD (l.fld .IN_REG_MARK xx) none).getD ⟨0, 0, 0, false⟩
    let old := match d.regTarget b xx with
      | some t => before48 (sub48 f.tag (l.fld .IN_VIEW_VIEWC xx)) t
      | none => false
    let d := if m.found then d else d.bump .IN_RCNT_NOTFOUND xx 0
    if !m.found || old || d.regBusyHead b xx then (d.bump .IN_RCNT_STALE xx 0, acc)
    else
      let ex0 : Int := (m.cx : Int) - l.fld .IN_REF_REFX xx
      let ey0 : Int := (m.cy : Int) - l.fld .IN_REF_REFY xx
      let ex := if l.on .IN_REG_XINV xx then -ex0 else ex0
      let ey := if l.on .IN_REG_YINV xx then -ey0 else ey0
      let d := (d.setFld .IN_RLAST_EX xx 0 (enc 16 ex)).setFld .IN_RLAST_EY xx 0 (enc 16 ey)
      let gain : Int := (l.fld .IN_REG_GAIN xx : Int)
      let kx := ex * (l.fld .IN_SCALE_XS xx : Int) / 256 * gain / 16
      let ky := ey * (l.fld .IN_SCALE_YS xx : Int) / 256 * gain / 16
      let db : Int := (l.fld .IN_LIM_DB xx : Int)
      let step : Int := (l.fld .IN_LIM_MAXSTEP xx : Int)
      let rs := clampInt (-16384) 16384 (d.sfld .SC_RSHIFT_RSHIFT xx - clampInt (-step) step kx)
      let acc := if l.on .IN_REG_XEN xx && decide (db < (kx.natAbs : Int)) then
          stageInto acc (mkStaged .SC_RSHIFT_RSHIFT xx 0 (enc Fld.SC_RSHIFT_RSHIFT.width rs)) else acc
      if l.on .IN_REG_YEN xx && decide (db < (ky.natAbs : Int)) then
        let ph : Int := (d.fld .RI_DELAY_PHASE xx : Int)
        let v := d.sfld .IN_RPH_RPH xx - clampInt (-step) step ky
        let v' := clampInt (-ph) (255 - ph) v
        let d := if v' = v then d
          else (d.setOn .IN_RCNT_LIMIT xx 0 true).bayEvent b 1 0x1001 xx (d.reg .IN_RPH xx).toNat (d.fld .RI_DELAY_PHASE xx)
        (d, stageInto acc (mkStaged .IN_RPH_RPH xx 0 (enc 9 v')))
      else (d, acc)

/-- The corrections of a frame, gathered into one request (R264). -/
def Dev.registration (d : Dev) (n : Nat) (f : CamFrame) (marks : List (Option MarkRes)) : Dev :=
  match d.camBay n with
  | none => d
  | some b =>
    let (d, fs) := (d.portsOf b).foldl (fun acc xx => acc.1.regHead n b f marks acc.2 xx) (d, [])
    d.requestReg b fs false

/-- IN_RCTL.RESET (R262); a 1 written while the bit reads 1 has no further effect (R7). -/
def Dev.regReset (d : Dev) (b : Nat) : Dev :=
  if d.regResets b then d
  else d.requestReg b ((d.portsOf b).flatMap fun xx => [mkStaged .SC_RSHIFT_RSHIFT xx 0 0, mkStaged .IN_RPH_RPH xx 0 0]) true

/-! ## The end of a frame's statistics (R247, R254) -/

/-- The frame whose statistics can complete: the oldest, closed and processed. -/
def Dev.statsDue (d : Dev) (n : Nat) : Option CamFrame :=
  match (d.cam n).frames with
  | f :: _ => if f.closed && f.rows.length ≤ f.done then some f else none
  | [] => none

/-- What a frame leaves when its statistics complete: the window, the ring, the jobs' copies and the corrections. A fenced port
processes no frame (R258). -/
def Dev.statsComplete (d : Dev) (n : Nat) (f : CamFrame) : Dev :=
  let img := if f.fenced then [] else d.process n f
  let marks := if f.fenced then [] else (List.range 16).map fun m => d.markOf n m img
  let l := d.asOf f
  let d :=
    if f.fenced then d
    else
      let (d, ue) := d.sramRead 4 n 1
      let d := if ue then d.pipeError n f.fn else d
      let now (d : Dev) : CamFrame := ((d.cam n).frames.find? fun g => g.fn == f.fn).getD f
      let d := match d.statsBuffer n with
        | none => (d.flagFrame n f.fn 8).bump .IP_STLOCK_NOWIN n 0
        | some k =>
          let d := (d.writeStats n k (now d) img marks).setFld .IP_STLOCK_NEWEST n 0 k
          if l.on .IP_CFG_STEV n then d.camEvent n 3 0x0F00 (f.fn + 65536 * k) (now d).flags else d
      let d := d.writeRing n f img
      d.registration n (now d) marks
  let g := ((d.cam n).frames.find? fun g => g.fn == f.fn).getD f
  let pic : NcPic := ⟨g.flags, g.fenced, f.tag, l.fld .CM_GEOM_WIDTH n, if f.jobs.isEmpty then [] else img.map fun r => r.map (·.y)⟩
  let c := d.cam n
  d.setCam n { c with frames := c.frames.filter fun g => g.fn != f.fn,
                      pics := f.jobs.foldl (fun p k => Store.set (fun _ => none) p k (some pic)) c.pics }

/-! ## Nozzle checks (R259, R260) -/

/-- A job ends with a reason. -/
def Dev.ncEnd (d : Dev) (n k reason missing : Nat) : Dev :=
  let d := ((d.setFld .IN_NCRES_STATE n k 3).setFld .IN_NCRES_REASON n k reason).setFld .IN_NCRES_MISSING n k missing
  let d := d.setCam n { d.cam n with pics := Store.set (fun _ => none) (d.cam n).pics k none,
                                     frames := (d.cam n).frames.map fun f => { f with jobs := f.jobs.filter (· != k) } }
  d.camEvent n 1 0x1000 (k + 65536 * missing) (d.reg .IN_NCRES n k).toNat

/-- A job may be armed (R259). -/
def Dev.ncOk (d : Dev) (n head s rh row0 : Nat) : Bool :=
  d.portBay head == d.camBay n && (d.camBay n).isSome && 1 ≤ s && s ≤ 63 && 1 ≤ rh &&
    decide (row0 + s * rh ≤ d.fld .CM_GEOM_ROWS n)

/-- The profile of a rung. -/
def rungProf (pic : NcPic) (row0 rh j : Nat) : List Nat :=
  let rows := (pic.rows.drop (row0 + j * rh)).take rh
  (List.range pic.width).map fun x => (rows.foldl (fun t r => t + r.getD x 0) 0 + rh / 2) / rh

/-- The analysis of nozzle q (R259): none when it lies outside the frame, else whether its trace is present. -/
def Dev.ncNozzle (d : Dev) (n k : Nat) (pic : NcPic) (profs : List (List Nat)) (q : Nat) : Option Bool :=
  let s := d.fld .IN_NCCFG_S n k
  let xp := d.fld .IN_NCP_XP n k
  let prof := profs.getD (q % s) []
  let xe : Int := d.sfld .IN_NCX_X0 n k + (q * xp / 4096 : Nat)
  let h : Int := (s * xp / 131072 : Nat)
  let lo := xe / 16 - h
  let hi := xe / 16 + h
  if lo < 0 || (pic.width : Int) ≤ hi then none
  else
    let at_ (x : Nat) : Nat := prof.getD x 0
    let bg := (at_ lo.toNat + at_ hi.toNat + 1) / 2
    let xs := (List.range (hi - lo + 1).toNat).map fun i => lo.toNat + i
    let wt (x : Nat) : Nat := bg - at_ x
    let vmin := xs.foldl (fun m x => min m (at_ x)) 255
    let sw := xs.foldl (fun t x => t + wt x) 0
    let sx := xs.foldl (fun t x => t + wt x * x * 16) 0
    let xm : Int := if sw = 0 then xe else ((sx + sw / 2) / sw : Nat)
    some (decide ((d.fld .IN_NCTHR_CMIN n k : Int) ≤ (bg : Int) - vmin) && decide ((xm - xe).natAbs ≤ d.fld .IN_NCTHR_DEV n k))

/-- The running job analyses its frame and merges its results (R260). -/
def Dev.ncRun (d : Dev) (n k : Nat) (pic : NcPic) : Dev :=
  if pic.fenced then d.ncEnd n k 3 0
  else if flagged pic.flags then d.ncEnd n k 1 0
  else
    let head := d.fld .IN_NCCFG_HEAD n k
    let s := d.fld .IN_NCCFG_S n k
    let profs := (List.range s).map fun j => rungProf pic (d.fld .IN_NCROW_ROW0 n k) (d.fld .IN_NCCFG_RH n k) j
    let (d, miss) := (List.range (d.fld .HP_PROF_NOZZLES head)).foldl (fun acc q =>
      match d.ncNozzle n k pic profs q with
      | none => acc
      | some p => (acc.1.hmCamera head q p pic.tag, if p then acc.2 else acc.2 + 1)) (d, 0)
    d.ncEnd n k 0 miss

/-- The bay leaves the modes in which nozzle checks run: armed jobs end (R260). -/
def Dev.ncModeEnd (d : Dev) (b : Nat) : Dev :=
  if (d.bay b).mode == .standby || (d.bay b).mode == .hold then
    forN 4 (fun n d => if d.camBay n == some b then
      forN 2 (fun k d => if d.fld .IN_NCRES_STATE n k == 1 then d.ncEnd n k 3 0 else d) d else d) d
  else d

/-! ## Applies (R239, R252) -/

/-- A structural field of a port differs (R252). -/
def Dev.camStructural (d before : Dev) (n : Nat) : Bool :=
  [Fld.CM_CFG_EN, .CM_CFG_LANES, .CM_CFG_VC, .CM_CFG_DT, .CM_CFG_MOSAIC, .CM_CFG_MPH, .CM_GEOM_WIDTH, .CM_GEOM_ROWS, .CM_BUF_FMT,
    .CM_BUF_BASE, .CM_BUFN_COUNT].any fun f => d.fld f n != before.fld f n

/-- What an apply changes in the ports of a bay: a changed sensor set waits for the next FS; MODE 0's watch on the last FS ends with the
mode (R258); a structural change closes the open
frame and starts the ring anew. -/
def Dev.camApply (d before : Dev) (b : Nat) : Dev :=
  forN 4 (fun n d =>
    if d.camBay n != some b then d
    else
      let d := if d.sensorSet n != before.sensorSet n then d.setCam n { d.cam n with want := true } else d
      let d := if d.fld .CM_TRIG_MODE n != before.fld .CM_TRIG_MODE n || d.fld .CM_TRIGP_PER n != before.fld .CM_TRIGP_PER n then
          d.setCam n { d.cam n with trigNext := none } else d
      let d := if d.fld .CM_TRIG_MODE n != 0 && before.fld .CM_TRIG_MODE n == 0 then d.setCam n { d.cam n with watch := none } else d
      let d := d.camRelevel before n
      if d.camStructural before n then
        let d := d.closeFrame n [0, 6]
        d.setCam n { d.cam n with slot := 0, count := 0 }
      else d) d

/-! ## Forced outputs (R395, R398) -/

/-- The level of slow output p in its normal behaviour (R141, R167, R169, R237, R283): none for high impedance or released. -/
def Dev.pinNormal (d : Dev) (p : Nat) : Option Bool :=
  if p < 8 then d.psOut p
  else if p < 24 then d.cmpLevel (p - 8)
  else if p < 36 then
    let x := d.em ((p - 24) / 3)
    if (d.emBay ((p - 24) / 3)).isSome then some (match (p - 24) % 3 with | 0 => x.lvA | 1 => x.lvB | _ => x.lvZ) else none
  else if p < 40 then (if (d.camBay (p - 36)).isSome then some ((d.cam (p - 36)).pulseEnd.isSome != d.on .CM_TRIG_POL (p - 36)) else none)
  else if p < 48 then none
  else if d.on .TM_BSTAT_THRQ (p - 48) then some false else none

/-- The level of slow output p with what SV_FORCE does to it. -/
def Dev.pinLevel (d : Dev) (p : Nat) : Option Bool :=
  match d.forceCode p with
  | 0 => d.pinNormal p
  | 1 => some false
  | 2 => some true
  | _ => none

/-- The outputs whose code of SV_FORCE has changed take the level it gives them. -/
def Dev.forcePins (d before : Dev) : Dev :=
  forN 52 (fun p d => if d.forceCode p != before.forceCode p then d.emit (.pin p (d.pinLevel p)) else d) d

/-- The code of a pair of a head port (R392); a pair is parked once its island is awake. -/
def Dev.parkCode (d : Dev) (xx pair : Nat) : Nat := if d.islandOn (cluster xx) then wget (d.fld .SV_PARK_PARK xx) (2 * pair) 2 else 0

/-- The channel that drives the meter current (R394). -/
def Dev.meterChannel (d : Dev) : Option Nat := if d.on .SV_MTEMP_EN then some (d.fld .SV_MTEMP_CH) else none

/-- The pairs and the ID line of a head port follow SV_PARK (R392, R393). -/
def Dev.parkPins (d before : Dev) (xx : Nat) : Dev :=
  let d := forN 7 (fun k d => if d.parkCode xx k = before.parkCode xx k then d else d.emit (.park xx k (d.parkCode xx k))) d
  if d.on .SV_PARK_IDLOW xx = before.on .SV_PARK_IDLOW xx then d else d.emit (.idLine xx (d.on .SV_PARK_IDLOW xx))

/-- PLUMB follows SV_PLUMB (R399, R400), and a ready port that sends a test level, or did, sends its rest frames anew. -/
def Dev.plumbPin (d before : Dev) : Dev :=
  if d.reg .SV_PLUMB = before.reg .SV_PLUMB then d
  else
    let d := d.emit (.plumb (d.fld .SV_PLUMB_SEL) (d.fld .SV_PLUMB_ARG) (d.fld .SV_PLUMB_LEVEL))
    ([before.plumbPort, d.plumbPort].filterMap id).eraseDups.foldl (fun d xx => if xx < 32 then d.restNow xx else d) d

/-- What the meter settings of R392 to R394 and R400 drive, where they have changed. -/
def Dev.meterPins (d before : Dev) : Dev :=
  let d := forN 32 (fun xx d => d.parkPins before xx) d
  let d := if d.meterChannel = before.meterChannel then d else d.emit (.meter d.meterChannel)
  d.plumbPin before

end Sys2Proof.Machine
end

