-- ==== Sys2Proof/Machine/Modes.lean ====
section
/-! DEFINITION. Changes of a bay's mode and of a seat's host: what follows a mode change (R34, R35, R316), the reset of a seat's
queues and the loss of a host (R46). -/

namespace Sys2Proof.Machine

/-- What a change of a bay's mode brings with it, beside the pacer's source: MODE_CHANGED (R58), the rebase on leaving STANDBY
(R159), stall watches (R155), learning (R226), nozzle checks (R260), head power (R196) and islands (R32). -/
def Dev.modeChange (d : Dev) (b : Nat) (m : Mode) : Dev :=
  let old := (d.bay b).mode
  if old = m then d
  else
    let before := d
    let d := d.setBay b { d.bay b with mode := m }
    let d := d.bayEvent b 1 0x0104 0xFF m.code old.code
    let d := if old = .standby then d.setPc b (d.pc b).rebase else d
    let d := { d with wear := { d.wear with orderlyHeld := false } }
    let d := d.restartStalls before
    let d := if old = .calibrate then (d.portsOf b).foldl (fun d xx => d.learnEnd xx true) d else d
    let d := d.ncModeEnd b
    let d := (d.portsOf b).foldl (fun d xx => d.followPower xx 1) d
    d.followIslands

/-- KS_BAYCTL.MODE as applied becomes HOLD, without a commit (R316). -/
def Dev.holdRequested (d : Dev) (b : Nat) : Dev := d.setFld .KS_BAYCTL_MODE b 0 Mode.hold.code

/-- A bay enters HOLD at once, without a boundary (R298): its degrade mark clears. -/
def Dev.holdNow (d : Dev) (b : Nat) : Dev :=
  match (d.bay b).mode with
  | .standby | .hold => d
  | _ =>
    let d := (d.holdRequested b).modeChange b .hold
    ((d.setBay b { d.bay b with mark := false }).updateSource b d.tb false).noSource d b

/-! ## Seats (R46) -/

/-- The queues of a seat are reset: rings disabled, expected sequence numbers 0, held entries discarded (R46). -/
def Dev.seatReset (d : Dev) (s : Nat) : Dev :=
  let d := forN 4 (fun q d => (d.setOn .HS_CQSIZE_EN s q false).setOn .HS_EQSIZE_EN s q false) d
  let d := (d.portsOf s).foldl (fun d xx => (d.setOn .RI_FQSIZE_EN xx 0 false).feedReset xx) d
  d.setSeat s { d.seat s with cq := [], eq := [], held := [], lost := false, rr := 1, withheld := [] }

/-- The stop a lost host brings (R46), unless LINKSTOP is 0. -/
def Dev.hostStop (d : Dev) (s : Nat) : Dev :=
  if d.on .HS_CTL_LINKSTOP s && d.bayModes && d.present s then d.registerStop s 3 else d

/-- A seat has lost its host (R46, R291). -/
def Dev.hostLoss (d : Dev) (s : Nat) : Dev := ((d.hostStop s).seatReset s).signal srcSeatLoss s

end Sys2Proof.Machine
end

