-- ==== Sys2Proof/Machine/Faults.lean ====
section
/-! DEFINITION. The fault collector (R291 to R305): the Spall word, the first capture, the five records with their reactions,
fences, quiet-period recovery, lockout and release, and nERR. Record k = 0 to 3 is a bay's, record 4 the device's. -/

namespace Sys2Proof.Machine

/-- The sources whose class and reaction are fixed (R291). -/
def fixedSource (i : Nat) : Bool := i == srcMqParity || i == srcPllLock || i == srcSupply || i == srcTmDie

/-- The sources R291 lists. -/
def knownSource (i : Nat) : Bool :=
  i ≤ 11 || (16 ≤ i && i ≤ 18) || (24 ≤ i && i ≤ 27) || i == 32 || i == 33 || (40 ≤ i && i ≤ 42) || (48 ≤ i && i ≤ 50)
    || (56 ≤ i && i ≤ 60)

/-- How many units a source can name (R291): 0 where it names none. -/
def unitCount (i : Nat) : Nat :=
  if i = 8 || i = 9 || i = 11 then 4
  else if i = 16 || i = 17 || i = 18 then 8
  else if i = 25 || i = 26 || i = 27 || i = 32 || i = 33 || i = 49 then 32
  else if i = 40 || i = 41 || i = 42 then 4
  else if i = 48 then 74
  else 0

/-- The unit that a source names (R291, R298). -/
def unitOf (i u : Nat) : Option FUnit :=
  if unitCount i ≤ u then none
  else if i = 8 || i = 9 || i = 11 then some (.seat u)
  else if i = 16 || i = 17 || i = 18 then some (.ps u)
  else if i = 26 then some (.engine u)
  else if i = 40 || i = 41 || i = 42 then some (.cam u)
  else if i = 48 then some (.thermal u)
  else some (.port u)

/-- The bays a record acts on (R295). -/
def Dev.recBays (d : Dev) (k : Nat) : List Nat := if k < 4 then [k] else d.presentBays

/-- A fault event of a record (R305). -/
def Dev.recEvent (d : Dev) (k code unit d0 d1 : Nat) : Dev :=
  if k < 4 then d.bayEvent k 0 code unit d0 d1
  else (d.steward :: d.presentBays.filter (· != d.steward)).foldl (fun d s => d.devEvent s 0 code unit d0 d1) d

def Dev.recUnits (d : Dev) (k : Nat) : List FUnit := Store.get (fun _ => []) d.fc.units k
def Dev.setRecUnits (d : Dev) (k : Nat) (us : List FUnit) : Dev :=
  { d with fc := { d.fc with units := Store.set (fun _ => []) d.fc.units k us } }
def Dev.recTests (d : Dev) (k : Nat) : List (FUnit × Bool × Nat) := Store.get (fun _ => []) d.fc.tests k
def Dev.setRecTests (d : Dev) (k : Nat) (ts : List (FUnit × Bool × Nat)) : Dev :=
  { d with fc := { d.fc with tests := Store.set (fun _ => []) d.fc.tests k ts } }
def Dev.recFail (d : Dev) (k : Nat) : List FUnit := Store.get (fun _ => []) d.fc.scFail k
def Dev.setRecFail (d : Dev) (k : Nat) (us : List FUnit) : Dev :=
  { d with fc := { d.fc with scFail := Store.set (fun _ => []) d.fc.scFail k us } }
def Dev.quietAt (d : Dev) (k : Nat) : Nat := (Store.get (fun _ => none) d.fc.quietAt k).getD 0

/-- The quiet timer of a record starts (R296, R297, R300). -/
def Dev.quietStart (d : Dev) (k : Nat) : Dev :=
  ({ d with fc := { d.fc with quietAt := Store.set (fun _ => none) d.fc.quietAt k (some d.now) } }).setRecTests k []

/-! ## Fences (R298, R302) -/

/-- The fence bit of a unit. -/
def Dev.setFence (d : Dev) (u : FUnit) (on : Bool) : Dev :=
  match u with
  | .port xx => d.setFbit .FC_FENCE0_HP 0 0 xx on
  | .engine xx => d.setFbit .FC_FENCE1_SC 0 0 xx on
  | .ps n => d.setFbit .FC_FENCE2_PS 0 0 n on
  | .cam n => d.setFbit .FC_FENCE2_CAM 0 0 n on
  | .seat s => d.setFbit .FC_FENCE2_SEAT 0 0 s on
  | .thermal c =>
    if c < 32 then d.setFbit .FC_FENCE3_TM 0 0 c on
    else if c < 64 then d.setFbit .FC_FENCE4_TM 0 0 (c - 32) on
    else d.setFbit .FC_FENCE5_TM 0 0 (c - 64) on

/-- A unit enters its fenced behaviour (R302): a port sends no latch, an engine clears its diffusion buffers, a channel that paces a
bay leaves it without source, a seat's queues are reset and its bay stopped. -/
def Dev.fenceUnit (d : Dev) (u : FUnit) : Dev :=
  let before := d
  let d := d.setFence u true
  match u with
  | .port xx =>
    (d.stopLatches xx false).restNow xx
  | .engine xx => d.edClear xx
  | .ps n => (forN 4 (fun b d => d.noSource before b) (d.setPsc n { d.psc n with ssi := none })).psPin n
  | .seat s => (d.hostStop s).seatReset s
  | .cam _ => d
  | .thermal _ => d

/-- A unit leaves it: the pacer of a bay whose source channel recovers rebases (R159), and the channel's next SSI frame delivers no
increment (R150). -/
def Dev.unfence (d : Dev) (u : FUnit) : Dev :=
  let d := d.setFence u false
  match u with
  | .ps n => forN 4 (fun b d =>
      if (d.pc b).src == 1 && d.fld .PC_CTL_CHAN b == n && d.psBay n == some b then d.setPc b (d.pc b).rebase else d)
      ((d.setPsc n { d.psc n with ssiPrev := none }).psPin n)
  | _ => d

/-- A unit's self-check is a test (R302); the others observe. -/
def unitTested : FUnit → Bool
  | .port _ | .engine _ => true
  | _ => false

/-- The last instant at which an observing self-check failed: a seat's fails while its link is down, a thermal channel's while it is
SUSPECT or HELD (R300, R302). -/
def Dev.unitBad (d : Dev) : FUnit → Option Nat
  | .ps n => (d.psc n).lastBad
  | .thermal c => if d.on .TM_STAT_SUSPECT c || d.on .TM_STAT_HELD c then some d.now else (d.tc c).lastBad
  | .seat s => if (d.seat s).up then (d.seat s).lastBad else some d.now
  | _ => none

/-! ## Degrade requests (R298, R300) -/

/-- A fault reaction's commit of the bay waits or is in flight. -/
def Dev.fcPending (d : Dev) (b : Nat) : Bool :=
  let k := d.kset b
  (k.int.st != .idle && (match k.intReq with | some r => r.src == .fault | none => false)) || k.waiting.any fun r => r.src == .fault

/-- When a request is to be repeated. -/
def Dev.retryAt (d : Dev) (b : Nat) : Option Nat := Store.get (fun _ => none) d.fc.retryAt b
def Dev.setRetry (d : Dev) (b : Nat) (t : Option Nat) : Dev :=
  { d with fc := { d.fc with retryAt := Store.set (fun _ => none) d.fc.retryAt b t } }

/-- The collector requests the commit a bay needs: to DEGRADED while a record holds it and it is in PRINT, and back to PRINT when
neither a record nor the thermal enforcement holds it. -/
def Dev.fcEval (d : Dev) (b : Nat) : Dev :=
  if !d.bayModes || !d.present b || d.fcPending b || (d.retryAt b).isSome then d
  else if d.heldDegraded b then
    (if (d.bay b).mode = .print then d.requestInternal b ⟨.fault, [], .degrade, false⟩ else d)
  else if (d.bay b).mode = .degraded && d.fld .TM_BSTAT_STATE b != 2 then d.requestInternal b ⟨.fault, [], .back, false⟩
  else d

/-- A fault reaction's commit ended without applying: it is requested again 100 µs later. -/
def Dev.fcFailed (d : Dev) (b : Nat) : Dev := d.setRetry b (some (d.now + us 100))

/-- The repetition is due. -/
def Dev.retryDue (d : Dev) (b : Nat) : Bool := match d.retryAt b with | some t => decide (t ≤ d.now) | none => false

/-! ## Halts (R298) -/

/-- Halt bay: a stop at the pacer, or HOLD at once when the pacer has issued no trigger for 1 ms. -/
def Dev.haltBay (d : Dev) (b : Nat) : Dev :=
  if !d.bayModes || !d.present b then d
  else if d.pacerQuiet b then d.holdNow b
  else d.registerStop b 4

/-- A record halts a bay (R299). -/
def Dev.bayHalted (d : Dev) (b : Nat) : Bool :=
  let dev (k : Nat) : Bool := d.fld .FC_REC_STATE k == 2 && d.fbit .FC_REC_REACT k 0 3
  (d.fld .FC_REC_STATE b == 2 && d.fbit .FC_REC_REACT b 0 2) || (d.fld .FC_REC_STATE 4 == 2 && d.fbit .FC_REC_REACT 4 0 2)
    || (List.range 5).any dev

/-! ## nERR (R303) -/

/-- A qualifying latch starts or restarts the pulse; AUTOHOLD sets HOLD at its start. -/
def Dev.nerrPulse (d : Dev) : Dev :=
  let start := d.fc.pulseEnd.isNone
  let d := { d with fc := { d.fc with pulseEnd := some (d.now + us (d.fld .FC_NERR_WIDTH)) } }
  let d := d.setOn .FC_NERR_PULSE 0 0 true
  if start && d.on .FC_NERR_AUTOHOLD then d.setOn .FC_NERR_HOLD 0 0 true else d

/-- The pulse has run out. -/
def Dev.nerrDue (d : Dev) : Bool := match d.fc.pulseEnd with | some t => decide (t ≤ d.now) | none => false
def Dev.nerrStop (d : Dev) : Dev := ({ d with fc := { d.fc with pulseEnd := none } }).setOn .FC_NERR_PULSE 0 0 false

/-- nERR is low: before LOAD completes, while the pulse runs, or while HOLD is 1 (R303, R308, R311, R313). -/
def Dev.nerrLow (d : Dev) : Bool := !d.running || d.on .FC_NERR_PULSE || d.on .FC_NERR_HOLD

/-! ## Latching (R293 to R297) -/

/-- Bit i of the Spall word. -/
def Dev.spall (d : Dev) (i : Nat) : Bool := if i < 32 then d.fbit .FC_SPALLLO_SPALL 0 0 i else d.fbit .FC_SPALLHI_SPALL 0 0 (i - 32)
def Dev.setSpall (d : Dev) (i : Nat) : Dev :=
  if i < 32 then d.setFbit .FC_SPALLLO_SPALL 0 0 i true else d.setFbit .FC_SPALLHI_SPALL 0 0 (i - 32) true

/-- The bay of an error: the one it says, or its unit's (R295). -/
def Dev.sigBay (d : Dev) (s : FaultSig) : Option Nat :=
  match s.bay with | some b => some b.val | none => d.unitBay s.source s.unit

/-- The first capture (R293). -/
def Dev.capture (d : Dev) (s : FaultSig) : Dev :=
  if d.on .FC_FIRST_VALID then d.setOn .FC_FIRST_OVF 0 0 true
  else
    let b := d.sigBay s
    let d := ((d.setFld .FC_FIRST_SRC 0 0 s.source).setOn .FC_FIRST_VALID 0 0 true).setFld .FC_FIRST_UNIT 0 0 s.unit
    let d := (d.setFld .FC_FIRST_BAY 0 0 (b.getD 7)).setOn .FC_FIRST_FORCED 0 0 s.forced
    let d := d.setPair .FC_FTBLO_TB .FC_FTBHI_TB 0 0 s.stamp
    let d := d.setPair .FC_FCCLO_CC .FC_FCCHI_CC 0 0 (if b.isSome then s.course else 0)
    d.setOn .FC_FCCHI_NOCC 0 0 b.isNone

/-- The union of two sets of reactions. -/
def reactUnion (a b : Nat) : Nat := Nat.lor a b

/-- A reaction that a merge adds: fence, DEGRADED, halt bay, halt device as bits 0 to 3 (R292). -/
def gains (old new bit : Nat) : Bool := new / 2 ^ bit % 2 == 1 && old / 2 ^ bit % 2 == 0

/-- An error of class DEGRADE or higher opens its record or merges into it, and its reactions take effect (R295 to R298). -/
def Dev.merge (d : Dev) (s : FaultSig) : Dev :=
  let k := (d.sigBay s).getD 4
  let cls := d.fld .FC_SRC_CLASS s.source
  let react := d.fld .FC_SRC_REACT s.source
  let st := d.fld .FC_REC_STATE k
  let oldC := d.fld .FC_REC_CLASS k
  let oldR := d.fld .FC_REC_REACT k
  let opened := st == 0
  let newC := if opened then cls else max oldC cls
  let newR := if opened then react else reactUnion oldR react
  let newSt := if newC = 3 then (if st = 2 || opened || oldC < 3 then 2 else st) else if opened then 1 else st
  let d := ((d.setFld .FC_REC_STATE k 0 newSt).setFld .FC_REC_CLASS k 0 newC).setFld .FC_REC_REACT k 0 newR
  let d := if opened then ((d.setFld .FC_RSRCLO_SRC k 0 0).setFld .FC_RSRCHI_SRC k 0 0).setFld .FC_RCNT_MERGED k 0 0 else d
  let d := if s.source < 32 then d.setFbit .FC_RSRCLO_SRC k 0 s.source true else d.setFbit .FC_RSRCHI_SRC k 0 (s.source - 32) true
  let d := d.bump .FC_RCNT_MERGED k 0
  let d := if opened then (d.setRecUnits k []).setRecFail k [] else d
  let d := if newSt = 1 || opened then d.quietStart k else d
  let d := match if react % 2 = 1 then unitOf s.source s.unit else none with
    | some u => if (d.recUnits k).contains u then d else (d.setRecUnits k (d.recUnits k ++ [u])).fenceUnit u
    | none => d
  let base := if opened then 0 else oldR
  let d := if gains base newR 3 then d.presentBays.foldl (fun d b => d.haltBay b) d
    else if gains base newR 2 then (d.recBays k).foldl (fun d b => d.haltBay b) d
    else d
  let d := (d.recBays k).foldl (fun d b => d.fcEval b) d
  if opened || oldC < newC || newR != oldR then
    d.recEvent k 0x1200 s.unit
      (s.source + 64 * cls + 256 * newC + 1024 * newR + 16384 * newSt) (k + 256 * d.fld .FC_RCNT_MERGED k)
  else d

/-- One error signal reaches the collector (R293, R294). -/
def Dev.latchSig (d : Dev) (s : FaultSig) : Dev :=
  if !knownSource s.source then d else
  let was := d.spall s.source
  let d := (d.setSpall s.source).bump .FC_SRC_CNT s.source 0
  let d := if s.forced then d.setOn .PT_FORCE_GO 0 0 false else d
  if !(d.on .FC_SRC_EN s.source) then d
  else
    let d := d.capture s
    let d := if d.on .FC_SRC_NERR s.source then d.nerrPulse else d
    if d.fld .FC_SRC_CLASS s.source = 0 then
      if was then d
      else d.unitEvent (d.sigBay s) 0 0x1204 s.unit s.source (d.fld .FC_SRC_CNT s.source)
    else d.merge s

/-- Sort the signals of one cycle by their index (R293). -/
def insertSig (s : FaultSig) : List FaultSig → List FaultSig
  | [] => [s]
  | t :: r => if s.source < t.source then s :: t :: r else t :: insertSig s r

/-- The signals of one CK_MON cycle arrive: those given, or the oldest one on its way. -/
def Dev.latchSigs (d : Dev) (sigs : List FaultSig) : Dev :=
  let now := if sigs.isEmpty then d.fc.sigs.take 1 else sigs
  let d := { d with fc := { d.fc with sigs := if sigs.isEmpty then d.fc.sigs.drop 1 else d.fc.sigs.filter fun s => !sigs.contains s } }
  (now.foldl (fun l s => insertSig s l) []).foldl (fun d s => d.latchSig s) d

/-! ## Recovery, lockout and release (R300, R301) -/

/-- The instant from which the quiet period of a record counts: its timer, and every failing observation since. -/
def Dev.quietFrom (d : Dev) (k : Nat) : Nat :=
  (d.recUnits k).foldl (fun t u => max t ((d.unitBad u).getD 0)) (d.quietAt k)

/-- The quiet period in cycles. -/
def Dev.quietLen (d : Dev) : Nat := ms (d.fld .FC_CFG_QUIET)

/-- Every fenced camera port has closed a frame without flag in the period (R258). -/
def Dev.camsGood (d : Dev) (k : Nat) : Bool :=
  (d.recUnits k).all fun u => match u with
    | .cam n => (match (d.cam n).lastGood with | some t => decide (d.quietFrom k ≤ t) | none => false)
    | _ => true

/-- The result of a unit's test in the running period. -/
def Dev.testOf (d : Dev) (k : Nat) (u : FUnit) : Option Bool :=
  ((d.recTests k).find? fun t => t.1 == u && decide (d.quietFrom k ≤ t.2.2)).map (·.2.1)

/-- The instant at which the quiet timer of a record last started, or the record opened. -/
def Dev.quietStamp (d : Dev) (k : Nat) : Nat := (Store.get (fun _ => none) d.fc.quietAt k).getD 0

/-- SCPASS (R300): while the timer runs a failing observation restarts it, and in HALTED and LOCKED it does not run. -/
def Dev.scPass (d : Dev) (k : Nat) : Bool :=
  let st := d.fld .FC_REC_STATE k
  st != 0 && (d.recFail k).isEmpty && d.camsGood k && (d.recUnits k).all fun u =>
    if st = 1 then d.unitBad u != some d.now
    else match d.unitBad u with | some t => decide (t ≤ d.quietStamp k) | none => true

/-- QLEFT (R307): the quiet time remaining in ms, rounded up. -/
def Dev.quietLeft (d : Dev) (k : Nat) : Nat :=
  if d.fld .FC_REC_STATE k = 1 then (d.quietLen - (d.now - d.quietFrom k) + 199999) / 200000 else 0

/-- The last 50 ms of a period (R300). -/
def Dev.testTime (d : Dev) (k : Nat) : Bool :=
  d.fld .FC_REC_STATE k == 1 && decide (d.quietLen ≤ d.now - d.quietFrom k + ms 50)

/-- A test may run: its unit is fenced by the record and has not been tested in this period. -/
def Dev.testDue (d : Dev) (k : Nat) (u : FUnit) : Bool :=
  unitTested u && (d.recUnits k).contains u && d.testTime k && (d.testOf k u).isNone

/-- A test ends (R300): a port sends alignment frames and its configuration block for it (R197). -/
def Dev.testRun (d : Dev) (k : Nat) (u : FUnit) (pass : Bool) : Dev :=
  let d := match u with
    | .port xx => (d.sendAlignment xx).sendCfg xx
    | _ => d
  let d := d.setRecTests k ((d.recTests k).filter (fun t => t.1 != u) ++ [(u, pass, d.now)])
  d.setRecFail k ((d.recFail k).filter (· != u) ++ (if pass then [] else [u]))

/-- The quiet timer of a record has run out, with every test judged. -/
def Dev.quietDue (d : Dev) (k : Nat) : Bool :=
  d.fld .FC_REC_STATE k == 1 && decide (d.quietLen ≤ d.now - d.quietFrom k) &&
    (d.recUnits k).all fun u => !unitTested u || (d.testOf k u).isSome

/-- CHATTER and STALL clear when their fault ends (R172). -/
def Dev.clearPs (d : Dev) (k : Nat) : Dev :=
  forN 8 (fun n d =>
    if (match d.psBay n with | some b => b | none => 4) != k then d
    else
      let d := if d.fbit .FC_RSRCLO_SRC k 0 srcPsChatter then d.setOn .PS_STAT_CHATTER n 0 false else d
      if d.fbit .FC_RSRCLO_SRC k 0 srcPsStall then d.setOn .PS_STAT_STALL n 0 false else d) d

/-- The record recovers (R300, R301). -/
def Dev.recover (d : Dev) (k : Nat) : Dev :=
  let others := ((List.range 5).filter (· != k)).flatMap d.recUnits
  let d := ((d.recUnits k).filter fun u => !others.contains u).foldl (fun d u => d.unfence u) d
  let d := d.clearPs k
  let d := ((d.setFld .FC_REC_STATE k 0 0).setFld .FC_REC_CLASS k 0 0).setFld .FC_REC_REACT k 0 0
  let d := (d.setFld .FC_RSRCLO_SRC k 0 0).setFld .FC_RSRCHI_SRC k 0 0
  let d := ((d.setRecUnits k []).setRecTests k []).setRecFail k []
  let d := if d.fld .FC_RCNT_WCOUNT k = 0 then
      { d with fc := { d.fc with windowAt := Store.set (fun _ => none) d.fc.windowAt k (some d.now) } } else d
  let d := ((d.bump .FC_RCNT_RECOV k 0).bump .FC_RCNT_WCOUNT k 0).setFld .FC_RCNT_MERGED k 0 0
  let d := d.recEvent k 0x1201 0xFF (d.reg .FC_RCNT k).toNat k
  (d.recBays k).foldl (fun d b => d.fcEval b) d

/-- The record enters LOCKED (R301), and with OTPLOG asks for a step of the recovery-lockout counter of OTP. -/
def Dev.lockOut (d : Dev) (k : Nat) : Dev :=
  let d := (d.setFld .FC_REC_STATE k 0 3).recEvent k 0x1202 0xFF (d.fld .FC_RCNT_WCOUNT k) k
  if d.on .FC_LOCK_OTPLOG then { d with ot := { d.ot with queue := d.ot.queue ++ [⟨2, [], none⟩] } } else d

/-- The quiet timer expires (R300, R301): recovery, lockout, or another period after a failed test. -/
def Dev.quietExpire (d : Dev) (k : Nat) : Dev :=
  if (d.recUnits k).any (fun u => unitTested u && d.testOf k u == some false) || !d.camsGood k then d.quietStart k
  else if d.fld .FC_CFG_LOCKN != 0 && d.fld .FC_RCNT_WCOUNT k == d.fld .FC_CFG_LOCKN then d.lockOut k
  else d.recover k

/-- FC_CMD.RELEASE of a record (R301). -/
def Dev.release (d : Dev) (k : Nat) : Dev :=
  let st := d.fld .FC_REC_STATE k
  if st ≤ 1 then d
  else
    let r := d.fld .FC_REC_REACT k % 4
    let d := (d.setFld .FC_REC_REACT k 0 r).setFld .FC_REC_CLASS k 0 (if r % 2 = 1 then 2 else 1)
    let d := (d.setFld .FC_REC_STATE k 0 1).quietStart k
    let d := if st = 3 then d.setFld .FC_RCNT_WCOUNT k 0 0 else d
    d.recEvent k 0x1203 0xFF st k

/-- FC_CMD.REARM (R293). -/
def Dev.rearm (d : Dev) : Dev := (d.setOn .FC_FIRST_VALID 0 0 false).setOn .FC_FIRST_OVF 0 0 false

/-- The lockout window of a record has passed (R301). -/
def Dev.windowDue (d : Dev) (k : Nat) : Bool :=
  match Store.get (fun _ => none) d.fc.windowAt k with
  | some t => d.fld .FC_RCNT_WCOUNT k != 0 && decide (sec (d.fld .FC_LOCK_LOCKWIN) ≤ d.now - t)
  | none => false
def Dev.windowClose (d : Dev) (k : Nat) : Dev :=
  ({ d with fc := { d.fc with windowAt := Store.set (fun _ => none) d.fc.windowAt k none } }).setFld .FC_RCNT_WCOUNT k 0 0

end Sys2Proof.Machine
end

