-- ==== Sys2Proof/Machine/IdLine.lean ====
section
/-! DEFINITION. The head identity line (R363, R364): what the device's samples of a transaction say. -/

namespace Sys2Proof.Machine

/-- The bit of a cell, from its early and late samples (R363); `none` is a cell error. -/
def cellBit (c : Bool × Bool) : Option Bool := if c.1 == c.2 then none else some c.2

/-- A byte of eight cells, most significant bit first (R364). -/
def cellByte (cs : List (Bool × Bool)) : Option Byte :=
  if cs.length = 8 then
    cs.foldl (fun a c => match a, cellBit c with | some v, some b => some (v <<< 1 ||| (if b then 1 else 0)) | _, _ => none) (some 0)
  else none

/-- The first `n` bytes of a run of cells. -/
def cellBytes : Nat → List (Bool × Bool) → Option (List Byte)
  | 0, _ => some []
  | n + 1, cs => match cellByte (cs.take 8), cellBytes n (cs.drop 8) with
    | some b, some l => some (b :: l)
    | _, _ => none

/-- The CRC-16 of a transaction as it goes out, most significant byte first (R364). -/
def crcBytes (bs : List Byte) : List Byte := let c := crc16 bs; [(c >>> 8).truncate 8, c.truncate 8]

/-- The attention was answered: low at 470 µs and high again at 530 µs (R363). -/
def idAnswered (t : IdTry) : Bool := t.ack && t.high

/-- The data of a read command of `n` data bytes, when the attempt has no failure (R364). -/
def idData (t : IdTry) (cmd : Byte) (n : Nat) : Option (List Byte) :=
  if idAnswered t then
    match cellBytes (n + 2) t.cells with
    | some bs => if bs.drop n = crcBytes (cmd :: bs.take n) then some (bs.take n) else none
    | none => none
  else none

/-- The attempts of a transaction: a failed one is repeated once (R364); an attempt not given is one that nothing answers. -/
def Dev.idTwice {α : Type} (d : Dev) (xx : Nat) (cmd : Nat) (sent : List Byte) (l : List IdTry) (got : IdTry → Option α) : Dev × Option α :=
  let d := d.emit (.ident xx cmd sent)
  match got (l.getD 0 ⟨false, true, []⟩) with
  | some x => (d, some x)
  | none => ((d.emit (.ident xx cmd sent)).bump .TR_STAT_RETRY xx 0, got (l.getD 1 ⟨false, true, []⟩))

/-- A read transaction of a port, of `n` data bytes. -/
def Dev.idRead (d : Dev) (xx cmd n : Nat) (l : List IdTry) : Dev × Option (List Byte) :=
  d.idTwice xx cmd [] l fun t => idData t (BitVec.ofNat 8 cmd) n

/-- A write transaction of a port, with its CRC. -/
def Dev.idWrite (d : Dev) (xx cmd : Nat) (bs : List Byte) (l : List IdTry) : Dev × Bool :=
  let q := d.idTwice xx cmd (bs ++ crcBytes (BitVec.ofNat 8 cmd :: bs)) l fun t => if idAnswered t then some () else none
  (q.1, q.2.isSome)

end Sys2Proof.Machine
end

