-- ==== Sys2Proof/Machine/Crypto.lean ====
section
/-! DEFINITION. The published algorithms that the specification names: SHA-256, HMAC-SHA-256, the counter-mode key derivation of
R362, and the verification of ECDSA P-256 signatures (R329, R331). PRESUMED: their definitions come from the standards (log 9). -/

namespace Sys2Proof.Machine

/-- The round constants of SHA-256. -/
def shaK : List Word :=
  [0x428a2f98#32, 0x71374491#32, 0xb5c0fbcf#32, 0xe9b5dba5#32, 0x3956c25b#32, 0x59f111f1#32, 0x923f82a4#32, 0xab1c5ed5#32,
   0xd807aa98#32, 0x12835b01#32, 0x243185be#32, 0x550c7dc3#32, 0x72be5d74#32, 0x80deb1fe#32, 0x9bdc06a7#32, 0xc19bf174#32,
   0xe49b69c1#32, 0xefbe4786#32, 0x0fc19dc6#32, 0x240ca1cc#32, 0x2de92c6f#32, 0x4a7484aa#32, 0x5cb0a9dc#32, 0x76f988da#32,
   0x983e5152#32, 0xa831c66d#32, 0xb00327c8#32, 0xbf597fc7#32, 0xc6e00bf3#32, 0xd5a79147#32, 0x06ca6351#32, 0x14292967#32,
   0x27b70a85#32, 0x2e1b2138#32, 0x4d2c6dfc#32, 0x53380d13#32, 0x650a7354#32, 0x766a0abb#32, 0x81c2c92e#32, 0x92722c85#32,
   0xa2bfe8a1#32, 0xa81a664b#32, 0xc24b8b70#32, 0xc76c51a3#32, 0xd192e819#32, 0xd6990624#32, 0xf40e3585#32, 0x106aa070#32,
   0x19a4c116#32, 0x1e376c08#32, 0x2748774c#32, 0x34b0bcb5#32, 0x391c0cb3#32, 0x4ed8aa4a#32, 0x5b9cca4f#32, 0x682e6ff3#32,
   0x748f82ee#32, 0x78a5636f#32, 0x84c87814#32, 0x8cc70208#32, 0x90befffa#32, 0xa4506ceb#32, 0xbef9a3f7#32, 0xc67178f2#32]

/-- Its initial state. -/
def shaH0 : List Word := [0x6a09e667#32, 0xbb67ae85#32, 0x3c6ef372#32, 0xa54ff53a#32, 0x510e527f#32, 0x9b05688c#32, 0x1f83d9ab#32, 0x5be0cd19#32]

def rotr (x : Word) (n : Nat) : Word := (x >>> n) ||| (x <<< (32 - n))

/-- One round on the eight working words. -/
def shaRound (s : List Word) (kw : Word) : List Word :=
  match s with
  | [a, b, c, d, e, f, g, h] =>
    let s1 := rotr e 6 ^^^ rotr e 11 ^^^ rotr e 25
    let ch := (e &&& f) ^^^ (~~~e &&& g)
    let t1 := h + s1 + ch + kw
    let s0 := rotr a 2 ^^^ rotr a 13 ^^^ rotr a 22
    let mj := (a &&& b) ^^^ (a &&& c) ^^^ (b &&& c)
    [t1 + s0 + mj, a, b, c, d + t1, e, f, g]
  | _ => s

/-- The message schedule, newest word first, extended by `n` words. -/
def shaExtend : Nat → List Word → List Word
  | 0, w => w
  | n + 1, w =>
    let s0 (x : Word) : Word := rotr x 7 ^^^ rotr x 18 ^^^ (x >>> 3)
    let s1 (x : Word) : Word := rotr x 17 ^^^ rotr x 19 ^^^ (x >>> 10)
    shaExtend n ((s1 (w.getD 1 0) + w.getD 6 0 + s0 (w.getD 14 0) + w.getD 15 0) :: w)

/-- A big-endian word. -/
def beWord (bs : List Byte) : Word := BitVec.ofNat 32 (ofBe bs)

/-- One block of 64 bytes. -/
def shaBlock (h : List Word) (blk : List Byte) : List Word :=
  let w0 := ((List.range 16).map fun i => beWord ((blk.drop (4 * i)).take 4)).reverse
  let w := (shaExtend 48 w0).reverse
  let s := (List.zipWith (· + ·) shaK w).foldl shaRound h
  List.zipWith (· + ·) h s

/-- The blocks of a padded message, `n` of them. -/
def shaBlocks : Nat → List Word → List Byte → List Word
  | 0, h, _ => h
  | n + 1, h, bs => shaBlocks n (shaBlock h (bs.take 64)) (bs.drop 64)

/-- The bytes of a number, most significant first. -/
def be (k n : Nat) : List Byte := (le k n).reverse

/-- SHA-256. -/
def sha256 (m : List Byte) : List Byte :=
  let pad := (119 - m.length % 64) % 64
  let p := m ++ [0x80] ++ List.replicate pad 0 ++ be 8 (8 * m.length)
  (shaBlocks (p.length / 64) shaH0 p).flatMap fun w => be 4 w.toNat

/-- HMAC-SHA-256. -/
def hmac (key m : List Byte) : List Byte :=
  let k0 := if 64 < key.length then sha256 key else key
  let k := k0 ++ List.replicate (64 - k0.length) 0
  sha256 ((k.map (· ^^^ 0x5c)) ++ sha256 ((k.map (· ^^^ 0x36)) ++ m))

/-- The ASCII bytes of a label. -/
def ascii (s : String) : List Byte := s.toList.map fun c => BitVec.ofNat 8 c.toNat

/-- Km of R362. -/
def masterKey (s : List Byte) : List Byte :=
  hmac s (be 4 1 ++ ascii "VUBUMAS-HEAD-ROOT" ++ [0] ++ be 4 256)

/-- Kh of R362. -/
def headKey (km : List Byte) (serial type : Nat) : List Byte :=
  hmac km (be 4 1 ++ ascii "VUBUMAS-HEAD" ++ [0] ++ le 8 serial ++ le 2 type ++ be 4 256)

/-- MAC of R366. -/
def headMac (km : List Byte) (serial type count : Nat) : List Byte :=
  (hmac (headKey km serial type) (le 8 serial ++ le 2 type ++ le 8 count)).take 16

/-! ## ECDSA P-256 -/

def p256 : Nat := 0xFFFFFFFF00000001000000000000000000000000FFFFFFFFFFFFFFFFFFFFFFFF
def p256b : Nat := 0x5AC635D8AA3A93E7B3EBBD55769886BC651D06B0CC53B0F63BCE3C3E27D2604B
def p256n : Nat := 0xFFFFFFFF00000000FFFFFFFFFFFFFFFFBCE6FAADA7179E84F3B9CAC2FC632551
def p256g : Nat × Nat := (0x6B17D1F2E12C4247F8BCE6E563A440F277037D812DEB33A0F4A13945D898C296,
  0x4FE342E2FE1A7F9B8EE7EB4A7C0F9E162BCE33576B315ECECBB6406837BF51F5)

/-- Powers modulo m of an exponent below 2^k, most significant bit first. -/
def powMod (m x e : Nat) : Nat → Nat
  | 0 => 1 % m
  | k + 1 =>
    let r := powMod m x (e / 2) k
    let s := r * r % m
    if e % 2 = 1 then s * x % m else s

/-- The inverse modulo a prime. -/
def invMod (m x : Nat) : Nat := powMod m x (m - 2) 256

/-- Difference modulo p. -/
def subMod (m a b : Nat) : Nat := (a + (m - b % m)) % m

/-- A point of the curve in Jacobian coordinates, (X/Z², Y/Z³); Z = 0 is the point at infinity. -/
structure Pt where
  x : Nat
  y : Nat
  z : Nat
  deriving DecidableEq, Repr

/-- Twice a point. -/
def ptDbl (a : Pt) : Pt :=
  let dl := a.z * a.z % p256
  let gm := a.y * a.y % p256
  let bt := a.x * gm % p256
  let al := 3 * (subMod p256 a.x dl) * (a.x + dl) % p256
  let x3 := subMod p256 (al * al) (8 * bt)
  ⟨x3, subMod p256 (al * subMod p256 (4 * bt) x3) (8 * gm * gm), subMod p256 ((a.y + a.z) * (a.y + a.z)) (gm + dl)⟩

/-- The sum of two points. -/
def ptAdd (a b : Pt) : Pt :=
  if a.z = 0 then b
  else if b.z = 0 then a
  else
    let za := a.z * a.z % p256
    let zb := b.z * b.z % p256
    let u := a.x * zb % p256
    let s := a.y * zb * b.z % p256
    let h := subMod p256 (b.x * za) u
    let r := subMod p256 (b.y * za * a.z) s
    if h = 0 then (if r = 0 then ptDbl a else ⟨1, 1, 0⟩)
    else
      let hh := h * h % p256
      let v := u * hh % p256
      let x3 := subMod p256 (r * r) (h * hh + 2 * v)
      ⟨x3, subMod p256 (r * subMod p256 v x3) (s * h * hh), h * a.z * b.z % p256⟩

/-- A multiple of a point by a factor below 2^k. -/
def ptMul (q : Pt) (e : Nat) : Nat → Pt
  | 0 => ⟨1, 1, 0⟩
  | k + 1 =>
    let s := ptDbl (ptMul q (e / 2) k)
    if e % 2 = 1 then ptAdd s q else s

/-- The verification of a signature (64 bytes) over a message under a public key (64 bytes). -/
def ecdsaOk (key sig m : List Byte) : Bool :=
  let x := ofBe (key.take 32)
  let y := ofBe ((key.drop 32).take 32)
  let r := ofBe (sig.take 32)
  let s := ofBe ((sig.drop 32).take 32)
  if x < p256 ∧ y < p256 ∧ (y * y) % p256 = (x * x * x + (p256 - 3) * x + p256b) % p256 ∧ 1 ≤ r ∧ r < p256n ∧ 1 ≤ s ∧ s < p256n then
    let w := invMod p256n s
    let z := ofBe (sha256 m)
    let t := ptAdd (ptMul ⟨p256g.1, p256g.2, 1⟩ (z * w % p256n) 256) (ptMul ⟨x, y, 1⟩ (r * w % p256n) 256)
    t.z != 0 && t.x * invMod p256 (t.z * t.z % p256) % p256 % p256n == r
  else false

end Sys2Proof.Machine
end

