-- ==== Sys2Proof/Machine/Otp.lean ====
section
/-! DEFINITION. One-time-programmable memory (R348 to R361): its codewords, the integrity check and the shadow, the owner records,
the counters, and programming. -/

namespace Sys2Proof.Machine

/-! ## Codewords (R349) -/

/-- The position of each data bit: the positions from 3 to 38 that are no power of two. -/
def otpPos : List Nat := (List.range 39).filter fun p => 3 ≤ p && p != 4 && p != 8 && p != 16 && p != 32

/-- The parity of the bits of a codeword at the positions that satisfy a condition. -/
def otpParity (c : Nat) (f : Nat → Bool) : Bool :=
  (List.range 39).foldl (fun acc p => if f p && c / 2 ^ p % 2 == 1 then !acc else acc) false

/-- The codeword of a data word. -/
def otpEncode (d : Word) : BitVec 39 :=
  let base := (otpPos.zipIdx).foldl (fun acc x => if d.getLsbD x.2 then acc + 2 ^ x.1 else acc) 0
  let c := (List.range 6).foldl (fun acc j => if otpParity base (fun p => p / 2 ^ j % 2 == 1) then acc + 2 ^ (2 ^ j) else acc) base
  BitVec.ofNat 39 (if otpParity c (fun _ => true) then c + 1 else c)

/-- The data bits of a codeword. -/
def otpData (c : Nat) : Word :=
  BitVec.ofNat 32 ((otpPos.zipIdx).foldl (fun acc x => if c / 2 ^ x.1 % 2 = 1 then acc + 2 ^ x.2 else acc) 0)

/-- The check bits c0 to c6 of a codeword. -/
def otpChecks (c : Nat) : Nat :=
  (List.range 6).foldl (fun acc j => acc + 2 ^ j * (c / 2 ^ (2 ^ j) % 2)) 0 + 64 * (c % 2)

/-- The syndrome of a codeword. -/
def otpSyndrome (c : Nat) : Nat :=
  (List.range 6).foldl (fun acc j => if otpParity c (fun p => p / 2 ^ j % 2 == 1) then acc + 2 ^ j else acc) 0

/-- The data a read decodes to, and whether one bit was corrected; none when uncorrectable (R356). -/
def otpDecode (c : Nat) : Option (Word × Bool) :=
  let s := otpSyndrome c
  let odd := otpParity c fun _ => true
  if s = 0 && !odd then some (otpData c, false)
  else if odd && s ≤ 38 then some (otpData (if c / 2 ^ s % 2 = 1 then c - 2 ^ s else c + 2 ^ s), true)
  else none

/-- The decision on a word (R356). -/
def otpDecide (x : OtpCell) : ShadowWord :=
  let a := x.strict.toNat
  let b := x.lenient.toNat
  if b = 0 then {}
  else if a = b then
    match otpDecode a with
    | some (v, c) => { data := v, blank := false, corr := c }
    | none => { blank := false, ue := true }
  else match otpDecode a, otpDecode b with
    | some (v, _), some (w, _) =>
      if v = w then { data := v, blank := false, marginal := true } else { blank := false, ue := true, marginal := true }
    | _, _ => { blank := false, ue := true, marginal := true }

/-! ## The array (R348, R350) -/

/-- The word of the factory for PARTID, the CRC of the otherwise blank Cornerstone region, and its lock word (DESIGN CHOICE, log 10). -/
def factoryWord : Nat → Word
  | 0x000 => 0x32001001
  | 0x0FE => 0xED02336F
  | 0x0FF => 0x5EA10001
  | _ => 0

/-- The cell of a word that nothing has programmed. -/
def otpDflt (w : Nat) : OtpCell := let c := otpEncode (factoryWord w); ⟨c, c⟩

/-- A word of the array. -/
def Nv.cell (v : Nv) (w : Nat) : OtpCell := Store.get otpDflt v.otp w
def Nv.setCell (v : Nv) (w : Nat) (x : OtpCell) : Nv := { v with otp := Store.set otpDflt v.otp w x }

/-- A word is non-blank: a bit reads 1 at the lenient reference (R354). -/
def Nv.programmed (v : Nv) (w : Nat) : Bool := (v.cell w).lenient != 0

/-- A counter's value (R354): 1 plus the index of its highest non-blank word. -/
def Nv.counter (v : Nv) (base n : Nat) : Nat := (List.range n).foldl (fun acc i => if v.programmed (base + i) then i + 1 else acc) 0
def Nv.rollback (v : Nv) : Nat := v.counter 0x400 255
def Nv.xfer (v : Nv) : Nat := v.counter 0x300 16
def Nv.lockouts (v : Nv) : Nat := v.counter 0x500 512

/-! ## The shadow and the owner records (R351 to R355, R373) -/

def Dev.sh (d : Dev) (w : Nat) : ShadowWord := Store.get (fun _ => {}) d.ot.shadow w
def Dev.setSh (d : Dev) (w : Nat) (x : ShadowWord) : Dev :=
  { d with ot := { d.ot with shadow := Store.set (fun _ => {}) d.ot.shadow w x } }

/-- The base of owner record k. -/
def recAt (k : Nat) : Nat := 0x100 + 0x20 * k

/-- Every word of a run is non-blank. -/
def Dev.complete0 (d : Dev) (w n : Nat) : Bool := (List.range n).all fun i => !(d.sh (w + i)).blank

/-- The lock word of a record: none while it is open, else whether it reads FULL (R352). -/
def Dev.recLock (d : Dev) (k : Nat) : Option Bool :=
  let x := d.sh (recAt k + 0x1F)
  if x.blank then none else some (x.data == 0x5EA10001)

/-- The items of a record (R351): OWNERID, DIGEST, SECRET, POLICY by their first word and length. -/
def otpItems : List (Nat × Nat) := [(0x00, 1), (0x01, 8), (0x09, 8), (0x11, 1)]

/-- The item that a word of a record belongs to. -/
def itemOf (o : Nat) : Option (Nat × Nat) := otpItems.find? fun i => decide (i.1 ≤ o) && decide (o < i.1 + i.2)

/-- The active record (R353). -/
def Dev.activeRec (d : Dev) : Option Nat :=
  (List.range 16).foldl (fun acc k => if (d.recLock k).isSome && d.complete0 (recAt k + 1) 8 then some k else acc) none

/-- The next record (R360), 16 when none is open: its lock word is blank in the array, which one that did not verify is not. -/
def Dev.nextRec (d : Dev) : Nat :=
  ((List.range 16).find? fun k => (d.recLock k).isNone && !d.ot.tried.contains (recAt k + 0x1F)).getD 16

/-- The active record's SECRET and POLICY are present. -/
def Dev.hasSecret (d : Dev) : Bool := match d.ot.active with | some k => d.complete0 (recAt k + 9) 8 | none => false
def Dev.hasPolicy (d : Dev) : Bool := match d.ot.active with | some k => d.complete0 (recAt k + 0x11) 1 | none => false

/-- UNAUTH and ENROL in force (R353). -/
def Dev.unauth (d : Dev) : Bool := match d.ot.active with | some k => d.hasPolicy && wbit (d.sh (recAt k + 0x11)).data 0 | none => false
def Dev.enrol (d : Dev) : Bool := match d.ot.active with | some k => d.hasPolicy && wbit (d.sh (recAt k + 0x11)).data 1 | none => false

/-- A word holds SECRET data of its record. -/
def isSecret (w : Nat) : Bool := decide (0x100 ≤ w) && decide (w < 0x300) && (let o := w % 0x20; decide (9 ≤ o) && decide (o ≤ 0x10))

/-- What the window returns (R352, R361, R373). -/
def Dev.otpWindow (d : Dev) (w : Nat) : Word :=
  let x := d.sh w
  if x.blank || x.ue then 0
  else if isSecret w && !d.inService then 0
  else if 0x100 ≤ w ∧ w < 0x300 then
    let k := (w - 0x100) / 0x20
    match d.recLock k, itemOf (w % 0x20) with
    | some false, some (o, n) => if d.complete0 (recAt k + o) n then x.data else 0
    | _, _ => x.data
  else x.data

/-- The root digest in force: the owner's, or the factory's (R332, R353), laid out as FROOT (R350). -/
def Dev.rootDigest (d : Dev) : List Byte :=
  let base := match d.ot.active with | some k => recAt k + 1 | none => 8
  (List.range 8).flatMap fun j => le 4 (d.sh (base + j)).data.toNat

/-- The start of a LOAD chooses the active record and derives Km (R353, R362). -/
def Dev.ownerLoad (d : Dev) : Dev :=
  let d := { d with ot := { d.ot with active := d.activeRec, km := none } }
  match d.ot.active with
  | some k =>
    if d.hasSecret then
      let s := (List.range 8).flatMap fun j => le 4 ((d.sh (recAt k + 9 + j)).data ^^^ Config.otpScramble j).toNat
      { d with ot := { d.ot with km := some (masterKey s) } }
    else d
  | none => d

/-! ## The integrity check (R355 to R358) -/

/-- The shadow of the whole array. -/
def Nv.shadow (v : Nv) : Store ShadowWord := forN 2048 (fun w m => Store.set (fun _ => {}) m w (otpDecide (v.cell w))) []

/-- The lowest word of a range whose decision satisfies a condition. -/
def Dev.lowest (d : Dev) (a n : Nat) (f : ShadowWord → Bool) : Option Nat := ((List.range n).map (a + ·)).find? fun w => f (d.sh w)

/-- The outcome (R357): the SEALED code and word, or none when the check passes. -/
def Dev.otpOutcome (d : Dev) (reads selfTest : Bool) : Option (Nat × Nat) :=
  if !reads || !selfTest then some (7, 0xFFFF)
  else match d.lowest 0 0x100 (·.ue) with
  | some w => some (5, w)
  | none => match d.lowest 0x100 0x200 (·.ue) with
    | some w => some (6, w)
    | none =>
      if (d.sh 0xFF).blank || (d.sh 0xFF).data != 0x5EA10001 then some (7, 0xFF)
      else if (d.sh 0xFE).data != crc32 ((List.range 0xFE).flatMap fun w => le 4 (d.sh w).data.toNat) then some (7, 0xFFFF)
      else none

/-- How many words of the shadow satisfy a condition, saturating in n bits (R373). -/
def Dev.otpCount (d : Dev) (n : Nat) (f : ShadowWord → Bool) : Nat := min (2 ^ n - 1) (d.ot.shadow.filter fun x => f x.2).length

/-- OT_CHK and OT_FIRST (R373). -/
def Dev.otChk (d : Dev) : Nat :=
  d.otpCount 12 (·.marginal) + 4096 * d.otpCount 12 (·.corr) + 2 ^ 24 * d.otpCount 8 (·.ue)
def Dev.otFirst (d : Dev) : Nat :=
  (match d.lowest 0 2048 (·.marginal) with | some w => w + 2 ^ 15 | none => 0)
    + (match d.lowest 0 2048 (·.ue) with | some w => 2 ^ 16 * w + 2 ^ 31 | none => 0)

/-- OT_OWNER (R373). -/
def Dev.otOwner (d : Dev) : Nat :=
  let one (b : Bool) (i : Nat) : Nat := if b then 2 ^ i else 0
  (d.ot.active.getD 0) + one d.ot.active.isNone 4
    + one (match d.ot.active with | some k => d.recLock k == some false | none => false) 5
    + one d.hasSecret 6 + one d.hasPolicy 7 + one d.unauth 8 + one d.enrol 9 + 2 ^ 10 * d.nextRec

/-- OT_OWNERID (R373): an absent OWNERID reads 0. -/
def Dev.otOwnerId (d : Dev) : Word := match d.ot.active with | some k => d.otpWindow (recAt k) | none => 0

/-- A signal that waits for the completion of LOAD (R358). -/
def Dev.loadFault (d : Dev) (source unit : Nat) : Dev :=
  { d with boot := { d.boot with loadFaults := d.boot.loadFaults ++ [⟨source, unit, none, d.tb, 0, false, none⟩] } }

/-- The check ends: shadow, outcome, the faults of R358, and the grade of the part (R350). -/
def Dev.otpCheck (d : Dev) (v : Nv) (reads selfTest : Bool) : Dev :=
  let d := { d with ot := { d.ot with shadow := if reads && selfTest then v.shadow else [] } }
  match d.otpOutcome reads selfTest with
  | some (code, word) => { d with boot := { d.boot with phase := .isSealed, sealedCode := code, sealedWord := word } }
  | none =>
    let counters : List (Nat × Nat) := [(0x300, 16), (0x400, 255), (0x500, 512)]
    let d := if (d.ot.shadow.any fun x => x.2.marginal || x.2.corr) then d.loadFault srcOtpMargin 0xFF else d
    let d := if counters.any fun c => (d.lowest c.1 c.2 (·.marginal)).isSome then d.loadFault srcOtpProg 0xFF else d
    { d with gradeE := (d.sh 0).data.toNat % 256 == 2, boot := { d.boot with phase := .pllWait } }

/-! ## Programming (R359, R360) -/

/-- The results of OT_PRES (R373). -/
def otOk := 0
def otMode := 1
def otSupply := 2
def otTemp := 3
def otNotBlank := 4
def otRegion := 5
def otIncomplete := 6
def otFull := 7
def otZero := 8
def otVerify := 9
def otOrder := 10

/-- What the device stores for a word written with data (R361). -/
def otpStored (w : Nat) (data : Word) : Word := if isSecret w then data ^^^ Config.otpScramble (w % 0x20 - 9) else data

/-- An operation of a requester ends with a result: the console's OT_PDATA clears, an ADVANCE is completed, a failed programming raises
OTP_PROG (R359, R361, R343). -/
def Dev.otpEnd (d : Dev) (r : OtpReq) (result : Nat) (signal : Bool) : Dev :=
  let d := (d.setFld .OT_PRES_RESULT 0 0 result).setFld .OT_PRES_SRC 0 0 r.src
  let d := if signal then d.signal srcOtpProg 0xFF else d
  if r.src = 0 then
    let d := d.setFld .OT_PDATA_DATA 0 0 0
    if d.con.wait = some .otp then
      ({ d with con := { d.con with wait := none } }).emit (.line ("OK 0x" ++ String.ofList [hexDigit result]))
    else d
  else match r.origin with
    | some h => d.complete h 0x0030 .ok (le 4 (if result = otOk then 0 else 0x0B))
    | none => d

/-- A request joins the queue (R359). -/
def Dev.otpEnqueue (d : Dev) (r : OtpReq) : Dev := { d with ot := { d.ot with queue := d.ot.queue ++ [r] } }

/-- An operation of the console (R360): refused with a result, or queued with its words. -/
def Dev.otpConsole (d : Dev) (v : Nv) (op w : Nat) (data : Word) (k : Nat) : Dev :=
  let r : OtpReq := ⟨0, [], none⟩
  let lockWord (x : Word) : Dev := d.otpEnqueue { r with words := [(0x300 + v.xfer, 0xFFFFFFFF), (recAt k + 0x1F, x)] }
  if !d.inService then d.otpEnd r otMode false
  else if k != d.nextRec then d.otpEnd r otOrder false
  else match op with
  | 0 =>
    if w < recAt k || recAt k + 0x11 < w then d.otpEnd r otRegion false
    else if v.programmed w then d.otpEnd r otNotBlank false
    else if otpStored w data = 0 then d.otpEnd r otZero false
    else d.otpEnqueue { r with words := [(w, otpStored w data)] }
  | 1 =>
    if !(otpItems.all fun i => d.complete0 (recAt k + i.1) i.2) then d.otpEnd r otIncomplete false
    else if v.xfer = 16 then d.otpEnd r otFull false
    else lockWord 0x5EA10001
  | _ => if v.xfer = 16 then d.otpEnd r otFull false else lockWord 0x5EA10002

/-- The die temperature for programming: the highest value in use of channels 68 to 73 (R359). -/
def Dev.dieTemp (d : Dev) : Int := (List.range 5).foldl (fun m i => max m (d.sfld .TM_VAL_USED (69 + i))) (d.sfld .TM_VAL_USED 68)

/-- What the pulses leave in a word (R349, R359): bits of the codeword turn from 0 to 1 only; pulses end once the strict read equals
the codeword, and with the fourth. -/
def otpPulse (target : BitVec 39) (x : OtpCell) : List (BitVec 39 × BitVec 39) → Nat → OtpCell
  | _, 0 => x
  | [], _ => x
  | (s, l) :: r, n + 1 =>
    let y : OtpCell := ⟨x.strict ||| (s &&& target), x.lenient ||| (l &&& target) ||| (s &&& target)⟩
    if y.strict = target then y else otpPulse target y r n

/-- OT_COUNTER for every counter whose value changed (R371). -/
def Dev.counterEvents (d : Dev) (v v' : Nv) : Dev :=
  let ev (d : Dev) (i a b : Nat) : Dev := if a = b then d else d.devEvent d.steward 1 0x1300 0xFF i b
  ev (ev (ev d 0 v.rollback v'.rollback) 1 v.xfer v'.xfer) 2 v.lockouts v'.lockouts

/-- The next queued request programs its next word, with VDD_OTP in mV and the reads after each pulse (R354, R359). -/
def programWord (d : Dev) (v : Nv) (vdd : Nat) (pulses : List (BitVec 39 × BitVec 39)) : Dev × Nv :=
  match d.ot.queue with
  | [] => (d, v)
  | r :: rest =>
    let next : Option (Nat × Word) := if r.src = 2 then (if v.lockouts < 512 then some (0x500 + v.lockouts, 0xFFFFFFFF) else none) else r.words.head?
    let pop := { d with ot := { d.ot with queue := rest } }
    match next with
    | none => (pop.otpEnd r (if r.src = 2 then otFull else otOk) (r.src == 2), v)
    | some (w, data) =>
      let env (d : Dev) : Dev :=
        ((d.setFld .OT_PENV_VOTP 0 0 vdd).setFld .OT_PENV_TDIE 0 0 (enc 16 d.dieTemp)).setFld .OT_PRES_WORD 0 0 w
      if vdd < 1750 || 1850 < vdd then ((env pop).otpEnd r otSupply true, v)
      else if d.dieTemp < 0 || 85 * 16 < d.dieTemp then ((env pop).otpEnd r otTemp true, v)
      else
        let target := otpEncode data
        let x := otpPulse target (v.cell w) pulses 4
        let v' := v.setCell w x
        let d' := (env pop).counterEvents v v'
        if x.strict = target then
          let d' := d'.setSh w { data := data, blank := false }
          if r.src != 2 && 1 < r.words.length then
            ({ d' with ot := { d'.ot with queue := { r with words := r.words.tail } :: d'.ot.queue } }, v')
          else (d'.otpEnd r otOk false, v')
        else
          let d' := if x.lenient = 0 then d' else { d' with ot := { d'.ot with tried := w :: d'.ot.tried } }
          (d'.otpEnd r otVerify true, v')

/-- A raw read of a word at both references (R373), with the errors a perturbation injects (R406). -/
def Dev.rawRead (d : Dev) (v : Nv) (w : Nat) : Dev :=
  let x := v.cell w
  let (d, k, two) := d.takeEcc (d.fld .PT_ECC_TARGET == 2) 2
  let flip (c : Nat) : Nat := Nat.xor c (if two then 2 ^ 3 + 2 ^ 5 else 2 ^ 3)
  let s := if 1 ≤ k then flip x.strict.toNat else x.strict.toNat
  let l := if 2 ≤ k then flip x.lenient.toNat else x.lenient.toNat
  let d := (d.setFld .OT_RAWS_DATA 0 0 (otpData s).toNat).setFld .OT_RAWL_DATA 0 0 (otpData l).toNat
  (d.setFld .OT_RAWC_SC 0 0 (otpChecks s)).setFld .OT_RAWC_LC 0 0 (otpChecks l)

end Sys2Proof.Machine
end

