-- ==== Sys2Proof/Machine/Wear.lean ====
section
/-! DEFINITION. Wear and the heads' identity: actuation counters and head counts (R375 to R377), checkpoints and the tally store
(R325, R326, R378, R379), reading, trusting and writing back heads (R363 to R370, R380), ageing indicators and predictions (R381, R382). -/

namespace Sys2Proof.Machine

/-! ## Actuation counters (R375, R376) -/

/-- The actuation counter of a nozzle. -/
def Dev.wearCnt (d : Dev) (xx n : Nat) : Nat := Store.get (fun _ => 0) d.wear.cnt (4096 * xx + n)

/-- The head count (R376). -/
def Dev.headCount (d : Dev) (xx : Nat) : Nat := d.pair .WR_HCNTLO_COUNT .WR_HCNTHI_COUNT xx
def Dev.setHeadCount (d : Dev) (xx v : Nat) : Dev := d.setPair .WR_HCNTLO_COUNT .WR_HCNTHI_COUNT xx 0 v
def Dev.writtenBack (d : Dev) (xx : Nat) : Nat := d.pair .WR_HWBLO_COUNT .WR_HWBHI_COUNT xx
def Dev.setWrittenBack (d : Dev) (xx v : Nat) : Dev := d.setPair .WR_HWBLO_COUNT .WR_HWBHI_COUNT xx 0 v

/-- A counter takes a value, and its tally entry is behind (R375, R378). -/
def Dev.setWearCnt (d : Dev) (xx n v : Nat) : Dev :=
  { d with wear := { d.wear with cnt := Store.set (fun _ => 0) d.wear.cnt (4096 * xx + n) v,
                                 changed := Store.set (fun _ => false) d.wear.changed (4096 * xx + n) true } }

/-- A read of a counter's SRAM word: uncorrectable, it takes its last tally value (R379, R406). -/
def Dev.wearRead (d : Dev) (xx n : Nat) : Dev :=
  let (d, ue) := d.sramRead 0 0 1
  if ue then (d.setWearCnt xx n (Store.get (fun _ => 0) d.wear.tally (4096 * xx + n))).signal srcSramUe 0xFF else d

/-- One more for a nozzle that has fired; a counter stops at its largest value (R375). Answers whether it went up. -/
def Dev.wearStep (d : Dev) (xx n : Nat) : Dev × Nat :=
  let d := d.wearRead xx n
  let v := d.wearCnt xx n
  if v + 1 < 2 ^ 48 then
    let d := d.setWearCnt xx n (v + 1)
    (if v + 2 < 2 ^ 48 then d else d.setOn .WR_HSTAT_SAT xx 0 true, 1)
  else (d.setOn .WR_HSTAT_SAT xx 0 true, 0)

/-- The counters at a latch trailing edge: one more for every nozzle whose latched code is not 0, and their own increments to the head
count (R376) and to the hour's drops (R381). -/
def Dev.wearCount (d : Dev) (xx : Nat) (codes : List Nat) : Dev :=
  let fired := ((codes.zipIdx).filter fun c => c.1 != 0).map (·.2)
  let (d, up) := fired.foldl (fun a n => let q := a.1.wearStep xx n; (q.1, a.2 + q.2)) (d, 0)
  let k := fired.length
  if k = 0 then d
  else
    let d := d.setHeadCount xx (min (d.headCount xx + up) (2 ^ 64 - 1))
    let m := Store.set (fun _ => 0) d.wear.hourDrops xx (Store.get (fun _ => 0) d.wear.hourDrops xx + k)
    { d with wear := { d.wear with hourDrops := m } }

/-- A port record of the tally store. -/
def Nv.tally (v : Nv) (xx : Nat) : TallyPort := Store.get (fun _ => {}) v.port xx
def Nv.setTally (v : Nv) (xx : Nat) (x : TallyPort) : Nv := { v with port := Store.set (fun _ => {}) v.port xx x }

/-- A trend of the tally store, newest sample first. -/
def Nv.trendOf (v : Nv) (k : Nat) : List Int := Store.get (fun _ => []) v.trend k
def Nv.setTrend (v : Nv) (k : Nat) (l : List Int) : Nv := { v with trend := Store.set (fun _ => []) v.trend k l }

/-- The entries of one port replaced. -/
def setPortCnt (m : Store Nat) (xx v : Nat) : Store Nat :=
  let lo := m.filter fun x => decide (x.1 < 4096 * xx)
  let hi := m.filter fun x => decide (4096 * (xx + 1) ≤ x.1)
  lo ++ (if v = 0 then [] else (List.range 4096).map fun n => (4096 * xx + n, v)) ++ hi

/-- The index of a tally word (DESIGN CHOICE, log 11): nozzle entries 4,096 xx + n, then a port's serial, head count, written-back count and
rate from 131,072 + 4 xx, then the device record, then the newest sample of each trend. -/
def tallyPort (xx : Nat) : Nat := 131072 + 4 * xx
def tallyDevice : Nat := 131200
def tallyTrend : Nat := 131264

/-- What a tally word holds after a write: its value, or what it holds where it did not verify. -/
def held (failed : List (Nat × Nat)) (k val : Nat) : Nat := ((failed.find? fun f => f.1 == k).map (·.2)).getD val

/-- The same of a nozzle entry, whose counter has 48 bits (R375). -/
def heldCnt (failed : List (Nat × Nat)) (k val : Nat) : Nat := held failed k val % 2 ^ 48

/-- Tally words that did not verify are counted and raised (R379). -/
def Dev.tallyFails (d : Dev) (failed : List (Nat × Nat)) : Dev :=
  failed.foldl (fun d f => (d.signal srcTally 0xFF).devEvent d.steward 1 0x1502 0xFF f.1 0) (d.bump .WR_TSTAT_WFAIL 0 0 failed.length)

/-- The entries of one port that did not verify in a head change. -/
def failPort (failed : List (Nat × Nat)) (xx : Nat) (m : Store Nat) : Store Nat :=
  failed.foldl (fun m f => if f.1 / 4096 = xx then Store.set (fun _ => 0) m f.1 (f.2 % 2 ^ 48) else m) m

/-- The stored serial of a port's record, as LOAD restored it or a head change wrote it (R377, R379). -/
def Dev.serialOf (d : Dev) (xx : Nat) : Nat := Store.get (fun _ => 0) d.wear.serial xx
def Dev.setSerial (d : Dev) (xx x : Nat) : Dev := { d with wear := { d.wear with serial := Store.set (fun _ => 0) d.wear.serial xx x } }

/-- A head change (R377): the counters, which stop at 2^48 − 1 (R375), the rate, the trends and the port record; `failed` are the words
that did not verify (R379). -/
def headChange (d : Dev) (v : Nv) (xx serial count : Nat) (failed : List (Nat × Nat)) : Dev × Nv :=
  let quot := count / max 1 (d.fld .HP_PROF_NOZZLES xx)
  let each := min quot (2 ^ 48 - 1)
  let d := ((d.setHeadCount xx count).setFld .WR_HRATE_RATE xx 0 0).setSerial xx serial
  let cnt := failPort failed xx (setPortCnt v.cnt xx each)
  let d := { d with wear := { d.wear with cnt := setPortCnt d.wear.cnt xx each, tally := cnt,
                                          changed := d.wear.changed.filter fun x => x.1 / 4096 != xx } }
  let d := (d.setOn .WR_HSTAT_EST xx 0 true).setOn .WR_HSTAT_HEADCHG xx 0 true
  let d := if 2 ^ 48 - 1 ≤ quot then d.setOn .WR_HSTAT_SAT xx 0 true else d
  let d := if failed.isEmpty then d else d.tallyFails failed
  let v := { v with cnt := cnt }
  let v := ((v.setTrend (2 * xx) []).setTrend (2 * xx + 1) []).setTrend (68 + xx) []
  let v := v.setTally xx { serial := held failed (tallyPort xx) serial, count := held failed (tallyPort xx + 1) count,
                           wb := (v.tally xx).wb, rate := held failed (tallyPort xx + 3) 0, est := true }
  (d.unitEvent (d.portBay xx) 1 0x1500 xx (serial % 2 ^ 32) (each % 2 ^ 32), v)

/-! ## The identity of heads (R363 to R370) -/

def Dev.trHead (d : Dev) (xx : Nat) : TrHead := Store.get (fun _ => {}) d.tr xx
def Dev.setTrHead (d : Dev) (xx : Nat) (x : TrHead) : Dev := { d with tr := Store.set (fun _ => {}) d.tr xx x }
def Dev.trState (d : Dev) (xx : Nat) : Nat := d.fld .TR_STAT_STATE xx

/-- The port has an identity memory (R367). -/
def Dev.trOn (d : Dev) (xx : Nat) : Bool := d.fbit .TR_EN_EN 0 0 xx

/-- The poll of a port is due (R367): not while a read runs, nor while a meter test pulls the line low (R393). -/
def Dev.pollDue (d : Dev) (xx : Nat) : Bool :=
  d.running && d.trOn xx && d.trState xx != 1 && !d.on .SV_PARK_IDLOW xx && decide ((d.trHead xx).pollAt ≤ d.now)

/-- TR_HEAD (R371). -/
def Dev.trEvent (d : Dev) (xx : Nat) : Dev :=
  d.unitEvent (d.portBay xx) 1 0x1400 xx (d.trState xx + (if d.on .HP_PWR_REFUSED xx then 8 else 0)) (d.fld .TR_SERLO_SERIAL xx)

/-- A poll and its acknowledgement (R367, R369). -/
def Dev.poll (d : Dev) (xx : Nat) (ack : Bool) : Dev :=
  let was := (d.trHead xx).present
  let d := d.emit (.ident xx 0 [])
  let d := d.setTrHead xx { present := ack, pollAt := (d.trHead xx).pollAt + ms (d.fld .TR_CFG_POLL) }
  if ack then (if was then d else (d.setFld .TR_STAT_STATE xx 0 1).followPower xx 4)
  else
    let st := d.trState xx
    if 2 ≤ st && st ≤ 5 then ((d.setFld .TR_STAT_STATE xx 0 7).followPower xx 4).trEvent xx else d

/-- A head is enrolled: blank, with ENROL and a key (R368). -/
def Dev.enrols (d : Dev) : Bool := d.enrol && d.ot.km.isSome

/-- What a read has found (R365, R367): SERIAL, TYPE and FMT of READ_ID, COUNT and MAC of READ_USE, each `none` when its transaction
failed. -/
structure HeadFound where
  id : Option (Nat × Nat × Nat)
  use : Option (Nat × List Byte)
  deriving DecidableEq, Repr

/-- A read runs: READ_ID followed by READ_USE (R367); a failed READ_ID ends it. -/
def Dev.headAsk (d : Dev) (xx : Nat) (r : HeadReply) : Dev × HeadFound :=
  let (d, id) := d.idRead xx 0x91 12 r.id
  match id with
  | none => (d, ⟨none, none⟩)
  | some a =>
    let (d, use) := d.idRead xx 0x93 24 r.use
    (d, ⟨some (ofLe (a.take 8), ofLe ((a.drop 8).take 2), ofLe ((a.drop 10).take 1)), use.map fun u => (ofLe (u.take 8), u.drop 8)⟩)

/-- The state in which a read ends (R367). -/
def Dev.readState (d : Dev) (f : HeadFound) : Nat :=
  match f.id, f.use with
  | some (serial, type, _), some (count, mac) =>
    if count = 2 ^ 64 - 1 && mac.all (· == 0xFF) then 3
    else match d.ot.km with
      | none => 5
      | some km => if headMac km serial type count = mac then 2 else 4
  | _, _ => 6

/-- The owner policy lets a head in that state run (R368). -/
def Dev.policyRuns (d : Dev) (st : Nat) : Bool := st == 2 || (st == 3 && d.enrols) || !d.unauth

/-- TR_SER, TR_TYPE and TR_USE hold what was read (R367). -/
def Dev.noteFound (d : Dev) (xx : Nat) (f : HeadFound) : Dev :=
  let d := match f.id with
    | some (serial, type, fmt) =>
      ((d.setPair .TR_SERLO_SERIAL .TR_SERHI_SERIAL xx 0 serial).setFld .TR_TYPE_TYPE xx 0 type).setFld .TR_TYPE_FMT xx 0 fmt
    | none => d
  match f.use with
  | some (count, _) => d.setPair .TR_USELO_COUNT .TR_USEHI_COUNT xx 0 count
  | none => d

/-- The owner policy acts on the result of a read (R368): a refusal raises HP_POWER with cause 4, by the fall of PEN or of itself. -/
def Dev.readPolicy (d : Dev) (xx st : Nat) : Dev :=
  let run := d.policyRuns st
  let d := d.setOn .HP_PWR_REFUSED xx 0 (!run)
  let d := if st == 2 || (st == 3 && d.enrols) then d else d.signal srcHpTrust xx
  let d := d.trEvent xx
  if run || d.on .HP_PWR_PEN xx then d else d.powerEvent xx 0 4

/-- The count and the head of a read meet the tally (R376, R377): another serial is a head change, a larger count of a head that runs is
taken over. -/
def headCounts (d : Dev) (v : Nv) (xx st : Nat) (f : HeadFound) (failed : List (Nat × Nat)) : Dev × Nv :=
  match f.id, f.use with
  | some (serial, _, _), some (c, _) =>
    let count := if st = 3 then 0 else c
    if serial != d.serialOf xx then headChange d v xx serial count failed
    else if d.policyRuns st && decide (d.headCount xx < count) then (d.setHeadCount xx count, v)
    else (d, v)
  | _, _ => (d, v)

/-- A read of a head ends (R367 to R369, R376, R377). -/
def headRead (d : Dev) (v : Nv) (xx : Nat) (r : HeadReply) : Dev × Nv :=
  let (d, f) := d.headAsk xx r
  let st := d.readState f
  let d := ((d.noteFound xx f).setFld .TR_STAT_STATE xx 0 st).readPolicy xx st
  let (d, v) := headCounts d v xx st f r.failed
  (d.followPower xx 4, v)

/-- A write-back may go to the head (R370). -/
def Dev.wbAllowed (d : Dev) (xx : Nat) : Bool := d.trOn xx && (d.trState xx == 2 || (d.trState xx == 3 && d.enrols)) && d.ot.km.isSome

/-- A head is due for write-back (R380). -/
def Dev.wbDue (d : Dev) (xx : Nat) : Bool :=
  d.headCount xx != d.writtenBack xx &&
    (Store.get (fun _ => false) d.wear.wbRun xx
      || decide (3600 * sec (d.fld .WR_CFG_WBHRS) ≤ d.now - Store.get (fun _ => 0) d.wear.wbAt xx))

/-- A write-back runs and ends (R370, R380): WRITE_USE, then READ_USE, whose record is to match the one written. -/
def writeBack (d : Dev) (v : Nv) (xx : Nat) (wr rd : List IdTry) : Dev × Nv :=
  let count := d.headCount xx
  let serial := d.pair .TR_SERLO_SERIAL .TR_SERHI_SERIAL xx
  let mac := match d.ot.km with | some km => headMac km serial (d.fld .TR_TYPE_TYPE xx) count | none => []
  let rec_ := le 8 count ++ mac
  let (d, sent) := d.idWrite xx 0xD3 rec_ wr
  let (d, back) := if sent then d.idRead xx 0x93 24 rd else (d, none)
  if back = some rec_ then
    let d := d.setWrittenBack xx count
    let d := { d with wear := { d.wear with wbRun := Store.set (fun _ => false) d.wear.wbRun xx false,
                                            wbAt := Store.set (fun _ => 0) d.wear.wbAt xx d.now } }
    (if d.trState xx = 3 then (d.setFld .TR_STAT_STATE xx 0 1).followPower xx 4 else d, v)
  else
    ((d.setOn .TR_STAT_WBFAIL xx 0 true).unitEvent (d.portBay xx) 1 0x1401 xx (count % 2 ^ 32) 0, v)

/-! ## Checkpoints (R325, R326, R378, R379) -/

/-- The causes of a checkpoint (R385). -/
def ckPeriodic := 0
def ckOrderly := 1
def ckService := 2
def ckReload := 3

/-- A checkpoint starts, or one that runs serves it (R378); those of R325 make changed heads due for write-back (R380). -/
def Dev.ckptStart (d : Dev) (cause : Nat) : Dev :=
  let d := if cause = ckPeriodic then d
    else { d with wear := { d.wear with wbRun := forN 32 (fun xx m =>
      if d.headCount xx != d.writtenBack xx then Store.set (fun _ => false) m xx true else m) d.wear.wbRun } }
  if d.wear.ckpt.isSome then d
  else
    let d := { d with wear := { d.wear with ckpt := some (cause, d.now), lastStart := some d.now } }
    (d.setFld .WR_CKPT_STATE 0 0 1).setFld .WR_CKPT_CAUSE 0 0 cause

/-- The orderly condition (R325): every present bay in STANDBY with every HPxx_PEN of it low. -/
def Dev.orderly (d : Dev) : Bool :=
  d.bayModes && d.presentBays.all fun b => (d.bay b).mode == .standby && (d.portsOf b).all fun xx => !d.on .HP_PWR_PEN xx

/-- The orderly checkpoint is due. -/
def Dev.orderlyDue (d : Dev) : Bool :=
  d.orderly && !d.wear.orderlyHeld && (match d.wear.lastStart with | some t => decide (sec 1 ≤ d.now - t) | none => true)

/-- The periodic one is due. -/
def Dev.periodicDue (d : Dev) : Bool := d.running && decide (d.wear.nextPeriodic ≤ d.now)

/-- A checkpoint has written the tally store (R378, R379): the entries whose counter has changed, the port records and the device record;
`failed` are the words that did not verify, with what they hold. -/
def ckptDone (d : Dev) (v : Nv) (failed : List (Nat × Nat)) : Dev × Nv :=
  let failed := failed.filter fun f => decide (131072 ≤ f.1) || Store.get (fun _ => false) d.wear.changed f.1
  let port (xx : Nat) : TallyPort :=
    { serial := held failed (tallyPort xx) (d.serialOf xx), count := held failed (tallyPort xx + 1) (d.headCount xx),
      wb := held failed (tallyPort xx + 2) (d.writtenBack xx), rate := held failed (tallyPort xx + 3) (d.fld .WR_HRATE_RATE xx),
      est := d.on .WR_HSTAT_EST xx }
  let cnt := d.wear.changed.foldl (fun m x =>
    Store.set (fun _ => 0) m x.1 (heldCnt failed x.1 (Store.get (fun _ => 0) d.wear.cnt x.1))) v.cnt
  let v := { v with cnt := cnt, hours := held failed tallyDevice (d.fld .WR_HOURS_HOURS) }
  let v := forN 32 (fun xx v => v.setTally xx (port xx)) v
  let d := { d with wear := { d.wear with ckpt := none, tally := cnt, changed := [] } }
  if failed.isEmpty then
    (((d.setFld .WR_CKPT_STATE 0 0 2).bump .WR_CKPT_DONE 0 0).setPair .WR_CKTBLO_TB .WR_CKTBHI_TB 0 0 d.tb, v)
  else ((d.setFld .WR_CKPT_STATE 0 0 3).tallyFails failed, v)

/-- LOAD restores every counter and record (R379): `ue` are the tally words that read uncorrectable. A nozzle entry of them restores as 0,
which the next checkpoint writes. -/
def Dev.tallyLoad (d : Dev) (v : Nv) (ue : List Nat) : Dev :=
  let word (k val : Nat) : Nat := if ue.contains k then Config.tallyLost k else val
  let cnt := v.cnt.filter fun x => !ue.contains x.1
  let lost := ue.foldl (fun m k => if k < 131072 then Store.set (fun _ => false) m k true else m) []
  let d := { d with wear := { d.wear with cnt := cnt, tally := cnt, changed := lost } }
  let d := forN 32 (fun xx d =>
    let t := v.tally xx
    let d := (d.setHeadCount xx (word (tallyPort xx + 1) t.count)).setWrittenBack xx (word (tallyPort xx + 2) t.wb)
    let d := (d.setFld .WR_HRATE_RATE xx 0 (word (tallyPort xx + 3) t.rate)).setSerial xx (word (tallyPort xx) t.serial)
    d.setOn .WR_HSTAT_EST xx 0 (t.est || ue.any fun k => k / 4096 == xx && k < 131072)) d
  let d := d.setFld .WR_HOURS_HOURS 0 0 (word tallyDevice v.hours)
  let d := d.bump .WR_TSTAT_UE 0 0 ue.length
  ue.foldl (fun d k => (d.signal srcTally 0xFF).devEvent d.steward 1 0x1502 0xFF k 1) d

/-! ## Ageing (R381, R382) -/

/-- The prediction of a trend in days (R382); samples oldest first. -/
def daysTrend (w : Nat) (y : List Int) (limit : Int) (rising : Bool) : Option Int :=
  if y.length < w || w = 0 then none
  else
    let sk : Int := (w : Int) * (w - 1) / 2
    let skk : Int := ((w : Int) - 1) * w * (2 * w - 1) / 6
    let num := (w : Int) * (y.zipIdx).foldl (fun t p => t + (p.2 : Int) * p.1) 0 - sk * y.foldl (· + ·) 0
    let den := (w : Int) * skk - sk * sk
    let last := y.getLast?.getD 0
    let gap := if rising then limit - last else last - limit
    if gap ≤ 0 then some 0
    else
      let s := if rising then num else -num
      if s ≤ 0 then none else some (min (gap * den / (s * 24)) 65534)

/-- The prediction of a head count in days (R382). -/
def Dev.daysCount (d : Dev) (xx : Nat) : Option Int :=
  let rem : Int := (d.fld .WR_HLIFE_LIFE xx * 100000000 * d.fld .HP_PROF_NOZZLES xx : Nat) - (d.headCount xx : Int)
  let rate := d.fld .WR_HRATE_RATE xx
  if rem ≤ 0 then some 0 else if rate = 0 then none else some (min (rem / (rate * 1000000 * 24 : Nat)) 65534)

/-- The smallest prediction of a list, with its cause numbered from 1; 0xFFFF and cause 0 when every one is none. -/
def soonest (l : List (Option Int)) : Nat × Nat :=
  (l.zipIdx).foldl (fun acc x => match x.1 with
    | some v => if v.toNat < acc.1 then (v.toNat, x.2 + 1) else acc
    | none => acc) (0xFFFF, 0)

/-- A sample joins a trend of the last `w` (R381). -/
def Nv.pushTrend (v : Nv) (w k : Nat) (s : Int) : Nv := v.setTrend k ((s :: v.trendOf k).take w)

/-- The newest samples that did not verify hold something else (R379). -/
def Nv.trendFails (v : Nv) (failed : List (Nat × Nat)) : Nv :=
  failed.foldl (fun v f => if f.1 < tallyTrend then v else
    match v.trendOf (f.1 - tallyTrend) with
    | _ :: l => v.setTrend (f.1 - tallyTrend) ((f.2 : Int) :: l)
    | [] => v) v

/-- The samples of a trend, oldest first. -/
def Nv.samples (v : Nv) (w k : Nat) : List Int := ((v.trendOf k).take w).reverse

/-- The footprint drift of a head (R381). -/
def Dev.fpDrift (d : Dev) (xx : Nat) : Nat :=
  let l := ((List.range (d.fld .HP_PROF_NOZZLES xx)).filter (d.fpValid xx)).map fun n =>
    let f : Int := d.fpF0 xx n
    let g := d.fpFl xx n
    if g = 0 then Config.driftZero xx n else (f - g).natAbs * 10000 / g
  if l.isEmpty then Config.driftNone xx else l.foldl (· + ·) 0 / l.length

/-- A prediction reaches its register, with the warning of R382. -/
def Dev.setDays (d : Dev) (days cause : Fld) (i : Nat) (p : Nat × Nat) (warn : Dev → Dev) : Dev :=
  let was := d.fld days i
  let d := (d.setFld days i 0 p.1).setFld cause i 0 p.2
  let w := d.fld .WR_CFG_WARNDAYS
  if p.1 ≤ w && w < was then warn d else d

/-- The hourly sample of a head. -/
def sampleHead (d : Dev) (v : Nv) (xx : Nat) : Dev × Nv :=
  let w := d.fld .WR_CFG_TREND
  let h := Store.get (fun _ => 0) d.wear.hourDrops xx / 1000000
  let r : Int := d.fld .WR_HRATE_RATE xx
  let d := d.setFld .WR_HRATE_RATE xx 0 (r + ((h : Int) - r) / 8).toNat
  let hist := (Store.get (fun _ => 0) d.wear.churnHour xx :: Store.get (fun _ => []) d.wear.churn xx).take 24
  let churn : Nat := min 65535 (hist.foldl (· + ·) (0 : Nat))
  let drift := min 65535 (d.fpDrift xx)
  let d := { d with wear := { d.wear with churn := Store.set (fun _ => []) d.wear.churn xx hist } }
  let d := (d.setFld .WR_HIND_CHURN xx 0 churn).setFld .WR_HIND_DRIFT xx 0 drift
  let v := ((v.pushTrend w (2 * xx) churn).pushTrend w (2 * xx + 1) drift).pushTrend w (68 + xx) (d.headCount xx)
  let p := soonest [d.daysCount xx, daysTrend w (v.samples w (2 * xx)) (d.fld .WR_HILIM_CHLIM xx) true,
    daysTrend w (v.samples w (2 * xx + 1)) (d.fld .WR_HILIM_DRLIM xx) true]
  (d.setDays .WR_HLIFEP_DAYS .WR_HLIFEP_CAUSE xx p fun d => d.unitEvent (d.portBay xx) 1 0x1501 xx p.1 p.2, v)

/-- The hourly sample is due. -/
def Dev.trendDue (d : Dev) : Bool := d.running && decide (d.wear.nextTrend ≤ d.tb)

/-- The hourly sample (R381, R382). -/
def trendSample (d : Dev) (v : Nv) (o : TrendObs) : Dev × Nv :=
  let w := d.fld .WR_CFG_TREND
  let (d, v) := (List.range 32).foldl (fun a xx => sampleHead a.1 a.2 xx) (d, v)
  let d := d.setFld .WR_RO_DRIFT 0 0 (enc 16 o.ring)
  let d := ((d.setFld .WR_MARG_DDR 0 0 o.ddr).setFld .WR_MARG_PCIE 0 0 o.pcie).setFld .WR_MARG_ETH 0 0 o.eth
  let v := v.pushTrend w 64 o.ring
  let eye (v : Nv) (k e : Nat) : Nv := if e = 0xFF then v else v.pushTrend w k e
  let v := eye (eye (eye v 65 o.ddr) 66 o.pcie) 67 o.eth
  let p := soonest [daysTrend w (v.samples w 64) (d.fld .WR_DLIM_ROLIM) true, daysTrend w (v.samples w 65) (d.fld .WR_DLIM_DDRLIM) false,
    daysTrend w (v.samples w 66) (d.fld .WR_DLIM_SERLIM) false, daysTrend w (v.samples w 67) (d.fld .WR_DLIM_SERLIM) false]
  let d := d.setDays .WR_DLIFE_DAYS .WR_DLIFE_CAUSE 0 p fun d => d.devEvent d.steward 1 0x1501 0xFF p.1 (p.2 + 256)
  let d := d.setFld .WR_HOURS_HOURS 0 0 (d.fld .WR_HOURS_HOURS + 1)
  let d := { d with wear := { d.wear with hourDrops := [], churnHour := [], nextTrend := d.wear.nextTrend + 3600 * sec 1 } }
  let v := { v with hours := held o.failed tallyDevice (d.fld .WR_HOURS_HOURS) }
  if o.failed.isEmpty then (d, v) else (d.tallyFails o.failed, v.trendFails o.failed)

end Sys2Proof.Machine
end

