-- ==== Sys2Proof/Machine/Peek.lean ====
section
/-! DEFINITION. What registers read as: the stored word with the quantities that the device computes (R19, R38, R63, R79, R81, R103, R106,
R113, R143, R159, R167, R191, R245, R262, R289, R303, R307, R373, R384, R408), and the set a snapshot latches (R76). -/

namespace Sys2Proof.Machine

/-- Fields put into a word, low bit and width with each value. -/
def putAll (w : Word) (l : List (Fld × Nat)) : Word := l.foldl (fun w x => wput w x.1.lo x.1.width x.2) w

/-- A truth value as a bit. -/
def bit (b : Bool) : Nat := if b then 1 else 0

/-- The need of the frame store in units of 1/(8 × 10^8 × P) MB/s above the fixed 3,000 MB/s, and P (R106): `l` gives the registers. -/
def Dev.bwNeed (l : Dev) : Nat × Nat :=
  let here := l.presentBays
  let heads := here.foldl (fun t b => (l.portsOf b).foldl (fun t xx =>
    if l.fld .RI_RSLOTS_SLOTS xx = 0 then t
    else t + 2 * slotBytes (l.fld .RI_FMT_FORMAT xx) (l.fld .RI_FMT_WIDTH xx) * l.fld .RI_BAYRATE_MAXHZ b) t) 0
  let cams := (List.range 4).filter fun n =>
    l.fld .CM_BUF_FMT n != 0 && (match l.camBay n with | some b => l.present b | none => false)
  let p := cams.foldl (fun p n => p * max 1 (l.fld .CM_BUF_EVERY n)) 1
  let cam := cams.foldl (fun t n => t + l.fld .CM_GEOM_WIDTH n * l.fld .CM_GEOM_ROWS n * ringPx (l.fld .CM_BUF_FMT n)
    * l.fld .CM_RATE_FPS n * (p / max 1 (l.fld .CM_BUF_EVERY n))) 0
  (9 * (heads * 100 * p + cam), p)

/-- R106: the need does not exceed 60,000 MB/s. -/
def Dev.bwOk (l : Dev) : Bool := let n := l.bwNeed; decide (n.1 ≤ 57000 * (800000000 * n.2))

/-- RI_BWUSE.USED: the need, rounded up. -/
def Dev.bwUsed (l : Dev) : Nat := let n := l.bwNeed; min 0xFFFF (3000 + (n.1 + 800000000 * n.2 - 1) / (800000000 * n.2))

/-- The level at a compare output (R167): the one that SV_FORCE forces in SERVICE (R395; a released output or one of high impedance has no stated
level), and otherwise the engine's. -/
def Dev.cmpPin (d : Dev) (o : Nat) : Bool :=
  match d.forceCode (8 + o) with
  | 0 => (d.cmpLevel o).getD (Config.releasedLevel o)
  | 1 => false
  | 2 => true
  | _ => Config.releasedLevel o

/-- The levels of the islands, GL_MODE and the state a word of the register store does not hold: the word that an access to an
instance reads, with OT_CNT from the cells of OTP. -/
def Dev.peekReg (d : Dev) (v : Nv) (r : RegName) (i j : Nat) : Word :=
  let w := d.word (r.off i j)
  match r with
  | .GL_ID => glId
  | .GL_MODE => putAll 0 [(.GL_MODE_DEV, d.devCode), (.GL_MODE_BAY0, d.modeCode 0), (.GL_MODE_BAY1, d.modeCode 1),
      (.GL_MODE_BAY2, d.modeCode 2), (.GL_MODE_BAY3, d.modeCode 3)]
  | .GL_TBLO => BitVec.ofNat 32 d.tb
  | .GL_TBHI => BitVec.ofNat 32 (d.tb / 2 ^ 32)
  | .GL_CCLO => BitVec.ofNat 32 (d.ccPacer i)
  | .GL_CCHI => BitVec.ofNat 32 (d.ccPacer i / 2 ^ 32)
  | .KS_STATUS =>
    let k := d.kset i
    putAll w [(.KS_STATUS_STATE, k.host.st.code), (.KS_STATUS_INTPEND, bit (k.int.st != .idle)),
      (.KS_STATUS_SNAPFULL, bit (d.snap i 0).taken + 2 * bit (d.snap i 1).taken)]
  | .KS_DSTATUS => putAll w [(.KS_DSTATUS_STATE, (d.kset 4).host.st.code)]
  | .KS_GEN => BitVec.ofNat 32 (d.bay i).gen
  | .KS_STAGED =>
    let k := d.kset i
    putAll 0 [(.KS_STAGED_STAGED, min 0xFFFF k.staging.length), (.KS_STAGED_PENDING, min 0xFFFF k.pending.length)]
  | .HS_CQTAIL => BitVec.ofNat 32 ((d.seat i).cmdq j).tail
  | .HS_CQHEAD => BitVec.ofNat 32 ((d.seat i).cmdq j).head
  | .HS_CQSEQ => BitVec.ofNat 32 ((d.seat i).cmdq j).exp
  | .HS_EQHEAD => BitVec.ofNat 32 ((d.seat i).evq j).head
  | .HS_EQTAIL => BitVec.ofNat 32 ((d.seat i).evq j).tail
  | .RI_FQTAIL => BitVec.ofNat 32 (d.itk i).fq.tail
  | .RI_FQHEAD => BitVec.ofNat 32 (d.itk i).fq.head
  | .RI_FQSEQ => BitVec.ofNat 32 (d.itk i).fq.exp
  | .RI_RNLO => BitVec.ofNat 32 (d.bay i).rn
  | .RI_RNHI => BitVec.ofNat 32 ((d.bay i).rn / 2 ^ 32)
  | .RI_NEXTLO => BitVec.ofNat 32 (d.itk i).u
  | .RI_NEXTHI => BitVec.ofNat 32 ((d.itk i).u / 2 ^ 32)
  | .RI_STAT => putAll w [(.RI_STAT_RING, bit ((d.itk i).geo.2.2.2 != 0)), (.RI_STAT_COMPLETE, min 0xFFFFFF (d.itk i).completeCount)]
  | .RI_BWUSE => putAll w [(.RI_BWUSE_USED, d.bwUsed)]
  | .SC_RATE =>
    let c := d.fld .RI_FMT_WIDTH i + 128
    putAll 0 [(.SC_RATE_CYCLES, c), (.SC_RATE_MAXR, min 0xFFFF (55000000 / c))]
  | .PS_STAT => putAll w [(.PS_STAT_FENCED, bit (d.psFenced i))]
  | .CP_OUT => putAll w [(.CP_OUT_LEVEL, bit (d.cmpPin i))]
  | .PC_STAT => putAll w [(.PC_STAT_SRC, if d.bayModes then (d.pc i).src else 0), (.PC_STAT_SENSE, bit (d.reverseNow i)),
      (.PC_STAT_INTACT, bit ((d.pc i).rate != 0)), (.PC_STAT_STOPREQ, bit (d.pc i).stop.isSome)]
  | .PC_SPEED => BitVec.ofNat 32 (d.pcSpeed i)
  | .PC_MARKLO => BitVec.ofNat 32 (enc 48 (d.pc i).m)
  | .PC_MARKHI => BitVec.ofNat 32 (enc 48 (d.pc i).m / 2 ^ 32)
  | .EM_STAT => putAll w [(.EM_STAT_BACKLOG, enc 17 (d.em i).k)]
  | .HP_PMIN => BitVec.ofNat 32 (d.pmin d i)
  | .HP_STAT => putAll w [(.HP_STAT_FENCED, bit (d.fbit .FC_FENCE0_HP 0 0 i))]
  | .HP_BAYSTAT => putAll w [(.HP_BAYSTAT_PMIN, d.pminBay d i)]
  | .CM_STAT => putAll w [(.CM_STAT_SAFE, bit (d.on .CM_CFG_EN i && decide (d.fifoNeed i ≤ 262144))), (.CM_STAT_FENCED, bit (d.camFenced i))]
  | .CM_FIFO => putAll w [(.CM_FIFO_NEED, if d.on .CM_CFG_EN i then min 511 ((d.fifoNeed i + 1023) / 1024) else 0)]
  | .CM_I2CCMD => putAll w [(.CM_I2CCMD_GO, bit (d.on .CM_I2CCMD_BUSY i))]
  | .SN_LEARN => putAll w [(.SN_LEARN_START, bit (d.on .SN_LEARN_BUSY i))]
  | .IN_RCTL => putAll w [(.IN_RCTL_BUSY, bit (d.regBusy i)), (.IN_RCTL_RESET, bit (d.regResets i))]
  | .TM_SCAN => if d.running then putAll w [(.TM_SCAN_LOAD, min 0xFFFF d.scanLoad)] else w
  | .TM_BSTAT => putAll w [(.TM_BSTAT_GRACELEFT, match (d.thro i).graceEnd with
      | some t => min 0xFFFF ((t - d.now + ms 10 - 1) / ms 10) | none => 0)]
  | .FC_REC => putAll w [(.FC_REC_SCPASS, bit (d.scPass i)), (.FC_REC_QLEFT, min 0xFFFF (d.quietLeft i))]
  | .FC_NERR => putAll w [(.FC_NERR_LOW, bit d.nerrLow)]
  | .OT_CHK => BitVec.ofNat 32 d.otChk
  | .OT_FIRST => BitVec.ofNat 32 d.otFirst
  | .OT_CNT => putAll 0 [(.OT_CNT_ROLLBACK, v.rollback), (.OT_CNT_XFER, v.xfer), (.OT_CNT_LOCKOUT, v.lockouts)]
  | .OT_OWNER => BitVec.ofNat 32 d.otOwner
  | .OT_OWNERID => d.otOwnerId
  | .OT_PCMD => putAll w [(.OT_PCMD_BUSY, bit (!d.ot.queue.isEmpty)), (.OT_PCMD_GO, bit (d.ot.queue.any fun q => q.src == 0))]
  | .OT_RAWS | .OT_RAWL | .OT_RAWC => if d.inService then w else 0
  | .TR_KEY => putAll w [(.TR_KEY_KM, bit d.ot.km.isSome)]
  | .WR_HSTAT => putAll w [(.WR_HSTAT_WBDUE, bit (d.wbDue i))]
  | .PT_ACTIVE => BitVec.ofNat 32 d.ptActive
  | _ => w

/-- The seat ring registers act on seats 0 and 1, the address registers on seats 2 and 3 (R80). -/
def RegName.actsOn (r : RegName) (s : Nat) : Bool :=
  match r with
  | .HS_IPADDR | .HS_UDPPORT | .HS_PEERIP | .HS_BOUNDIP | .HS_BOUNDPORT | .HS_MACLO | .HS_MACHI => decide (2 ≤ s)
  | .HS_CQBLO | .HS_CQBHI | .HS_CQSIZE | .HS_CQTAIL | .HS_CQHEAD | .HS_EQBLO | .HS_EQBHI | .HS_EQSIZE | .HS_EQHEAD | .HS_EQTAIL =>
    decide (s < 2)
  | _ => true

/-- The bay of a register instance's resource (R27): `none` for a resource in no bay. -/
def Dev.regBay (d : Dev) (r : RegName) (i : Nat) : Option Nat :=
  match r.info.owner with
  | .bay => some i
  | .ps => d.psBay i
  | .cpe => d.cpeBay i
  | .cmp => d.cmpBay i
  | .em => d.emBay i
  | .port => d.portBay i
  | .cam => d.camBay i
  | _ => none

/-- A register whose status every snapshot holds (R76): the GL, FC, TM and WR blocks. -/
def RegName.snapDev (r : RegName) : Bool :=
  let o := r.info.base
  decide (o < 0x10000) || (decide (0x20000 ≤ o) && decide (o < 0x40000)) || (decide (0x50000 ≤ o) && decide (o < 0x60000))

/-- The bits a snapshot latches of a register (R76). -/
def RegName.snapMask (r : RegName) (dev : Bool) : Word :=
  r.rows.foldl (fun m x => match x.acc with
    | .ro | .rc | .w1c => m ||| wmask x.fld.lo x.fld.width
    | .st => if dev then m else m ||| wmask x.fld.lo x.fld.width
    | _ => m) 0

/-- The words a snapshot of a bay latches (R76), by BAR0 offset; a word of zeros is not listed. -/
def Dev.snapWords (d : Dev) (b : Nat) : List (Nat × Word) :=
  RegName.all.flatMap fun r =>
    let dev := r.snapDev
    let m := r.snapMask dev
    (List.range r.info.count1).flatMap fun i =>
      if dev || d.regBay r i == some b then
        (List.range r.info.count2).filterMap fun j =>
          let w := d.peekReg {} r i j &&& m
          if w = 0 then none else some (r.off i j, w)
      else []

end Sys2Proof.Machine
end

