-- ==== Sys2Proof/Machine/Checks.lean ====
section
/-! DEFINITION. The checks of the Keystone (R69, checks 4 to 11) over the device as it stands, `d`, and the device with the values that a
commit would make govern, `t`: VALUE, TOPOLOGY, ALLOCATION, BANDWIDTH, PIPELINE and COURSE_RATE, and the field a refusal names. -/

namespace Sys2Proof.Machine

/-- A mode in which waveforms are parked and tables may change (R104, R142, R189, R252): STANDBY or HOLD. -/
def Mode.rests (m : Mode) : Bool := m == .standby || m == .hold

/-- A mode in which sounding runs (R204). -/
def Mode.sounds (m : Mode) : Bool := m == .print || m == .degraded || m == .prime || m == .calibrate

/-- The requested mode of a bay in the registers of `t` (R79). -/
def Dev.reqMode (t : Dev) (b : Nat) : Mode := Mode.ofCode (t.fld .KS_BAYCTL_MODE b)

/-- The bay's mode at the target course is advancing (R93). -/
def Dev.willAdvance (t : Dev) (b : Nat) : Bool := (t.reqMode b).advancing (t.on .RI_BAYCTL_HOLDPOL b)

/-- None of some fields of an instance changes. -/
def Dev.same (d t : Dev) (fs : List Fld) (i : Nat) : Bool := fs.all fun f => d.fld f i == t.fld f i

/-- Level code k of a pair of eight-entry registers. -/
def Dev.code8 (t : Dev) (lo hi : Fld) (i k : Nat) : Nat := (if k < 8 then t.fld lo i else t.fld hi i) / 16 ^ (k % 8) % 16

/-- Byte k of the volume registers (R219). -/
def Dev.volOf (t : Dev) (xx k : Nat) : Nat :=
  (match k / 4 with | 0 => t.fld .HM_VOL0_VOL xx | 1 => t.fld .HM_VOL1_VOL xx | 2 => t.fld .HM_VOL2_VOL xx | _ => t.fld .HM_VOL3_VOL xx)
    / 256 ^ (k % 4) % 256

/-- The owner of a threshold array (R124). -/
def Dev.arrOwner (t : Dev) (a : Nat) : Nat := t.code8 .SC_ARROWN0_OWN .SC_ARROWN1_OWN 0 a

/-- The fields of a head's profile and configuration block that R189 names. -/
def profFields : List Fld :=
  [.HP_PROF_CODEW, .HP_PROF_LANES, .HP_PROF_LMAP, .HP_PROF_SHIFTDIR, .HP_PROF_BITORD, .HP_PROF_LRATE, .HP_PROF_SRDIV, .HP_PROF_CFGFMT,
   .HP_PROF_LATPOL, .HP_PROF_CFGREP, .HP_PROF_NOZZLES, .HP_LANE_LSWAP, .HP_LANE_LINV, .HP_LANE_CFGN, .HP_RECIPE0_RCP, .HP_RECIPE1_RCP,
   .HP_RECIPE2_RCP, .HP_RECIPE3_RCP, .HP_GRP_GLOG2, .HP_GRP_NCH, .HP_GRP_GMODE]

/-- R208: the stimulus of an enabled sounding. -/
def Dev.soundOk (d t : Dev) (xx : Nat) : Bool :=
  let bank := t.fld .WV_CTL_BANK xx
  let wa := t.fld .WV_CTL_WA xx
  let swin := t.fld .SN_CFG_SWIN xx
  decide (swin < d.wvNwin xx bank wa) && btw 1 63 (t.fld .SN_CFG_EVERY xx) &&
    decide (d.wvEnd xx bank wa swin * t.tsOf xx + t.tfOf xx + t.fld .SN_CFG_SETTLE xx * 20000 + 5120000 ≤ d.tspan t xx + t.tcfg xx)

/-- VALUE of one head port (R105, R124, R125, R129, R181, R184 to R186, R188, R189, R195, R208, R219, R270). -/
def Dev.portValue (d t : Dev) (b xx : Nat) : List Bool :=
  let l := t.fld .SC_LEVELS_L xx
  let codes := 2 ^ t.fld .HP_PROF_CODEW xx
  let code := t.code8 .SC_CODEMAP0_CODE .SC_CODEMAP1_CODE xx
  let swap (k : Nat) : Nat := t.fld .HP_LANE_LSWAP xx / 4 ^ k % 4
  let bank := t.fld .WV_CTL_BANK xx
  let spc := t.spcOf xx
  [ t.fld .RI_FMT_WIDTH xx == t.fld .HP_PROF_NOZZLES xx,
    t.fld .SC_CTL_SCREEN xx != 0 ||
      (List.range (l - 1)).all fun k => t.arrOwner (t.code8 .SC_ARRSEL0_ARR .SC_ARRSEL1_ARR xx k) == b,
    decide (t.fld .SC_ED_WR xx + t.fld .SC_ED_WDL xx + t.fld .SC_ED_WD xx + t.fld .SC_ED_WDR xx ≤ 16),
    decide (l ≤ codes),
    code 0 == 0,
    (List.range l).all fun k => decide (code k < codes),
    (List.range 4).all fun k => (List.range 4).any fun q => swap q == k,
    t.reqMode b == .standby || (t.usedWaves xx).all fun q => d.wvValid xx bank q.2,
    t.fld .HP_RECIPE0_RCP xx % 256 == 0,
    t.fld .HP_PROF_CFGFMT xx != 1 || t.fld .HP_LANE_CFGN xx != 0,
    btw 1 4 spc,
    spc == 1 || (t.usedWaves xx).all fun q => decide (d.wvLen xx bank q.2 ≤ t.fld .HP_GSTEP_GSTEP xx),
    (d.bay b).mode.rests || (d.same t profFields xx && (List.range 8).all fun k => d.fld .HP_CFGX_WORD xx k == t.fld .HP_CFGX_WORD xx k),
    !(t.on .SN_CFG_EN xx && (t.reqMode b).sounds) || d.soundOk t xx,
    t.volOf xx 0 == 0 && (List.range (l - 1)).all fun k => decide (t.volOf xx k < t.volOf xx (k + 1)),
    !(t.on .IN_REG_EN xx || t.fld .IN_REG_CAM xx != d.fld .IN_REG_CAM xx) || t.camBay (t.fld .IN_REG_CAM xx) == some b ]

/-- VALUE of one position channel (R142, R149, R152). -/
def Dev.channelValue (d t : Dev) (b n : Nat) : List Bool :=
  let type := t.fld .PS_CFG_TYPE n
  [ (t.reqMode b).rests || d.same t [.PS_CFG_TYPE, .PS_CFG_QMODE, .PS_CFG_INV, .PS_SSI_BITS, .PS_SSI_GRAY, .PS_SSI_SDLY, .PS_SSI_CLKDIV,
      .PS_SSIT_PERIOD, .PS_SSIT_MAXSTEP] n,
    decide ((t.fld .PS_SSI_BITS n + 1) * (2 * (t.fld .PS_SSI_CLKDIV n + 1) * 5) ≤ t.fld .PS_SSIT_PERIOD n * 100),
    t.on .PS_CFG_WRAP n || decide (t.sfld .PS_LIMLO_LIM n ≤ t.sfld .PS_LIMHI_LIM n),
    t.fld .PS_CFG_ZMODE n == 0 || decide (type < 2) ]

/-- VALUE of one emulation output (R169): ZMODE 2 needs a source with a Z input. -/
def Dev.emulationValue (t : Dev) (n : Nat) : List Bool :=
  let s := t.fld .EM_CFG_SRC n
  [t.fld .EM_CFG_ZMODE n != 2 || (decide (s < 8) && decide (t.fld .PS_CFG_TYPE s < 2))]

/-- The structural fields of a camera port (R252). -/
def camFields : List Fld :=
  [.CM_CFG_EN, .CM_CFG_LANES, .CM_CFG_VC, .CM_CFG_DT, .CM_CFG_MOSAIC, .CM_CFG_MPH, .CM_GEOM_WIDTH, .CM_GEOM_ROWS, .CM_BUF_FMT,
   .CM_BUF_BASE, .CM_BUFN_COUNT]

/-- VALUE of one camera port (R237, R242, R249, R252). -/
def Dev.cameraValue (d t : Dev) (b n : Nat) : List Bool :=
  let w := t.fld .CM_GEOM_WIDTH n
  let rows := t.fld .CM_GEOM_ROWS n
  let mos := t.fld .CM_CFG_MOSAIC n
  let mph := t.fld .CM_CFG_MPH n
  let dim := mosaicDim mos
  [ !t.on .CM_CFG_EN n || (btw 256 4096 w && w % 16 == 0),
    !t.on .CM_CFG_EN n || (btw 4 8188 rows && rows % 4 == 0),
    !t.on .CM_CFG_EN n || decide (64 * w * dtBits (t.fld .CM_CFG_DT n) ≤ 2097152),
    t.fld .CM_TRIG_MODE n != 2 || t.cmpBay (t.fld .CM_TRIG_CMP n) == some b,
    decide (mph % 4 < dim) && decide (mph / 4 < dim),
    mos != 3 || rows % 4 == 0,
    (t.reqMode b).rests || d.same t camFields n ]

/-- VALUE of the bay's own registers (R106, R130, R158 to R160). -/
def Dev.bayValue (t : Dev) (b : Nat) : List Bool :=
  let ratio := t.pair .PC_RATLO_FRAC .PC_RATHI_INT b
  let chan := t.fld .PC_CTL_CHAN b
  let onCh := t.fld .PC_CTL_SRCSEL b == 1
  let stepped := onCh && !t.on .PC_CTL_INTERP b
  [ !t.willAdvance b || t.fld .RI_BAYRATE_MAXHZ b != 0,
    decide (t.fld .BD_PASS_PASS b ≤ t.fld .BD_CFG_PASSES b),
    ratio != 0,
    !onCh || t.psBay chan == some b,
    !stepped || decide (ratio ≤ 2 ^ 32),
    !stepped || t.fld .PS_CFG_TYPE chan != 3 ]

/-- VALUE of a bay: every rule that reads several fields. -/
def Dev.valueRules (d t : Dev) (b : Nat) : List Bool :=
  (t.portsOf b).flatMap (d.portValue t b)
    ++ ((List.range 8).filter fun n => t.psBay n == some b).flatMap (d.channelValue t b)
    ++ ((List.range 8).filter fun e => t.cpeBay e == some b).map
        (fun e => decide (8 ≤ t.fld .CP_CTL_SRC e) || t.psBay (t.fld .CP_CTL_SRC e) == some b)
    ++ ((List.range 4).filter fun n => t.emBay n == some b).flatMap t.emulationValue
    ++ ((List.range 4).filter fun n => t.camBay n == some b).flatMap (d.cameraValue t b)
    ++ t.bayValue b

/-- The factory SHUT of an on-die channel (R290). -/
def Dev.dieShut (d : Dev) : Int := if d.gradeE then 2000 else 1840

/-- VALUE of the device-wide registers (R280, R292). -/
def Dev.deviceRules (t : Dev) : List Bool :=
  (List.range 74).flatMap (fun c =>
    let shut := t.sfld .TM_THR1_SHUT c
    [ decide (t.sfld .TM_THR0_WARN c ≤ t.sfld .TM_THR0_THROT c), decide (t.sfld .TM_THR0_THROT c ≤ shut),
      decide (c < 68) || decide (shut ≤ t.dieShut) ])
  ++ (List.range 64).flatMap (fun i =>
    let cls := t.fld .FC_SRC_CLASS i
    let re := t.fld .FC_SRC_REACT i
    if srcFixed i || !srcListed i then [true]
    else [ cls != 0 || re == 0, re / 4 == 0 || cls == 3, cls != 3 || re / 4 != 0, re % 2 == 0 || (unitOf i 0).isSome ])

/-! ## TOPOLOGY (R23, R119) -/

/-- The heads of bar k among the ports assigned to bays. -/
def Dev.barHeads (t : Dev) (k : Nat) : List Nat :=
  (List.range 32).filter fun xx => (t.portBay xx).isSome && t.on .SC_BAR_INBAR xx && t.fld .SC_BAR_BAR xx == k

/-- The head at a position of a list of heads. -/
def Dev.atPos (t : Dev) (heads : List Nat) (p : Nat) : Option Nat := heads.find? fun xx => t.fld .SC_BAR_POS xx == p

/-- The rules of one bar. -/
def Dev.barRules (t : Dev) (k : Nat) : List Bool :=
  let hs := t.barHeads k
  let n := hs.length
  [ hs.isEmpty || (List.range n).all fun p => (t.atPos hs p).isSome,
    match t.atPos hs 0 with | some xx => t.fld .SC_BAR_LW xx == 0 | none => true,
    match t.atPos hs (n - 1) with | some xx => t.fld .SC_BAR_RW xx == 0 | none => true,
    (List.range (n - 1)).all fun p => match t.atPos hs p, t.atPos hs (p + 1) with
      | some a, some c => t.fld .SC_BAR_RW a == t.fld .SC_BAR_LW c
      | _, _ => true,
    match hs with | [] => true | x :: r => r.all fun y => t.portBay y == t.portBay x ]

/-- TOPOLOGY of a bay: its heads, and the bars with a head in it. -/
def Dev.topoRules (t : Dev) (b : Nat) : List Bool :=
  (t.portsOf b).flatMap (fun xx =>
    [ decide (t.fld .SC_BAR_LW xx + t.fld .SC_BAR_RW xx ≤ t.fld .RI_FMT_WIDTH xx),
      t.on .SC_BAR_INBAR xx || (t.fld .SC_BAR_LW xx == 0 && t.fld .SC_BAR_RW xx == 0) ])
  ++ ((List.range 32).filter fun k => (t.barHeads k).any fun xx => t.portBay xx == some b).flatMap t.barRules

/-! ## ALLOCATION (R104, R240) -/

/-- The spans in MiB that rings and camera buffers of present bays take: first MiB, one past the last. -/
def Dev.spans (t : Dev) : List (Nat × Nat) :=
  t.presentBays.flatMap fun b =>
    ((t.portsOf b).filter fun xx => t.fld .RI_RSLOTS_SLOTS xx != 0).map (fun xx =>
      let a := t.fld .RI_RBASE_BASE xx
      (a, a + (t.fld .RI_RSLOTS_SLOTS xx * slotBytes (t.fld .RI_FMT_FORMAT xx) (t.fld .RI_FMT_WIDTH xx) + 1048575) / 1048576))
    ++ ((List.range 4).filter fun n => t.camBay n == some b && t.fld .CM_BUF_FMT n != 0).map (fun n =>
      let a := t.fld .CM_BUF_BASE n
      (a, a + (t.fld .CM_BUFN_COUNT n * ringSpan (t.fld .CM_BUF_FMT n) (t.fld .CM_GEOM_WIDTH n) (t.fld .CM_GEOM_ROWS n) + 1048575) / 1048576))

/-- No two spans of a list share a MiB. -/
def apart : List (Nat × Nat) → Bool
  | [] => true
  | x :: r => (r.all fun y => decide (x.2 ≤ y.1) || decide (y.2 ≤ x.1)) && apart r

/-- ALLOCATION with a capacity in MiB. -/
def Dev.allocRules (d t : Dev) (b cap : Nat) : List Bool :=
  let sp := t.spans
  [ sp.all fun s => decide (s.2 + 64 ≤ cap), apart sp ]
  ++ t.presentBays.flatMap (fun p => (t.portsOf p).map fun xx =>
      t.fld .RI_RSLOTS_SLOTS xx == 0 || decide (t.fld .RI_DELAY_DELAY xx + 2 ≤ t.fld .RI_RSLOTS_SLOTS xx))
  ++ (t.portsOf b).map (fun xx =>
      (t.reqMode b).rests || d.same t [.RI_FMT_FORMAT, .RI_FMT_WIDTH, .RI_RBASE_BASE, .RI_RSLOTS_SLOTS] xx)

/-! ## PIPELINE (R113, R244) and COURSE_RATE (R195) -/

def Dev.pipeRules (t : Dev) (b : Nat) : List Bool :=
  let cams := (List.range 4).filter fun n => t.on .CM_CFG_EN n && (match t.camBay n with | some p => t.present p | none => false)
  (t.portsOf b).map (fun xx => !t.willAdvance b || t.fld .RI_RSLOTS_SLOTS xx == 0 ||
    decide ((t.fld .RI_FMT_WIDTH xx + 128) * t.fld .RI_BAYRATE_MAXHZ b ≤ 550000000))
  ++ [decide (cams.foldl (fun s n => s + t.fld .CM_RATE_FPS n * t.fld .CM_GEOM_ROWS n * (t.fld .CM_GEOM_WIDTH n + 16)) 0 ≤ 190000000000)]

def Dev.rateRules (d t : Dev) (b : Nat) : List Bool :=
  let p := d.pminBay t b
  let m := t.reqMode b
  let gen := t.fld .PC_CTL_SRCSEL b == 2 || (m == .prime && t.on .PC_CTL_GENPRIME b) || (m == .calibrate && t.on .PC_CTL_GENCAL b)
  [ !t.willAdvance b || decide (t.fld .RI_BAYRATE_MAXHZ b * p ≤ 1000000000),
    !gen || decide (p ≤ t.fld .PC_GEN_PERIOD b * 5) ]

/-! ## The field a refusal names (R69) -/

/-- No single field causes a failure. -/
def noField : Nat := 0xFFFFFFFF

/-- The first staged field without which some failing rule passes: `rules` are those of the failing check over a set of values. -/
def blame (rules : List Staged → List Bool) (l : List Staged) : Nat :=
  let now := rules l
  match l.find? fun x => (List.zip now (rules (l.filter fun y => y.key != x.key))).any fun q => !q.1 && q.2 with
  | some x => x.off
  | none => noField

/-- The staged values that lie outside their fields' ranges (check 6). -/
def outOfRange (l : List Staged) : Option Staged := l.find? fun x =>
  match decodeOff x.off with
  | some (r, _, _) => !Fld.legal ⟨r, x.lo, x.width⟩ x.val
  | none => false

/-- Checks 6 to 11 of a bay: the reason and the offset named, or none when they pass. `base` is the device the values are put into. -/
def Dev.bayChecks (d base : Dev) (b : Nat) (l : List Staged) : Option (Reason × Nat) :=
  let with_ (l : List Staged) : Dev := base.withFields l
  let t := with_ l
  let judge (reason : Reason) (rules : List Staged → List Bool) (next : Option (Reason × Nat)) : Option (Reason × Nat) :=
    if (rules l).all id then next else some (reason, blame rules l)
  match outOfRange l with
  | some x => some (.value, x.off)
  | none =>
    judge .value (fun l => d.valueRules (with_ l) b) <|
    judge .topology (fun l => (with_ l).topoRules b) <|
    judge .allocation (fun l => d.allocRules (with_ l) b (d.fld .RI_FSSTAT_CAPMIB)) <|
    if !t.bwOk then some (.bandwidth, blame (fun l => [(with_ l).bwOk]) l)
    else
      judge .pipeline (fun l => (with_ l).pipeRules b) <|
      judge .courseRate (fun l => d.rateRules (with_ l) b) none

/-- Check 6 of a device-wide commit. -/
def Dev.deviceChecks (d : Dev) (l : List Staged) : Option (Reason × Nat) :=
  match outOfRange l with
  | some x => some (.value, x.off)
  | none =>
    let rules (l : List Staged) : List Bool := (d.withFields l).deviceRules
    if (rules l).all id then none else some (.value, blame rules l)

end Sys2Proof.Machine
end

