-- ==== Sys2Proof/Machine/Keystone.lean ====
section
/-! DEFINITION. The Keystone (R63 to R77): commits from the COMMIT frame to ARMED, their refusal, cancellation and timeout, what an apply
changes, internal and device-wide commits, and the snapshot buffers. -/

namespace Sys2Proof.Machine

/-- The host slot of a bay (0 to 3) or the device-wide slot (4). -/
def Dev.setHost (d : Dev) (set : Nat) (s : KSlot) : Dev := d.setKset set { d.kset set with host := s }

/-- A host commit is in a state in which a CANCEL could find it, or an apply could come. -/
def Dev.hostBusy (d : Dev) (set : Nat) : Bool := (d.kset set).host.st != .idle

/-! ## Refusals (R66, R69) -/

/-- The refusal is shown in the registers of the set and raises COMMIT_REFUSED (R58, R69, R79). -/
def Dev.noteRefusal (d : Dev) (set reason off : Nat) : Dev :=
  if set < 4 then
    let d := ((d.setFld .KS_STATUS_REASON set 0 reason).setFld .KS_REFOFF_OFF set 0 off).bump .KS_CNT_REFUSED set 0
    d.bayEvent set 1 0x0101 0xFF reason off
  else (d.setFld .KS_DSTATUS_REASON 0 0 reason).devEvent d.steward 1 0x0101 0xFF reason off

/-- The completion of a refused COMMIT (R64, R69). -/
def Dev.completeRefused (d : Dev) (h : CmdHdr) (set reason : Nat) : Dev :=
  d.complete h 0x0010 .commitRefused (commitResult (Config.refusedTarget set reason) (Config.refusedGen set reason) reason)

/-- A commit that found its pending set ends without applying: its values return to the staging set (R63), the curve staging bank keeps
its contents and ARM (R121), and its COMMIT is answered if it still waits. -/
def Dev.refuseHost (d : Dev) (set reason off : Nat) : Dev :=
  let s := (d.kset set).host
  let d := (d.returnPending set).setHost set {}
  let d := if set < 4 then d.setOn .SC_CVSTG_PEND set 0 false else d
  let d := d.noteRefusal set reason off
  match s.origin with
  | some h => if s.st = .armed then d else d.completeRefused h set reason
  | none => d

/-! ## The COMMIT frame (R64, R65, R69, R73) -/

/-- Check 12 (R68): a target out of the reach of the pacer's agent. -/
def Dev.reachBad (d : Dev) (b target : Nat) : Option Reason :=
  let x := sub48 target (d.ccPacer b)
  if x < 2 then some .tooLate else if 2 ^ 32 ≤ x then some .tooFar else none

/-- Checks 3 to 5 of a bay's commit over the values that would govern. -/
def Dev.earlyChecks (d t : Dev) (b : Nat) (rec : CommitRec) : Option (Reason × Nat) :=
  let m := (d.bay b).mode
  let want := t.fld .KS_BAYCTL_MODE b
  let changes := want != d.fld .KS_BAYCTL_MODE b
  let off := RegName.off .KS_BAYCTL b 0
  if rec.expect && (d.bay b).gen != rec.expgen then some (.stale, noField)
  else if changes && want != 0 && want != 5 && d.bayHalted b then some (.fault, off)
  else if changes && want == 4 then some (.mode, off)
  else if rec.now && changes then some (.mode, off)
  else if rec.now && !m.rests then some (.mode, noField)
  else if m == .hold && want != 5 && d.nstopLow b then some (.mode, off)
  else none

/-- The device as the checks of bay `b` find the other bays: with the values of their commits that have passed their checks (R104). -/
def Dev.othersArmed (d : Dev) (b : Nat) : Dev :=
  forN 4 (fun p d => if p = b then d else
    let k := d.kset p
    if k.host.st = .preparing || k.host.st = .armed then d.withFields k.pending else d) d

/-- The checks of a bay's commit, in the order of R69. -/
def Dev.commitChecks (d : Dev) (b : Nat) (rec : CommitRec) (l : List Staged) : Option (Reason × Nat) :=
  let base := d.othersArmed b
  match d.earlyChecks (base.withFields l) b rec with
  | some r => some r
  | none =>
    match d.bayChecks base b l with
    | some r => some r
    | none => if rec.next || rec.now then none else (d.reachBad b rec.target).map fun r => (r, noField)

/-- The staging set moves whole into the pending set (R63), and with ARM set the curve staging bank joins it (R121). -/
def Dev.formPending (d : Dev) (set : Nat) : Dev :=
  let k := d.kset set
  let d := d.setKset set { k with pending := k.staging, staging := [] }
  if set < 4 && d.on .SC_CVSTG_ARM set then d.setOn .SC_CVSTG_PEND set 0 true else d

/-- A commit of a bay is executed: check 1 and 2 before the pending set forms, the others over it; then its prepare messages go out. -/
def Dev.commitBay (d : Dev) (h : CmdHdr) (rec : CommitRec) : Dev :=
  let b := rec.bay
  let own := match h.src with | .seat s => s.val == b | .console => true
  if !own then
    let d := match h.src with
      | .seat s => if d.reach s.val then
          d.post s.val 1 true (eventFrame s.val 1 0x0101 (if b < 4 then b else 0xFF) 0xFF (d.bay b).gen d.tb (d.bay b).cc Reason.absent.code noField)
        else d
      | .console => d
    d.completeRefused h b Reason.absent.code
  else if !d.present b then (d.noteRefusal b Reason.absent.code noField).completeRefused h b Reason.absent.code
  else if d.hostBusy b then (d.noteRefusal b Reason.busy.code noField).completeRefused h b Reason.busy.code
  else
    let l := (d.kset b).staging
    let d := (d.formPending b).setHost b { st := .preparing, cmd := rec, origin := some h, prepAt := d.now }
    match d.commitChecks b rec l with
    | some (r, off) => d.refuseHost b r.code off
    | none => d

/-- A device-wide commit is executed (R73); it passes check 6 only. -/
def Dev.commitDevice (d : Dev) (h : CmdHdr) (rec : CommitRec) : Dev :=
  let steward := match h.src with | .seat s => s.val == d.steward | .console => true
  if !steward then d.complete h 0x0010 .refusedSteward []
  else if d.hostBusy 4 then (d.noteRefusal 4 Reason.busy.code noField).completeRefused h 4 Reason.busy.code
  else
    let l := (d.kset 4).staging
    let d := (d.formPending 4).setHost 4 { st := .preparing, cmd := rec, origin := some h, prepAt := d.now }
    if rec.expect && d.fld .KS_GENDEV_GEN != rec.expgen then d.refuseHost 4 Reason.stale.code noField
    else if !rec.next || rec.now then d.refuseHost 4 Reason.value.code noField
    else match d.deviceChecks l with
      | some (r, off) => d.refuseHost 4 r.code off
      | none => d

/-- COMMIT (R64). -/
def Dev.commit (d : Dev) (h : CmdHdr) (rec : CommitRec) : Dev :=
  if rec.bay = 4 then d.commitDevice h rec else d.commitBay h rec

/-! ## Applies (R66, R67, R71, R73) -/

/-- The generation rises, the apply is counted, and COMMIT_APPLIED says so. -/
def Dev.applied (d : Dev) (b target word1 : Nat) : Dev :=
  let x := d.bay b
  let d := (d.setBay b { x with gen := (x.gen + 1) % 2 ^ 32 }).bump .KS_CNT_APPLIED b 0
  d.bayEvent b 1 0x0100 0xFF target word1

/-- The values of the pending set become those that reads and work see, and the host slot is free again. -/
def Dev.applyHost (d : Dev) (b : Nat) : Dev :=
  let k := d.kset b
  let d := d.withFields k.pending
  let d := d.setKset b { d.kset b with pending := [], host := {} }
  (d.curveApply b).applied b k.host.target 0x0200

/-- What an apply of the bay's host commit brings with it outside the pacer (R227, R239, R252). -/
def Dev.applyEffects (d before : Dev) (b : Nat) : Dev :=
  let d := (d.portsOf b).foldl (fun d xx => d.stimChange before xx) d
  d.camApply before b

/-- The code of an internal commit's source block (R58). -/
def IntSrc.range : IntSrc → Nat
  | .registration => 0x10
  | .thermal => 0x11
  | .fault => 0x12

/-- The values of an internal commit apply; the registration engine counts the heads it moved and keeps its target for them (R263,
R270). -/
def Dev.applyInternal (d : Dev) (b : Nat) : Dev :=
  let k := d.kset b
  match k.intReq with
  | none => d
  | some r =>
    let d := d.withFields r.fields
    let d := d.setKset b { d.kset b with int := {}, intReq := none }
    let d := if r.src == .registration then
        (d.portsOf b).foldl (fun d xx => if r.movesHead xx then
          { d with regTgt := Store.set (fun _ => none) d.regTgt xx (some k.int.target) }.bump .IN_RCNT_APPLIED xx 0 else d) d else d
    d.applied b k.int.target (1 + 256 * r.src.range)

/-- The block of an internal commit that ends without applying: the thermal engine and the collector ask again while their cause
remains (R283, R298); a registration commit is discarded (R264). -/
def Dev.internalFailed (d : Dev) (b : Nat) (src : IntSrc) : Dev :=
  match src with
  | .registration => d
  | .thermal => d.thrDone b false
  | .fault => d.fcFailed b

/-- An internal commit ends without applying. -/
def Dev.endInternal (d : Dev) (b : Nat) : Dev :=
  let k := d.kset b
  let d := d.setKset b { k with int := {}, intReq := none }
  match k.intReq with
  | some r => d.internalFailed b r.src
  | none => d

/-! ## Arming (R65, R68, R70, R73) -/

/-- A host commit that is ARMED with NOW applies at once (R70, R164); the intake switches to a new ring with boundary CC + 1 (R105). -/
def Dev.applyNow (d : Dev) (b : Nat) : Dev :=
  let before := d
  let l := d.withFields (d.kset b).pending
  let d := (d.portsOf b).foldl (fun d xx =>
    let d := if l.cfgWords xx != before.cfgWords xx && d.portReady xx then d.sendCfgOf l xx else d
    if before.edChanges l xx then d.edClear xx else d) d
  ((d.applyHost b).applyEffects before b).pacingApplied before b d.tb false

/-- Every acknowledgement for a host commit is in: the pacer's agent fixes its target or refuses it (R68). -/
def Dev.armHost (d : Dev) (b : Nat) : Dev :=
  let s := (d.kset b).host
  let n := if s.cmd.next || s.cmd.now then add48 (d.ccPacer b) 2 else s.cmd.target
  match (if s.cmd.next || s.cmd.now then none else d.reachBad b n) with
  | some r => d.refuseHost b r.code noField
  | none =>
    let d := (d.setHost b { s with st := .armed, target := n }).setPair .KS_TGTLO_TGT .KS_TGTHI_TGT b 0 n
    let i := (d.kset b).int
    let gen := (d.bay b).gen + 1 + (if !s.cmd.now && i.st = .armed && before48 i.target n then 1 else 0)
    let d := match s.origin with
      | some h => d.complete h 0x0010 .ok (commitResult n (gen % 2 ^ 32) 0)
      | none => d
    if s.cmd.now then d.applyNow b else d

/-- A device-wide commit is ARMED and applies (R73): KS_GENDEV rises and the thermal engine takes the new values. -/
def Dev.armDevice (d : Dev) : Dev :=
  let k := d.kset 4
  let gen := (d.fld .KS_GENDEV_GEN + 1) % 2 ^ 32
  let d := match k.host.origin with
    | some h => d.complete h 0x0010 .ok (commitResult 0 gen 0)
    | none => d
  let d := d.withFields k.pending
  let d := d.setKset 4 { d.kset 4 with pending := [], host := {} }
  let d := d.setFld .KS_GENDEV_GEN 0 0 gen
  let d := if d.reach d.steward then
      d.post d.steward 1 true (eventFrame d.steward 1 0x0100 0xFF 0xFF gen d.tb 0 0 0x0200) else d
  let d := d.scanStart.shutEvalAll
  d.presentBays.foldl (fun d b => d.thrChanged b) d

/-- An internal commit is ARMED with N = CC + 2 (R71); registration shows its target (R264). -/
def Dev.armInternal (d : Dev) (b : Nat) : Dev :=
  let k := d.kset b
  let n := add48 (d.ccPacer b) 2
  let d := d.setKset b { k with int := { k.int with st := .armed, target := n } }
  match k.intReq with
  | some r =>
    if r.src == .registration then d.setPair .IN_RTGTLO_TGT .IN_RTGTHI_TGT b 0 n else d
  | none => d

/-- The slot a commit row names, with its set. -/
def Dev.slotOf (d : Dev) : Slot → KSlot
  | .host b => (d.kset b).host
  | .internal b => (d.kset b).int
  | .device => (d.kset 4).host

/-- Every agent holds its values (R65). -/
def Dev.arm (d : Dev) : Slot → Dev
  | .host b => d.armHost b
  | .internal b => d.armInternal b
  | .device => d.armDevice

/-- 100 µs of PREPARING have passed (R65). -/
def Dev.prepLate (d : Dev) (s : Slot) : Bool := (d.slotOf s).st == .preparing && decide ((d.slotOf s).prepAt + us 100 ≤ d.now)

/-- PREPARE_TIMEOUT (R65, R69, R291). -/
def Dev.prepareTimeout (d : Dev) (s : Slot) : Dev :=
  let d := d.signal srcKsTimeout 0xFF
  match s with
  | .host b => d.refuseHost b Reason.prepareTimeout.code noField
  | .device => d.refuseHost 4 Reason.prepareTimeout.code noField
  | .internal b => d.endInternal b

/-! ## CANCEL (R70) and the device's own cancellation (R321, R323) -/

/-- A CANCEL of the set's host commit is accepted. -/
def Dev.cancelOk (d : Dev) (set : Nat) : Bool :=
  let s := (d.kset set).host
  match s.st with
  | .idle => false
  | .checking | .preparing => true
  | .armed => set < 4 && !s.carried && (decide (3 ≤ sub48 s.target (d.ccPacer set)) || d.pacerQuiet set)

/-- CANCEL: the bay of the seat, or the device-wide set from the steward. -/
def Dev.cancel (d : Dev) (h : CmdHdr) (bay : Nat) : Dev :=
  let refusal : Option Status := match h.src with
    | .console => if bay < 5 then none else some .refusedBay
    | .seat s =>
      if bay = 4 then (if s.val = d.steward then none else some .refusedSteward)
      else if s.val = bay then none else some .refusedBay
  match refusal with
  | some st => d.complete h 0x0011 st []
  | none =>
    if d.cancelOk bay then (d.refuseHost bay Reason.cancelled.code noField).complete h 0x0011 .ok []
    else d.complete h 0x0011 .busy []

/-- Commits that are ARMED in bays without triggers for 1 ms are cancelled (R321). -/
def Dev.cancelStalled (d : Dev) : Dev :=
  forN 4 (fun b d =>
    if !d.pacerQuiet b then d
    else
      let d := if (d.kset b).host.st = .armed then d.refuseHost b Reason.cancelled.code noField else d
      if (d.kset b).int.st = .armed then d.endInternal b else d) d

/-- The internal requests that wait are discarded (R321). -/
def Dev.dropWaiting (d : Dev) : Dev :=
  forN 4 (fun b d =>
    let k := d.kset b
    k.waiting.foldl (fun d r => match r.src with | .thermal => d.thrDone b false | _ => d) (d.setKset b { k with waiting := [] })) d

/-- The two conditions of R321, tested after that cancellation. -/
def Dev.atRest (d : Dev) : Bool := d.presentBays.all fun b => (d.bay b).mode.rests
def Dev.noCommit (d : Dev) : Bool := (List.range 4).all fun b => (d.kset b).host.st == .idle && (d.kset b).int.st == .idle

/-! ## Internal commits start (R71, R264) -/

/-- The request served next: fault reaction, thermal clamp, registration. -/
def Ks.nextReq (k : Ks) : Option IntReq :=
  match k.waiting.find? (fun r => r.src == .fault) with
  | some r => some r
  | none => match k.waiting.find? (fun r => r.src == .thermal) with
    | some r => some r
    | none => k.waiting.head?

/-- A waiting request can start. -/
def Dev.internalReady (d : Dev) (b : Nat) : Bool := (d.kset b).int.st == .idle && !(d.kset b).waiting.isEmpty && d.bayModes

/-- The next request enters the internal slot; it passes no check (R71). -/
def Dev.startInternal (d : Dev) (b : Nat) : Dev :=
  let k := d.kset b
  match k.nextReq with
  | some r => d.setKset b { k with int := { st := .preparing, prepAt := d.now }, intReq := some r, waiting := k.waiting.filter (· != r) }
  | none => d

/-! ## Snapshots (R76, R77) -/

/-- A snapshot latches in its buffer: the words at the instant it records (R17), and the tag registers. -/
def Dev.snapLatch (d : Dev) (b k : Nat) (now : Bool) (stamp : Nat) : Dev :=
  let words := ({ d with now := d.instantOf stamp }).snapWords b
  let d := d.setSnap b k { taken := true, pendingAt := none, words := words }
  let d := d.setFld .KS_SNAPGEN_GEN b k (d.bay b).gen
  let d := d.setPair .KS_SNAPCCLO_CC .KS_SNAPCCHI_CC b k (d.bay b).cc
  let d := (d.setOn .KS_SNAPCCHI_VALID b k true).setOn .KS_SNAPCCHI_NOW b k now
  let d := d.setFld .KS_SNAPPT_PTACT b k d.ptActive
  d.bayEvent b 3 0x0102 0xFF k d.ptActive

/-- The snapshots whose latch point is course n latch (R76). -/
def Dev.snapBoundary (d : Dev) (b n stamp : Nat) : Dev :=
  forN 2 (fun k d => if (d.snap b k).taken && (d.snap b k).pendingAt == some n then d.snapLatch b k false stamp else d) d

/-- A buffer is freed (R77). -/
def Dev.snapFree (d : Dev) (b k : Nat) : Dev :=
  (d.setSnap b k {}).setOn .KS_SNAPCCHI_VALID b k false

/-- Every pending snapshot is cancelled (R77). -/
def Dev.snapCancel (d : Dev) : Dev :=
  forN 4 (fun b d => forN 2 (fun k d => if (d.snap b k).pendingAt.isSome then d.snapFree b k else d) d) d

/-- SNAP (R76, R77): `flags` is the FLAGS byte. -/
def Dev.snapReq (d : Dev) (h : CmdHdr) (bay flags target : Nat) : Dev :=
  let own := match h.src with | .seat s => s.val == bay | .console => decide (bay < 4)
  let next := flags % 2 == 1
  let now := flags / 2 % 2 == 1
  if next && now then d.complete h 0x0012 .badFrame []
  else if !own || !d.present bay then d.complete h 0x0012 .refusedBay []
  else if d.inService && !now then d.complete h 0x0012 .mode []
  else
    match (List.range 2).find? fun k => !(d.snap bay k).taken with
    | none => d.complete h 0x0012 .busy []
    | some k =>
      let reply (t : Nat) : List Byte := le 1 k ++ le 3 0 ++ le 8 t
      if now then
        if d.bayModes && !d.pacerQuiet bay then d.complete h 0x0012 .mode []
        else (d.snapLatch bay k true d.tb).complete h 0x0012 .ok (reply (d.bay bay).cc)
      else
        let t := if next then add48 (d.ccPacer bay) 1 else target
        match (if next then none else d.reachBad bay t) with
        | some r => d.complete h 0x0012 .commitRefused (commitResult t 0 r.code)
        | none => (d.setSnap bay k { taken := true, pendingAt := some t }).complete h 0x0012 .ok (reply t)

/-- SNAPRD (R77): the latched words from an offset on. -/
def Dev.snapRead (d : Dev) (h : CmdHdr) (bay buffer off len : Nat) : Dev :=
  let own := match h.src with | .seat s => s.val == bay | .console => decide (bay < 4)
  if !own then d.complete h 0x0013 .refusedBay []
  else if frameMax h < len then d.complete h 0x0013 .badFrame []
  else if off % 4 != 0 || len % 4 != 0 || 2 ≤ buffer then d.complete h 0x0013 .refusedAccess []
  else
    let s := d.snap bay buffer
    let word (o : Nat) : Word := ((s.words.find? fun x => x.1 == o).map (·.2)).getD 0
    d.complete h 0x0013 .ok ((List.range (len / 4)).flatMap fun i => le 4 (word (off + 4 * i)).toNat)

/-- SNAPREL (R77). -/
def Dev.snapRelease (d : Dev) (h : CmdHdr) (bay buffer : Nat) : Dev :=
  let own := match h.src with | .seat s => s.val == bay | .console => decide (bay < 4)
  if !own then d.complete h 0x0014 .refusedBay []
  else if 2 ≤ buffer then d.complete h 0x0014 .refusedAccess []
  else ((if (d.snap bay buffer).taken then d.snapFree bay buffer else d)).complete h 0x0014 .ok []

end Sys2Proof.Machine
end

