-- ==== Sys2Proof/Machine/Boundary.lean ====
section
/-! DEFINITION. A course boundary (R18 to R22, R35, R66 to R72, R93 to R103, R126, R316, R319): what the trigger message of course n does
to its bay, and the work for course n + 1 that starts with it. -/

namespace Sys2Proof.Machine

/-! ## The mode of a course (R316) -/

/-- The degrade mark once the internal commit that the trigger of course n carries has applied. -/
def Dev.markAt (d : Dev) (b n : Nat) : Bool :=
  let k := d.kset b
  if k.int.st = .armed && k.int.carried && k.int.target == n then
    match k.intReq with
    | some r => (match r.mark with
      | .degrade => true
      | .back => false
      | .keep => (d.bay b).mark)
    | none => (d.bay b).mark
  else (d.bay b).mark

/-- The mode of course n before a stop, from the registers of that course: the one requested, or DEGRADED. -/
def planMode (want : Mode) (mark : Bool) : Mode := if want == .print && mark then .degraded else want

/-! ## The applies of a boundary -/

/-- The host commit whose target is course n, and whose apply the trigger carried, applies (R66). -/
def Dev.hostAt (d : Dev) (b n : Nat) : Dev :=
  let k := (d.kset b).host
  if k.st = .armed && k.carried && k.target == n then d.applyHost b else d

/-- So does the internal one, after it (R71); its block learns of it (R282, R283, R298). -/
def Dev.intAt (d : Dev) (b n : Nat) : Dev :=
  let k := d.kset b
  if k.int.st = .armed && k.int.carried && k.int.target == n then
    let d := d.applyInternal b
    match k.intReq with
    | some r => if r.src == .thermal then d.thrDone b true else d
    | none => d
  else d

/-- The mode in force for course n is fixed (R316): `stop` is the stop that falls on the boundary, `mark` the degrade mark. -/
def Dev.modeAt (d : Dev) (b n : Nat) (stop : Option Nat) (mark : Bool) : Dev :=
  let old := (d.bay b).mode
  let want := d.reqMode b
  let held := stop.isSome && want != .standby
  let d := if held then d.holdRequested b else d
  let m := if held then .hold else planMode want mark
  let d := d.setBay b { d.bay b with mark := mark && !held && want == .print }
  let d := d.modeChange b m
  match stop with
  | some s => if held && old != .hold && s < 4 then d.bayEvent b 0 0x0103 0xFF s (n % 2 ^ 32) else d
  | none => d

/-! ## Rasters and diffusion buffers of the course confirmed (R98 to R103, R126) -/

/-- What an advancing course n leaves in the diffusion buffers of a head, once its latch has been decided: the raster fired, or it was
consumed without firing, a course that R97 skips among them. -/
def Dev.edConfirm (d : Dev) (xx n : Nat) (dec : Option Decision) : Dev :=
  match dec with
  | none => d.edRestore xx
  | some c =>
    if c.course ≠ n then d.edRestore xx
    else if c.kind = .fire && !c.ue && !c.barBlank && !c.tblErr && (d.hp xx).jobs.any (fun j => j.course == n && j.latch.isSome && !j.blank) then
      d.edTake xx
    else d.edClear xx

/-- The raster number moves with an advancing course (R93). -/
def Dev.rasterStep (d : Dev) (b : Nat) : Dev := d.setBay b { d.bay b with rn := add48 (d.bay b).rn 1 }

/-! ## The work for course n + 1 (R22) -/

/-- The port prints course n without a drop: all-zero codes (R98). -/
def Dev.queueBlank (d l : Dev) (xx n : Nat) : Dev := d.queueCourse l xx n (List.replicate (l.fld .HP_PROF_NOZZLES xx) 0) true

/-- The table words that the screening of a course reads (R135, R406): for each nozzle a curve, a level entry, a threshold or level value
and a bond cell, and a ramp word for each nozzle of a stitch (R118). -/
def Dev.tableReads (l : Dev) (b xx : Nat) : Nat :=
  let per := (if 2 ≤ l.fld .RI_FMT_FORMAT xx then 0
    else 1 + (if l.on .SC_CTL_DCEN xx then 1 else 0) + (if l.fld .SC_CTL_SCREEN xx ≤ 1 then 1 else 0))
    + (if l.on .BD_CFG_EN b then 1 else 0)
  let ramp := if l.fld .RI_FMT_FORMAT xx < 2 && l.on .SC_CTL_STEN xx && l.on .SC_CTL_RAMP xx then l.fld .SC_BAR_LW xx + l.fld .SC_BAR_RW xx
    else 0
  per * l.fld .HP_PROF_NOZZLES xx + ramp

/-- An uncorrectable error in a table word blanks the course (R135). -/
def Dev.tableError (d : Dev) (b xx : Nat) : Dev :=
  let d := d.setOn .SC_STAT_UE xx 0 true
  if h : b < 4 then d.signalBay srcSramUe 0xFF ⟨b, h⟩ else d

/-- A course of PRIME (R319): stages 4 and 7 with the course number for r; the ring is not read. -/
def Dev.prepPrime (d l : Dev) (b xx n : Nat) : Dev :=
  let d := d.setEngine xx { d.engine xx with primed := true }
  if d.scFenced xx then d.queueBlank l xx n
  else
    let lv := primeLevels (l.fld .HP_PROF_NOZZLES xx) (l.fld .SC_LEVELS_L xx) n
    d.queueCourse l xx n (lv.mapIdx fun i v => l.codeOf xx (l.thin b xx n i v))

/-- The first advancing course after PRIME clears the diffusion buffers (R319). -/
def Dev.edAfterPrime (d : Dev) (xx : Nat) : Dev :=
  if (d.engine xx).primed then (d.edClear xx).setEngine xx { (d.edClear xx).engine xx with primed := false } else d

/-- A head of an advancing course (R98, R102, R111, R135): its raster is read, screened and handed to the port, or it prints blank. -/
def Dev.prepPort (d l : Dev) (b xx n : Nat) : Dev :=
  match (d.itk xx).dec with
  | none => d.queueBlank l xx n
  | some c =>
    let job := l.pair .RI_JOBLO_JOB .RI_JOBHI_JOB b
    let d := if c.kind != .skip && c.raster == job then d.edClear xx else d
    if c.kind ≠ .fire then d.queueBlank l xx n
    else
      let (d, px, ue) := d.readRaster b xx c.raster
      if ue then (d.setItk xx { d.itk xx with dec := some { c with ue := true } }).queueBlank l xx n
      else if c.barBlank || d.scFenced xx then d.queueBlank l xx n
      else
        let (d, te) := d.sramRead 1 xx (l.tableReads b xx)
        if te then ((d.tableError b xx).setItk xx { d.itk xx with dec := some { c with tblErr := true } }).queueBlank l xx n
        else
          let d := d.hmRead xx 0 ((l.fld .HP_PROF_NOZZLES xx + 3) / 4) 4
          let o := d.screen l b xx c.raster px
          (d.noteScreened l b xx o).queueCourse l xx n o.codes

/-- Boundary n − 1 starts the work of course n: new geometry and configuration blocks, the decisions, the codes. -/
def Dev.prepareCourse (d : Dev) (b n stamp : Nat) : Dev :=
  let l := d.look b
  let m := planMode (l.reqMode b) (d.markAt b n)
  let pol := l.on .RI_BAYCTL_HOLDPOL b
  let d := d.setBay b { d.bay b with adv := m.advancing pol, pol := pol }
  let ports := d.portsOf b
  let d := ports.foldl (fun d xx => if l.cfgWords xx != d.cfgWords xx && d.portReady xx then d.sendCfgOf l xx else d) d
  let d := ports.foldl (fun d xx => (if d.edChanges l xx then d.edClear xx else d).switchRing l b xx) d
  if m == .prime then ports.foldl (fun d xx => d.prepPrime l b xx n) d
  else if m.advancing pol then
    let d := ports.foldl (fun d xx => d.edAfterPrime xx) d
    let d := ports.foldl (fun d xx => d.setItk xx { d.itk xx with dec := d.decide98 l b xx n stamp }) d
    let d := d.barBlanks l b
    ports.foldl (fun d xx => d.prepPort l b xx n) d
  else d

/-! ## The boundary -/

/-- The trigger of course n is processed (R18, R19, R66, R316). -/
def Dev.boundary (d : Dev) (b : Nat) (t : Trig) : Dev :=
  let before := d
  let n := add48 (d.bay b).cc 1
  let d := d.setBay b { d.bay b with cc := n, pc := { d.pc b with trigs := (d.pc b).trigs.drop 1 } }
  let mark := d.markAt b n
  let d := (d.hostAt b n).intAt b n
  let d := d.modeAt b n t.hold mark
  let d := (d.applyEffects before b).pacingApplied before b t.stamp false
  let d := d.snapBoundary b n t.stamp
  let ports := d.portsOf b
  let adv := (d.bay b).adv && (d.bay b).mode.advancing (d.bay b).pol
  let decs := ports.map fun xx => (xx, (d.itk xx).dec)
  let d := if adv then ports.foldl (fun d xx => d.confirmCourse b xx n) (d.rasterStep b)
    else ports.foldl (fun d xx => d.dropDecision xx) d
  let d := d.fireCourse b n t.stamp (d.bay b).mode
  let d := decs.foldl (fun d x => if adv then d.edConfirm x.1 n x.2 else d.edRestore x.1) d
  let d := ports.foldl (fun d xx => d.soundBoundary b xx n) d
  let d := ((d.thrBoundary b).camTrigger b n t.stamp).fcEval b
  d.prepareCourse b (add48 n 1) t.stamp

/-- A trigger of the bay has been issued and waits to be processed. -/
def Dev.boundaryDue (d : Dev) (b : Nat) : Bool := d.bayModes && !(d.pc b).trigs.isEmpty

/-- The oldest trigger of the bay is processed. -/
def Dev.boundaryNext (d : Dev) (b : Nat) : Dev :=
  match (d.pc b).trigs with
  | t :: _ => d.boundary b t
  | [] => d

/-- Every trigger message that waits is delivered (R15). -/
def Dev.deliver (d : Dev) (b : Nat) : Dev := forN (d.pc b).trigs.length (fun _ d => d.boundaryNext b) d

/-- The oldest trigger message of a bay fails its parity check: it is discarded, and nothing acts on it (R16). -/
def Dev.loseTrigger (d : Dev) (b : Nat) : Dev :=
  match (d.pc b).trigs with
  | [] => d
  | t :: rest =>
    let n := add48 (d.bay b).cc 1
    let d := d.setBay b { d.bay b with cc := n, pc := { d.pc b with trigs := rest } }
    (d.portsOf b).foldl (fun d xx => (d.dropDecision xx).dropJob xx n (5000 * t.stamp + 12500)) d

end Sys2Proof.Machine
end

