-- ==== Sys2Proof/Machine/Windows.lean ====
section
/-! DEFINITION. The table windows of BAR0 (R446, R447): which table an offset lies in, whom it belongs to, what its words read as and when they
may be written (R121, R133, R134, R165, R182, R223, R225, R255, R256, R361, R384), and the frame-store apertures (R107). -/

namespace Sys2Proof.Machine

/-- The tables with a window in BAR0. -/
inductive Win where
  | curves (xx : Nat) | array (a : Nat) | lut (xx : Nat) | lv (xx : Nat) | staging (b : Nat) | ramp (b : Nat) | bond (b k : Nat)
  | wave (xx k : Nat) | foot (xx : Nat) | map (xx : Nat) | stamp (xx : Nat) | capt (xx : Nat) | stats (n k : Nat)
  | tone (n : Nat) | defect (n : Nat) | mark (n : Nat) | wear (xx : Nat) | list (e : Nat) | otp | frameStore
  deriving DecidableEq, Repr

/-- The window an offset lies in, and its byte there (R446). -/
def winAt (o : Nat) : Option (Win × Nat) :=
  if o < 0x42000 then none
  else if o < 0x44000 then some (.otp, o - 0x42000)
  else if o < 0xA0000 then none
  else if o < 0xB0000 then some (.list ((o - 0xA0000) / 0x2000), o % 0x2000)
  else if o < 0x1000000 then none
  else if o < 0x1400000 then some (.curves ((o - 0x1000000) / 0x20000), o % 0x20000)
  else if o < 0x1480000 then some (.array ((o - 0x1400000) / 0x8000), o % 0x8000)
  else if o < 0x1500000 then
    (if o % 0x4000 < 0x2000 then some (.lut ((o - 0x1480000) / 0x4000), o % 0x4000)
     else some (.lv ((o - 0x1480000) / 0x4000), o % 0x4000 - 0x2000))
  else if o < 0x1580000 then some (.staging ((o - 0x1500000) / 0x20000), o % 0x20000)
  else if o < 0x1580400 then some (.ramp ((o - 0x1580000) / 0x100), o % 0x100)
  else if o < 0x1600000 then none
  else if o < 0x1800000 then some (.bond ((o - 0x1600000) / 0x80000) (o % 0x80000 / 0x8000), o % 0x8000)
  else if o < 0x1A00000 then some (.wave ((o - 0x1800000) / 0x10000) (o % 0x10000 / 0x8000), o % 0x8000)
  else if o < 0x1B00000 then some (.foot ((o - 0x1A00000) / 0x8000), o % 0x8000)
  else if o < 0x1B20000 then some (.map ((o - 0x1B00000) / 0x1000), o % 0x1000)
  else if o < 0x1B60000 then some (.stamp ((o - 0x1B20000) / 0x2000), o % 0x2000)
  else if o < 0x1B64000 then some (.capt ((o - 0x1B60000) / 0x200), o % 0x200)
  else if o < 0x1C00000 then none
  else if o < 0x1D00000 then some (.stats ((o - 0x1C00000) / 0x40000) (o % 0x40000 / 0x20000), o % 0x20000)
  else if o < 0x1D01000 then some (.tone ((o - 0x1D00000) / 0x400), o % 0x400)
  else if o < 0x1D10000 then none
  else if o < 0x1D11000 then some (.defect ((o - 0x1D10000) / 0x400), o % 0x400)
  else if o < 0x1D20000 then none
  else if o < 0x1D20400 then some (.mark ((o - 0x1D20000) / 0x100), o % 0x100)
  else if o < 0x1E00000 then none
  else if o < 0x1F00000 then some (.wear ((o - 0x1E00000) / 0x8000), o % 0x8000)
  else if o < 0x2000000 then none
  else if o < 0x4000000 then some (.frameStore, o - 0x2000000)
  else none

/-- The bay a table belongs to (R27, R133): none for a table of no bay. -/
def Dev.winBay (d : Dev) : Win → Option Nat
  | .curves xx | .lut xx | .lv xx | .wave xx _ | .foot xx | .map xx | .stamp xx | .capt xx => d.portBay xx
  | .array a => some (d.arrOwner a)
  | .staging b | .ramp b | .bond b _ => some b
  | .stats n _ | .tone n | .defect n | .mark n => d.camBay n
  | .list e => d.cpeBay e
  | .wear _ | .otp | .frameStore => none

/-- A table of the device as a whole, which every seat reads (R28, R384), and the frame-store window, which every seat has (R107). -/
def Win.shared : Win → Bool
  | .wear _ | .otp | .frameStore => true
  | _ => false

/-- The bits a word of a table holds (R133, R165, R181, R224, R251, R255): the others read 0, as do the bytes beyond its size. -/
def Win.mask (w : Win) (x : Nat) : Word :=
  match w with
  | .curves _ | .staging _ => if x < 104448 then 0xFFFFFFFF else 0
  | .array _ => 0x0FFF0FFF
  | .lut _ | .list _ => 0xFFFFFFFF
  | .lv _ => if x < 32 then 0x0FFF0FFF else 0
  | .ramp _ => if x < 128 then 0x1FFF1FFF else 0
  | .bond _ _ => 0xFFFFFFFF
  | .wave _ _ =>
    if x < 0x4000 then 0xFFFFFFFF
    else if x < 0x4400 then (if x % 0x40 = 0 then 0x00FFFFFF else if x % 0x40 < 36 then 0xFFFFFFFF else 0)
    else 0
  | .foot _ => if x % 8 = 0 then 0xFFFFFFFF else 0x00FF3FFF
  | .map _ | .stamp _ | .capt _ | .stats _ _ => 0xFFFFFFFF
  | .tone _ => if x % 0x100 < 128 then 0x00FF00FF else if x % 0x100 = 128 then 0x000000FF else 0
  | .defect _ => 0x1FFF1FFF
  | .mark _ => if x % 16 < 8 then 0xFFFFFFFF else if x % 16 = 8 then 0xFFFF87FF else 0
  | .wear _ | .otp | .frameStore => 0

/-- The SRAM group of PT_ECC that a table lies in (R406), with its port or camera. -/
def Win.sram : Win → Nat × Nat
  | .curves xx | .lut xx | .lv xx => (1, xx)
  | .array _ | .staging _ | .ramp _ | .bond _ _ => (1, 32)
  | .wave xx _ => (2, xx)
  | .foot xx | .map xx | .stamp xx | .capt xx => (3, xx)
  | .stats n _ | .tone n | .defect n | .mark n => (4, n)
  | .wear _ | .list _ | .otp | .frameStore => (0, 0)

/-! ## Reading -/

/-- A camera buffer of a bay holds the data address (R107, R241). -/
def Dev.inCamBuf (d : Dev) (b a : Nat) : Bool :=
  (List.range 4).any fun n =>
    let lo := d.fld .CM_BUF_BASE n * 2 ^ 20
    d.camBay n == some b && d.fld .CM_BUF_FMT n != 0 && decide (lo ≤ a) &&
      decide (a < lo + d.fld .CM_BUFN_COUNT n * ringSpan (d.fld .CM_BUF_FMT n) (d.fld .CM_GEOM_WIDTH n) (d.fld .CM_GEOM_ROWS n))

/-- An accessor reaches a data address of the frame store (R107, R448): the rings and buffers of its bay, or of every bay for the console. -/
def Dev.fsReach (d : Dev) (who : Src) (a : Nat) : Bool :=
  match who with
  | .seat s => d.inRing s a || d.inCamBuf s a
  | .console => (List.range 4).any fun b => d.inRing b a || d.inCamBuf b a

/-- A word of the frame store through an aperture (R85, R107): 0 where it does not reach, all ones where the read is uncorrectable; a
host read's error belongs to no bay (R108, R295). -/
def Dev.fsWord (d : Dev) (who : Src) (a : Nat) : Dev × Word × Bool :=
  if !d.fsReach who a || d.cap ≤ a then (d, 0, false)
  else
    let hit := d.fld .PT_ECC_TARGET == 1 && d.fld .PT_ECC_COUNT != 0 && d.on .PT_ECC_TWO && a / 2 ^ 28 == d.fld .PT_ECC_ARG && a % 64 < 8
    let bad := d.fsWordBad (a / 8) || hit
    let (d, _) := d.memTouch.fsCheck none 0xFF a 4
    (d, if bad then 0xFFFFFFFF else BitVec.ofNat 32 (ofLe (d.fsBytes a 4)), bad)

/-- The RI_WIN an accessor's window uses (R107, R448). -/
def Dev.winBase (d : Dev) (who : Src) : Nat :=
  2 ^ 20 * (match who with | .seat s => d.fld .RI_WIN_BASE s | .console => d.fld .RI_WIN_BASE d.steward)

/-- Latch keys: by accessor and offset (R5). -/
def srcId : Src → Nat
  | .seat s => s.val
  | .console => 4
def latchKey (who : Src) (o : Nat) : Nat := 2 ^ 26 * srcId who + o
def Dev.latchOf (d : Dev) (who : Src) (o : Nat) : Option Word := Store.get (fun _ => none) d.latch (latchKey who o)
def Dev.setLatchOf (d : Dev) (who : Src) (o : Nat) (w : Option Word) : Dev :=
  { d with latch := Store.set (fun _ => none) d.latch (latchKey who o) w }

/-- A word of a table as the SRAM holds it. -/
def Dev.winWord (d : Dev) (w : Win) (o x : Nat) : Word :=
  match w with
  | .curves xx => BitVec.ofNat 32 (ofLe ((List.range 4).map fun i => if x + i < 104448 then Store.get curveByte (d.engine xx).curves (x + i) else 0))
  | .staging b => BitVec.ofNat 32 (ofLe ((List.range 4).map fun i => if x + i < 104448 then d.stagingByte b (x + i) else 0))
  | w => BitVec.ofNat 32 (d.tb32 o) &&& w.mask x

/-- Read an aligned word of a window that the accessor may read: an uncorrectable SRAM word has the effects of R135, R222 and R379, and
its error is record 4's (R295). -/
def Dev.winRead (d : Dev) (who : Src) (w : Win) (o x : Nat) : Dev × Word :=
  match w with
  | .frameStore => let r := d.fsWord who (d.winBase who + x); (r.1, r.2.1)
  | .otp => (d, d.otpWindow (x / 4))
  | .wear xx =>
    let d := d.wearRead xx (x / 8)
    let c := d.wearCnt xx (x / 8)
    if x % 8 = 0 then (d.setLatchOf who (o + 4) (some (BitVec.ofNat 32 (c / 2 ^ 32 % 2 ^ 16))), BitVec.ofNat 32 c)
    else (d.setLatchOf who o none, (d.latchOf who o).getD (BitVec.ofNat 32 (c / 2 ^ 32 % 2 ^ 16)))
  | .list _ => (d, d.winWord w o x)
  | w =>
    let g := w.sram
    let (d, ue) := d.sramRead g.1 g.2 1
    if !ue then (d, d.winWord w o x)
    else match w with
    | .map xx => let d := (d.hmReset xx x 4).signal srcSramUe 0xFF; (d, d.winWord w o x)
    | .stamp xx => let d := (d.hmReset xx (x / 2) 2).signal srcSramUe 0xFF; (d, d.winWord w o x)
    | .foot xx => let d := (d.fpLost xx (x / 8)).signal srcSramUe 0xFF; (d, d.winWord w o x)
    | w => (d.signal srcSramUe 0xFF, if w.mask x = 0 then 0 else 0xFFFFFFFF)

/-! ## Writing -/

/-- A commit of the bay that changes its mode is PREPARING or ARMED (R134). -/
def Dev.modeMoves (d : Dev) (b : Nat) : Bool :=
  let k := d.kset b
  (k.host.st == .preparing || k.host.st == .armed) &&
    (match stagedVal k.pending .KS_BAYCTL_MODE b 0 with | some m => m != d.fld .KS_BAYCTL_MODE b | none => false)

/-- The tables of a bay may be written (R134, R256): at rest or in PRIME with no such commit, or by the console in SERVICE. -/
def Dev.tablesOpen (d : Dev) (who : Src) (b : Nat) : Bool :=
  match who with
  | .console => d.inService
  | .seat _ => d.bayModes && ((d.bay b).mode.rests || (d.bay b).mode == .prime) && !d.modeMoves b

/-- Footprints of a port may be written (R225). -/
def Dev.footOpen (d : Dev) (who : Src) (b xx : Nat) : Bool :=
  match who with
  | .console => d.inService
  | .seat _ => d.bayModes && ((d.bay b).mode.rests || (d.bay b).mode == .prime || (d.bay b).mode == .calibrate) && !d.on .SN_LEARN_BUSY xx

/-- A waveform bank may be written (R182). -/
def Dev.bankOpen (d : Dev) (xx k : Nat) : Bool :=
  d.fld .WV_CTL_BANK xx != k &&
    (match d.portBay xx with
     | some b =>
       let s := d.kset b
       !((s.host.st == .preparing || s.host.st == .armed) && stagedVal s.pending .WV_CTL_BANK xx 0 == some k)
     | none => true)

/-- Why a write to a table is refused, if it is (R121, R134, R182, R223, R225, R255, R256, R361, R384). -/
def Dev.winRefuses (d : Dev) (who : Src) (w : Win) (x : Nat) (v : Word) : Option Status :=
  let b := (d.winBay w).getD 4
  let open_ := if d.tablesOpen who b then none else some Status.mode
  match w with
  | .curves _ | .map _ | .stamp _ | .capt _ | .stats _ _ | .wear _ | .otp | .frameStore => some .refusedAccess
  | .array _ | .lut _ | .lv _ | .ramp _ | .bond _ _ | .tone _ | .defect _ => open_
  | .mark _ => if x % 16 = 8 && decide (5 ≤ wget v 8 3) then some .refusedAccess else open_
  | .staging b =>
    if !d.on .SC_CVSTG_VALID b || d.on .SC_CVSTG_ARM b || d.on .SC_CVSTG_PEND b then some .refusedAccess else none
  | .wave xx k => if d.bankOpen xx k then none else some .refusedAccess
  | .foot xx => if d.footOpen who b xx then none else some .mode
  | .list _ => none

/-- The write takes effect at once; one to the level tables clears the diffusion buffers (R126). -/
def Dev.winStore (d : Dev) (w : Win) (o x : Nat) (v : Word) : Dev :=
  let v := v &&& w.mask x
  match w with
  | .staging b => if w.mask x = 0 then d else d.setStaging b x (le 4 v.toNat)
  | .lut xx | .lv xx => if w.mask x = 0 then d else (d.setTbl o (le 4 v.toNat)).edClear xx
  | w => if w.mask x = 0 then d else d.setTbl o (le 4 v.toNat)

/-- Whether an accessor may touch a table, by its bay (R27, R28). -/
def Dev.winDenied (d : Dev) (who : Src) (w : Win) (write : Bool) : Option Status :=
  match who with
  | .console => none
  | .seat s =>
    match w with
    | .wear _ | .otp => if write && s.val != d.steward then some .refusedSteward else none
    | .frameStore => none
    | w => if d.winBay w == some s.val && d.present s then none else some .refusedBay

/-- An offset and length stay within one window, or wholly outside the windows (R447). -/
def blockOk (off len : Nat) : Bool :=
  off % 4 == 0 && len % 4 == 0 &&
    (len == 0 || (winAt off).map (·.1) == (winAt (off + len - 4)).map (·.1) &&
      ((winAt off).isSome || (List.range (len / 4)).all fun i => (winAt (off + 4 * i)).isNone))

end Sys2Proof.Machine
end

