-- ==== Sys2Proof/Machine/Bus.lean ====
section
/-! DEFINITION. BAR0 accesses (R5 to R7, R24 to R28, R52, R80, R445, R447, R451): who may access a register, what a read leaves behind, when a
write is refused, and the effect of each register write that does more than store its fields. -/

namespace Sys2Proof.Machine

/-! ## Access (R27, R28, R80, R109) -/

/-- A seat may not touch a register instance, and why. -/
def Dev.regDenied (d : Dev) (who : Src) (r : RegName) (i : Nat) (write : Bool) : Option Status :=
  match who with
  | .console => if write && r.info.owner == .ownseat then some .refusedBay else none
  | .seat s =>
    match r.info.owner with
    | .dev | .shared => if write && s.val != d.steward then some .refusedSteward else none
    | .ksdev => none
    | .ownseat => if write && i != s.val then some .refusedBay else none
    | .seat => if i == s.val || (!write && s.val == d.steward) then none else some .refusedBay
    | _ => if d.regBay r i == some s.val && d.present s then none else some .refusedBay

/-- The device-wide block of an offset (R28): its reads are allowed to every seat. -/
def glOffset (o : Nat) : Bool := decide (o < 0x10000)

/-! ## Reading (R5, R7) -/

/-- The read clears the RC fields. -/
def Dev.clearRc (d : Dev) (r : RegName) (i j : Nat) : Dev :=
  r.rows.foldl (fun d x => if x.acc = .rc then d.setFld x.fld i j 0 else d) d

/-- The high words of the 64-bit pairs (R5). -/
def highWords : List RegName :=
  [.GL_TBHI, .GL_CCHI, .KS_TGTHI, .KS_SNAPCCHI, .FC_SPALLHI, .FC_FTBHI, .FC_FCCHI, .FC_RSRCHI, .TR_SERHI, .TR_USEHI, .WR_CKTBHI, .WR_HCNTHI,
   .WR_HWBHI, .PS_SPDTBHI, .PC_RATHI, .PC_MARKHI, .HS_MACHI, .HS_CQBHI, .HS_EQBHI, .RI_FQBHI, .RI_NEXTHI, .RI_RNHI, .RI_JOBHI, .RI_ECCAHI,
   .IN_RTGTHI, .IN_NCTAGHI]

/-- Read a register instance. -/
def Dev.readReg (d : Dev) (v : Nv) (who : Src) (r : RegName) (i j : Nat) : Dev × Word × Status :=
  match d.regDenied who r i false with
  | some st => (d, 0, st)
  | none =>
    if !(r.actsOn i) then (d, 0, .ok)
    else
      let o := r.off i j
      let held := if highWords.contains r then d.latchOf who o else none
      let w := held.getD (d.peekReg v r i j)
      let d := if held.isSome then d.setLatchOf who o none else d
      let d := match r.highOf with
        | some h => d.setLatchOf who (h.off i j) (some (d.peekReg v h i j))
        | none => d
      (d.clearRc r i j, w, .ok)

/-- Read an aligned word at a BAR0 offset. In LOAD only GL can be read (R320). -/
def Dev.busRead (d : Dev) (v : Nv) (who : Src) (o : Nat) : Dev × Word × Status :=
  if o % 4 != 0 then (d, 0, .refusedAccess)
  else if !d.running && !glOffset o then (d, 0, .ok)
  else match winAt o with
  | some (w, x) =>
    (match d.winDenied who w false with
     | some st => (d, 0, st)
     | none => let q := d.winRead who w o x; (q.1, q.2, .ok))
  | none =>
    match decodeOff o with
    | some (r, i, j) => d.readReg v who r i j
    | none => (d, 0, .ok)

/-! ## Writing: what is refused (R7, R81, R121, R216, R259, R286, R391, R395, R401 to R407, R451) -/

/-- A field that a write can change or act on, in this instance. -/
def FieldRow.writable (x : FieldRow) (i : Nat) : Bool :=
  (match x.acc with | .rw | .st | .w1c | .w1s | .wo | .sv => true | _ => false) && !x.fld.frozen i

/-- The fields of a perturbation register. -/
def RegName.isPt (r : RegName) : Bool := decide (0x61000 ≤ r.info.base) && decide (r.info.base < 0x62000)

/-- SV fields may be written (R7, R401). -/
def Dev.svOpen (d : Dev) (who : Src) (r : RegName) : Bool :=
  (d.inService && who == .console) || (r.isPt && d.on .PT_CFG_BENCH && d.bayModes)

/-- The write would give a field that acts at once a value outside its range (R451). -/
def RegName.outside (r : RegName) (w : Word) : Bool :=
  r.rows.any fun x => (match x.acc with | .rw | .w1s | .wo | .sv => true | _ => false) && !x.fld.legal (wget w x.fld.lo x.fld.width)

/-- The write would change a field that is read-only in this instance (R451). -/
def Dev.frozenHit (d : Dev) (r : RegName) (i j : Nat) (w : Word) : Bool :=
  r.rows.any fun x => x.fld.frozen i && wget w x.fld.lo x.fld.width != d.fld x.fld i j

/-- The value of a field in a written word. -/
def Fld.of (f : Fld) (w : Word) : Nat := wget w f.lo f.width

/-- Ring registers (R53, R81): base and size while the ring runs, an index outside it. -/
def Dev.ringRefuses (d : Dev) (en log2 : Fld) (i j : Nat) (size index : Bool) (w : Word) : Bool :=
  if size then d.on en i j && log2.of w != d.fld log2 i j
  else if index then decide (2 ^ d.fld log2 i j ≤ wget w 0 12)
  else d.on en i j

/-- Curve staging (R121). -/
def Dev.cvRefuses (d : Dev) (b : Nat) (w : Word) : Bool :=
  let head := Fld.of .SC_CVSTG_HEAD w
  let moves := head != d.fld .SC_CVSTG_HEAD b
  let claim := Fld.of .SC_CVSTG_CLAIM w == 1
  let held := d.on .SC_CVSTG_ARM b || d.on .SC_CVSTG_PEND b
  d.portBay head != some b || (held && (moves || claim))
    || (Fld.of .SC_CVSTG_ARM w == 1 && (!d.on .SC_CVSTG_VALID b || moves || claim || d.on .SC_CVSTG_CLAIM b))

/-- HM_DECL (R216). -/
def Dev.declRefuses (d : Dev) (b : Nat) (w : Word) : Option Status :=
  if Fld.of .HM_DECL_GO w = 0 then none
  else if d.portBay (Fld.of .HM_DECL_HEAD w) != some b then some .refusedBay
  else if d.fld .HP_PROF_NOZZLES (Fld.of .HM_DECL_HEAD w) ≤ Fld.of .HM_DECL_NOZ w then some .refusedAccess
  else none

/-- A job's registers while it is armed or runs, but for a CANCEL, and a GO out of range (R259). -/
def Dev.ncRefuses (d : Dev) (r : RegName) (n k : Nat) (w : Word) : Bool :=
  let st := d.fld .IN_NCRES_STATE n k
  if st == 1 || st == 2 then !(r == .IN_NCCFG && Fld.of .IN_NCCFG_CANCEL w == 1)
  else r == .IN_NCCFG && Fld.of .IN_NCCFG_GO w == 1 &&
    !d.ncOk n (Fld.of .IN_NCCFG_HEAD w) (Fld.of .IN_NCCFG_S w) (Fld.of .IN_NCCFG_RH w) (d.fld .IN_NCROW_ROW0 n k)

/-- SV_TEST.GO (R390, R391). -/
def Dev.testRefuses (d : Dev) (w : Word) : Option Status :=
  if Fld.of .SV_TEST_GO w = 0 then none
  else
    let test := Fld.of .SV_TEST_TEST w
    let arg := Fld.of .SV_TEST_ARG w
    if d.con.test.isSome then some .busy
    else if (test = 5 || test = 6) && 32 ≤ arg then some .refusedAccess
    else if test = 5 && d.fld .SV_PARK_PARK arg != 0 then some .busy
    else if test = 7 && 68 ≤ arg then some .refusedAccess
    else if test = 8 && d.fld .RI_FSSTAT_CAPMIB < d.fld .SV_TARG_BASE + d.fld .SV_TARG_SIZE + 64 then some .refusedAccess
    else if test = 9 && 4 ≤ arg then some .refusedAccess
    else none

/-- SV_FORCE (R395): an index above 51, or high on an open-drain output. -/
def forceRefuses (j : Nat) (w : Word) : Bool :=
  (List.range 16).any fun k =>
    let p := 16 * j + k
    let c := wget w (2 * k) 2
    (decide (51 < p) && c != 0) || (decide (40 ≤ p) && c == 2)

/-- A pair of domains with a mortar queue between them (R402): two different domains, a camera clock only as a source. -/
def mqPair (src dst : Nat) : Bool := decide (src ≤ 13) && decide (dst ≤ 9) && src != dst

/-- PT_FORCE.GO (R407). -/
def forceBad (w : Word) : Bool :=
  Fld.of .PT_FORCE_GO w == 1 &&
    (!knownSource (Fld.of .PT_FORCE_SRC w) ||
      (unitCount (Fld.of .PT_FORCE_SRC w) != 0 && decide (unitCount (Fld.of .PT_FORCE_SRC w) ≤ Fld.of .PT_FORCE_UNIT w)))

/-- What a register's own rule refuses. -/
def Dev.ruleRefuses (d : Dev) (r : RegName) (i j : Nat) (w : Word) : Option Status :=
  let no (c : Bool) : Option Status := if c then some .refusedAccess else none
  match r with
  | .HS_CQBLO | .HS_CQBHI => no (d.ringRefuses .HS_CQSIZE_EN .HS_CQSIZE_LOG2 i j false false w)
  | .HS_CQSIZE => no (d.ringRefuses .HS_CQSIZE_EN .HS_CQSIZE_LOG2 i j true false w)
  | .HS_CQTAIL => no (d.ringRefuses .HS_CQSIZE_EN .HS_CQSIZE_LOG2 i j false true w)
  | .HS_EQBLO | .HS_EQBHI => no (d.ringRefuses .HS_EQSIZE_EN .HS_EQSIZE_LOG2 i j false false w)
  | .HS_EQSIZE => no (d.ringRefuses .HS_EQSIZE_EN .HS_EQSIZE_LOG2 i j true false w)
  | .HS_EQHEAD => no (d.ringRefuses .HS_EQSIZE_EN .HS_EQSIZE_LOG2 i j false true w)
  | .RI_FQBLO | .RI_FQBHI => no (d.ringRefuses .RI_FQSIZE_EN .RI_FQSIZE_LOG2 i j false false w)
  | .RI_FQSIZE => no (d.ringRefuses .RI_FQSIZE_EN .RI_FQSIZE_LOG2 i j true false w)
  | .RI_FQTAIL => no (d.ringRefuses .RI_FQSIZE_EN .RI_FQSIZE_LOG2 i j false true w)
  | .SC_CVSTG => no (d.cvRefuses i w)
  | .HM_DECL => d.declRefuses i w
  | .IN_NCCFG | .IN_NCTAGLO | .IN_NCTAGHI | .IN_NCROW | .IN_NCX | .IN_NCP | .IN_NCTHR => no (d.ncRefuses r i j w)
  | .SN_LEARN =>
    if Fld.of .SN_LEARN_START w == 1 && !(match d.portBay i with | some b => (d.bay b).mode == .calibrate && d.bayModes | none => false) then
      some .mode
    else none
  | .TM_SHUTST => no ((List.range 32).any fun xx => wbit w xx && d.shutHeld xx)
  | .WR_HSTAT => no (Fld.of .WR_HSTAT_RESET w == 1 && d.on .HP_PWR_PEN i)
  | .SV_TEST => d.testRefuses w
  | .SV_PEN => if (List.range 32).any fun xx => wbit w xx && (d.portBay xx).isNone then some .refusedBay else none
  | .SV_FORCE => no (forceRefuses i w)
  | .SV_PLUMB =>
    if Fld.of .SV_PLUMB_SEL w == 16 && !(d.on .SV_MTEMP_EN && d.fld .SV_MTEMP_CH == Fld.of .SV_PLUMB_ARG w) then some .mode else none
  | .PT_MQDLY => no (!mqPair (Fld.of .PT_MQDLY_SRC w) (Fld.of .PT_MQDLY_DST w))
  | .PT_ECC => no (Fld.of .PT_ECC_TARGET w == 1 && decide (d.cap ≤ 2 ^ 28 * Fld.of .PT_ECC_ARG w))
  | .PT_FORCE => no (forceBad w)
  | _ => none

/-- Why a register write is refused, if it is. -/
def Dev.writeRefuses (d : Dev) (who : Src) (r : RegName) (i j : Nat) (w : Word) : Option Status :=
  let rows := r.rows
  if !(rows.any (·.writable i)) then
    (if rows.any (fun x => x.acc == .rc) && !(rows.any fun x => x.fld.frozen i) then none else some .refusedAccess)
  else if rows.any (fun x => x.acc == .sv) && !d.svOpen who r then some .refusedAccess
  else if d.frozenHit r i j w || r.outside w then some .refusedAccess
  else if rows.any (fun x => x.acc == .st) && (d.regBay r i).isNone && r.info.owner != .dev then some .refusedBay
  else d.ruleRefuses r i j w

/-! ## Writing: what is stored -/

/-- Fields that a register's rule keeps elsewhere, or that are commands: they are not stored as written. -/
def Fld.command (f : Fld) : Bool :=
  match f.reg, f.lo with
  | .HS_CQTAIL, _ | .HS_EQHEAD, _ | .RI_FQTAIL, _ => true
  | .SV_TEST, 31 | .OT_PCMD, 31 | .PT_FORCE, 31 | .PT_CAMSTALL, 0 | .PT_CFG, 1 => true
  | _, _ => false

/-- The bits of a field that a write can set: ring bases are multiples of 64 (R53, R81). -/
def Fld.keep (f : Fld) (v : Nat) : Nat :=
  match f.reg with
  | .HS_CQBLO | .HS_EQBLO | .RI_FQBLO => v / 64 * 64
  | _ => v

/-- The set that a register's staged fields join (R63): the bay's, or the device-wide one. -/
def Dev.setOf (d : Dev) (r : RegName) (i : Nat) : Nat := (d.regBay r i).getD 4

/-- Store one field by its access code (R7). -/
def Dev.storeField (d : Dev) (i j : Nat) (w : Word) (x : FieldRow) : Dev :=
  if x.fld.frozen i || x.fld.command then d
  else match x.acc with
  | .rw | .sv => d.setFld x.fld i j (x.fld.keep (x.fld.of w))
  | .w1c => d.setWord (x.fld.reg.off i j) (d.word (x.fld.reg.off i j) &&& ~~~ (w &&& wmask x.fld.lo x.fld.width))
  | .st => d.stage (d.setOf x.fld.reg i) ⟨x.fld.reg.off i j, x.fld.lo, x.fld.width, x.fld.of w⟩
  | _ => d

/-! ## Writing: what follows -/

/-- A ring's EN goes from 1 to 0: its queue is reset (R81). -/
def Dev.ringStopped (d before : Dev) (r : RegName) (i j : Nat) : Dev :=
  match r with
  | .HS_CQSIZE => if before.on .HS_CQSIZE_EN i j && !d.on .HS_CQSIZE_EN i j then d.setSeat i ((d.seat i).setCmdq j {}) else d
  | .HS_EQSIZE => if before.on .HS_EQSIZE_EN i j && !d.on .HS_EQSIZE_EN i j then d.setSeat i ((d.seat i).setEvq j {}) else d
  | .RI_FQSIZE => if before.on .RI_FQSIZE_EN i && !d.on .RI_FQSIZE_EN i then d.feedReset i else d
  | _ => d

/-- Every perturbation ends: the PT fields return to their reset values (R401). -/
def Dev.ptReset (d : Dev) : Dev :=
  let d := forN 4 (fun k d =>
    ((d.setWord (RegName.off .PT_MQDLY k 0) 0).setWord (RegName.off .PT_CREDIT k 0) 0).setWord (RegName.off .PT_TRIGDLY k 0) 0) d
  let d := (d.setWord (RegName.off .PT_CAMSTALL 0 0) (rowsWord (RegName.rows .PT_CAMSTALL))).setWord (RegName.off .PT_ECC 0 0) 0
  let d := (d.setWord (RegName.off .PT_FORCE 0 0) 0).setOn .PT_ACTIVE_FORCED 0 0 false
  forN 4 (fun n d => d.setCam n { d.cam n with stallFor := 0, stallTill := none }) d

/-- The camera ports named stall from their next FS (R404). -/
def Dev.camStallAsk (d : Dev) (mask : Nat) : Dev :=
  forN 4 (fun n d =>
    if mask / 2 ^ n % 2 = 1 && !d.fbit .PT_CAMSTALL_GO 0 0 n then
      (d.setFbit .PT_CAMSTALL_GO 0 0 n true).setCam n { d.cam n with stallFor := d.fld .PT_CAMSTALL_US }
    else d) d

/-- PT_FORCE.GO (R407, R408). -/
def Dev.forceSignal (d : Dev) : Dev :=
  let src := d.fld .PT_FORCE_SRC
  let unit := if unitCount src = 0 then 0xFF else d.fld .PT_FORCE_UNIT
  let d := (d.setOn .PT_FORCE_GO 0 0 true).setOn .PT_ACTIVE_FORCED 0 0 true
  d.signalAs src unit none (match d.unitBay src unit with | some b => (d.bay b).cc | none => 0) true

/-- A self-test starts (R390). -/
def Dev.testStart (d : Dev) : Dev :=
  let d := { d with con := { d.con with test := some ⟨d.fld .SV_TEST_TEST, d.fld .SV_TEST_ARG, [], none⟩ } }
  ((d.setOn .SV_TEST_GO 0 0 true).setFld .SV_TEST_STATE 0 0 1).followIslands

/-- A job is armed (R259). -/
def Dev.ncArm (d : Dev) (n k : Nat) : Dev :=
  ((d.setFld .IN_NCRES_STATE n k 1).setFld .IN_NCRES_REASON n k 0).setFld .IN_NCRES_MISSING n k 0

/-- IN_NCCFG's commands: CANCEL, which leaves the fields of an armed or running job as they are, and GO (R259). -/
def Dev.ncCommand (d : Dev) (n k : Nat) (w : Word) : Dev :=
  let st := d.fld .IN_NCRES_STATE n k
  let busy := st == 1 || st == 2
  if busy then (if Fld.of .IN_NCCFG_CANCEL w == 1 then d.ncEnd n k 4 0 else d)
  else if Fld.of .IN_NCCFG_CANCEL w == 1 then d
  else if Fld.of .IN_NCCFG_GO w == 1 then d.ncArm n k
  else d

/-- What follows a write that has been stored, by the register's own rule; `before` is the device before the write. -/
def Dev.writeEffect (d before : Dev) (v : Nv) (r : RegName) (i j : Nat) (w : Word) : Dev × Nv :=
  let one (d : Dev) : Dev × Nv := (d, v)
  match r with
  | .HS_CQSIZE | .HS_EQSIZE | .RI_FQSIZE => one (d.ringStopped before r i j)
  | .HS_CQTAIL => one (d.setSeat i ((d.seat i).setCmdq j { (d.seat i).cmdq j with tail := wget w 0 12 }))
  | .HS_EQHEAD => one (d.setSeat i ((d.seat i).setEvq j { (d.seat i).evq j with head := wget w 0 12 }))
  | .RI_FQTAIL => one (let t := d.itk i; d.setItk i { t with fq := { t.fq with tail := wget w 0 12 } })
  | .SC_CVSTG =>
    let d := if d.fld .SC_CVSTG_HEAD i != before.fld .SC_CVSTG_HEAD i then d.setOn .SC_CVSTG_VALID i 0 false else d
    one (if Fld.of .SC_CVSTG_CLAIM w == 1 then d.setOn .SC_CVSTG_CLAIM i 0 true else d)
  | .PS_CMD =>
    let d := if Fld.of .PS_CMD_PRELOAD w == 1 then d.preload i else d
    one (d.restartStalls before)
  | .HP_PWR => one (d.followPower i 0)
  | .SN_LEARN => one (if Fld.of .SN_LEARN_START w == 1 then d.learnStart i else d)
  | .HM_DECL =>
    one (if Fld.of .HM_DECL_GO w == 1 then d.hmDeclare (Fld.of .HM_DECL_HEAD w) (Fld.of .HM_DECL_NOZ w) (Fld.of .HM_DECL_ACT w) else d)
  | .CM_I2CCMD => one (if Fld.of .CM_I2CCMD_GO w == 1 then d.i2cHost i else d)
  | .IN_RCTL => one (if Fld.of .IN_RCTL_RESET w == 1 then d.regReset i else d)
  | .IN_NCCFG =>
    let st := before.fld .IN_NCRES_STATE i j
    one ((if st == 1 || st == 2 then d.setWord (r.off i j) (before.reg r i j) else d).ncCommand i j w)
  | .TM_SHUTST => one d.shutEvalAll
  | .FC_CMD =>
    let d := if Fld.of .FC_CMD_REARM w == 1 then d.rearm else d
    one (forN 5 (fun k d => if wbit w (1 + k) then d.release k else d) d)
  | .OT_PCMD =>
    one (if Fld.of .OT_PCMD_GO w == 1 && !(d.ot.queue.any fun q => q.src == 0) then
      d.otpConsole v (Fld.of .OT_PCMD_OP w) (d.fld .OT_PADDR_WORD) (d.reg .OT_PDATA) (Fld.of .OT_PCMD_REC w) else d)
  | .OT_RAWSEL => one (d.rawRead v (Fld.of .OT_RAWSEL_WORD w))
  | .WR_HSTAT => if Fld.of .WR_HSTAT_RESET w == 1 then headChange d v i (d.serialOf i) 0 [] else (d, v)
  | .SV_TEST => one (if Fld.of .SV_TEST_GO w == 1 then d.testStart else d)
  | .SV_PEN => one (forN 32 (fun xx d => d.followPower xx 5) d)
  | .SV_PARK => one (d.parkPins before i).followIslands
  | .SV_MTEMP | .SV_PLUMB => one (d.meterPins before)
  | .SV_FORCE => one (d.forcePins before)
  | .PT_CFG => one (if Fld.of .PT_CFG_CLEAR w == 1 then d.ptReset else d)
  | .PT_CAMSTALL => one (d.camStallAsk (Fld.of .PT_CAMSTALL_GO w))
  | .PT_FORCE => one (if Fld.of .PT_FORCE_GO w == 1 && !before.on .PT_FORCE_GO then d.forceSignal else d)
  | _ => one d

/-- Write a register instance: refused as a whole, or stored with its effects; a change of the perturbations in force is reported (R408). -/
def writeReg (d : Dev) (v : Nv) (who : Src) (r : RegName) (i j : Nat) (w : Word) : Dev × Nv × Status :=
  match d.regDenied who r i true with
  | some st => (d, v, st)
  | none =>
    if !(r.actsOn i) then (d, v, .ok)
    else match d.writeRefuses who r i j w with
    | some st => (d, v, st)
    | none =>
      let q := (r.rows.foldl (fun d x => d.storeField i j w x) d).writeEffect d v r i j w
      (q.1.ptNote d.ptActive, q.2, .ok)

/-- Write an aligned word at a BAR0 offset. In LOAD every write is ignored (R320); in SERVICE a seat writes nothing (R321). -/
def busWrite (d : Dev) (v : Nv) (who : Src) (o : Nat) (w : Word) : Dev × Nv × Status :=
  if o % 4 != 0 then (d, v, .refusedAccess)
  else if !d.running then (d, v, .ok)
  else if d.inService && who != .console then (d, v, .mode)
  else match winAt o with
  | some (t, x) =>
    (match d.winDenied who t true with
     | some st => (d, v, st)
     | none => match d.winRefuses who t x w with
       | some st => (d, v, st)
       | none => (d.winStore t o x w, v, .ok))
  | none =>
    match decodeOff o with
    | some (r, i, j) => writeReg d v who r i j w
    | none => (d, v, .ok)

/-! ## Accesses of a PCIe function (R42, R52) -/

/-- An event of a seat: of the seat's bay, or of no bay where that bay is absent (R58). -/
def Dev.seatEvent (d : Dev) (s q code d0 d1 : Nat) : Dev :=
  if d.present s then d.bayEvent s q code 0xFF d0 d1 else d.devEvent s q code 0xFF d0 d1

/-- An event about a seat that goes to E1 of the steward (R58): of that seat's bay, or of no bay where that bay is absent. -/
def Dev.stewardSeatEvent (d : Dev) (s code d0 d1 : Nat) : Dev :=
  if d.present s then
    if d.reach d.steward then
      d.post d.steward 1 true (eventFrame d.steward 1 code s 0xFF (d.bay s).gen d.tb (d.bay s).cc (d0 % 2 ^ 32) (d1 % 2 ^ 32))
    else d
  else d.devEvent d.steward 1 code 0xFF d0 d1

/-- A register access refused with MODE is a refused access as well (R81, R225). -/
def Dev.noteMode (d : Dev) (s : Nat) (st : Status) : Dev := if st = .mode then d.bump .HS_ERRCNT_REFUSED s 0 else d

/-- As `noteMode`, for the access of a command frame. -/
def Dev.noteFrameMode (d : Dev) (h : CmdHdr) (st : Status) : Dev :=
  match h.src with | .seat s => d.noteMode s.val st | .console => d

/-- A refused MMIO access: noted as the status of a Q1 frame, and ACCESS_REFUSED on E1 with the offset and the status (R52, R58). -/
def Dev.mmioRefused (d : Dev) (fn off : Nat) (st : Status) : Dev :=
  ((d.noteStatus fn (4 * fn + 1) st st).noteMode fn st).seatEvent fn 1 0x0203 off st.code

/-- The MSI-X range of a function (R42, R445). -/
def inMsix (o : Nat) : Bool := decide (0xE0000 ≤ o) && decide (o < 0xE2000)

/-- A dword written to a function's MSI-X table; unmasking a pending vector sends its message. The pending bits are read-only. -/
def Dev.msixWrite (d : Dev) (fn o : Nat) (w : Word) : Dev :=
  let x := o - 0xE0000
  if 1024 ≤ x then d
  else
    let w := if x % 16 = 12 then w &&& 1 else if x % 16 = 0 then w &&& 0xFFFFFFFC else w
    let d := { d with msix := Store.set msixDflt d.msix (65536 * fn + x) w }
    if x % 16 = 12 && !wbit w 0 then
      let vec := x / 16
      let k := 65536 * fn + 4096 + 4 * (vec / 32)
      let p := Store.get msixDflt d.msix k
      if wbit p (vec % 32) then
        { d with msix := Store.set msixDflt d.msix k (p &&& ~~~ (1#32 <<< (vec % 32))) }.emit (.msix fn vec)
      else d
    else d

/-- A dword read from it. -/
def Dev.msixRead (d : Dev) (fn o : Nat) : Word := Store.get msixDflt d.msix (65536 * fn + (o - 0xE0000))

/-- The dwords of a request to the range: an aligned one of four or eight bytes (PRESUMED, log 6: other writes have no effect). -/
def msixDwords (a size : Nat) (enables : Bool) : List Nat :=
  if !enables then [] else if size = 4 && a % 4 = 0 then [a] else if size = 8 && a % 8 = 0 then [a, a + 4] else []

end Sys2Proof.Machine
end

