-- ==== Sys2Proof/Machine/Image.lean ====
section
/-! DEFINITION. The Denykai image (R327 to R342): headers, the choice of a copy, the checks of a copy in their order, the records of a
body and the values they set. -/

namespace Sys2Proof.Machine

/-! ## Factory values (R275, R290, R350, R81) -/

/-- The registers of the part before any image value: MAC addresses from the Cornerstone, and the on-die thresholds of grade -E. -/
def Dev.factoryRegs (d : Dev) : Store Word :=
  let f : Dev := { regs := [] }
  let mac (s w : Nat) (f : Dev) : Dev :=
    (f.setFld .HS_MACLO_MAC s 0 (d.sh w).data.toNat).setFld .HS_MACHI_MAC s 0 ((d.sh (w + 1)).data.toNat % 65536)
  let f := mac 3 0x12 (mac 2 0x10 f)
  let f := if d.gradeE then forN 6 (fun k f =>
      ((f.setFld .TM_THR0_WARN (68 + k) 0 1760).setFld .TM_THR0_THROT (68 + k) 0 1840).setFld .TM_THR1_SHUT (68 + k) 0 2000) f
    else f
  f.regs

/-! ## Headers (R329, R330) -/

/-- A field of a header. -/
def hdrNat (h : List Byte) (o n : Nat) : Nat := ofLe ((h.drop o).take n)

/-- A header is valid (R330). -/
def headerValid (h : List Byte) : Bool :=
  h.length == 256 && hdrNat h 0 4 == 0x4B594E44 && hdrNat h 4 2 == 1 && hdrNat h 6 2 == 256
    && hdrNat h 252 4 == (crc32 (h.take 252)).toNat

/-- What LOAD notes of a copy's header (R345). -/
def copyInfo (h : List Byte) : CopyInfo :=
  { state := if headerValid h then 0 else if h.all (· == 0xFF) then 1 else 2, reason := 0xFF, version := hdrNat h 12 1,
    gen := hdrNat h 8 4, bodyLen := hdrNat h 16 4, header := h }

/-- Checks 2 to 5 of a header (R331, R332, R333): the reason, or 0. -/
def Dev.headerChecks (d : Dev) (v : Nv) (h : List Byte) : Nat :=
  if hdrNat h 28 2 != 0x3200 || decide (Fld.of .GL_ID_COMPAT glId < hdrNat h 30 1) then 2
  else if sha256 ((h.drop 64).take 64) != d.rootDigest then 3
  else if !ecdsaOk ((h.drop 64).take 64) ((h.drop 128).take 64) (h.take 128) then 4
  else if hdrNat h 12 1 < v.rollback then 5
  else 0

/-- Checks 1 to 5 of a copy. -/
def Dev.copyEarly (d : Dev) (v : Nv) (c : CopyInfo) : Nat := if c.state = 0 then d.headerChecks v c.header else 1

/-- Check 6: the body does not fit (R328, R329), with the density in MiB. -/
def sizeBad (h : List Byte) (densityMiB : Nat) : Bool :=
  let n := hdrNat h 16 4
  n % 4 != 0 || decide (33554432 < n) || decide (densityMiB * 524288 < 256 + n) || decide (3 < hdrNat h 24 1)

/-! ## Records (R334 to R339) -/

/-- The image under construction: a device at its factory values, and IDENT. -/
structure Draft where
  dev : Dev
  ident : Nat × Nat

/-- The mask of the fields an image may set in a register (R336, R8). -/
def RegName.imgMask (r : RegName) : Word := r.rows.foldl (fun m x => if x.img then m ||| wmask x.fld.lo x.fld.width else m) 0

/-- A REG entry (R336): none when it fails. A field that is fixed in its instance keeps its value (R289, R291). -/
def regEntry (t : Draft) (off : Nat) (val mask : Word) : Option Draft :=
  if off % 4 != 0 then none
  else match decodeOff off with
  | none => none
  | some (r, i, _) =>
    let whole := r.rows.all fun x =>
      let m := wmask x.fld.lo x.fld.width
      (x.img && mask &&& m == m) || mask &&& m == 0
    let fixed := r.rows.foldl (fun m x => if x.fld.frozen i then m ||| wmask x.fld.lo x.fld.width else m) 0
    let set := mask &&& ~~~ fixed
    if r.imgMask = 0 || mask &&& ~~~ r.imgMask != 0 || !whole then none
    else some { t with dev := t.dev.setWord off ((t.dev.word off &&& ~~~ set) ||| (val &&& set)) }

/-- The size of a table an image may write (R337), in bytes; none for the others. -/
def Win.imgSize : Win → Option Nat
  | .curves _ => some 104448
  | .array _ | .bond _ _ | .foot _ => some 0x8000
  | .lut _ | .list _ => some 0x2000
  | .lv _ => some 32
  | .ramp _ => some 128
  | .wave _ _ => some 0x4400
  | .tone _ | .defect _ => some 0x400
  | .mark _ => some 0x100
  | _ => none

/-- The words of a TABLE record, from an offset on. -/
def tableWords (d : Dev) (w : Win) (off x : Nat) : List Byte → Dev
  | a :: b :: c :: e :: rest =>
    let v := BitVec.ofNat 32 (ofLe [a, b, c, e]) &&& w.mask x
    tableWords (d.setTbl off (le 4 v.toNat)) w (off + 4) (x + 4) rest
  | _ => d

/-- A TABLE record (R337). -/
def tableRecord (t : Draft) (off : Nat) (data : List Byte) : Option Draft :=
  if off % 4 != 0 then none
  else match winAt off with
  | none => none
  | some (w, x) => match w.imgSize with
    | some n => if x + data.length ≤ n then some { t with dev := tableWords t.dev w off x data } else none
    | none => none

/-- A BAY record (R338). -/
def bayRecord (t : Draft) (p : List Byte) : Option Draft :=
  let b := hdrNat p 0 1
  let port := hdrNat p 4 4
  let res := hdrNat p 8 4
  let cmp := hdrNat p 12 4
  if p.length != 16 || decide (3 < b) || hdrNat p 1 3 != 0 || decide (2 ^ 24 ≤ res) || decide (2 ^ 16 ≤ cmp) then none
  else
    let w (r : RegName) (n : Nat) (d : Dev) : Dev := d.setWord (r.off b 0) (BitVec.ofNat 32 n)
    some { t with dev := w .GL_BAYCMP cmp (w .GL_BAYRES res (w .GL_BAYPORT port t.dev)) }

/-- An NBSET entry (R339). -/
def nbEntry (t : Draft) (c n : Nat) : Option Draft :=
  let nb (k : Nat) : Nat := n / 128 ^ k % 128
  if 73 < c || !((List.range 4).all fun k => (decide (nb k ≤ 73) || nb k == 0x7F) && nb k != c) then none
  else some { t with dev := t.dev.setWord (RegName.off .TM_NB c 0) (BitVec.ofNat 32 (n % 2 ^ 31)) }

/-- The entries of a record, each of `size` bytes. -/
def entries (size : Nat) (p : List Byte) : List (List Byte) :=
  (List.range (p.length / size)).map fun i => (p.drop (size * i)).take size

/-- Entries take effect in order until one fails. -/
def applyAll {α : Type} (f : Draft → α → Option Draft) : List α → Draft → Option Draft
  | [], t => some t
  | x :: r, t => match f t x with
    | some t => applyAll f r t
    | none => none

/-- A record other than END (R335): none when it breaks its rule. -/
def record (t : Draft) (type : Nat) (p : List Byte) : Option Draft :=
  match type with
  | 1 => if p.length % 12 != 0 then none
    else applyAll (fun t e => regEntry t (hdrNat e 0 4) (BitVec.ofNat 32 (hdrNat e 4 4)) (BitVec.ofNat 32 (hdrNat e 8 4))) (entries 12 p) t
  | 2 => if p.length < 4 then none else tableRecord t (hdrNat p 0 4) (p.drop 4)
  | 3 => bayRecord t p
  | 4 => if p.length % 8 != 0 then none else applyAll (fun t e => nbEntry t (hdrNat e 0 4) (hdrNat e 4 4)) (entries 8 p) t
  | 5 => if p.length != 4 then none else some { t with ident := (hdrNat p 0 2, hdrNat p 2 2) }
  | n => if 2 ^ 15 ≤ n then some t else none

/-- The records of a body in order (R334): the draft after END, or the offset of the first failing record. `left` bounds the records,
`at_` is the offset of the rest, `n` the records so far. -/
def records (count : Nat) : Nat → Nat → Nat → List Byte → Draft → Draft ⊕ Nat
  | 0, at_, _, _, _ => .inr at_
  | left + 1, at_, n, rest, t =>
    if rest.length < 8 then .inr at_
    else
      let type := hdrNat rest 0 2
      let rsv := hdrNat rest 2 2
      let len := hdrNat rest 4 4
      let p := (rest.drop 8).take len
      if rsv != 0 || len % 4 != 0 || decide (rest.length < 8 + len) then .inr at_
      else if type = 0 then (if len = 0 && rest.length = 8 && n + 1 = count then .inl t else .inr at_)
      else match record t type p with
      | some t => records count left (at_ + 8 + len) (n + 1) (rest.drop (8 + len)) t
      | none => .inr at_

/-! ## Consistency (R340) -/

/-- The capacity that RI_FSCFG declares in MiB (R82 to R84); with DENSITY = 0b111 the largest that R82 supports. -/
def Dev.installed (d : Dev) (gb : Nat) : Nat :=
  (if d.fld .RI_FSCFG_CHANS = 3 then 2 else 1) * (1 + d.fld .RI_FSCFG_RANKS) * 4 * gb * 128

/-- The density of a code of RI_FSCFG or MR8 in Gb. -/
def densityGb : Nat → Nat
  | 0 => 8
  | 1 => 12
  | 2 => 16
  | 3 => 24
  | _ => 32

/-- CAP in MiB of an installed total; a total above 32 GiB is not supported (R82): its CAP is a free value. -/
def capOf (installed : Nat) : Nat := if 32768 < installed then Config.capUnsupported installed % 28673 else installed * 7 / 8

def Dev.declaredCap (d : Dev) : Nat :=
  let code := d.fld .RI_FSCFG_DENSITY
  if code = 7 then capOf (min 32768 (d.installed 32)) else capOf (d.installed (densityGb code))

/-- No resource belongs to two bays (R40). -/
def Dev.soleOwners (d : Dev) : Bool :=
  let one (f : Fld) : Bool := (List.range f.width).all fun n => decide (((List.range 4).filter fun b => d.fbit f b 0 n).length ≤ 1)
  [Fld.GL_BAYPORT_HP, .GL_BAYRES_PS, .GL_BAYRES_CAM, .GL_BAYRES_CPE, .GL_BAYRES_EM, .GL_BAYCMP_CMP].all one

/-- Every image value lies in its field's range (check 6 of R69). -/
def Dev.imageLegal (d : Dev) : Bool := d.regs.all fun x =>
  match decodeOff x.1 with
  | some (r, _, _) => r.rows.all fun y => !y.img || y.fld.legal (wget x.2 y.fld.lo y.fld.width)
  | none => true

/-- The values after all records pass, as though every present bay committed STANDBY at once. -/
def Dev.consistent (d : Dev) : Bool :=
  let t := forN 4 (fun b d => d.setFld .KS_BAYCTL_MODE b 0 0) d
  t.soleOwners && t.imageLegal && t.deviceRules.all id &&
    t.presentBays.all fun b => (t.valueRules t b).all id && (t.topoRules b).all id && (t.allocRules t b t.declaredCap).all id

/-! ## The body (R331, checks 6 to 9) -/

/-- The factory draft of the part. -/
def Dev.draft (d : Dev) : Draft := { dev := { regs := d.factoryRegs, gradeE := d.gradeE }, ident := (0x1E3D, 0) }

/-- Checks 6 to 9 of a copy with its body as read: the reason with the offset of the failing record (0xFFFFFFFF for none), or the
draft. -/
def Dev.bodyChecks (d : Dev) (h body : List Byte) : Draft ⊕ (Nat × Nat) :=
  let n := hdrNat h 16 4
  let body := body.take n
  if sizeBad h (d.boot.density.getD 0) then .inr (6, noField)
  else if body.length != n || sha256 body != (h.drop 32).take 32 then .inr (7, noField)
  else match records (hdrNat h 20 4) (n / 8 + 1) 0 0 body d.draft with
  | .inr at_ => .inr (8, at_)
  | .inl t => if t.dev.consistent then .inl t else .inr (9, noField)

end Sys2Proof.Machine
end

