-- ==== Sys2Proof/Machine/Boot.lean ====
section
/-! DEFINITION. Start-up, LOAD, SEALED, SERVICE and the warm reload (R308 to R326, R330, R341, R346, R416), and the staging of a new image
(R343 to R345). -/

namespace Sys2Proof.Machine

/-! ## Reset and the start-up sequence (R308, R309, R416) -/

/-- The meter settings return to their reset values, and with them every pin to its normal behaviour (R398). -/
def Dev.meterReset (d : Dev) : Dev :=
  let d := forN 32 (fun xx d => d.setWord (RegName.off .SV_PARK xx 0) 0) d
  let d := forN 4 (fun j d => d.setWord (RegName.off .SV_FORCE j 0) 0) d
  ((d.setWord (RegName.off .SV_MTEMP 0 0) 0).setWord (RegName.off .SV_PEN 0 0) 0).setWord (RegName.off .SV_PLUMB 0 0) 0

/-- The outputs pass to their reset state: slow outputs to high impedance or released, the link pins of heads off, and what the meter
settings drive ends (R398, R441). -/
def Dev.pinsOff (d : Dev) : Dev :=
  let e := d.meterReset.meterPins d
  let e := forN 52 (fun p e => if d.pinLevel p = none then e else e.emit (.pin p none)) e
  forN 32 (fun xx e => if d.on .HP_PWR_PEN xx then e.emit (.linkOff xx) else e) e

/-- The device in reset: what comes in at the pins and supplies, and what has left it, stays. -/
def Dev.resetAll (d : Dev) : Dev :=
  { now := d.now, out := d.pinsOff.out, free := d.free, nstop := d.nstop, boot := { nReset := d.boot.nReset, pins := d.boot.pins, por := d.boot.por } }

/-- Start-up begins when nRESET is high and no power-on reset holds (R309, R416). -/
def Dev.startUp (d : Dev) : Dev :=
  if d.boot.nReset && !d.boot.por && d.boot.phase == .inReset then { d with boot := { d.boot with phase := .counting } } else d

/-- nRESET is low for `ns` (R308): from 1 µs on it resets the device; from 100 ns it may. -/
def Dev.nResetLow (d : Dev) (ns : Nat) : Dev :=
  if ns < 100 then d
  else if 1000 ≤ ns then { d with boot := { d.boot with nReset := false } }.resetAll
  else
    let hit := Config.shortReset d.free
    let d := d.nextFree
    if hit then d.resetAll.startUp else d

/-- The AON power-on reset asserts and releases (R416). -/
def Dev.porAssert (d : Dev) : Dev := { d with boot := { d.boot with por := true } }.resetAll
def Dev.porRelease (d : Dev) : Dev := { d with boot := { d.boot with por := false } }.startUp

/-- nRESET rises (R309). -/
def Dev.nResetHigh (d : Dev) : Dev := { d with boot := { d.boot with nReset := true } }.startUp

/-- BOOTST2 to BOOTST0 (R309, R311, R314). -/
def Dev.bootst (d : Dev) : Nat :=
  match d.boot.phase with
  | .inReset | .counting => 0
  | .otpCheck | .pllWait | .sramClear => 1
  | .loadHeaders | .loadBody | .loadTrain | .loadApply => 2
  | .running | .reloadWait => if d.boot.inUse = 2 then 4 else 3
  | .isSealed => d.boot.sealedCode

/-- nRSTOUT (R308, R311, R313, R320). -/
def Dev.nrstout (d : Dev) : Bool := d.running

/-! ## LOAD (R310, R311, R323, R330, R341, R346) -/

/-- What LOAD leaves of a seat: its link, its reset input, and its configuration space (R323). -/
def Seat.kept (x : Seat) : Seat := { up := x.up, perst := x.perst, downAt := x.downAt, bars := x.bars, d3 := x.d3 }

/-- Every register, table and block at its reset state; the time base, the links, PCIe configuration, OTP, the console and the nSTOPn pins
stay (R323). -/
def Dev.cleared (d : Dev) (regs : Store Word) (tbl : Store Byte) : Dev :=
  let seats := forN 4 (fun s m => Store.set (fun _ => {}) m s (d.seat s).kept) []
  let base : Dev :=
    { regs := regs, tbl := tbl, msix := d.msix, now := d.now, tbStart := d.tbStart, out := d.out, free := d.free, gradeE := d.gradeE,
      boot := d.boot, seats := seats, nstop := d.nstop, ot := d.ot, con := d.con }
  forN 4 (fun s e => if (d.seat s).up then
      ((e.setOn .HS_LINK_UP s 0 true).setFld .HS_LINK_SPEED s 0 (d.fld .HS_LINK_SPEED s)).setFld .HS_LINK_WIDTH s 0 (d.fld .HS_LINK_WIDTH s)
    else e) base

/-- LOAD begins (R309, R323). -/
def Dev.loadBegin (d : Dev) (warm : Bool) (sel : Nat) : Dev :=
  let d := ({ d with out := d.pinsOff.out }).cleared d.factoryRegs []
  let d := d.ownerLoad
  let regs := d.factoryRegs
  let old := d.boot
  let b : Boot := { nReset := old.nReset, pins := old.pins, por := old.por, phase := .loadHeaders, warm := warm, sel := sel, ident := old.ident, imgRegs := regs,
                    loadFaults := if warm then [] else old.loadFaults, loadTb := old.loadTb, loadDone := old.loadDone }
  let d := { d with boot := b }
  d.scanStartDie

/-! ## The flash (R327, R328) -/

/-- The flash needs 4-byte addresses; it takes them by the 4-byte opcodes, or else in its 4-byte mode. -/
def Boot.deep (b : Boot) : Bool := decide (16 < b.density.getD 0)
def Boot.fourOps (b : Boot) : Bool := b.deep && b.caps.fourByte && b.caps.read144

/-- The opcodes of a read, a page program and a block erase, and the bytes that an erase takes. -/
def Boot.readOp (b : Boot) : Nat := if b.fourOps then 0xEC else if b.caps.read144 then 0xEB else 0x6B
def Boot.programOp (b : Boot) : Nat :=
  if b.caps.quadProgram then (if b.fourOps then 0x34 else 0x32) else if b.fourOps then 0x12 else 0x02
def Boot.eraseOp (b : Boot) : Nat :=
  if b.caps.erase64 then (if b.fourOps then 0xDC else 0xD8) else if b.fourOps then 0x21 else 0x20
def Boot.eraseUnit (b : Boot) : Nat := if b.caps.erase64 then 65536 else 4096

/-- The flash address of an offset in a copy (R328). -/
def Boot.flashAt (b : Boot) (k off : Nat) : Nat := k * ((b.density.getD 0) * 524288) + off

/-- The 4-byte mode is entered for LOAD or a staging operation, and left at its end, where the flash has no 4-byte opcodes. -/
def Dev.flashMode (d : Dev) (opcode : Nat) : Dev := if d.boot.deep && !d.boot.fourOps then d.emit (.flashMode opcode) else d

/-- The body clock of a header in MHz (R329). -/
def sckMhz (hdr : List Byte) : Nat := [25, 50, 100, 133].getD (hdrNat hdr 24 1) 25

/-- The header of a copy is read at 25 MHz; its body is read at the clock of its header, where its size is one that R331 allows. -/
def Dev.readHeader (d : Dev) (k : Nat) : Dev := d.emit (.flashRead d.boot.readOp (d.boot.flashAt k 0) 256 25)
def Dev.readBody (d : Dev) (k : Nat) (hdr : List Byte) : Dev :=
  if sizeBad hdr (d.boot.density.getD 0) then d
  else d.emit (.flashRead d.boot.readOp (d.boot.flashAt k 256) (hdrNat hdr 16 4) (sckMhz hdr))

/-- Bytes are programmed; a copy is erased. -/
def Dev.flashProgram (d : Dev) (k off : Nat) (data : List Byte) : Dev := d.emit (.flash k off (some data) d.boot.programOp 256)
def Dev.flashErase (d : Dev) (k : Nat) : Dev := d.emit (.flash k 0 none d.boot.eraseOp d.boot.eraseUnit)

/-- The density that SFDP gives, where it is one of R327: 64 Mbit to 2 Gbit. -/
def flashDensity (f : FlashHeads) : Option Nat := f.densityMiB.filter fun n => decide (8 ≤ n) && decide (n ≤ 256)

/-- A copy's information. -/
def Boot.copy (b : Boot) (k : Nat) : CopyInfo := if k = 0 then b.copyA else b.copyB
def Dev.setCopy (d : Dev) (k : Nat) (c : CopyInfo) : Dev :=
  if k = 0 then { d with boot := { d.boot with copyA := c } } else { d with boot := { d.boot with copyB := c } }
def Dev.setReason (d : Dev) (k reason : Nat) : Dev := d.setCopy k { d.boot.copy k with reason := reason }

/-- No copy loads: LOAD goes on with factory defaults (R312). -/
def Dev.loadDefaults (d : Dev) : Dev :=
  let d := { d with boot := { d.boot with reading := 2, inUse := 2, phase := .loadTrain } }
  if d.boot.sel = 3 then d else d.loadFault srcImgDefault 0xFF

/-- Try a copy (R330, R331): checks 1 to 5; a copy that passes them is read; after a failure the other copy is tried if its header is
valid and it has not been tried, and else the defaults load. -/
def Dev.tryCopy (d : Dev) (v : Nv) (k : Nat) : Nat → Dev
  | 0 => d.loadDefaults
  | fuel + 1 =>
    let d := { d with boot := { d.boot with tried := k :: d.boot.tried } }
    let r := d.copyEarly v (d.boot.copy k)
    if r = 0 then { d with boot := { d.boot with reading := k, phase := .loadBody } }.readBody k (d.boot.copy k).header
    else
      let d := if r = 1 then d else (d.setReason k r).loadFault srcImgCopy 0xFF
      if (d.boot.copy (1 - k)).state = 0 && !d.boot.tried.contains (1 - k) then Dev.tryCopy d v (1 - k) fuel else d.loadDefaults

/-- The copy tried first (R330, R346): none when no header is valid. -/
def Boot.first (b : Boot) : Option Nat :=
  let a := b.copyA.state == 0
  let c := b.copyB.state == 0
  if b.sel = 1 then some 0 else if b.sel = 2 then some 1
  else if a && c then
    let x := (b.copyB.gen + 2 ^ 32 - b.copyA.gen % 2 ^ 32) % 2 ^ 32
    some (if 1 ≤ x && x < 2 ^ 31 then 1 else 0)
  else if a then some 0
  else if c then some 1
  else none

/-- SFDP and both headers have been read (R327, R330, R331): a flash without a valid SFDP signature, or of another density than R327
allows, is unreadable (log 168), and a copy without a valid header fails check 1. -/
def Dev.headersRead (d : Dev) (v : Nv) (f : FlashHeads) : Dev :=
  let d := { d with boot := { d.boot with density := flashDensity f, caps := f.caps } }.emit (.flashRead 0x5A 0 256 25)
  let d := if (flashDensity f).isSome then ((d.flashMode 0xB7).readHeader 0).readHeader 1 else d
  let head (h : List Byte) : List Byte := if (flashDensity f).isSome then h.take 256 else []
  let d := (d.setCopy 0 (copyInfo (head f.a))).setCopy 1 (copyInfo (head f.b))
  if d.boot.sel = 3 then d.loadDefaults
  else
    let bad (k : Nat) (d : Dev) : Dev :=
      if (d.boot.copy k).state = 0 then d else (d.setReason k 1).loadFault srcImgCopy 0xFF
    let d := bad 1 (bad 0 d)
    match d.boot.first with
    | some k => d.tryCopy v k 2
    | none => d.loadDefaults

/-- The body of the copy has been read (R331): its values wait for the completion of LOAD, or the next copy is tried (R341). -/
def Dev.bodyRead (d : Dev) (v : Nv) (body : List Byte) : Dev :=
  let k := d.boot.reading
  match d.bodyChecks (d.boot.copy k).header body with
  | .inl t =>
    let d := d.setReason k 0
    { d with boot := { d.boot with inUse := k, phase := .loadTrain, imgRegs := t.dev.regs, imgTbl := t.dev.tbl, imgIdent := t.ident } }
  | .inr (r, _) =>
    let d := (d.setReason k r).loadFault srcImgCopy 0xFF
    if (d.boot.copy (1 - k)).state = 0 && !d.boot.tried.contains (1 - k) then d.tryCopy v (1 - k) 1 else d.loadDefaults

/-- The frame store has been trained with the settings of RI_FSCFG (R82, R83, R84): whether LP0 and LP1 trained, and the density code
of MR8. -/
def Dev.storeTrained (d : Dev) (ok0 ok1 : Bool) (mr8 : Nat) : Dev :=
  let t : Dev := { regs := d.boot.imgRegs }
  let both := t.fld .RI_FSCFG_CHANS == 3
  let code := t.fld .RI_FSCFG_DENSITY
  let cap := capOf (t.installed (densityGb (if code = 7 then mr8 else code)))
  let good := ok0 && (!both || ok1)
  let d := { d with boot := { d.boot with phase := .loadApply, capMib := if good then cap else 0,
                                          trained := (if ok0 then 1 else 0) + (if both && ok1 then 2 else 0) } }
  if good then d else d.loadFault srcFsTrain 0xFF

/-- The curves that an image wrote become the active curve banks (R337); they leave the other tables. -/
def Dev.takeCurves (d : Dev) : Dev :=
  let mine (xx : Nat) (p : Nat × Byte) : Bool := decide (curvesAt xx ≤ p.1) && decide (p.1 < curvesAt xx + 104448)
  let d := forN 32 (fun xx d =>
    d.setEngine xx { d.engine xx with curves := (d.tbl.filter (mine xx)).map fun p => (p.1 - curvesAt xx, p.2) }) d
  { d with tbl := d.tbl.filter fun p => !(decide (0x01000000 ≤ p.1) && decide (p.1 < 0x01400000)) }

/-- GL_LOADED (R324) for a seat. -/
def Dev.sendLoaded (d : Dev) (s : Nat) (w : Nat × Nat) : Dev := d.devEvent s 1 0x0000 0xFF w.1 w.2

/-- LOAD completes (R311): registers and tables take the values of the image, the blocks start, the faults noted during LOAD reach the
collector (R358, R416), the counters come back from the tally store (R379), and PC_SOURCE follows GL_LOADED in each bay whose pacer
has a source (R158). -/
def Dev.loadDone (d : Dev) (v : Nv) (tallyUe : List Nat) : Dev :=
  let b := d.boot
  let pulse := d.fc.pulseEnd
  let d := (d.cleared b.imgRegs b.imgTbl).takeCurves
  let before : Dev := { regs := d.factoryRegs }
  let d := { d with boot := { b with phase := .running, ident := b.imgIdent, imgRegs := [], imgTbl := [], loadTb := d.tb, loadDone := d.now,
                                     loadFaults := [] } }
  let d := (d.setFld .RI_FSSTAT_CAPMIB 0 0 b.capMib).setFld .RI_FSSTAT_TRAINED0 0 0 (b.trained % 2)
  let d := d.setFld .RI_FSSTAT_TRAINED1 0 0 (b.trained / 2)
  let d := d.setFld .SV_STAT_BAUD 0 0 (d.fld .SV_CFG_BAUD)
  let d := { d with fc := { d.fc with pulseEnd := pulse, sigs := b.loadFaults } }
  let d := if pulse.isSome then d.setOn .FC_NERR_PULSE 0 0 true else d
  let d := forN 32 (fun xx d => d.setItk xx { d.itk xx with geo := d.geoOf xx, u := sub48 1 (d.fld .RI_DELAY_DELAY xx) }) d
  let d := forN 8 (fun n d => d.psStart n) d
  let d := d.presentBays.foldl (fun d b =>
    let d := d.setPc b { d.pc b with quietFrom := d.now }
    d.pacingApplied before b d.tb true) d
  let d := forN 32 (fun xx d => if d.trOn xx then
      (d.setFld .TR_STAT_STATE xx 0 1).setTrHead xx { present := true, pollAt := d.now + ms (d.fld .TR_CFG_POLL) } else d) d
  let d := { d with wear := { d.wear with nextPeriodic := d.now + sec 60, nextTrend := d.tb + sec 3600,
                                          wbAt := forN 32 (fun xx m => Store.set (fun _ => 0) m xx d.now) [] } }
  let d := d.tallyLoad v tallyUe
  let d := d.scanStart.followIslands
  let d := forN 2 (fun k d => if d.on .HS_CTL_EN (2 + k) then d else
      (d.setSeat (2 + k) { d.seat (2 + k) with up := false, downAt := none }).setWord (RegName.off .HS_LINK (2 + k) 0) 0) d
  let d := (List.range 32).foldl (fun d k => match d.pinNormal (8 + k) with | some l => d.pinOut (8 + k) (some l) | none => d) d
  let d := d.flashMode 0xE9
  let w : Nat × Nat := (b.inUse + (if b.warm then 4 else 0), if b.inUse = 2 then 0 else (b.copy b.inUse).gen)
  let d := forN 4 (fun s d => if (d.seat s).up then d.sendLoaded s w else d.setSeat s { d.seat s with loaded := some w }) d
  d.presentBays.foldl (fun d b => if (d.pc b).src = 0 then d else d.bayEvent b 1 0x0701 b (d.pc b).src 0) d

/-! ## SERVICE (R321, R322, R397, R398, R401) -/

/-- The commits that are ARMED without triggers are cancelled, and the two conditions tested (R321, R323). -/
def Dev.quietForService (d : Dev) : Dev × Bool :=
  let d := if d.atRest then d.cancelStalled else d
  (d, d.atRest && d.noCommit)

/-- The device enters SERVICE, or answers MODE (R321). -/
def Dev.serviceEnter (d : Dev) : Dev × Bool :=
  let (d, ok) := d.quietForService
  if !ok then (d, false)
  else
    let d := (forN 4 (fun b d => d.deliver b) d).dropWaiting.snapCancel
    let before := d
    let d := d.presentBays.foldl (fun d b => d.bayEvent b 1 0x0104 0xFF 7 (d.bay b).mode.code) d
    let d := { d with boot := { d.boot with service := true }, wear := { d.wear with orderlyHeld := false } }
    let d := forN 4 (fun b d =>
      let d := d.setBay b { d.bay b with mode := .standby, mark := false }
      (d.setPc b { d.pc b with trigs := [], delayed := [], stop := none }).updateSource b d.tb true) d
    let d := (d.cmpPins before 0xFFFF).setWord (RegName.off .SV_PEN 0 0) 0
    let d := forN 32 (fun xx d => d.followPower xx 5) d
    (d.followIslands.ckptStart ckService, true)

/-- The device leaves SERVICE (R322, R398, R401). -/
def Dev.serviceLeave (d : Dev) : Dev :=
  let old := d.ptActive
  let before := d
  let d := d.meterReset
  let d := if d.on .PT_CFG_BENCH then d else d.ptReset
  let d := { d with boot := { d.boot with service := false } }
  let d := d.presentBays.foldl (fun d b =>
    let d := (d.setFld .KS_BAYCTL_MODE b 0 0).bayEvent b 1 0x0104 0xFF 0 7
    let d := d.setPc b { d.pc b with quietFrom := d.now, lastTrig := none }
    (((d.updateSource b d.tb false).noSource before b).fcEval b).thrEval b false) d
  let d := forN 32 (fun xx d => d.followPower xx 1) d
  (((d.forcePins before).meterPins before).cmpPins before 0xFFFF).followIslands.ptNote old

/-- A stop in SERVICE clears SV_PEN (R321, R397). -/
def Dev.serviceStop (d : Dev) : Dev :=
  let old := d.ptActive
  let d := d.setWord (RegName.off .SV_PEN 0 0) 0
  (forN 32 (fun xx d => d.followPower xx 5) d).ptNote old

/-! ## Warm reload (R323, R326, R346, R347) -/

/-- An IMGSTAGE frame executes (R343, R347). -/
def Dev.staging (d : Dev) : Bool := d.boot.flashOp.isSome || d.ot.queue.any fun q => q.src == 1

/-- An accepted reload starts: its completion, then the pacers stop, the heads power down, and the checkpoint begins. -/
def Dev.reloadStart (d : Dev) (h : Option CmdHdr) (sel : Nat) : Dev :=
  let d := match h with
    | some h => d.complete h 0x0031 .ok (le 4 sel)
    | none => d
  let d := { d with boot := { d.boot with phase := .reloadWait, sel := sel, reloadWaits := none, reloadAt := d.now } }
  let d := forN 4 (fun b d => d.deliver b) d
  let d := forN 4 (fun b d =>
    (d.setPc b { d.pc b with trigs := [], delayed := [] }).updateSource b d.tb true) d
  (forN 32 (fun xx d => d.followPower xx 1) d).ckptStart ckReload

/-- IMGRELOAD with SEL (R323, R346, R347): accepted, refused with MODE, or kept until the IMGSTAGE that executes has completed. -/
def Dev.reload (d : Dev) (h : Option CmdHdr) (sel : Nat) : Dev × Status :=
  let (d, ok) := if d.boot.service then (d, true) else d.quietForService
  if !ok || d.boot.phase != .running || d.boot.reloadWaits.isSome then (d, .mode)
  else if d.staging then ({ d with boot := { d.boot with reloadWaits := some (h, sel) } }, .ok)
  else (d.reloadStart h sel, .ok)

/-- A reload that waited for an IMGSTAGE starts (R347). -/
def Dev.reloadGo (d : Dev) : Dev :=
  match d.boot.reloadWaits with
  | some (h, sel) => if d.staging || d.boot.phase != .running then d else d.reloadStart h sel
  | none => d

/-- The write-back of a head is due and may go to it (R370, R380). -/
def Dev.wbWaits (d : Dev) (xx : Nat) : Bool := d.wbDue xx && d.wbAllowed xx

/-- A reload goes on to LOAD when its checkpoint is complete and every head write-back has ended (R323). -/
def Dev.reloadStep (d : Dev) : Dev :=
  if d.boot.phase == .reloadWait && d.wear.ckpt.isNone && !((List.range 32).any d.wbWaits) then d.loadBegin true d.boot.sel else d

/-- The write-backs have run for 100 ms (R326). -/
def Dev.abandonDue (d : Dev) : Bool :=
  d.boot.phase == .reloadWait && d.wear.ckpt.isNone && decide (d.boot.reloadAt + ms 100 ≤ d.now)

/-! ## Staging (R343 to R345) -/

/-- An IMGSTAGE operation ends: its completion (R343), and a reload that waits for it starts (R347). -/
def Dev.stageEnd (d : Dev) (h : CmdHdr) (result : Nat) (extra : List Byte) : Dev :=
  let d := if d.boot.flashOp.isSome then d.flashMode 0xE9 else d
  (({ d with boot := { d.boot with flashOp := none } }).complete h 0x0030 .ok (le 4 result ++ extra)).reloadGo

/-- The header buffer of a copy (R343): 0xFF where nothing has been written. -/
def bufDflt (_ : Nat) : Byte := 0xFF
def Dev.buf (d : Dev) (k : Nat) : Store Byte := if k = 0 then d.boot.bufA else d.boot.bufB
def Dev.setBuf (d : Dev) (k : Nat) (m : Store Byte) : Dev :=
  if k = 0 then { d with boot := { d.boot with bufA := m } } else { d with boot := { d.boot with bufB := m } }
def Dev.bufHeader (d : Dev) (k : Nat) : List Byte := Store.getRun bufDflt (d.buf k) 0 256

/-- A flash operation goes on to a step; the first step enters the 4-byte mode. -/
def Dev.flashStart (d : Dev) (h : CmdHdr) (op k off : Nat) : Dev :=
  let d := if d.boot.flashOp.isSome then d else d.flashMode 0xB7
  { d with boot := { d.boot with flashOp := some ⟨h, op, k, off⟩ } }

/-- The extra bytes of a VERIFY: GEN, and the body offset of the first failing record. -/
def verifyExtra (hdr : List Byte) (at_ : Nat) : List Byte := (hdr.drop 8).take 4 ++ le 4 at_

/-- ERASE: the header's block goes first (R343). -/
def Dev.stageErase (d : Dev) (h : CmdHdr) (k : Nat) : Dev :=
  if k = d.boot.inUse then d.complete h 0x0030 .refusedAccess []
  else
    let d := (d.setBuf k []).setCopy k { copyInfo (List.replicate 256 0xFF) with reason := (d.boot.copy k).reason }
    (d.flashStart h 0 k 0).flashErase k

/-- WRITE: the header's bytes go to its buffer, the others to the flash. -/
def Dev.stageWrite (d : Dev) (h : CmdHdr) (k off : Nat) (data : List Byte) : Dev :=
  if k = d.boot.inUse then d.complete h 0x0030 .refusedAccess []
  else if off % 4 != 0 || decide ((d.boot.density.getD 0) * 524288 < off + data.length) then d.complete h 0x0030 .badFrame []
  else
    let n := 256 - off
    let d := d.setBuf k (Store.setRun bufDflt (d.buf k) off (data.take n))
    let rest := data.drop n
    if rest.isEmpty then d.stageEnd h 0 []
    else (d.flashStart h 1 k off).flashProgram k (max off 256) rest

/-- VERIFY (R344): checks 2 to 6 on the buffered header; then the body is read. -/
def Dev.stageVerify (d : Dev) (v : Nv) (h : CmdHdr) (k : Nat) : Dev :=
  if k = d.boot.inUse then d.complete h 0x0030 .refusedAccess []
  else
    let hdr := d.bufHeader k
    let r := d.headerChecks v hdr
    let r := if r = 0 && sizeBad hdr (d.boot.density.getD 0) then 6 else r
    if r = 0 then (d.flashStart h 2 k 0).readBody k hdr else d.stageEnd h r (verifyExtra hdr noField)

/-- The status record of a copy (R345). -/
def CopyInfo.bytes (c : CopyInfo) : List Byte := le 1 c.state ++ le 1 c.reason ++ le 1 c.version ++ le 1 0 ++ le 4 c.gen ++ le 4 c.bodyLen ++ le 4 0

/-- QUERY (R345). -/
def Dev.stageQuery (d : Dev) (v : Nv) (h : CmdHdr) : Dev :=
  d.stageEnd h 0 (le 1 d.boot.inUse ++ le 1 (if d.ot.active.isSome then 1 else 0) ++ le 1 v.rollback ++ le 1 0
    ++ le 4 (d.boot.density.getD 0) ++ d.boot.copyA.bytes ++ d.boot.copyB.bytes ++ le 8 d.boot.loadTb)

/-- ADVANCE (R343, R359): the counter words up to the VERSION of the copy in use are queued for programming. -/
def Dev.stageAdvance (d : Dev) (v : Nv) (h : CmdHdr) : Dev :=
  if d.boot.inUse = 2 then d.complete h 0x0030 .refusedAccess []
  else
    let n := (d.boot.copy d.boot.inUse).version
    if n ≤ v.rollback then d.stageEnd h 0 []
    else d.otpEnqueue ⟨1, (List.range (n - v.rollback)).map fun i => (0x400 + v.rollback + i, 0xFFFFFFFF), some h⟩

/-- The flash reports the end of the operation that runs (R343, R344), with the body when a VERIFY reads it. -/
def Dev.flashDone (d : Dev) (ok : Bool) (body : List Byte) : Dev :=
  match d.boot.flashOp with
  | none => d
  | some f =>
    let hdr := d.bufHeader f.copy
    let k := f.copy
    if f.op = 2 then
      (if !ok then d.stageEnd f.origin 0x0A (verifyExtra hdr noField)
       else match d.bodyChecks hdr body with
       | .inr (r, at_) => d.stageEnd f.origin r (verifyExtra hdr at_)
       | .inl _ => ((d.flashStart f.origin 5 k 0).flashProgram k 0 hdr).readHeader k)
    else if f.op = 5 then
      (if ok then (d.setCopy k { copyInfo hdr with reason := (d.boot.copy k).reason }).stageEnd f.origin 0 (verifyExtra hdr noField)
       else (d.setCopy k { d.boot.copy k with state := 2 }).stageEnd f.origin 0x0A (verifyExtra hdr noField))
    else d.stageEnd f.origin (if ok then 0 else 0x0A) []

/-! ## SEALED (R315) -/

/-- The status line of a SEALED device. -/
def Dev.sealedLine (d : Dev) : String :=
  let w := d.boot.sealedWord
  "SEALED code=" ++ String.ofList [hexDigit d.boot.sealedCode] ++ " word=0x"
    ++ String.ofList [hexDigit (w / 4096), hexDigit (w / 256), hexDigit (w / 16), hexDigit w]

end Sys2Proof.Machine
end

