-- ==== Sys2Proof/Machine/Frames.lean ====
section
/-! DEFINITION. Frames and rings (R42 to R61, R87, R88, R320, R321, R403, R447): the arrival of a frame by descriptor or datagram, the checks
of its header, its sequence number, the commands and what they answer, MMIO, and the links. -/

namespace Sys2Proof.Machine

/-! ## Who is served -/

/-- Queue class q of a seat is withheld by a perturbation (R403). -/
def Dev.credit (d : Dev) (s q : Nat) : Bool := 1 ≤ q && q ≤ 3 && d.fbit .PT_CREDIT_Q s 0 (q - 1)

/-- The frames of a queue wait: withheld (R403), or behind an IMGSTAGE frame that executes (R59, R347). -/
def Dev.blocked (d : Dev) (s q : Nat) : Bool := d.credit s q || (q == 2 && s == d.steward && (d.staging || d.boot.reloadWaits.isSome))

/-- As `blocked`, by the QUEUE byte of a frame: a feed queue waits with FEED. -/
def Dev.blockedAt (d : Dev) (s queue : Nat) : Bool := if 32 ≤ queue then d.on .PT_CREDIT_FEED s else d.blocked s (queue % 4)

/-- The seat's frames are taken: LOAD has begun, the seat is enabled, its link is up, and it is not fenced (R81, R302, R320). -/
def Dev.serves (d : Dev) (s : Nat) : Bool :=
  (d.running || d.inLoad) && d.on .HS_CTL_EN s && (d.seat s).up && !(d.seat s).perst && !d.seatFenced s

/-- A command frame reaches execution now. -/
def Dev.takes (d : Dev) (h : CmdHdr) : Bool :=
  match h.src with
  | .seat s => d.serves s.val && !d.blocked s.val h.q.val
  | .console => d.running

/-! ## Order and permission (R48, R49, R320, R321) -/

/-- The opcodes of R49. -/
def knownOp (op : Nat) : Bool :=
  decide (op ≤ 4) || (decide (0x10 ≤ op) && decide (op ≤ 0x14)) || op == 0x20 || op == 0x30 || op == 0x31

/-- The queue classes that accept an opcode (R49). -/
def acceptsOp (op q : Nat) : Bool :=
  match op with
  | 0x00 => true
  | 0x01 => q == 0 || q == 1
  | 0x02 | 0x10 | 0x11 | 0x31 => q == 1
  | 0x03 => q == 1 || q == 2
  | 0x04 | 0x30 => q == 2
  | 0x12 | 0x13 | 0x14 => q == 3
  | 0x20 => q == 0
  | _ => false

/-- The opcodes a seat may send in SERVICE (R321). -/
def serviceOp (op : Nat) : Bool := op == 0 || op == 1 || op == 3 || (decide (0x12 ≤ op) && decide (op ≤ 0x14)) || op == 0x20

/-- Only the steward and the console send IMGSTAGE and IMGRELOAD (R343, R323). -/
def Dev.notSteward (d : Dev) (h : CmdHdr) : Bool := match h.src with | .seat s => s.val != d.steward | .console => false

/-- The status that stops a command before its own rules: `gl` says that it is an RD32 of GL offsets only. -/
def Dev.stops (d : Dev) (h : CmdHdr) (op : Nat) (gl : Bool) : Option Status :=
  if !d.running && !(op == 1 && gl) then some .mode
  else if !knownOp op then some (if 0x40 ≤ op && op ≤ 0x4F then .wrongQueue else .badOpcode)
  else if !acceptsOp op h.q.val then some .wrongQueue
  else match h.src with
  | .seat _ => if d.inService && !serviceOp op then some (if op = 0x30 && d.notSteward h then .refusedSteward else .mode) else none
  | .console => if !d.inService && !(op == 1 || op == 3 || op == 0x20) then some .mode else none

/-- The sequence rule (R48): a frame in order takes its number and goes on; the others are answered here. The console's frames carry no
order (R389). -/
def Dev.sequenced (d : Dev) (h : CmdHdr) (op : Nat) : Dev × Bool :=
  match h.src with
  | .console => (d, true)
  | .seat s =>
    let x := d.seat s.val
    let c := x.cmdq h.q.val
    let dist := seqDist c h.seq
    if dist = 0 then (d.setSeat s.val (x.setCmdq h.q.val { c with exp := (c.exp + 1) % 65536 }), true)
    else if 65520 ≤ dist then
      let old := ((c.hist.find? fun y => y.1 == h.seq).map (·.2)).getD 0
      (d.completeAs h op .duplicate (le 2 old ++ le 2 0), false)
    else (d.completeAs h op .sequence [], false)

/-- A command frame goes through R48 and R49, and then its own rules `k`. -/
def command (d : Dev) (v : Nv) (h : CmdHdr) (op : Nat) (gl : Bool) (k : Dev → Dev × Nv) : Dev × Nv :=
  let (d, go) := d.sequenced h op
  if !go then (d, v)
  else match d.stops h op gl with
  | some st => (d.complete h op st [], v)
  | none => k d

/-! ## The commands of R49 that are not commits, snapshots or images -/

/-- RD32 (R50): a refused offset reads 0, and the first refusal is the status. -/
def Dev.readAll (d : Dev) (v : Nv) (who : Src) : List Nat → Dev × List Word × Status
  | [] => (d, [], .ok)
  | o :: r =>
    let (d, w, st) := d.busRead v who o
    let (d, ws, st') := Dev.readAll d v who r
    (d, w :: ws, if st = .ok then st' else st)

def Dev.rd32 (d : Dev) (v : Nv) (h : CmdHdr) (offs : List Nat) : Dev :=
  if (if h.q.val = 0 then 16 else 256) < offs.length then d.complete h 0x0001 .badFrame []
  else
    let (d, ws, st) := d.readAll v h.src offs
    d.complete h 0x0001 st (wordBytes ws)

/-- WR32 (R50): the pairs in order, up to the first refused one; how many were done, and its status. -/
def writeAll (d : Dev) (v : Nv) (who : Src) : List (Nat × Word) → Nat → Dev × Nv × Nat × Status
  | [], n => (d, v, n, .ok)
  | (o, w) :: r, n =>
    let (d, v, st) := busWrite d v who o w
    if st = .ok then writeAll d v who r (n + 1) else (d, v, n, st)

def wr32 (d : Dev) (v : Nv) (h : CmdHdr) (pairs : List (Nat × Word)) : Dev × Nv :=
  if 256 < pairs.length then (d.complete h 0x0002 .badFrame [], v)
  else
    let (d, v, n, st) := writeAll d v h.src pairs 0
    ((d.noteFrameMode h st).complete h 0x0002 st (le 4 n), v)

/-- The offsets of a block. -/
def blockOffs (off len : Nat) : List Nat := (List.range (len / 4)).map fun i => off + 4 * i

/-- RDBLK: data longer than a frame to its sender may be is BAD_FRAME (R47, R49); a block that R447 refuses returns no data; a word of another bay's resource reads as zeros (R27). -/
def Dev.rdblk (d : Dev) (v : Nv) (h : CmdHdr) (off len : Nat) : Dev :=
  if frameMax h < len then d.complete h 0x0003 .badFrame []
  else if !blockOk off len then d.complete h 0x0003 .refusedAccess []
  else
    let (d, ws, st) := d.readAll v h.src (blockOffs off len)
    d.complete h 0x0003 st (wordBytes ws)

/-- WRBLK (R447): word by word, up to the first refused one. -/
def wrblk (d : Dev) (v : Nv) (h : CmdHdr) (off : Nat) (data : List Word) : Dev × Nv :=
  if !blockOk off (4 * data.length) then (d.complete h 0x0004 .refusedAccess [], v)
  else
    let (d, v, _, st) := writeAll d v h.src (List.zip (blockOffs off (4 * data.length)) data) 0
    ((d.noteFrameMode h st).complete h 0x0004 st [], v)

/-- STOP (R61, R321). -/
def Dev.stopCmd (d : Dev) (h : CmdHdr) (bay : Nat) : Dev :=
  match h.src with
  | .seat s =>
    if d.inService then d.complete h 0x0020 .ok []
    else if bay != s.val || !d.present bay then d.complete h 0x0020 .refusedBay []
    else (d.registerStop bay 0).complete h 0x0020 .ok []
  | .console =>
    if d.inService then d.serviceStop.complete h 0x0020 .ok []
    else if !d.present bay then d.complete h 0x0020 .refusedBay []
    else (d.registerStop bay 2).complete h 0x0020 .ok []

/-- IMGRELOAD (R323, R346). -/
def Dev.imgReload (d : Dev) (h : CmdHdr) (sel : Nat) : Dev :=
  if d.notSteward h then d.complete h 0x0031 .refusedSteward []
  else if 4 ≤ sel then d.complete h 0x0031 .badFrame []
  else match d.reload (some h) sel with
  | (d, .mode) => d.complete h 0x0031 .mode (le 4 sel)
  | (d, _) => d

/-- An IMGSTAGE operation (R343) from the steward or the console; the console's is BUSY while another executes (DESIGN CHOICE, log 167). -/
def Dev.imgStage (d : Dev) (h : CmdHdr) (k : Dev → Dev) : Dev :=
  if d.notSteward h then d.complete h 0x0030 .refusedSteward []
  else if h.src == .console && d.staging then d.complete h 0x0030 .busy []
  else k d

/-- The operation an IMGSTAGE payload names. -/
def Dev.stageOp (d : Dev) (v : Nv) (h : CmdHdr) (p : List Byte) : Dev :=
  let k := field p 1 1
  match field p 0 1 with
  | 0 => if k ≤ 1 then d.stageErase h k else d.complete h 0x0030 .badFrame []
  | 1 => if k ≤ 1 then d.stageWrite h k (field p 4 4) (p.drop 8) else d.complete h 0x0030 .badFrame []
  | 2 => if k ≤ 1 then d.stageVerify v h k else d.complete h 0x0030 .badFrame []
  | 3 => d.stageQuery v h
  | 4 => d.stageAdvance v h
  | _ => d.complete h 0x0030 .badFrame []

/-- The commands by opcode, with the payloads of R49. -/
def execute (d : Dev) (v : Nv) (h : CmdHdr) (op : Nat) (p : List Byte) : Dev × Nv :=
  let n := p.length
  let bad : Dev × Nv := (d.complete h op .badFrame [], v)
  match op with
  | 0x00 => (d.complete h 0 .ok [], v)
  | 0x01 => (d.rd32 v h (parseOffs p), v)
  | 0x02 => if n % 8 != 0 then bad else wr32 d v h (parsePairs p)
  | 0x03 => if n != 8 then bad else (d.rdblk v h (field p 0 4) (field p 4 4), v)
  | 0x04 => if n < 4 then bad else wrblk d v h (field p 0 4) (leWords (p.drop 4))
  | 0x10 => if n != 16 then bad else (d.commit h (parseCommit p), v)
  | 0x11 => if n != 4 then bad else (d.cancel h (field p 0 1), v)
  | 0x12 => if n != 16 then bad else (d.snapReq h (field p 0 1) (field p 1 1) (field p 8 6), v)
  | 0x13 => if n != 12 then bad else (d.snapRead h (field p 0 1) (field p 1 1) (field p 4 4) (field p 8 4), v)
  | 0x14 => if n != 4 then bad else (d.snapRelease h (field p 0 1) (field p 1 1), v)
  | 0x20 => if n != 4 then bad else (d.stopCmd h (field p 0 1), v)
  | 0x30 => (d.imgStage h fun d => if n < 8 then d.complete h op .badFrame [] else d.stageOp v h p, v)
  | 0x31 => if n != 4 && !d.notSteward h then bad else (d.imgReload h (field p 0 1), v)
  | _ => bad

/-- A command frame with its payload. -/
def runCommand (d : Dev) (v : Nv) (h : CmdHdr) (op : Nat) (p : List Byte) : Dev × Nv :=
  command d v h op ((parseOffs p).all glOffset) fun d => execute d v h op p

/-! ## The header (R47, R60) -/

/-- A frame's header. -/
structure Hdr where
  magic : Nat
  version : Nat
  seat : Nat
  queue : Nat
  flags : Nat
  seq : Nat
  op : Nat
  len : Nat
  deriving DecidableEq, Repr

def parseHdr (f : List Byte) : Hdr :=
  ⟨field f 0 2, field f 2 1, field f 3 1, field f 4 1, field f 5 1, field f 6 2, field f 8 2, field f 12 4⟩

/-- The seat's command queue that a QUEUE byte names, by its class; the class of a byte that names none serves its completion. -/
def qClass (queue : Nat) : Fin 4 := ⟨queue % 4, Nat.mod_lt _ (by decide)⟩

/-- The header is malformed (R47, R60) for a seat whose frames hold at most `maxLen` bytes. -/
def headerBad (x : Hdr) (s maxLen payload : Nat) : Bool :=
  x.magic != 0x4E44 || x.seat != s || x.len % 4 != 0 || decide (maxLen < x.len) || x.len != payload
    || (x.queue == 4 * s && decide (256 < x.len))
    || !((decide (4 * s ≤ x.queue) && decide (x.queue < 4 * s + 4)) || (decide (32 ≤ x.queue) && decide (x.queue < 64)))

/-- The feed frame of a payload (R89, R90). -/
def parseFeed (op : Nat) (p : List Byte) : Feed :=
  let raster := field p 0 6
  match op with
  | 0x40 => if p.length < 16 then .bad op 4
    else .cdata raster (field p 6 2) (field p 8 2) (field p 10 2) (field p 12 1) (field p 13 1) (field p 14 2) (p.drop 16)
  | 0x41 => if p.length < 16 then .bad op 4
    else .cfill raster (field p 6 2) (field p 8 2) (field p 10 2) (field p 12 1) (field p 13 1) (field p 14 2) p.length
  | 0x42 => .fflush raster (p.length == 8 && field p 6 2 == 0)
  | op => .bad op (if knownOp op then 7 else 6)

/-- A frame of a seat is executed: a command, or a feed frame (R47, R88). -/
def runFrame (d : Dev) (v : Nv) (s : Fin 4) (replyLen : Nat) (f : List Byte) : Dev × Nv :=
  let x := parseHdr f
  let p := f.drop 16
  let noack := x.flags / 2 % 2 == 1
  let irq := x.flags / 4 % 2 == 1
  let feed := decide (32 ≤ x.queue) && decide (x.queue < 64)
  let h : CmdHdr := ⟨.seat s, qClass x.queue, x.seq, noack, irq, replyLen⟩
  let fh : FeedHdr := ⟨s, ⟨x.queue % 32, Nat.mod_lt _ (by decide)⟩, x.seq, noack, irq, replyLen⟩
  let answer (st : Status) : Dev × Nv :=
    (if feed then d.feedComplete fh x.op st [] else d.completeAs h x.op st [], v)
  if f.length < 16 then (d, v)
  else if headerBad x s.val (seatMaxLen s.val) p.length then answer .badFrame
  else if x.version != 1 then answer .badVersion
  else if feed then (d.feedArrive fh (parseFeed x.op p), v)
  else runCommand d v h x.op p

/-! ## Ethernet (R44, R45, R60, R403) -/

/-- A frame dropped and counted. -/
def Dev.dropFrame (d : Dev) (s : Nat) : Dev := d.bump .HS_ERRCNT_DROP s 0

/-- The MAC address of a seat, and the broadcast address. -/
def Dev.macOf (d : Dev) (s : Nat) : Nat := d.pair .HS_MACLO_MAC .HS_MACHI_MAC s
def macBroadcast : Nat := 2 ^ 48 - 1

/-- The sender's address is the peer's (R45). -/
def Dev.peerOk (d : Dev) (s : Nat) (ip : Word) : Bool :=
  if d.on .HS_LINK_BOUND s then d.reg .HS_BOUNDIP s == ip
  else d.reg .HS_PEERIP s == 0 || d.reg .HS_PEERIP s == ip

/-- The first valid frame binds its sender; an ARP request for the peer then goes out (R44). -/
def Dev.bindPeer (d : Dev) (s : Nat) (ip : Word) (port : Nat) : Dev :=
  if d.on .HS_LINK_BOUND s then d
  else (((d.setFld .HS_BOUNDIP_ADDR s 0 ip.toNat).setFld .HS_BOUNDPORT_PORT s 0 port).setOn .HS_LINK_BOUND s 0 true).emit (.arpRequest s ip)

/-- An ARP reply that answers such a request: it is taken, and changes nothing that software can see. -/
def Dev.arpAnswer (d : Dev) (s : Nat) (sender target : Word) : Bool :=
  d.on .HS_LINK_BOUND s && d.reg .HS_BOUNDIP s == sender && target == d.reg .HS_IPADDR s

/-- The bytes that frames of withheld queues occupy in the shared receive space (R60, R403). -/
def Seat.heldBytes (x : Seat) : Nat := x.withheld.foldl (fun n f => n + f.length) 0

/-- A UDP payload that passed R44 and comes from the peer: a bad trailer is dropped (R47); a frame of a queue that waits stays unexecuted. -/
def ndoefDatagram (d : Dev) (v : Nv) (s : Fin 4) (ip : Word) (port : Nat) (data : List Byte) : Dev × Nv :=
  let f := data.take (data.length - 4)
  if data.length < 4 || ofLe (data.drop (data.length - 4)) != (crc32 f).toNat then (d.bump .HS_ERRCNT_CRC s.val 0, v)
  else if f.length < 16 then (d, v)
  else
    let x := parseHdr f
    let good := !headerBad x s.val 8952 (f.length - 16) && x.version == 1
    let d := if good then d.bindPeer s.val ip port else d
    let y := d.seat s.val
    let waits := good && (d.blockedAt s.val x.queue || y.withheld.any fun g => (parseHdr g).queue == x.queue)
    if !waits then runFrame d v s 0 f
    else if 229376 < y.heldBytes + f.length then (d.dropFrame s.val, v)
    else (d.setSeat s.val { y with withheld := y.withheld ++ [f] }, v)

/-- What arrives at an Ethernet port (R44). -/
def ethernet (d : Dev) (v : Nv) (s : Fin 4) (dstMac : Nat) (f : EthFrame) : Dev × Nv :=
  let n := s.val
  let ip := d.reg .HS_IPADDR n
  if !(d.running || d.inLoad) || !d.on .HS_CTL_EN n || !(d.seat n).up then (d, v)
  else if d.seatFenced n || !(dstMac == d.macOf n || dstMac == macBroadcast) then (d.dropFrame n, v)
  else match f with
  | .arpRequest target sender => (if target == ip then d.emit (.arpReply n sender) else d.dropFrame n, v)
  | .arpReply sender target => (if d.arpAnswer n sender target then d else d.dropFrame n, v)
  | .icmpEcho srcIp dstIp data =>
    (if dstIp == ip && decide (data.length ≤ 1472) && d.peerOk n srcIp then d.emit (.echoReply n srcIp data true) else d.dropFrame n, v)
  | .udp srcIp dstIp srcPort dstPort plain ok data =>
    if !plain || !ok || dstIp != ip || dstPort != d.fld .HS_UDPPORT_PORT n || decide (8972 < data.length) || !d.peerOk n srcIp then (d.dropFrame n, v)
    else ndoefDatagram d v s srcIp srcPort data
  | .other => (d.dropFrame n, v)

/-- The first frame of a seat whose queue no longer waits, and the others. -/
def takeFree (d : Dev) (s : Nat) : List (List Byte) → Option (List Byte × List (List Byte))
  | [] => none
  | f :: r => if d.blockedAt s (parseHdr f).queue then (takeFree d s r).map fun x => (x.1, f :: x.2) else some (f, r)

/-- The frames that no longer wait are executed in order (R403). -/
def releaseSeat (d : Dev) (v : Nv) (s : Fin 4) : Nat → Dev × Nv
  | 0 => (d, v)
  | fuel + 1 =>
    if !d.serves s.val then (d, v)
    else match takeFree d s.val (d.seat s.val).withheld with
    | none => (d, v)
    | some (f, r) =>
      let m := runFrame (d.setSeat s.val { d.seat s.val with withheld := r }) v s 0 f
      releaseSeat m.1 m.2 s fuel

/-- As `releaseSeat`, for both Ethernet seats. -/
def release (m : Dev × Nv) : Dev × Nv :=
  let m := releaseSeat m.1 m.2 2 (m.1.seat 2).withheld.length
  releaseSeat m.1 m.2 3 (m.1.seat 3).withheld.length

/-! ## Descriptors (R53, R55, R59, R87, R88) -/

/-- A command ring of a function has a descriptor that may be fetched. -/
def Dev.ringReady (d : Dev) (fn q : Nat) : Bool :=
  let c := (d.seat fn).cmdq q
  let n := 2 ^ d.fld .HS_CQSIZE_LOG2 fn q
  d.serves fn && d.on .HS_CQSIZE_EN fn q && c.head % n != c.tail % n && d.eqRoom fn q && !d.blocked fn q

/-- The command queue served next: Q0, then Q1 to Q3 in turn (R59). -/
def Dev.nextRing (d : Dev) (fn : Nat) : Option (Fin 4) :=
  let r := (d.seat fn).rr
  if d.ringReady fn 0 then some 0
  else ([r, r % 3 + 1, (r + 1) % 3 + 1].map qClass).find? fun q => q.val != 0 && d.ringReady fn q.val

/-- The feed ring of a port may be read (R88): no Q0 descriptor waits, nothing of it is held. -/
def Dev.feedReady (d : Dev) (fn xx : Nat) : Bool :=
  let t := d.itk xx
  let n := 2 ^ d.fld .RI_FQSIZE_LOG2 xx
  d.serves fn && d.portBay xx == some fn && !d.ringReady fn 0 && d.on .RI_FQSIZE_EN xx && t.fq.head % n != t.fq.tail % n && !d.on .PT_CREDIT_FEED fn
    && t.frames.isEmpty

/-- A frame of PCIe must carry the queue of its ring. -/
def pcieFrame (d : Dev) (v : Nv) (s : Fin 4) (queue : Nat) (x : Descriptor) : Dev × Nv :=
  let y := parseHdr x.frame
  if 16 ≤ x.frame.length && y.queue != queue then
    let noack := y.flags / 2 % 2 == 1
    let irq := y.flags / 4 % 2 == 1
    (if 32 ≤ queue then d.feedComplete ⟨s, ⟨queue % 32, Nat.mod_lt _ (by decide)⟩, y.seq, noack, irq, x.replyLen⟩ y.op .badFrame []
     else d.completeAs ⟨.seat s, qClass queue, y.seq, noack, irq, x.replyLen⟩ y.op .badFrame [], v)
  else runFrame d v s x.replyLen x.frame

/-- A descriptor of the command ring served next has been fetched with its frame. -/
def fetchCommand (d : Dev) (v : Nv) (fn : Fin 4) (x : Descriptor) : Dev × Nv :=
  match d.nextRing fn.val with
  | none => (d, v)
  | some q =>
    let y := d.seat fn.val
    let c := y.cmdq q.val
    let y := y.setCmdq q.val { c with head := (c.head + 1) % 2 ^ d.fld .HS_CQSIZE_LOG2 fn.val q.val }
    let d := d.setSeat fn.val { y with rr := if q.val = 0 then y.rr else q.val % 3 + 1 }
    pcieFrame d v fn (4 * fn.val + q.val) x

/-- A descriptor of a feed ring has been fetched with its frame. -/
def fetchFeed (d : Dev) (v : Nv) (fn : Fin 4) (xx : Nat) (x : Descriptor) : Dev × Nv :=
  if !d.feedReady fn.val xx then (d, v)
  else
    let t := d.itk xx
    let d := d.setItk xx { t with fq := { t.fq with head := (t.fq.head + 1) % 2 ^ d.fld .RI_FQSIZE_LOG2 xx } }
    pcieFrame d v fn (32 + xx) x

/-! ## MMIO (R42, R52, R107) -/

/-- The function answers memory requests: not in D3hot (R42; PRESUMED, log 186). -/
def Dev.mmioOpen (d : Dev) (fn : Nat) : Bool := (d.running || d.inLoad) && d.pcieUp fn && d.on .HS_CTL_EN fn && !(d.seat fn).d3

/-- The offset an ACCESS_REFUSED names: within the aperture for the frame-store window (R107). -/
def refusedOff (a : Nat) : Nat := if 0x2000000 ≤ a then a - 0x2000000 else a

/-- A memory write to BAR0: `size` bytes at `a`, with the value little-endian; none takes effect in LOAD (R320). -/
def mmioWrite (d : Dev) (v : Nv) (fn : Fin 4) (a size : Nat) (enables : Bool) (value : Nat) : Dev × Nv :=
  if !d.mmioOpen fn.val || !d.running then (d, v)
  else if inMsix a then
    ((msixDwords a size enables).foldl (fun d o => d.msixWrite fn.val o (BitVec.ofNat 32 (value / 2 ^ (8 * (o - a))))) d, v)
  else if a % 4 != 0 || size != 4 || !enables then (d.mmioRefused fn.val (refusedOff a) .refusedAccess, v)
  else
    let (d, v, st) := busWrite d v (.seat fn) a (BitVec.ofNat 32 value)
    (if st = .ok then d else d.mmioRefused fn.val (refusedOff a) st, v)

/-- A read of the MSI-X range: the dwords of an aligned access, and free values otherwise. -/
def Dev.msixCompletion (d : Dev) (fn a size : Nat) (enables : Bool) : Dev :=
  if !d.running then d.emit (.mmioRead fn a (List.replicate ((size + 3) / 4) 0))
  else match msixDwords a size enables with
  | [] => d.nextFree.emit (.mmioRead fn a ((List.range ((size + 3) / 4)).map fun i => Config.msixOther (a + 4 * i) d.free))
  | l => d.emit (.mmioRead fn a (l.map (d.msixRead fn)))

/-- A memory read of BAR0; in LOAD only GL can be read (R320). -/
def Dev.mmioRead (d : Dev) (v : Nv) (fn : Fin 4) (a size : Nat) (enables : Bool) : Dev :=
  if !d.mmioOpen fn.val then d
  else if inMsix a then d.msixCompletion fn.val a size enables
  else if a % 4 != 0 || size != 4 || !enables then
    (if d.running then d.mmioRefused fn.val (refusedOff a) .refusedAccess else d).emit (.mmioRead fn.val a [0])
  else
    let (d, w, st) := d.busRead v (.seat fn) a
    (if st = .ok then d else d.mmioRefused fn.val (refusedOff a) st).emit (.mmioRead fn.val a [w])

/-- A write through an aperture of the frame store is discarded (R107). -/
def Dev.apertureWrite (d : Dev) (fn off : Nat) : Dev := if d.running && d.mmioOpen fn then d.mmioRefused fn off .refusedAccess else d

/-- A read through BAR2 (R107), word by word; `true` when a word was uncorrectable. -/
def Dev.bar2Words (d : Dev) (fn : Fin 4) (a : Nat) : Nat → Dev × List Byte × Bool
  | 0 => (d, [], false)
  | n + 1 =>
    let (d, w, bad) := d.fsWord (.seat fn) a
    let (d, ws, bad') := Dev.bar2Words d fn (a + 4) n
    (d, le 4 w.toNat ++ ws, bad || bad')

def Dev.bar2Read (d : Dev) (fn : Fin 4) (off len : Nat) : Dev :=
  if !d.running || !d.mmioOpen fn.val then d
  else
    let base := 2 ^ 30 * d.fld .RI_B2BASE_BASE fn.val + off
    let n := (off % 4 + len + 3) / 4
    let (d, bs, bad) := d.bar2Words fn (base - off % 4) n
    d.emit (.bar2Read fn.val off ((bs.drop (off % 4)).take len) bad)

/-! ## Events that waited (R55) -/

/-- The oldest held entry of a PCIe seat that finds space, and the others. -/
def Dev.heldFree (d : Dev) (s : Nat) : List (Nat × Bool × Frame) → Option ((Nat × Bool × Frame) × List (Nat × Bool × Frame))
  | [] => none
  | e :: r => if d.eqRoom s e.1 then some (e, r) else (Dev.heldFree d s r).map fun x => (x.1, e :: x.2)

/-- It is written; EVENTS_LOST follows when events had been discarded. -/
def Dev.deliverHeld (d : Dev) (s : Nat) : Dev :=
  if !d.pcieUp s then d
  else match d.heldFree s (d.seat s).held with
  | none => d
  | some (e, r) =>
    let lost := (d.seat s).lost
    let d := (d.setSeat s { d.seat s with held := r, lost := false }).writeEq s e.1 e.2.2
    if lost then d.seatEvent s 0 0x0202 (d.fld .HS_EVLOST_LOST s) 0 else d

/-! ## Links (R46, R58, R81, R311, R324) -/

/-- A function's MSI-X table and pending bits return to their reset values. -/
def Dev.msixReset (d : Dev) (fn : Nat) : Dev := { d with msix := d.msix.filter fun x => x.1 / 65536 != fn }

/-- A link comes up: on PCIe from the start of training (R309), on Ethernet once LOAD is complete (R311). -/
def Dev.linkUp (d : Dev) (s speed width : Nat) : Dev :=
  let x := d.seat s
  if x.up || d.tbStart.isNone || d.boot.phase == .inReset || d.boot.phase == .isSealed || (2 ≤ s && !(d.running && d.on .HS_CTL_EN s && d.islandOn (9 + s))) then d
  else
    let d := d.setSeat s { x with up := true, perst := false, downAt := none, lastBad := some d.now, loaded := if d.running then none else x.loaded }
    let d := ((d.setOn .HS_LINK_UP s 0 true).setFld .HS_LINK_SPEED s 0 speed).setFld .HS_LINK_WIDTH s 0 width
    if !d.running then d
    else
      let d := d.seatEvent s 1 0x0200 (d.reg .HS_LINK s).toNat 0
      match x.loaded with
      | some w => d.sendLoaded s w
      | none => d

/-- A link goes down. -/
def Dev.linkDown (d : Dev) (s : Nat) : Dev :=
  let x := d.seat s
  if !x.up then d
  else
    let d := d.setSeat s { x with up := false, downAt := if 2 ≤ s then some d.now else none, lastBad := some d.now }
    let d := ((d.setOn .HS_LINK_UP s 0 false).setFld .HS_LINK_SPEED s 0 0).setFld .HS_LINK_WIDTH s 0 0
    let d := ((d.setOn .HS_LINK_BOUND s 0 false).setWord (RegName.off .HS_BOUNDIP s 0) 0).setWord (RegName.off .HS_BOUNDPORT s 0) 0
    let d := d.bump .HS_LINK_DOWNCNT s 0
    d.stewardSeatEvent s 0x0201 s (d.fld .HS_LINK_DOWNCNT s)

/-- An Ethernet link has been down for longer than LINKTO (R46). -/
def Dev.lossDue (d : Dev) (s : Nat) : Bool :=
  d.running && d.on .HS_CTL_EN s && (match (d.seat s).downAt with | some t => decide (t + ms (d.fld .HS_CTL_LINKTO s) < d.now) | none => false)

def Dev.linkLoss (d : Dev) (s : Nat) : Dev := (d.hostLoss s).setSeat s { (d.hostLoss s).seat s with downAt := none }

/-- The host of a PCIe seat is lost. -/
def Dev.pcieLoss (d : Dev) (fn : Nat) : Dev :=
  let d := d.msixReset fn
  let d := d.setSeat fn { d.seat fn with bars := [], d3 := false }
  if d.running && d.on .HS_CTL_EN fn then d.hostLoss fn else d.seatReset fn

/-- nPE_PERST is asserted (R46): both links go down, and the whole endpoint is reset. -/
def Dev.perst (d : Dev) : Dev :=
  forN 2 (fun s d =>
    let d := d.pcieLoss s
    d.setSeat s { d.seat s with perst := true }) ((d.linkDown 0).linkDown 1)

/-- What a dword of a capability of R42 holds of what R42 states (PRESUMED from PCIe, log 186): 64 MSI-X vectors, their table at 0xE0000 and
pending bits at 0xE1000 of BAR0; D0 and D3hot; Function Level Reset, and 512 bytes of payload; the kind of the capability. -/
def Dev.capWord (d : Dev) (fn dword : Nat) (free : Word) : Word :=
  let at_ (k i : Nat) : Bool := dword == Config.pcieCapAt fn k + i
  if at_ 0 0 then wput free 0 8 0x01
  else if at_ 0 1 then wput free 0 2 (if (d.seat fn).d3 then 3 else 0)
  else if at_ 1 0 then wput (wput free 0 8 0x11) 16 11 63
  else if at_ 1 1 then 0xE0000
  else if at_ 1 2 then 0xE1000
  else if at_ 2 0 then wput free 0 8 0x10
  else if at_ 2 1 then wput (wput free 0 3 2) 28 1 1
  else if at_ 3 0 then wput free 0 16 1
  else free

/-- A dword of configuration space (R42, R311): BAR0 of 64 MiB, 64 bits wide and not prefetchable, at dwords 4 and 5; BAR2 of 4 GiB, 64
bits wide and prefetchable, at 6 and 7 (PRESUMED from PCIe, log 186). -/
def Dev.configWord (d : Dev) (fn dword : Nat) : Word :=
  let free := Config.pcieConfigWord (1024 * fn + dword) d.free
  let bar := Store.get (fun _ => 0) (d.seat fn).bars dword
  match dword with
  | 0 => 0x32001E3D
  | 2 => wput free 8 24 0x0B4000
  | 4 => wput (bar &&& 0xFC000000) 0 4 4
  | 5 => bar
  | 6 => 0xC
  | 7 => bar
  | 11 => BitVec.ofNat 32 (65536 * d.boot.ident.2 + d.boot.ident.1)
  | _ => d.capWord fn dword free

/-- A write to configuration space: a base address register, or the power state. -/
def Dev.configWrite (d : Dev) (fn dword : Nat) (data : Word) : Dev :=
  let x := d.seat fn
  if 4 ≤ dword ∧ dword < 8 then d.setSeat fn { x with bars := Store.set (fun _ => 0) x.bars dword data }
  else if dword ≠ 11 ∧ 2 < dword ∧ dword = Config.pcieCapAt fn 0 + 1 then
    if wget data 0 2 = 3 then d.setSeat fn { x with d3 := true }
    else if wget data 0 2 = 0 then d.setSeat fn { x with d3 := false }
    else d
  else d

/-- A configuration request (R42, R311). -/
def Dev.configRequest (d : Dev) (fn : Nat) (write : Option Word) (dword : Nat) : Dev :=
  if !d.pcieUp fn then d
  else if !d.running then d.emit (.config fn true 0)
  else match write with
  | some data => (d.configWrite fn dword data).emit (.config fn false 0)
  | none => d.nextFree.emit (.config fn false (d.configWord fn dword))

end Sys2Proof.Machine
end

