-- ==== Sys2Proof/Machine/Service.lean ====
section
/-! DEFINITION. The service console (R386 to R389), its commands, the self-tests (R390, R391), the meter settings (R392 to R400) and the
watches of R396. -/

namespace Sys2Proof.Machine

/-! ## Replies (R388) -/

/-- Four hexadecimal digits. -/
def hex4 (n : Nat) : List Char := [hexDigit (n / 4096), hexDigit (n / 256), hexDigit (n / 16), hexDigit n]

/-- A word as the manual writes it. -/
def hex32 (n : Nat) : String := "0x" ++ String.ofList (hex4 (n / 65536)) ++ "_" ++ String.ofList (hex4 n)

def Dev.say (d : Dev) (text : String) : Dev := d.emit (.line text)

/-- `OK` with values. -/
def okLine (ws : List Nat) : String := ws.foldl (fun t w => t ++ " " ++ hex32 w) "OK"

/-- `ERR ssss`. -/
def errLine (code : Nat) : String := "ERR 0x" ++ String.ofList (hex4 code)

def conSyntax := 0x80
def conLong := 0x81
def conBusy := 0x82
def conNotYet := 0x83

/-- The reply of a command that ends with a status. -/
def Dev.sayStatus (d : Dev) (st : Status) : Dev := d.say (if st = .ok then "OK" else errLine st.code)

/-! ## Lines (R386 to R389) -/

/-- SVC_RX is heard: AON has left reset, and the device is not SEALED (R386, R315). -/
def Dev.hears (d : Dev) : Bool :=
  match d.boot.phase with
  | .inReset | .counting | .isSealed => false
  | _ => true

/-- Any character ends a SHOW with W (R389). -/
def Dev.endWatch (d : Dev) : Dev :=
  match d.con.watch with
  | some _ => ({ d with con := { d.con with watch := none } }).say "OK"
  | none => d

/-- The modes in which R389 gives a command. -/
inductive ConMode where
  | always
  | loaded
  | service
  | bays
  deriving DecidableEq, Repr

def Dev.conModeOk (d : Dev) : ConMode → Bool
  | .always | .loaded => true
  | .service => d.inService
  | .bays => d.bayModes

/-- A console line reaches its command: `stat` marks STAT, `stop` marks STOP (R386, R388, R389). -/
def console (d : Dev) (v : Nv) (m : ConMode) (stat stop : Bool) (k : Dev → Dev × Nv) : Dev × Nv :=
  if !d.hears then (d, v)
  else if d.con.dropped then ({ d with con := { d.con with dropped := false } }, v)
  else
    let d := d.endWatch
    if !d.running && !stat then (d.say (errLine conNotYet), v)
    else if d.con.wait.isSome && !stop then (d.say (errLine conBusy), v)
    else if !d.conModeOk m then (d.sayStatus .mode, v)
    else k d

/-- A line that is not executed (R387, R388). -/
def Dev.lineRejected (d : Dev) (r : LineReject) : Dev :=
  if !d.hears then d
  else if d.con.dropped then { d with con := { d.con with dropped := false } }
  else
    let d := d.endWatch
    match r with
    | .long => d.say (errLine conLong)
    | .syntaxError => d.say (errLine (if !d.running then conNotYet else if d.con.wait.isSome then conBusy else conSyntax))
    | .busy => if d.con.wait.isSome then d.say (errLine (if d.running then conBusy else conNotYet)) else d
    | .notYet => if d.running then d else d.say (errLine conNotYet)

/-! ## Bytes (R387) -/

def isBlank (b : Byte) : Bool := b == 0x20

/-- The complete words of a line and the one that its last character belongs to. -/
def conWords : List Byte → List Byte → List (List Byte)
  | [], acc => [acc]
  | b :: r, acc => if isBlank b then (if acc.isEmpty then conWords r [] else acc :: conWords r []) else conWords r (acc ++ [b])

/-- A letter in upper case. -/
def upper (b : Byte) : Nat := if 0x61 ≤ b.toNat && b.toNat ≤ 0x7A then b.toNat - 32 else b.toNat

def isWord (w : List Byte) (s : String) : Bool := w.map upper == s.toList.map Char.toNat

/-- The value of a digit. -/
def digitVal (b : Byte) : Nat := let u := upper b; if u < 58 then u - 48 else u - 55

/-- A number (R387): decimal, or hexadecimal with 0x; underscores are ignored. -/
def conNumber (w : List Byte) : Nat :=
  let w := w.filter fun b => b != 0x5F
  match w.map upper with
  | 0x30 :: 0x58 :: _ => (w.drop 2).foldl (fun n b => 16 * n + digitVal b) 0
  | _ => w.foldl (fun n b => 10 * n + digitVal b) 0

/-- The next character belongs to the data word of an OTP PROG line that names a SECRET word (R351, R387). -/
def secretNext (line : List Byte) : Bool :=
  match conWords line [] with
  | [a, b, c, _] => isWord a "OTP" && isWord b "PROG" && isSecret (conNumber c)
  | _ => false

/-- A byte on SVC_RX, with or without a framing error. The terminator of a line of more than 8,400 characters is answered with LONG, and
the line is discarded: the command row or the rejected-line row of that line, which follows its bytes, does nothing. -/
def Dev.conByte (d : Dev) (b : Byte) (framing : Bool) : Dev :=
  if !d.hears then d
  else if framing then d.bump .SV_STAT_RXERR 0 0
  else
    let d := d.endWatch
    let n := b.toNat
    if n = 13 || n = 10 then
      let long := d.con.overlong
      let d := { d with con := { d.con with line := [], overlong := false, dropped := long || d.con.dropped, lastCr := n == 13 } }
      if long then d.say (errLine conLong) else d
    else if n < 0x20 || 0x7E < n then (d.bump .SV_STAT_RXERR 0 0)
    else
      let star := b != 0x20 && secretNext d.con.line
      let con :=
        if d.con.line.length < 8400 then { d.con with line := d.con.line ++ [b], dropped := false, lastCr := false }
        else { d.con with overlong := true, dropped := false, lastCr := false }
      let d := { d with con := con }
      if d.on .SV_CFG_ECHO then d.emit (.echo (if star then 0x2A else b)) else d

/-! ## The commands of R389 -/

/-- STAT: read without side effects. -/
def Dev.conStat (d : Dev) (v : Nv) : Dev :=
  let r (x : RegName) : Nat := (d.peekReg v x 0 0).toNat
  d.say (okLine [r .GL_MODE, d.bootst, r .FC_SPALLLO, r .FC_SPALLHI, r .FC_FIRST])

/-- RD: RD32 of n words. -/
def Dev.conRd (d : Dev) (v : Nv) (a n : Nat) : Dev :=
  if n = 0 || 256 < n then d.say (errLine conSyntax)
  else
    let (d, ws, st) := d.readAll v .console ((List.range n).map fun i => (a + 4 * i) % 2 ^ 32)
    if st = .ok then d.say (okLine (ws.map (·.toNat))) else d.sayStatus st

/-- A write by the console to an offset, with the reply of its status. -/
def conWrite (d : Dev) (v : Nv) (o : Nat) (w : Word) : Dev × Nv :=
  let (d, v, st) := busWrite d v .console o w
  (d.sayStatus st, v)

/-- A write by the console that replaces some bits of a register. -/
def conFields (d : Dev) (v : Nv) (r : RegName) (i : Nat) (fields : List (Fld × Nat)) : Dev × Nv :=
  conWrite d v (r.off i 0) (putAll (d.reg r i) fields)

/-- A register of the perturbations lies at the offset. -/
def ptOffset (o : Nat) : Bool := match decodeOff o with | some (r, _, _) => r.isPt | none => false

/-- WR: in SERVICE; a PT register also in bay modes with BENCH (R401). -/
def conWr (d : Dev) (v : Nv) (a : Nat) (w : Word) : Dev × Nv :=
  if d.inService || (ptOffset a && d.on .PT_CFG_BENCH) then conWrite d v a w else (d.sayStatus .mode, v)

/-- F: a frame in hex (R46, R47, R389). -/
def conFrame (d : Dev) (v : Nv) (f : List Byte) : Dev × Nv :=
  if f.length < 16 then (d.say (errLine conSyntax), v)
  else
    let x := parseHdr f
    let h : CmdHdr := ⟨.console, qClass x.queue, x.seq, x.flags / 2 % 2 == 1, x.flags / 4 % 2 == 1, 0⟩
    let d := { d with con := { d.con with wait := some .frame } }
    let bad := x.magic != 0x4E44 || x.seat != 0x0F || x.len % 4 != 0 || decide (4096 < x.len) || x.len != f.length - 16
      || decide (4 ≤ x.queue) || (x.queue == 0 && decide (256 < x.len))
    if bad then (d.completeAs h x.op .badFrame [], v)
    else if x.version != 1 then (d.completeAs h x.op .badVersion [], v)
    else runCommand d v h x.op (f.drop 16)

/-- STOP (R61, R321): a bay, or every present bay. -/
def Dev.conStop (d : Dev) (bay : Option (Fin 4)) : Dev :=
  if d.inService then (d.serviceStop).say "OK"
  else match bay with
  | some b => if d.present b then (d.registerStop b.val 2).say "OK" else d.sayStatus .refusedBay
  | none => (d.presentBays.foldl (fun d b => d.registerStop b 2) d).say "OK"

/-- SERVICE (R321). -/
def Dev.conService (d : Dev) : Dev :=
  if d.boot.phase != .running then d.sayStatus .mode
  else match d.serviceEnter with
  | (d, true) => d.say "OK"
  | (d, false) => d.sayStatus .mode

/-- RUN (R322). -/
def Dev.conRun (d : Dev) : Dev := if d.boot.phase != .running then d.sayStatus .mode else d.serviceLeave.say "OK"

/-- PARK (R392): a pair of a port to a level: 0 normal, 1 parked +, 2 parked −. -/
def conPark (d : Dev) (v : Nv) (xx pin code : Nat) : Dev × Nv :=
  let o := RegName.off .SV_PARK xx 0
  conWrite d v o (wput (d.word o) (2 * pin) 2 code)

/-- OUT (R395): 0 normal, 1 low, 2 high, 3 released; an index above 51 is refused. -/
def conOut (d : Dev) (v : Nv) (p code : Nat) : Dev × Nv :=
  if 51 < p then (d.sayStatus .refusedAccess, v)
  else
    let o := RegName.off .SV_FORCE (p / 16) 0
    conWrite d v o (wput (d.word o) (2 * (p % 16)) 2 code)

/-- PEN (R397). -/
def conPen (d : Dev) (v : Nv) (xx : Nat) (on : Bool) : Dev × Nv :=
  let o := RegName.off .SV_PEN 0 0
  conWrite d v o (wput (d.word o) xx 1 (bit on))

/-- PLUMB (R399, R400). -/
def conPlumb (d : Dev) (v : Nv) (sel arg level : Nat) : Dev × Nv :=
  if 32 ≤ sel then (d.sayStatus .refusedAccess, v)
  else conFields d v .SV_PLUMB 0 [(.SV_PLUMB_SEL, sel), (.SV_PLUMB_ARG, arg), (.SV_PLUMB_LEVEL, level)]

/-- OTP PROG, LOCK and SEAL (R360): OT_PADDR, OT_PDATA and OT_PCMD are written; the reply waits for GO to clear. -/
def conOtp (d : Dev) (v : Nv) (op w : Nat) (data : Word) (k : Nat) : Dev × Nv :=
  let d := { d with con := { d.con with wait := some .otp } }
  let (d, v, s1) := if op = 0 then busWrite d v .console (RegName.off .OT_PADDR 0 0) (BitVec.ofNat 32 w) else (d, v, .ok)
  let (d, v, s2) := if op = 0 then busWrite d v .console (RegName.off .OT_PDATA 0 0) data else (d, v, .ok)
  let (d, v, s3) := if s1 = .ok && s2 = .ok then
      busWrite d v .console (RegName.off .OT_PCMD 0 0) (putAll 0 [(.OT_PCMD_OP, op), (.OT_PCMD_REC, k), (.OT_PCMD_GO, 1)])
    else (d, v, if s1 = .ok then s2 else s1)
  if s3 = .ok then (d, v) else (({ d with con := { d.con with wait := none } }).sayStatus s3, v)

/-- The record an OTP PROG line acts on: that of its word, or the next one for a word outside the records. -/
def Dev.progRec (d : Dev) (w : Nat) : Nat := if decide (0x100 ≤ w) && decide (w < 0x300) then (w - 0x100) / 0x20 else d.nextRec

/-- RELOAD (R346): the reply goes before the reload runs. -/
def Dev.conReload (d : Dev) (sel : Nat) : Dev :=
  if 4 ≤ sel then d.sayStatus .badFrame
  else if d.boot.phase != .running || d.boot.reloadWaits.isSome then d.sayStatus .mode
  else ((d.say "OK").reload none sel).1

/-- BAUD (R386). -/
def Dev.conBaud (d : Dev) (r : Nat) : Dev :=
  if 10 < r then d.sayStatus .refusedAccess else (d.say "OK").setFld .SV_STAT_BAUD 0 0 r

/-- TEST (R390): the reply waits for the end of the test. -/
def conTest (d : Dev) (v : Nv) (test arg : Nat) : Dev × Nv :=
  let (d, v, st) := busWrite d v .console (RegName.off .SV_TEST 0 0) (putAll 0 [(.SV_TEST_TEST, test), (.SV_TEST_ARG, arg), (.SV_TEST_GO, 1)])
  if st = .ok then ({ d with con := { d.con with wait := some .test } }, v) else (d.sayStatus st, v)

/-! ## SHOW (R396) -/

def laneName : Fin 5 → String
  | 0 => "LP00" | 1 => "LP01" | 2 => "LP10" | 3 => "LP11" | 4 => "HS"

/-- Three pin levels, IN2 first. -/
def digits3 (n : Nat) : String := String.ofList [hexDigit (n / 4 % 2), hexDigit (n / 2 % 2), hexDigit (n % 2)]

def Dev.showPs (d : Dev) (n : Nat) : String :=
  "OK RAW=" ++ digits3 (d.fld .PS_STAT_RAW n) ++ " IN=" ++ digits3 (d.fld .PS_STAT_IN n) ++ " " ++ hex32 (d.reg .PS_POS n).toNat
    ++ " " ++ hex32 (d.fld .PS_STAT_DIR n)

def showCam (lanes : List (Fin 5)) : String := lanes.foldl (fun t l => t ++ " " ++ laneName l) "OK"

/-- The mean of the samples of HPxx_SN, and the input in mV (R396). -/
def showSn (samples : List Nat) : String :=
  let code := samples.foldl (· + ·) 0 / max 1 samples.length
  let mv := ((code : Int) - 2048) * 1000 / 2048
  "OK CODE=" ++ toString code ++ " MV=" ++ toString mv

/-- SHOW, with W for PS and CAM: the state now, and then each change. -/
def Dev.conShow (d : Dev) (what : ShowWhat) (w : Bool) : Dev :=
  let shown (k n : Nat) (text : String) : Dev :=
    let d := if w then { d with con := { d.con with watch := some (k, n), watchAt := d.now, watchText := text } } else d
    d.say text
  match what with
  | .ps n => shown 0 n (d.showPs n)
  | .cam n lanes => shown 1 n (showCam lanes)
  | .sn _ samples => if !d.inService then d.sayStatus .mode else d.say (showSn samples)

/-- The watched state has changed: a line, once 10 ms have passed since the last. -/
def Dev.watchUpdate (d : Dev) (lanes : List (Fin 5)) : Dev :=
  match d.con.watch with
  | some (k, n) =>
    let text := if k = 0 then d.showPs n else showCam lanes
    if d.now < d.con.watchAt + ms 10 || text = d.con.watchText then d
    else { d with con := { d.con with watchAt := d.now, watchText := text } }.say text
  | none => d

/-! ## Self-tests (R390, R391) -/

/-- The tests of ALL on this device: 1 to 4, 5 and 6 on the ports that are ready, 7 on the enabled head and board channels. -/
def Dev.allTests (d : Dev) : List (Nat × Nat) :=
  let ready := (List.range 32).filter fun xx => d.on .HP_PWR_READY xx
  [(1, 0), (2, 0), (3, 0), (4, 0)] ++ ready.map (fun xx => (5, xx)) ++ ready.map (fun xx => (6, xx))
    ++ ((List.range 68).filter fun c => d.fld .TM_CH_MODE c != 0).map fun c => (7, c)

/-- The islands a test needs are awake (R32, R390). -/
def Dev.testAwake (d : Dev) (test arg : Nat) : Bool :=
  if test = 5 || test = 6 then d.islandOn (arg / 8)
  else if test = 8 then d.islandOn 9 && d.islandOn 10
  else if test = 9 then d.islandOn (4 + arg) && d.islandOn 8
  else true

/-- The test that may end next, with its argument: the one asked for, or the first of ALL. -/
def Dev.testNow (d : Dev) : Option (Nat × Nat) :=
  match d.con.test with
  | some t => if t.result.isSome then none else if t.test = 0 then t.todo.head? else some (t.test, t.arg)
  | none => none

/-- ALL starts with its list of tests. -/
def Dev.testAll (d : Dev) : Dev :=
  match d.con.test with
  | some t => if t.test = 0 && t.todo.isEmpty && t.result.isNone then { d with con := { d.con with test := some { t with todo := d.allTests } } } else d
  | none => d

/-- Test k ends with a result: of the test asked for, or of the first of ALL, which ends at its first failure. -/
def Dev.testEnd (d : Dev) (pass : Bool) (detail : Nat) : Dev :=
  match d.con.test with
  | some t =>
    let t' : SvTest :=
      if t.test != 0 then { t with result := some (pass, if pass then 0 else detail % 2 ^ 32) }
      else if !pass then { t with result := some (false, (t.todo.headD (0, 0)).1 * 2 ^ 24 + detail % 2 ^ 24) }
      else if t.todo.length ≤ 1 then { t with todo := [], result := some (true, 0) }
      else { t with todo := t.todo.tail }
    { d with con := { d.con with test := some t' } }
  | none => d

/-- Test k may end now. -/
def Dev.subDue (d : Dev) (k : Nat) : Bool :=
  match d.testNow with
  | some (test, arg) => test == k && d.testAwake test arg
  | none => false

/-- The shadow that a test of the array decides, with the reads that a perturbation corrupts (R406): the strict and then the lenient read
of each word, in order. -/
def Nv.testShadow (v : Nv) (k : Nat) (two : Bool) : Store ShadowWord :=
  let mask : BitVec 39 := if two then 0x28 else 0x08
  forN 2048 (fun w m =>
    let x := v.cell w
    let y : OtpCell := ⟨if 2 * w < k then x.strict ^^^ mask else x.strict, if 2 * w + 1 < k then x.lenient ^^^ mask else x.lenient⟩
    Store.set (fun _ => {}) m w (otpDecide y)) []

/-- The condition of R357 that would hold. -/
def Dev.otpCondition (d : Dev) (reads selfTest : Bool) : Nat :=
  if !reads || !selfTest then 1
  else match d.otpOutcome reads selfTest with
  | some (5, _) => 2
  | some (6, _) => 3
  | some (_, 0xFF) => 4
  | some _ => 5
  | none => 6

/-- Test 3: the array is read again under R356. -/
def Dev.testOtp (d : Dev) (v : Nv) (reads selfTest : Bool) : Dev :=
  let (d, k, two) := d.takeEcc (d.fld .PT_ECC_TARGET == 2) 4096
  let x : Dev := { d with ot := { d.ot with shadow := if reads then v.testShadow k two else [] } }
  let c := x.otpCondition reads selfTest
  let low := x.lowest 0 2048 fun s => s.marginal || s.ue
  let word := (match low with | some w => w | none => if c = 4 then 0xFF else Config.otpNoWord c) % 2048
  d.testEnd (c == 6 && low.isNone) (word + 4096 * c)

/-- `a` lies within `t` of `m`. -/
def within (a m t : Nat) : Bool := decide (m ≤ a + t) && decide (a ≤ m + t)

/-- Test 8 has overwritten its range: the bytes there are free values, and the slots of course rings that lie in it are lost (R391). -/
def Dev.fsOverwrite (d : Dev) (lo hi : Nat) : Dev :=
  let d := { d with
    fs := d.fs.filter fun x => !(decide (lo ≤ x.1) && decide (x.1 < hi))
    fsBad := d.fsBad.filter fun x => !(decide (lo ≤ 8 * x.1) && decide (8 * x.1 < hi))
    fsLost := (lo, hi, d.free) :: d.fsLost }
  let d := d.nextFree
  forN 32 (fun xx d =>
    let t := d.itk xx
    let n := slotBytes t.geo.1 t.geo.2.1
    let gone (k : Nat) : Bool := let a := t.slotAddr k; decide (a < hi) && decide (lo < a + n)
    d.setItk xx { t with slots := t.slots.filter fun e => !gone e.1 }) d

/-- Test 8, with the MiB that failed. -/
def Dev.testFs (d : Dev) (failing : Option Nat) : Dev :=
  let lo := d.fld .SV_TARG_BASE * 2 ^ 20
  let d := d.fsOverwrite lo (lo + d.fld .SV_TARG_SIZE * 2 ^ 20)
  match failing with
  | some m => d.testEnd false m
  | none => d.testEnd true 0

/-- The test ends (R391): its result in SV_TEST and SV_TESTD, the event, and the line that a TEST command waits for. -/
def Dev.testDone (d : Dev) : Dev :=
  match d.con.test with
  | some { result := some (pass, detail), .. } =>
    let d := ((d.setFld .SV_TEST_STATE 0 0 (if pass then 2 else 3)).setFld .SV_TESTD_DETAIL 0 0 detail).setOn .SV_TEST_GO 0 0 false
    let waits := d.con.wait == some .test
    let d := { d with con := { d.con with test := none, wait := if waits then none else d.con.wait } }
    let d := d.followIslands.devEvent d.steward 1 0x1600 0xFF (d.reg .SV_TEST).toNat detail
    if waits then d.say ((if pass then "OK PASS " else "OK FAIL ") ++ hex32 detail) else d
  | _ => d

end Sys2Proof.Machine
end

