-- ==== Sys2Proof/Machine/Lift.lean ====
section
/-! DEFINITION. How a command changes the state: the device alone or with what survives every reset, under the condition in which the
command can occur (an event that is not due changes nothing); and the paths by which a write arrives. -/

namespace Sys2Proof.Machine

abbrev Result := Host.Outcome State Fault Refusal

/-- A command that changes the device, where it can occur. -/
def State.onDev (s : State) (ok : Dev → Bool) (f : Dev → Dev) : Result :=
  .next { s with dev := if ok s.dev then f s.dev else s.dev }

/-- A command that changes the device and what survives every reset, where it can occur. -/
def State.onMach (s : State) (ok : Dev → Bool) (f : Dev → Nv → Dev × Nv) : Result :=
  let m := if ok s.dev then f s.dev s.nv else (s.dev, s.nv)
  .next { s with dev := m.1, nv := m.2 }

/-- It can always occur. -/
def anytime (_ : Dev) : Bool := true

/-- The seat of a PCIe function (R42), and of an Ethernet port. -/
def pcieSeat (fn : Fin 2) : Fin 4 := fn.castLE (by decide)
def ethSeat (port : Fin 2) : Fin 4 := ⟨port.val + 2, by omega⟩

/-- A write of one word by one of the paths that R50, R52 and R389 give. -/
def writeBy (d : Dev) (v : Nv) (w : Writer) (o : Nat) (x : Word) : Dev × Nv :=
  match w with
  | .mmio fn => mmioWrite d v (pcieSeat fn) o 4 true x.toNat
  | .frame h => if d.takes h then command d v h 0x0002 false (fun d => wr32 d v h [(o, x)]) else (d, v)
  | .console => console d v .always false false fun d => conWr d v o x

/-- The word that leaves a register instance as it is: fields that a write stores at their values (the staged one, where one is staged), and 0 in
the others. -/
def Dev.keepWord (d : Dev) (r : RegName) (i j : Nat) : Word :=
  r.rows.foldl (fun w x =>
    match x.acc with
    | .rw | .sv => wput w x.fld.lo x.fld.width (d.fld x.fld i j)
    | .st => wput w x.fld.lo x.fld.width ((stagedVal (d.kset (d.setOf r i)).staging x.fld i j).getD (d.fld x.fld i j))
    | _ => w) 0

/-- A write that gives the named fields of a register instance their values and leaves the others (a log entry says so: 16). -/
def writeFields (d : Dev) (v : Nv) (w : Writer) (r : RegName) (i j : Nat) (fields : List (Fld × Nat)) : Dev × Nv :=
  writeBy d v w (r.off i j) (putAll (d.keepWord r i j) fields)

/-- What happens when no command waits: a cycle of CK_POS, 5 ns, passes (R17; a log entry says so: 1). -/
def State.tick (s : State) : State := { s with dev := { s.dev with now := s.dev.now + 1 } }

end Sys2Proof.Machine
end

