-- ==== Sys2Proof/Machine/Cameras.lean ====
section
/-! DEFINITION. The commands of the camera ports, the pipeline, the nozzle checks and the registration (R233 to R266, R404). -/

namespace Sys2Proof.Machine

/-- A Frame Start or Frame End packet of another virtual channel is discarded and counted (R233). -/
def Dev.onChannel (d : Dev) (n vc : Nat) (f : Dev → Dev) : Dev := if vc = d.fld .CM_CFG_VC n then f d else d.bump .CM_ERRCNT_DT n 0

/-- FRAME_START (R235). -/
def execFrameStart (cam : Fin 4) (vc : Fin 4) (sensorFn : Nat) (s : State) : Result :=
  s.onDev (fun d => d.camLive cam) fun d => d.onChannel cam vc fun d => d.frameStart cam sensorFn

/-- FRAME_END (R235). -/
def execFrameEnd (cam : Fin 4) (vc : Fin 4) (s : State) : Result :=
  s.onDev (fun d => d.camLive cam) fun d => d.onChannel cam vc fun d => d.frameEnd cam

/-- ROW_PACKET (R233). -/
def execRowPacket (cam : Fin 4) (vc : Fin 4) (dt : Nat) (hdrBad : Bool) (wc : Nat) (crcOk : Bool) (pixels : List Nat) (s : State) : Result :=
  s.onDev (fun d => d.camLive cam) fun d => d.packet cam vc dt hdrBad wc crcOk pixels

/-- FRAME_TIMEOUT (R235): the frame closes SHORT and PARTIAL. -/
def execFrameTimeout (cam : Fin 4) (s : State) : Result :=
  s.onDev (fun d => d.running && d.frameLate cam) fun d => d.closeFrame cam [0, 6]

/-- A clock lane starts or stops (R266). -/
def Dev.camClock (d : Dev) (n : Nat) (started : Bool) : Dev :=
  (d.setOn .CM_STAT_CLK n 0 started).camEvent n 1 0x0E02 (bit started) (d.fld .CM_FRAME_FN n)

/-- CM_CLOCK (R266). -/
def execCmClock (cam : Fin 4) (started : Bool) (s : State) : Result :=
  s.onDev (fun d => d.running && d.on .CM_STAT_CLK cam != started) fun d => d.camClock cam started

/-- CAMERA_TRIGGER_TIMER (R237). -/
def execCameraTriggerTimer (cam : Fin 4) (s : State) : Result := s.onDev (fun d => d.camTimerDue cam) fun d => d.camTimer cam

/-- CAMERA_TRIG_PULSE_END (R237). -/
def execCameraTrigPulseEnd (cam : Fin 4) (s : State) : Result :=
  s.onDev (fun d => d.running && d.camPulseDue cam) fun d => d.camPulseOver cam

/-- I2C_TRANSACTION_DONE (R238). -/
def execI2cTransactionDone (cam : Fin 4) (ack : Option (Fin 3)) (data : Fin 256) (s : State) : Result :=
  s.onDev (fun d => d.running && (d.cam cam).txn.isSome) fun d => d.i2cDone cam ack data

/-- I2C_HOST_TRANSACTION (R240). -/
def execI2cHostTransaction (w : Writer) (cam : Fin 4) (rd : Bool) (reg : Fin 65536) (data : Fin 256) (s : State) : Result :=
  s.onMach anytime fun d v =>
    writeFields d v w .CM_I2CCMD cam 0 [(.CM_I2CCMD_REG, reg), (.CM_I2CCMD_DATA, data), (.CM_I2CCMD_RD, bit rd), (.CM_I2CCMD_GO, 1)]

/-- The pipeline grants the next eligible port a tile (R243). -/
def Dev.grantNext (d : Dev) : Dev := match d.tileNext with | some n => d.tileGrant n | none => d

/-- TILE_GRANT (R243). -/
def execTileGrant (s : State) : Result := s.onDev (fun d => d.running && d.islandOn 8 && d.tile.isNone) fun d => d.grantNext

/-- The tile in the pipeline ends. -/
def Dev.tileStop (d : Dev) : Dev := match d.tile with | some t => d.tileEnd t | none => d

/-- TILE_DONE (R243). -/
def execTileDone (s : State) : Result :=
  s.onDev (fun d => match d.tile with | some t => d.running && decide (t.till ≤ d.now) | none => false) fun d => d.tileStop

/-- The oldest frame whose statistics can complete leaves its results. -/
def Dev.statsNext (d : Dev) (n : Nat) : Dev := match d.statsDue n with | some f => d.statsComplete n f | none => d

/-- STATS_COMPLETE (R254). -/
def execStatsComplete (cam : Fin 4) (s : State) : Result := s.onDev Dev.running fun d => d.statsNext cam

/-- No Frame Start came in time (R258). -/
def Dev.fsMissing (d : Dev) (n : Nat) : Dev := (d.setCam n { d.cam n with watch := none }).signal srcCamPort n

/-- CAMERA_FS_TIMEOUT (R258). -/
def execCameraFsTimeout (cam : Fin 4) (s : State) : Result := s.onDev (fun d => d.fsLate cam) fun d => d.fsMissing cam

/-- NC_JOB_GO (R259). -/
def execNcJobGo (w : Writer) (cam : Fin 4) (k : Fin 2) (head : Fin 32) (rungs : Fin 64) (rh : Fin 256) (s : State) : Result :=
  s.onMach anytime fun d v =>
    writeFields d v w .IN_NCCFG cam k [(.IN_NCCFG_HEAD, head), (.IN_NCCFG_S, rungs), (.IN_NCCFG_RH, rh), (.IN_NCCFG_GO, 1)]

/-- NC_JOB_CANCEL (R259). -/
def execNcJobCancel (w : Writer) (cam : Fin 4) (k : Fin 2) (s : State) : Result :=
  s.onMach anytime fun d v => writeFields d v w .IN_NCCFG cam k [(.IN_NCCFG_CANCEL, 1)]

/-- A job analyses the frame it has (R260). -/
def Dev.ncFinish (d : Dev) (n k : Nat) : Dev :=
  match Store.get (fun _ => none) (d.cam n).pics k with
  | some pic => d.ncRun n k pic
  | none => d

/-- IN_NC_DONE (R260). -/
def execInNcDone (cam : Fin 4) (k : Fin 2) (s : State) : Result := s.onDev Dev.running fun d => d.ncFinish cam k

/-- REGISTRATION_RESET (R262). -/
def execRegistrationReset (w : Writer) (b : Fin 4) (s : State) : Result :=
  s.onMach anytime fun d v => writeFields d v w .IN_RCTL b 0 [(.IN_RCTL_RESET, 1)]

/-- A stall of tile grants ends (R404, R408). -/
def Dev.stallStop (d : Dev) (n : Nat) : Dev :=
  ((d.setFbit .PT_CAMSTALL_GO 0 0 n false).setCam n { d.cam n with stallTill := none }).ptNote d.ptActive

/-- CAMSTALL_END (R404). -/
def execCamstallEnd (cam : Fin 4) (s : State) : Result :=
  s.onDev (fun d => match (d.cam cam).stallTill with | some t => decide (t ≤ d.now) | none => false) fun d => d.stallStop cam

end Sys2Proof.Machine
end

