-- ==== Sys2Proof/Machine/Collector.lean ====
section
/-! DEFINITION. The commands of the thermal engine and the fault collector (R277 to R303, R291, R407, R416). -/

namespace Sys2Proof.Machine

/-- THERMAL_CONVERSION (R277). -/
def execThermalConversion (c : Fin 74) (r : Reading) (s : State) : Result := s.onDev (fun d => d.convDue c r) fun d => d.convert c r

/-- SHUT_RELEASE (R286). -/
def execShutRelease (w : Writer) (mask : Word) (s : State) : Result :=
  s.onMach anytime fun d v => writeBy d v w (RegName.off .TM_SHUTST 0 0) mask

/-- The entries that failed their parity check are discarded (R16). -/
def Dev.mqDiscard (d : Dev) (sigs : List FaultSig) : Dev :=
  sigs.foldl (fun d s => match s.lost with
    | some (.trigger b) => d.loseTrigger b
    | some .signal => { d with fc := { d.fc with sigs := d.fc.sigs.drop 1 } }
    | none => d) d

/-- FAULT_LATCH (R16, R293). -/
def execFaultLatch (sigs : List FaultSig) (s : State) : Result :=
  s.onDev (fun d => d.running || d.inLoad) fun d => (d.mqDiscard sigs).latchSigs sigs

/-- DEGRADE_REQUEST_RETRY (R298). -/
def execDegradeRequestRetry (b : Fin 4) (s : State) : Result :=
  s.onDev (fun d => d.bayModes && d.retryDue b) fun d => (d.setRetry b none).fcEval b

/-- FC_REARM (R293). -/
def execFcRearm (w : Writer) (s : State) : Result := s.onMach anytime fun d v => writeFields d v w .FC_CMD 0 0 [(.FC_CMD_REARM, 1)]

/-- FC_RELEASE (R301). -/
def execFcRelease (w : Writer) (mask : Fin 32) (s : State) : Result :=
  s.onMach anytime fun d v => writeFields d v w .FC_CMD 0 0 [(.FC_CMD_RELEASE, mask)]

/-- QUIET_EXPIRY (R300, R301). -/
def execQuietExpiry (k : Fin 5) (s : State) : Result := s.onDev (fun d => d.running && d.quietDue k) fun d => d.quietExpire k

/-- SELF_CHECK_TEST (R300). -/
def execSelfCheckTest (k : Fin 5) (unit : FUnit) (pass : Bool) (s : State) : Result :=
  s.onDev (fun d => d.running && d.testDue k unit) fun d => d.testRun k unit pass

/-- LOCK_WINDOW_EXPIRY (R301). -/
def execLockWindowExpiry (k : Fin 5) (s : State) : Result := s.onDev (fun d => d.running && d.windowDue k) fun d => d.windowClose k

/-- NERR_PULSE_END (R303). -/
def execNerrPulseEnd (s : State) : Result := s.onDev (fun d => d.nerrDue) fun d => d.nerrStop

/-- NERR_HOLD_WRITE (R303). -/
def execNerrHoldWrite (w : Writer) (hold : Bool) (s : State) : Result :=
  s.onMach anytime fun d v => writeFields d v w .FC_NERR 0 0 [(.FC_NERR_HOLD, bit hold)]

/-- A source of the whole device (R291, R416): signalled at once, or latched at the completion of LOAD; without a collector it has no effect. -/
def Dev.deviceFault (d : Dev) (source : Nat) : Dev :=
  if d.running then d.signal source 0xFF else if d.hears then d.loadFault source 0xFF else d

/-- SUPPLY_TRIP (R416): a trip of more than 10 µs. -/
def execSupplyTrip (_rail : Nat) (us : Nat) (s : State) : Result := s.onDev (fun _ => decide (10 < us)) fun d => d.deviceFault srcSupply

/-- PLL_LOCK_LOSS (R291): the PLLs have locked before. -/
def execPllLockLoss (s : State) : Result := s.onDev (fun d => d.tbStart.isSome) fun d => d.deviceFault srcPllLock

/-- PT_FORCE (R407). -/
def execPtForce (w : Writer) (src : Fin 64) (unit : Fin 256) (s : State) : Result :=
  s.onMach anytime fun d v => writeFields d v w .PT_FORCE 0 0 [(.PT_FORCE_SRC, src), (.PT_FORCE_UNIT, unit), (.PT_FORCE_GO, 1)]

/-- PT_CLEAR (R401). -/
def execPtClear (w : Writer) (s : State) : Result :=
  s.onMach anytime fun d v => release (writeFields d v w .PT_CFG 0 0 [(.PT_CFG_CLEAR, 1)])

/-- PT_CREDIT_WRITE (R403): bits 1 to 3 withhold Q1 to Q3. -/
def execPtCreditWrite (w : Writer) (k : Fin 4) (q : Fin 8) (feed : Bool) (s : State) : Result :=
  s.onMach anytime fun d v => release (writeFields d v w .PT_CREDIT k 0 [(.PT_CREDIT_Q, q), (.PT_CREDIT_FEED, bit feed)])

/-- PT_CAMSTALL (R404). -/
def execPtCamstall (w : Writer) (mask : Fin 16) (us : Fin 65536) (s : State) : Result :=
  s.onMach anytime fun d v => writeFields d v w .PT_CAMSTALL 0 0 [(.PT_CAMSTALL_GO, mask), (.PT_CAMSTALL_US, us)]

end Sys2Proof.Machine
end

