-- ==== Sys2Proof/Machine/Commits.lean ====
section
/-! DEFINITION. The commands of the Keystone (R61 to R79, R264): commits, snapshots, and stops. -/

namespace Sys2Proof.Machine

/-- COMMIT (R65). -/
def execCommit (h : CmdHdr) (rec : CommitRec) (s : State) : Result :=
  s.onMach (fun d => d.takes h) fun d v => command d v h 0x0010 false fun d => (d.commit h rec, v)

/-- COMMIT_ARMED (R65, R73). -/
def execCommitArmed (slot : Slot) (s : State) : Result :=
  s.onDev (fun d => d.bayModes && (d.slotOf slot).st == .preparing) fun d => d.arm slot

/-- PREPARE_TIMEOUT (R65). -/
def execPrepareTimeout (slot : Slot) (s : State) : Result := s.onDev (fun d => d.prepLate slot) fun d => d.prepareTimeout slot

/-- CANCEL (R70). -/
def execCancel (h : CmdHdr) (bay : Nat) (s : State) : Result :=
  s.onMach (fun d => d.takes h) fun d v => command d v h 0x0011 false fun d => (d.cancel h bay, v)

/-- INTERNAL_COMMIT_START (R264). -/
def execInternalCommitStart (b : Fin 4) (s : State) : Result := s.onDev (fun d => d.internalReady b) fun d => d.startInternal b

/-- SNAP (R76). -/
def execSnap (h : CmdHdr) (bay flags target : Nat) (s : State) : Result :=
  s.onMach (fun d => d.takes h) fun d v => command d v h 0x0012 false fun d => (d.snapReq h bay flags target, v)

/-- SNAPRD (R77). -/
def execSnaprd (h : CmdHdr) (bay buffer off len : Nat) (s : State) : Result :=
  s.onMach (fun d => d.takes h) fun d v => command d v h 0x0013 false fun d => (d.snapRead h bay buffer off len, v)

/-- SNAPREL (R77). -/
def execSnaprel (h : CmdHdr) (bay buffer : Nat) (s : State) : Result :=
  s.onMach (fun d => d.takes h) fun d v => command d v h 0x0014 false fun d => (d.snapRelease h bay buffer, v)

/-- STOP (R61). -/
def execStop (h : CmdHdr) (bay : Nat) (s : State) : Result :=
  s.onMach (fun d => d.takes h) fun d v => command d v h 0x0020 false fun d => (d.stopCmd h bay, v)

/-- nSTOPb falls (R61, R62, R321): the stop of its bay, and in SERVICE every service head power enable. -/
def Dev.nstopFall (d : Dev) (b : Nat) (lowFor : Option Nat) : Dev :=
  let d := { d with nstop := Store.set (fun _ => none) d.nstop b (some (lowFor.map (d.now + ·))) }
  if d.inService then d.serviceStop
  else if d.bayModes && d.present b && d.on .KS_BAYCTL_NSTOPEN b then d.registerStop b 1
  else d

/-- NSTOP_FALL (R61). -/
def execNstopFall (b : Fin 4) (lowFor : Option Nat) (s : State) : Result := s.onDev anytime fun d => d.nstopFall b lowFor

end Sys2Proof.Machine
end

