-- ==== Sys2Proof/Machine/Console.lean ====
section
/-! DEFINITION. The commands of the service console and the self-tests (R386 to R400). -/

namespace Sys2Proof.Machine

/-- CONSOLE_STAT (R389). -/
def execConsoleStat (s : State) : Result := s.onMach anytime fun d v => console d v .always true false fun d => (d.conStat v, v)

/-- CONSOLE_RD (R389). -/
def execConsoleRd (a n : Nat) (s : State) : Result := s.onMach anytime fun d v => console d v .loaded false false fun d => (d.conRd v a n, v)

/-- CONSOLE_WR (R389, R401). -/
def execConsoleWr (a : Nat) (x : Word) (s : State) : Result :=
  s.onMach anytime fun d v => release (console d v .loaded false false fun d => conWr d v a x)

/-- CONSOLE_F (R389). -/
def execConsoleF (frame : List Byte) (s : State) : Result :=
  s.onMach anytime fun d v => release (console d v .loaded false false fun d => conFrame d v frame)

/-- CONSOLE_STOP (R61, R389). -/
def execConsoleStop (bay : Option (Fin 4)) (s : State) : Result :=
  s.onMach anytime fun d v => console d v .loaded false true fun d => (d.conStop bay, v)

/-- CONSOLE_SERVICE (R321). -/
def execConsoleService (s : State) : Result := s.onMach anytime fun d v => console d v .bays false false fun d => (d.conService, v)

/-- CONSOLE_RUN (R322, R401). -/
def execConsoleRun (s : State) : Result :=
  s.onMach anytime fun d v => release (console d v .service false false fun d => (d.conRun, v))

/-- CONSOLE_PARK (R392). -/
def execConsolePark (xx : Fin 32) (pin : Fin 7) (code : Fin 3) (s : State) : Result :=
  s.onMach anytime fun d v => console d v .service false false fun d => conPark d v xx pin code

/-- CONSOLE_ID (R393). -/
def execConsoleId (xx : Fin 32) (low : Bool) (s : State) : Result :=
  s.onMach anytime fun d v => console d v .service false false fun d => conFields d v .SV_PARK xx [(.SV_PARK_IDLOW, bit low)]

/-- CONSOLE_TEMP (R394). -/
def execConsoleTemp (c : Fin 128) (on : Bool) (s : State) : Result :=
  s.onMach anytime fun d v => console d v .service false false fun d =>
    conFields d v .SV_MTEMP 0 [(.SV_MTEMP_CH, c), (.SV_MTEMP_EN, bit on)]

/-- CONSOLE_OUT (R395). -/
def execConsoleOut (p : Nat) (code : Fin 4) (s : State) : Result :=
  s.onMach anytime fun d v => console d v .service false false fun d => conOut d v p code

/-- CONSOLE_SHOW (R396). -/
def execConsoleShow (what : ShowWhat) (watch : Bool) (s : State) : Result :=
  s.onMach anytime fun d v => console d v .loaded false false fun d => (d.conShow what watch, v)

/-- SHOW_WATCH_UPDATE (R389). -/
def execShowWatchUpdate (lanes : List (Fin 5)) (s : State) : Result := s.onDev Dev.running fun d => d.watchUpdate lanes

/-- CONSOLE_PEN (R397). -/
def execConsolePen (xx : Fin 32) (on : Bool) (s : State) : Result :=
  s.onMach anytime fun d v => console d v .service false false fun d => conPen d v xx on

/-- CONSOLE_PLUMB (R400). -/
def execConsolePlumb (sel : Nat) (arg : Fin 256) (level : BitVec 16) (s : State) : Result :=
  s.onMach anytime fun d v => console d v .service false false fun d => conPlumb d v sel arg level.toNat

/-- CONSOLE_OTP_PROG (R360). -/
def execConsoleOtpProg (word : Fin 2048) (data : Word) (s : State) : Result :=
  s.onMach anytime fun d v => console d v .service false false fun d => conOtp d v 0 word data (d.progRec word)

/-- CONSOLE_OTP_LOCK (R360). -/
def execConsoleOtpLock (rec : Fin 16) (s : State) : Result :=
  s.onMach anytime fun d v => console d v .service false false fun d => conOtp d v 1 0 0 rec

/-- CONSOLE_OTP_SEAL (R360). -/
def execConsoleOtpSeal (rec : Fin 16) (s : State) : Result :=
  s.onMach anytime fun d v => console d v .service false false fun d => conOtp d v 2 0 0 rec

/-- CONSOLE_RELOAD (R346). -/
def execConsoleReload (sel : Nat) (s : State) : Result :=
  s.onMach anytime fun d v => console d v .service false false fun d => (d.conReload sel, v)

/-- CONSOLE_BAUD (R386). -/
def execConsoleBaud (r : Nat) (s : State) : Result := s.onMach anytime fun d v => console d v .always false false fun d => (d.conBaud r, v)

/-- CONSOLE_TEST (R389, R390). -/
def execConsoleTest (test : Fin 10) (arg : Fin 256) (s : State) : Result :=
  s.onMach anytime fun d v => console d v .service false false fun d => conTest d v test arg

/-- CONSOLE_LINE_REJECTED (R387, R388). -/
def execConsoleLineRejected (r : LineReject) (s : State) : Result := s.onDev anytime fun d => d.lineRejected r

/-- CONSOLE_BYTE_RECEIVED (R387). -/
def execConsoleByteReceived (b : Byte) (framing : Bool) (s : State) : Result := s.onDev anytime fun d => d.conByte b framing

/-- TEST_ALL (R390). -/
def execTestAll (s : State) : Result := s.onDev anytime fun d => d.testAll

/-- TEST_SRAM (R390). -/
def execTestSram (bad : Option Nat) (s : State) : Result := s.onDev (fun d => d.subDue 1) fun d => d.testEnd bad.isNone (bad.getD 0)

/-- TEST_PLL (R390). -/
def execTestPll (lost : Fin 512) (s : State) : Result := s.onDev (fun d => d.subDue 2) fun d => d.testEnd (lost == 0) lost

/-- TEST_OTP (R390). -/
def execTestOtp (arrayReads selfTest : Bool) (s : State) : Result :=
  s.onDev (fun d => d.subDue 3) fun d => d.testOtp s.nv arrayReads selfTest

/-- TEST_TALLY (R390). -/
def execTestTally (ue : Nat) (s : State) : Result := s.onDev (fun d => d.subDue 4) fun d => d.testEnd (ue == 0) ue

/-- TEST_LINK (R390). -/
def execTestLink (bad : Fin 128) (s : State) : Result := s.onDev (fun d => d.subDue 5) fun d => d.testEnd (bad == 0) bad

/-- TEST_SNADC (R390). -/
def execTestSnadc (short step : Nat) (s : State) : Result :=
  s.onDev (fun d => d.subDue 6) fun d =>
    d.testEnd (within short 2048 8 && within step 3072 20) (short % 4096 + 65536 * (step % 4096))

/-- TEST_TEMP (R390). -/
def execTestTemp (first second : Nat) (s : State) : Result :=
  s.onDev (fun d => d.subDue 7) fun d =>
    d.testEnd (within first 16384 33 && within second 16384 33) (first % 65536 + 65536 * (second % 65536))

/-- TEST_FSMEM (R390, R391). -/
def execTestFsmem (failing : Option Nat) (s : State) : Result := s.onDev (fun d => d.subDue 8) fun d => d.testFs failing

/-- TEST_CAM (R390). -/
def execTestCam (pass : Bool) (crc : Word) (s : State) : Result := s.onDev (fun d => d.subDue 9) fun d => d.testEnd pass crc.toNat

/-- SV_TEST_DONE (R391). -/
def execSvTestDone (s : State) : Result := s.onDev Dev.running fun d => d.testDone

end Sys2Proof.Machine
end

