-- ==== Sys2Proof/Machine/Feeds.lean ====
section
/-! DEFINITION. The commands of the raster intake and the frame store (R82 to R99). -/

namespace Sys2Proof.Machine

/-- A feed frame reaches its queue (R88, R403). -/
def Dev.feedOpen (d : Dev) (h : FeedHdr) : Bool := d.serves h.seat && !d.on .PT_CREDIT_FEED h.seat

/-- CDATA (R94). -/
def execCdata (h : FeedHdr) (raster count offset pixels format reserved value : Nat) (data : List Byte) (s : State) : Result :=
  s.onDev (fun d => d.feedOpen h) fun d => d.feedArrive h (.cdata raster count offset pixels format reserved value data)

/-- CFILL (R89). -/
def execCfill (h : FeedHdr) (raster count offset pixels format reserved value len : Nat) (s : State) : Result :=
  s.onDev (fun d => d.feedOpen h) fun d => d.feedArrive h (.cfill raster count offset pixels format reserved value len)

/-- FFLUSH (R96). -/
def execFflush (h : FeedHdr) (raster : Nat) (len reserved : Nat) (s : State) : Result :=
  s.onDev (fun d => d.feedOpen h) fun d => d.feedArrive h (.fflush raster (len == 8 && reserved == 0))

/-- FQ_DOORBELL (R87). -/
def execFqDoorbell (w : Writer) (xx : Fin 32) (value : Word) (s : State) : Result :=
  s.onMach anytime fun d v => writeBy d v w (RegName.off .RI_FQTAIL xx 0) value

/-- FEED_FRAME_RESUME (R99). -/
def execFeedFrameResume (xx : Fin 32) (s : State) : Result :=
  s.onDev (fun d => d.bayModes && !(d.itk xx).frames.isEmpty) fun d => d.feedRun xx ((d.itk xx).frames.length + 1)

/-- SLOT_COMPLETE (R95). -/
def execSlotComplete (xx : Fin 32) (raster : Nat) (s : State) : Result :=
  s.onDev (fun d => d.running && d.slotAwaits xx raster) fun d => d.slotAck xx raster

/-- The scrubber reads the block of a code word (R85, R86): a corrected word is written back, an uncorrectable one stays so. -/
def Dev.scrub (d : Dev) (addr : Nat) (err : Option Bool) : Dev :=
  let a := addr / 64 * 64
  let bad := (List.range 8).any fun i => d.fsWordBad (a / 8 + i)
  let (d, k, two) := d.takeEcc (d.fld .PT_ECC_TARGET == 1 && a / 2 ^ 28 == d.fld .PT_ECC_ARG) 1
  let d := if err = some true then { d with fsBad := Store.set (fun _ => false) d.fsBad (addr / 8) true } else d
  if bad || err = some true || (k == 1 && two) then (d.noteEcc a true true).raiseFsUe none 0xFF
  else if err = some false || k == 1 then (d.noteEcc a false true).signal srcFsCe 0xFF
  else d

/-- PATROL_SCRUB (R86). -/
def execPatrolScrub (addr : Nat) (err : Option Bool) (s : State) : Result :=
  s.onDev (fun d => d.running && d.on .RI_SCRUB_EN && decide (addr < d.cap)) fun d => d.scrub addr err

/-- DQS_TRACKING (R82): the tracking only holds accesses for up to 1 µs, which no state of this model shows. -/
def execDqsTracking (_channel : Fin 2) (s : State) : Result := s.onDev anytime fun d => d

end Sys2Proof.Machine
end

