-- ==== Sys2Proof/Machine/Heads.lean ====
section
/-! DEFINITION. The commands of the head ports and of sounding (R32, R179 to R196, R207 to R226). -/

namespace Sys2Proof.Machine

/-- CODE_LOAD (R179). -/
def execCodeLoad (xx : Fin 32) (s : State) : Result := s.onDev (fun d => d.loadDue xx) fun d => d.loadEnd xx

/-- LATCH (R190). -/
def execLatch (xx : Fin 32) (s : State) : Result := s.onDev (fun d => d.latchDue xx) fun d => d.latchEdge xx

/-- The trailing edge of a latch (R180, R190, R375): the counters count, the plays start, and a course that sounds a nozzle starts its
stimulus (R207). -/
def Dev.latchTrail (d : Dev) (xx : Nat) : Dev :=
  match (d.hp xx).jobs with
  | j :: _ =>
    let d := d.wearCount xx j.codes
    let (d, played) := d.trailEdge xx
    (match j.latch with
     | some p => (match p.sound with | some s => if played then d.soundStart xx j p s else d.soundFailed xx p | none => d)
     | none => d)
  | [] => d

/-- LATCH_TRAILING_EDGE (R180, R375). -/
def execLatchTrailingEdge (xx : Fin 32) (s : State) : Result := s.onDev (fun d => d.trailDue xx) fun d => d.latchTrail xx

/-- CONFIG_REPEAT_DUE (R189). -/
def execConfigRepeatDue (xx : Fin 32) (s : State) : Result :=
  s.onDev (fun d => d.cfgRepeatDue xx) fun d => d.setHp xx { d.hp xx with cfgDue := true }

/-- HEAD_POWER_REQUEST (R196). -/
def execHeadPowerRequest (w : Writer) (xx : Fin 32) (req : Bool) (s : State) : Result :=
  s.onMach anytime fun d v => writeFields d v w .HP_PWR xx 0 [(.HP_PWR_REQ, bit req)]

/-- HEAD_SETTLE_DONE (R196, R197). -/
def execHeadSettleDone (xx : Fin 32) (loopback : Bool) (s : State) : Result := s.onDev (fun d => d.settleDue xx) fun d => d.settle xx loopback

/-- HEAD_POWER_DOWN_TIMER (R196). -/
def execHeadPowerDownTimer (xx : Fin 32) (s : State) : Result := s.onDev (fun d => d.downDue xx) fun d => d.downStep xx

/-- The captures of a port end (R209, R210); completed learning clears the drift samples of its port (R381). -/
def captured (d : Dev) (v : Nv) (xx : Nat) (samples : List Nat) : Dev × Nv :=
  let d' := d.captureDone xx samples
  (d', if (d.sn xx).learn.isSome && (d'.sn xx).learn.isNone then v.setTrend (2 * xx + 1) [] else v)

/-- SOUNDING_CAPTURE_DONE (R210). -/
def execSoundingCaptureDone (xx : Fin 32) (samples : List Nat) (s : State) : Result :=
  s.onMach (fun d => d.captureDue xx) fun d v => captured d v xx samples

/-- A write of HM_DECL with GO (R216). -/
def declare (d : Dev) (v : Nv) (w : Writer) (b head noz act : Nat) : Dev × Nv :=
  writeFields d v w .HM_DECL b 0 [(.HM_DECL_HEAD, head), (.HM_DECL_NOZ, noz), (.HM_DECL_ACT, act), (.HM_DECL_GO, 1)]

/-- HM_DECLARE (R216). -/
def execHmDeclare (w : Writer) (b : Fin 4) (head : Fin 32) (noz : Fin 8192) (s : State) : Result :=
  s.onMach anytime fun d v => declare d v w b head noz 0

/-- HM_CLEAR (R216). -/
def execHmClear (w : Writer) (b : Fin 4) (head : Fin 32) (noz : Fin 8192) (s : State) : Result :=
  s.onMach anytime fun d v => declare d v w b head noz 1

/-- HM_FORCE_GOOD (R216). -/
def execHmForceGood (w : Writer) (b : Fin 4) (head : Fin 32) (noz : Fin 8192) (s : State) : Result :=
  s.onMach anytime fun d v => declare d v w b head noz 2

/-- AGING_PASS (R215). -/
def execAgingPass (xx : Fin 32) (noz : Fin 4096) (s : State) : Result := s.onDev Dev.running fun d => d.hmAgeVisit xx noz

/-- LEARN_START (R226). -/
def execLearnStart (w : Writer) (xx : Fin 32) (s : State) : Result :=
  s.onMach anytime fun d v => writeFields d v w .SN_LEARN xx 0 [(.SN_LEARN_START, 1)]

/-- An island has woken (R32, R239); parked pairs of its ports take their levels (R392). -/
def Dev.islandWoken (d : Dev) (i : Nat) : Dev :=
  let before := d
  let d := d.islandAwake i
  let d := if i < 4 then forN 8 (fun k d => d.parkPins before (8 * i + k)) d else d
  if 4 ≤ i && i < 8 then d.camWake (i - 4) else d

/-- ISLAND_WAKE_COMPLETE (R32). -/
def execIslandWakeComplete (island : Fin 13) (s : State) : Result :=
  s.onDev (fun d => match d.wakeAt island with | some t => decide (t ≤ d.now) | none => false) fun d => d.islandWoken island

end Sys2Proof.Machine
end

