-- ==== Sys2Proof/Machine/Position.lean ====
section
/-! DEFINITION. The commands of position, pacing, compare and emulation (R143 to R169, R316, R405). -/

namespace Sys2Proof.Machine

/-- POSITION_EDGE (R143), with the levels before and after the filter. Outside the running device the levels are only noted, and at
a channel in no bay only shown (R26, R141, R396). -/
def execPositionEdge (n : Fin 8) (raw pins : Fin 8) (s : State) : Result :=
  s.onDev anytime fun d =>
    if !d.running then d.notePins n raw
    else if (d.psBay n).isSome then (d.positionEdge n raw pins).psPin n
    else (d.notePins n raw).psLevels n raw pins

/-- Z_EDGE (R152). A channel in no bay ignores it (R26), and a Hall or SSI channel has no Z (R141). -/
def execZEdge (n : Fin 8) (s : State) : Result :=
  s.onDev (fun d => d.running && (d.psBay n).isSome && decide (d.fld .PS_CFG_TYPE n < 2)) fun d => d.zEdge n

/-- OVERRATE_SUBWINDOW (R145). -/
def execOverrateSubwindow (n : Fin 8) (s : State) : Result :=
  s.onDev (fun d => d.running && decide ((d.psc n).subEnd ≤ d.tb)) fun d => d.subWindowEnd n

/-- An SSI frame starts (R149): its stamp, the level of PSn_IN0, the instant of the next, and the clock it drives. -/
def Dev.ssiStart (d : Dev) (n : Nat) (idleLow : Bool) : Dev :=
  let x := d.psc n
  (d.setPsc n { x with ssi := some (d.tb, idleLow), ssiNext := d.tb + 20 * d.fld .PS_SSIT_PERIOD n }).emit
    (.ssiClock n d.tb (d.ssiClock n) (d.fld .PS_SSI_BITS n) (d.fld .PS_SSI_SDLY n))

/-- SSI_FRAME_START (R149). -/
def execSsiFrameStart (n : Fin 8) (idleLow : Bool) (s : State) : Result := s.onDev (fun d => d.ssiDue n) fun d => d.ssiStart n idleLow

/-- An SSI word ends (R149): (BITS + 1) clock periods and 20 ns after its start. -/
def Dev.ssiEndDue (d : Dev) (n : Nat) : Bool :=
  match (d.psc n).ssi with
  | some (t, _) => decide (t + (d.fld .PS_SSI_BITS n + 1) * d.ssiClock n + 4 ≤ d.tb)
  | none => false

/-- SSI_WORD_DECODED (R150). -/
def execSsiWordDecoded (n : Fin 8) (raw : Nat) (s : State) : Result :=
  s.onDev (fun d => d.running && d.ssiEndDue n) fun d => (d.ssiDecode n raw).psPin n

/-- SPEED_WINDOW_END (R154, R194). -/
def execSpeedWindowEnd (n : Fin 8) (s : State) : Result :=
  s.onDev (fun d => d.running && decide ((d.psc n).spdEnd ≤ d.tb)) fun d => (d.speedWindowEnd n).preWarn n

/-- STALL_TIMEOUT (R155). -/
def execStallTimeout (n : Fin 8) (s : State) : Result := s.onDev (fun d => d.running && d.stallDue n) fun d => d.stallFire n

/-- PRELOAD (R152). -/
def execPreload (w : Writer) (n : Fin 8) (s : State) : Result :=
  s.onMach anytime fun d v => writeFields d v w .PS_CMD n 0 [(.PS_CMD_PRELOAD, 1)]

/-- MOVE (R155). -/
def execMove (w : Writer) (n : Fin 8) (v : Bool) (s : State) : Result :=
  s.onMach anytime fun d m => writeFields d m w .PS_CMD n 0 [(.PS_CMD_MOVE, bit v)]

/-- INTERPOLATED_TRIGGER (R159). -/
def execInterpolatedTrigger (b : Fin 4) (s : State) : Result := s.onDev (fun d => d.bayModes && d.interpDue b) fun d => d.interpIssue b

/-- GENERATOR_TRIGGER (R162). -/
def execGeneratorTrigger (b : Fin 4) (s : State) : Result := s.onDev (fun d => d.bayModes && d.genDue b) fun d => d.genIssue b

/-- The triggers of the last 10 ms are counted (R163), the excess over MAXHZ is noted, and the rate test of R282 runs. -/
def Dev.rateUpdate (d : Dev) (b : Nat) : Dev :=
  let n := ((d.pc b).recent.filter fun t => decide (d.tb < t + ms 10)).length
  let d := d.setPc b { d.pc b with rateNext := d.tb + us 100 }
  let d := d.setFld .PC_RATE_CNT b 0 (min 0xFFFF n)
  let d := if d.fld .RI_BAYRATE_MAXHZ b < 100 * n then d.setOn .RI_BAYRATE_OVER b 0 true else d
  d.thrEval b true

/-- PACER_RATE_UPDATE (R163). -/
def execPacerRateUpdate (b : Fin 4) (s : State) : Result :=
  s.onDev (fun d => d.running && d.present b && decide ((d.pc b).rateNext ≤ d.tb)) fun d => d.rateUpdate b

/-- DELAYED_TRIGGER_ISSUE (R405). -/
def execDelayedTriggerIssue (b : Fin 4) (s : State) : Result := s.onDev (fun d => d.bayModes && d.delayedDue b) fun d => d.issueDelayed b

/-- COURSE_BOUNDARY (R316). -/
def execCourseBoundary (b : Fin 4) (s : State) : Result := s.onDev (fun d => d.boundaryDue b) fun d => d.boundaryNext b

/-- The armed entry of a compare engine is reached (R166). -/
def Dev.cmpDue (d : Dev) (e : Nat) : Bool :=
  d.bayModes && (d.cp e).run && decide (0 ≤ d.cmpGap e) && (match d.cpeBay e with | some b => d.present b | none => false)

/-- COMPARE_MATCH (R166). -/
def execCompareMatch (e : Fin 8) (s : State) : Result := s.onDev (fun d => d.cmpDue e) fun d => (d.cmpFire e).camFollowCmp d

/-- COMPARE_PULSE_END (R167). -/
def execComparePulseEnd (e : Fin 8) (o : Fin 16) (s : State) : Result :=
  s.onDev (fun d => d.running && d.pulseDue e o) fun d => (d.pulseStop e o).camFollowCmp d

/-- EMULATION_EDGE (R168). -/
def execEmulationEdge (n : Fin 4) (s : State) : Result := s.onDev (fun d => d.emDue n) fun d => d.emEmit n

/-- EMULATION_PULSE_END (R169). -/
def execEmulationPulseEnd (n : Fin 4) (s : State) : Result := s.onDev (fun d => d.running && d.emPulseDue n) fun d => d.emPulseStop n

end Sys2Proof.Machine
end

