-- ==== Sys2Proof/Machine/Seats.lean ====
section
/-! DEFINITION. The commands of the host seats (R42 to R60, R80, R81, R107, R291): accesses of PCIe functions, Ethernet frames, links,
doorbells, descriptors, held events, and the plain frame commands. -/

namespace Sys2Proof.Machine

/-- REGISTER_WRITE (R7, R52). -/
def execRegisterWrite (fn : Fin 2) (addr size : Nat) (enables : Bool) (value : Nat) (s : State) : Result :=
  s.onMach anytime fun d v => release (mmioWrite d v (pcieSeat fn) addr size enables value)

/-- REGISTER_READ (R52). -/
def execRegisterRead (fn : Fin 2) (addr size : Nat) (enables : Bool) (s : State) : Result :=
  s.onDev anytime fun d => d.mmioRead s.nv (pcieSeat fn) addr size enables

/-- GL_PWR(k) takes an estimate (R33, R41). -/
def Dev.powerTake (d : Dev) (k mw : Nat) : Dev :=
  let x := min 0xFFFF mw
  if d.fld .GL_PWR_MW k = x then d.bump .GL_PWR_AGE k 0 else (d.setFld .GL_PWR_MW k 0 x).setFld .GL_PWR_AGE k 0 0

/-- The estimates update, every 10 ms. -/
def Dev.powerUpdate (d : Dev) (mw : List Nat) : Dev :=
  forN 9 (fun k d => d.powerTake k (mw.getD k 0)) { d with boot := { d.boot with powerAt := d.now + ms 10 } }

/-- POWER_ESTIMATE_UPDATE (R33). -/
def execPowerEstimateUpdate (mw : List Nat) (s : State) : Result :=
  s.onDev (fun d => (d.running || d.inLoad) && decide (d.boot.powerAt ≤ d.now)) fun d => d.powerUpdate mw

/-- ETH_FRAME_RECEIVED (R44). -/
def execEthFrameReceived (port : Fin 2) (dstMac : Nat) (f : EthFrame) (s : State) : Result :=
  s.onMach anytime fun d v => release (ethernet d v (ethSeat port) dstMac f)

/-- LINK_UP (R58, R324). -/
def execLinkUp (k : Fin 4) (speed width : Nat) (s : State) : Result := s.onDev anytime fun d => d.linkUp k speed width

/-- LINK_DOWN (R58). -/
def execLinkDown (k : Fin 4) (s : State) : Result := s.onDev anytime fun d => d.linkDown k

/-- LINK_LOSS_TIMEOUT (R46). -/
def execLinkLossTimeout (k : Fin 4) (s : State) : Result := s.onDev (fun d => d.lossDue k) fun d => d.linkLoss k

/-- FUNCTION_LEVEL_RESET (R46). -/
def execFunctionLevelReset (fn : Fin 2) (s : State) : Result := s.onDev (fun d => d.pcieUp fn) fun d => d.pcieLoss fn

/-- PERST_ASSERT (R46). -/
def execPerstAssert (s : State) : Result := s.onDev anytime fun d => d.perst

/-- PCIE_CONFIG_REQUEST (R311). -/
def execPcieConfigRequest (fn : Fin 2) (write : Option Word) (dword : Nat) (s : State) : Result :=
  s.onDev anytime fun d => d.configRequest fn write dword

/-- CQ_DOORBELL (R53). -/
def execCqDoorbell (w : Writer) (fn : Fin 2) (q : Fin 4) (value : Word) (s : State) : Result :=
  s.onMach anytime fun d v => writeBy d v w (RegName.off .HS_CQTAIL fn q) value

/-- DESCRIPTOR_FETCH (R53, R59, R88). -/
def execDescriptorFetch (fn : Fin 2) (feed : Option (Fin 32)) (desc : Descriptor) (s : State) : Result :=
  s.onMach anytime fun d v =>
    release (match feed with
      | none => fetchCommand d v (pcieSeat fn) desc
      | some xx => fetchFeed d v (pcieSeat fn) xx desc)

/-- EQ_HEAD_WRITE (R54). -/
def execEqHeadWrite (w : Writer) (fn : Fin 2) (q : Fin 4) (value : Word) (s : State) : Result :=
  s.onMach anytime fun d v => writeBy d v w (RegName.off .HS_EQHEAD fn q) value

/-- HELD_EVENT_DELIVERY (R55). -/
def execHeldEventDelivery (k : Fin 2) (s : State) : Result := s.onDev anytime fun d => d.deliverHeld k

/-- RING_ENABLE_WRITE (R81). -/
def execRingEnableWrite (w : Writer) (fn : Fin 2) (event : Bool) (q : Fin 4) (value : Word) (s : State) : Result :=
  s.onMach anytime fun d v => writeBy d v w (RegName.off (if event then .HS_EQSIZE else .HS_CQSIZE) fn q) value

/-- NOP (R49). -/
def execNop (h : CmdHdr) (s : State) : Result :=
  s.onMach (fun d => d.takes h) fun d v => command d v h 0x0000 false fun d => (d.complete h 0x0000 .ok [], v)

/-- RD32 (R50). -/
def execRd32 (h : CmdHdr) (offs : List Nat) (s : State) : Result :=
  s.onMach (fun d => d.takes h) fun d v => command d v h 0x0001 (offs.all glOffset) fun d => (d.rd32 v h offs, v)

/-- WR32 (R50). -/
def execWr32 (h : CmdHdr) (pairs : List (Nat × Word)) (s : State) : Result :=
  s.onMach (fun d => d.takes h) fun d v => release (command d v h 0x0002 false fun d => Sys2Proof.Machine.wr32 d v h pairs)

/-- RDBLK (R447). -/
def execRdblk (h : CmdHdr) (off len : Nat) (s : State) : Result :=
  s.onMach (fun d => d.takes h) fun d v => command d v h 0x0003 false fun d => (d.rdblk v h off len, v)

/-- WRBLK (R447). -/
def execWrblk (h : CmdHdr) (off : Nat) (data : List Word) (s : State) : Result :=
  s.onMach (fun d => d.takes h) fun d v => release (command d v h 0x0004 false fun d => Sys2Proof.Machine.wrblk d v h off data)

/-- APERTURE_WRITE (R107). -/
def execApertureWrite (fn : Fin 2) (_bar2 : Bool) (off : Nat) (s : State) : Result := s.onDev anytime fun d => d.apertureWrite fn off

/-- BAR2_READ (R107). -/
def execBar2Read (fn : Fin 2) (off len : Nat) (s : State) : Result := s.onDev anytime fun d => d.bar2Read (pcieSeat fn) off len

/-- A seat's descriptor or frame fetch has no completion for 50 ms, or its function meets a fatal error (R291). -/
def Dev.seatError (d : Dev) (k : Nat) : Dev := (d.setSeat k { d.seat k with lastBad := some d.now }).signal srcSeatErr k

/-- SEAT_FETCH_TIMEOUT (R291). -/
def execSeatFetchTimeout (k : Fin 2) (s : State) : Result := s.onDev (fun d => d.running && d.on .HS_CTL_EN k) fun d => d.seatError k

/-- PCIE_FATAL_ERROR (R291). -/
def execPcieFatalError (fn : Fin 2) (s : State) : Result := s.onDev (fun d => d.running) fun d => d.seatError fn

end Sys2Proof.Machine
end

