-- ==== Sys2Proof/Machine/StartUp.lean ====
section
/-! DEFINITION. The commands of reset, start-up, LOAD, SEALED and the image (R308 to R347, R416). -/

namespace Sys2Proof.Machine

/-- RESET_ASSERT (R308). -/
def execResetAssert (ns : Nat) (s : State) : Result := s.onDev anytime fun d => d.nResetLow ns

/-- RESET_RELEASE (R309). -/
def execResetRelease (s : State) : Result := s.onDev (fun d => !d.boot.nReset) fun d => d.nResetHigh

/-- AON leaves reset (R309): BOOTST shows 0b001. -/
def Dev.aonUp (d : Dev) : Dev := { d with boot := { d.boot with phase := .otpCheck } }

/-- AON_STABLE (R309). -/
def execAonStable (s : State) : Result := s.onDev (fun d => d.boot.phase == .counting) fun d => d.aonUp

/-- The integrity check ends (R309, R357): SEALED, or the on-die channels start to convert. -/
def Dev.otpCheckEnd (d : Dev) (v : Nv) (arrayReads selfTest : Bool) : Dev :=
  let d := d.otpCheck v arrayReads selfTest
  if d.boot.phase == .isSealed then d else { d with regs := d.factoryRegs }.scanStartDie

/-- OTP_INTEGRITY_CHECK_DONE (R357). -/
def execOtpIntegrityCheckDone (arrayReads selfTest : Bool) (s : State) : Result :=
  s.onDev (fun d => d.boot.phase == .otpCheck) fun d => d.otpCheckEnd s.nv arrayReads selfTest

/-- The PLLs lock and the time base starts (R17, R309). -/
def Dev.pllUp (d : Dev) : Dev := { d with tbStart := some d.now, boot := { d.boot with phase := .sramClear } }

/-- PLL_LOCKED (R309). -/
def execPllLocked (s : State) : Result := s.onDev (fun d => d.boot.phase == .pllWait) fun d => d.pllUp

/-- SRAM_CLEAR_DONE (R309). -/
def execSramClearDone (s : State) : Result := s.onDev (fun d => d.boot.phase == .sramClear) fun d => d.loadBegin false 0

/-- IMAGE_HEADERS_READ (R330). -/
def execImageHeadersRead (f : FlashHeads) (s : State) : Result :=
  s.onDev (fun d => d.boot.phase == .loadHeaders) fun d => d.headersRead s.nv f

/-- IMAGE_BODY_READ (R331). -/
def execImageBodyRead (body : List Byte) (s : State) : Result :=
  s.onDev (fun d => d.boot.phase == .loadBody) fun d => d.bodyRead s.nv body

/-- FRAME_STORE_TRAINED (R83). -/
def execFrameStoreTrained (ok0 ok1 : Bool) (mr8 : Fin 5) (s : State) : Result :=
  s.onDev (fun d => d.boot.phase == .loadTrain) fun d => d.storeTrained ok0 ok1 mr8

/-- LOAD_COMPLETE (R311). -/
def execLoadComplete (tallyUe : List Nat) (s : State) : Result :=
  s.onDev (fun d => d.boot.phase == .loadApply) fun d => d.loadDone s.nv tallyUe

/-- AON_POWER_ON_RESET (R416). -/
def execAonPowerOnReset (s : State) : Result := s.onDev anytime fun d => d.porAssert

/-- POWER_ON_RESET_RELEASE (R416). -/
def execPowerOnResetRelease (s : State) : Result := s.onDev (fun d => d.boot.por) fun d => d.porRelease

/-- The line goes out; the next follows 1.0 s later. -/
def Dev.sealedSay (d : Dev) : Dev := { d with boot := { d.boot with lineAt := d.now + sec 1 } }.say d.sealedLine

/-- SEALED_STATUS_LINE (R315). -/
def execSealedStatusLine (s : State) : Result :=
  s.onDev (fun d => d.boot.phase == .isSealed && decide (d.boot.lineAt ≤ d.now)) fun d => d.sealedSay

/-- IMGRELOAD (R323, R346). -/
def execImgreload (h : CmdHdr) (sel : Nat) (s : State) : Result :=
  s.onMach (fun d => d.takes h) fun d v => command d v h 0x0031 false fun d => (d.imgReload h sel, v)

/-- WRITEBACK_ABANDON (R326). -/
def execWritebackAbandon (s : State) : Result := s.onDev (fun d => d.abandonDue) fun d => d.loadBegin true d.boot.sel

/-- An IMGSTAGE frame is executed when no other is (R343). -/
def Dev.stageOpen (d : Dev) (h : CmdHdr) : Bool := d.takes h && (h.src == .console || !d.staging)

/-- An IMGSTAGE operation on a copy that R343 names. -/
def stageFrame (d : Dev) (v : Nv) (h : CmdHdr) (copyOk : Bool) (k : Dev → Dev) : Dev × Nv :=
  command d v h 0x0030 false fun d => (d.imgStage h (fun d => if copyOk then k d else d.complete h 0x0030 .badFrame []), v)

/-- IMGSTAGE_ERASE (R343). -/
def execImgstageErase (h : CmdHdr) (copy : Nat) (s : State) : Result :=
  s.onMach (fun d => d.stageOpen h) fun d v => stageFrame d v h (decide (copy ≤ 1)) fun d => d.stageErase h copy

/-- IMGSTAGE_WRITE (R343). -/
def execImgstageWrite (h : CmdHdr) (copy off : Nat) (data : List Byte) (s : State) : Result :=
  s.onMach (fun d => d.stageOpen h) fun d v => stageFrame d v h (decide (copy ≤ 1)) fun d => d.stageWrite h copy off data

/-- IMGSTAGE_VERIFY (R344). -/
def execImgstageVerify (h : CmdHdr) (copy : Nat) (s : State) : Result :=
  s.onMach (fun d => d.stageOpen h) fun d v => stageFrame d v h (decide (copy ≤ 1)) fun d => d.stageVerify v h copy

/-- IMGSTAGE_QUERY (R345). -/
def execImgstageQuery (h : CmdHdr) (s : State) : Result :=
  s.onMach (fun d => d.stageOpen h) fun d v => stageFrame d v h true fun d => d.stageQuery v h

/-- IMGSTAGE_ADVANCE (R343). -/
def execImgstageAdvance (h : CmdHdr) (s : State) : Result :=
  s.onMach (fun d => d.stageOpen h) fun d v => stageFrame d v h true fun d => d.stageAdvance v h

/-- FLASH_OPERATION_DONE (R343). -/
def execFlashOperationDone (ok : Bool) (body : List Byte) (s : State) : Result :=
  s.onMach (fun d => d.running && d.boot.flashOp.isSome) fun d v => release (d.flashDone ok body, v)

end Sys2Proof.Machine
end

