-- ==== Sys2Proof/Machine/Tabled.lean ====
section
/-! DEFINITION. The commands of the screening tables (R121, R134). -/

namespace Sys2Proof.Machine

/-- CURVE_HEAD_WRITE (R121). -/
def execCurveHeadWrite (w : Writer) (b : Fin 4) (head : Fin 32) (s : State) : Result :=
  s.onMach anytime fun d v => writeFields d v w .SC_CVSTG b 0 [(.SC_CVSTG_HEAD, head)]

/-- CURVE_CLAIM (R121). -/
def execCurveClaim (w : Writer) (b : Fin 4) (s : State) : Result :=
  s.onMach anytime fun d v => writeFields d v w .SC_CVSTG b 0 [(.SC_CVSTG_CLAIM, 1)]

/-- CURVE_COPY_DONE (R121). -/
def execCurveCopyDone (b : Fin 4) (s : State) : Result := s.onDev (fun d => d.running && d.on .SC_CVSTG_CLAIM b) fun d => d.claimDone b

/-- CURVE_ARM (R121). -/
def execCurveArm (w : Writer) (b : Fin 4) (s : State) : Result :=
  s.onMach anytime fun d v => writeFields d v w .SC_CVSTG b 0 [(.SC_CVSTG_ARM, 1)]

/-- TABLE_WRITE (R134). -/
def execTableWrite (w : Writer) (off : Nat) (value : Word) (s : State) : Result :=
  s.onMach anytime fun d v => writeBy d v w off value

/-- WAVEFORM_BANK_WRITE (R182). -/
def execWaveformBankWrite (w : Writer) (off : Nat) (value : Word) (s : State) : Result :=
  s.onMach anytime fun d v => writeBy d v w off value

/-- FOOTPRINT_WRITE (R225). -/
def execFootprintWrite (w : Writer) (off : Nat) (value : Word) (s : State) : Result :=
  s.onMach anytime fun d v => writeBy d v w off value

/-- CAMERA_TABLE_WRITE (R256). -/
def execCameraTableWrite (w : Writer) (off : Nat) (value : Word) (s : State) : Result :=
  s.onMach anytime fun d v => writeBy d v w off value

end Sys2Proof.Machine
end

