-- ==== Sys2Proof/Machine/Trust.lean ====
section
/-! DEFINITION. The commands of OTP, head trust and wear (R325, R326, R359 to R382). -/

namespace Sys2Proof.Machine

/-- A write of OT_PCMD with GO (R360). -/
def otpGo (d : Dev) (v : Nv) (w : Writer) (op rec : Nat) : Dev × Nv :=
  writeFields d v w .OT_PCMD 0 0 [(.OT_PCMD_OP, op), (.OT_PCMD_REC, rec), (.OT_PCMD_GO, 1)]

/-- OTP_PROGRAM_WORD (R360). -/
def execOtpProgramWord (w : Writer) (rec : Fin 16) (s : State) : Result := s.onMach anytime fun d v => otpGo d v w 0 rec

/-- OTP_LOCK_FULL (R360). -/
def execOtpLockFull (w : Writer) (rec : Fin 16) (s : State) : Result := s.onMach anytime fun d v => otpGo d v w 1 rec

/-- OTP_SEAL_AS_IS (R360). -/
def execOtpSealAsIs (w : Writer) (rec : Fin 16) (s : State) : Result := s.onMach anytime fun d v => otpGo d v w 2 rec

/-- A queued request programs its next word; a reload that waited for an ADVANCE goes on (R347, R359). -/
def programNext (d : Dev) (v : Nv) (mv : Nat) (pulses : List (BitVec 39 × BitVec 39)) : Dev × Nv :=
  let m := programWord d v mv pulses
  release (m.1.reloadGo, m.2)

/-- OTP_WORD_PROGRAMMED (R359). -/
def execOtpWordProgrammed (mv : Nat) (pulses : List (BitVec 39 × BitVec 39)) (s : State) : Result :=
  s.onMach (fun d => (d.running || d.inLoad) && !d.ot.queue.isEmpty) fun d v => programNext d v mv pulses

/-- OTP_RAW_READ (R373). -/
def execOtpRawRead (w : Writer) (word : Fin 2048) (s : State) : Result :=
  s.onMach anytime fun d v => writeFields d v w .OT_RAWSEL 0 0 [(.OT_RAWSEL_WORD, word)]

/-- ID_POLL (R367). -/
def execIdPoll (xx : Fin 32) (ack : Bool) (s : State) : Result := s.onDev (fun d => d.pollDue xx) fun d => d.poll xx ack

/-- HEAD_READ (R367). -/
def execHeadRead (xx : Fin 32) (r : HeadReply) (s : State) : Result :=
  s.onMach (fun d => d.running && d.trOn xx && d.trState xx == 1) fun d v => Sys2Proof.Machine.headRead d v xx r

/-- A write-back ends, and a reload that waits for nothing more goes on (R326, R370). -/
def wroteBack (d : Dev) (v : Nv) (xx : Nat) (wr rd : List IdTry) : Dev × Nv :=
  let m := Sys2Proof.Machine.writeBack d v xx wr rd
  (m.1.reloadStep, m.2)

/-- WRITE_BACK (R370, R380). -/
def execWriteBack (xx : Fin 32) (wr rd : List IdTry) (s : State) : Result :=
  s.onMach (fun d => d.running && d.wbWaits xx) fun d v => wroteBack d v xx wr rd

/-- WEAR_RESET (R377). -/
def execWearReset (w : Writer) (xx : Fin 32) (s : State) : Result :=
  s.onMach anytime fun d v => writeFields d v w .WR_HSTAT xx 0 [(.WR_HSTAT_RESET, 1)]

/-- TREND_SAMPLE (R381, R382). -/
def execTrendSample (o : TrendObs) (s : State) : Result := s.onMach (fun d => d.trendDue) fun d v => Sys2Proof.Machine.trendSample d v o

/-- ORDERLY_CHECKPOINT (R325). -/
def execOrderlyCheckpoint (s : State) : Result :=
  s.onDev (fun d => d.orderlyDue) fun d => ({ d with wear := { d.wear with orderlyHeld := true } }).ckptStart ckOrderly

/-- PERIODIC_CHECKPOINT (R378). -/
def execPeriodicCheckpoint (s : State) : Result :=
  s.onDev (fun d => d.periodicDue) fun d =>
    ({ d with wear := { d.wear with nextPeriodic := d.wear.nextPeriodic + sec 60 } }).ckptStart ckPeriodic

/-- A checkpoint ends; the write-backs of a reload then have 100 ms (R323, R326). -/
def ckptEnd (d : Dev) (v : Nv) (failed : List (Nat × Nat)) : Dev × Nv :=
  let m := ckptDone d v failed
  if m.1.boot.phase == .reloadWait then (({ m.1 with boot := { m.1.boot with reloadAt := m.1.now } }).reloadStep, m.2) else m

/-- CHECKPOINT_DONE (R378). -/
def execCheckpointDone (failed : List (Nat × Nat)) (s : State) : Result :=
  s.onMach (fun d => d.running && d.wear.ckpt.isSome) fun d v => ckptEnd d v failed

end Sys2Proof.Machine
end

