-- ==== Sys2Proof/Machine/Dispatch.lean ====
section
/-! DEFINITION. One arm per command: the meaning it calls, or the name under which it is rejected. -/

namespace Sys2Proof.Machine

def exec (i : Instr) (s : State) : Host.Outcome State Fault Refusal :=
  match i with
  | .registerWrite fn addr size enables value => Sys2Proof.Machine.execRegisterWrite fn addr size enables value s
  | .powerEstimateUpdate mw => Sys2Proof.Machine.execPowerEstimateUpdate mw s
  | .ethFrameReceived port dstMac f => Sys2Proof.Machine.execEthFrameReceived port dstMac f s
  | .linkUp seat speed width => Sys2Proof.Machine.execLinkUp seat speed width s
  | .linkDown seat => Sys2Proof.Machine.execLinkDown seat s
  | .linkLossTimeout seat => Sys2Proof.Machine.execLinkLossTimeout seat s
  | .functionLevelReset fn => Sys2Proof.Machine.execFunctionLevelReset fn s
  | .perstAssert => Sys2Proof.Machine.execPerstAssert s
  | .pcieConfigRequest fn write dword => Sys2Proof.Machine.execPcieConfigRequest fn write dword s
  | .cqDoorbell w fn q value => Sys2Proof.Machine.execCqDoorbell w fn q value s
  | .descriptorFetch fn feed desc => Sys2Proof.Machine.execDescriptorFetch fn feed desc s
  | .eqHeadWrite w fn q value => Sys2Proof.Machine.execEqHeadWrite w fn q value s
  | .heldEventDelivery seat => Sys2Proof.Machine.execHeldEventDelivery seat s
  | .ringEnableWrite w fn event q value => Sys2Proof.Machine.execRingEnableWrite w fn event q value s
  | .nop h => Sys2Proof.Machine.execNop h s
  | .rd32 h offs => Sys2Proof.Machine.execRd32 h offs s
  | .wr32 h pairs => Sys2Proof.Machine.execWr32 h pairs s
  | .rdblk h off len => Sys2Proof.Machine.execRdblk h off len s
  | .wrblk h off data => Sys2Proof.Machine.execWrblk h off data s
  | .commit h rec => Sys2Proof.Machine.execCommit h rec s
  | .commitArmed slot => Sys2Proof.Machine.execCommitArmed slot s
  | .prepareTimeout slot => Sys2Proof.Machine.execPrepareTimeout slot s
  | .cancel h bay => Sys2Proof.Machine.execCancel h bay s
  | .internalCommitStart b => Sys2Proof.Machine.execInternalCommitStart b s
  | .snap h bay flags target => Sys2Proof.Machine.execSnap h bay flags target s
  | .snaprd h bay buffer off len => Sys2Proof.Machine.execSnaprd h bay buffer off len s
  | .snaprel h bay buffer => Sys2Proof.Machine.execSnaprel h bay buffer s
  | .stop h bay => Sys2Proof.Machine.execStop h bay s
  | .nstopFall b lowFor => Sys2Proof.Machine.execNstopFall b lowFor s
  | .cdata h raster count offset pixels format reserved value data => Sys2Proof.Machine.execCdata h raster count offset pixels format reserved value data s
  | .cfill h raster count offset pixels format reserved value len => Sys2Proof.Machine.execCfill h raster count offset pixels format reserved value len s
  | .fflush h raster len reserved => Sys2Proof.Machine.execFflush h raster len reserved s
  | .fqDoorbell w xx value => Sys2Proof.Machine.execFqDoorbell w xx value s
  | .feedFrameResume xx => Sys2Proof.Machine.execFeedFrameResume xx s
  | .slotComplete xx raster => Sys2Proof.Machine.execSlotComplete xx raster s
  | .apertureWrite fn bar2 off => Sys2Proof.Machine.execApertureWrite fn bar2 off s
  | .bar2Read fn off len => Sys2Proof.Machine.execBar2Read fn off len s
  | .patrolScrub addr err => Sys2Proof.Machine.execPatrolScrub addr err s
  | .dqsTracking channel => Sys2Proof.Machine.execDqsTracking channel s
  | .curveHeadWrite w b head => Sys2Proof.Machine.execCurveHeadWrite w b head s
  | .curveClaim w b => Sys2Proof.Machine.execCurveClaim w b s
  | .curveCopyDone b => Sys2Proof.Machine.execCurveCopyDone b s
  | .curveArm w b => Sys2Proof.Machine.execCurveArm w b s
  | .tableWrite w off value => Sys2Proof.Machine.execTableWrite w off value s
  | .positionEdge n raw pins => Sys2Proof.Machine.execPositionEdge n raw pins s
  | .zEdge n => Sys2Proof.Machine.execZEdge n s
  | .overrateSubwindow n => Sys2Proof.Machine.execOverrateSubwindow n s
  | .ssiFrameStart n idleLow => Sys2Proof.Machine.execSsiFrameStart n idleLow s
  | .ssiWordDecoded n raw => Sys2Proof.Machine.execSsiWordDecoded n raw s
  | .speedWindowEnd n => Sys2Proof.Machine.execSpeedWindowEnd n s
  | .stallTimeout n => Sys2Proof.Machine.execStallTimeout n s
  | .preload w n => Sys2Proof.Machine.execPreload w n s
  | .move w n v => Sys2Proof.Machine.execMove w n v s
  | .interpolatedTrigger b => Sys2Proof.Machine.execInterpolatedTrigger b s
  | .generatorTrigger b => Sys2Proof.Machine.execGeneratorTrigger b s
  | .pacerRateUpdate b => Sys2Proof.Machine.execPacerRateUpdate b s
  | .delayedTriggerIssue b => Sys2Proof.Machine.execDelayedTriggerIssue b s
  | .courseBoundary b => Sys2Proof.Machine.execCourseBoundary b s
  | .compareMatch e => Sys2Proof.Machine.execCompareMatch e s
  | .comparePulseEnd e o => Sys2Proof.Machine.execComparePulseEnd e o s
  | .emulationEdge n => Sys2Proof.Machine.execEmulationEdge n s
  | .codeLoad xx => Sys2Proof.Machine.execCodeLoad xx s
  | .latch xx => Sys2Proof.Machine.execLatch xx s
  | .latchTrailingEdge xx => Sys2Proof.Machine.execLatchTrailingEdge xx s
  | .configRepeatDue xx => Sys2Proof.Machine.execConfigRepeatDue xx s
  | .headPowerRequest w xx req => Sys2Proof.Machine.execHeadPowerRequest w xx req s
  | .headSettleDone xx loopback => Sys2Proof.Machine.execHeadSettleDone xx loopback s
  | .headPowerDownTimer xx => Sys2Proof.Machine.execHeadPowerDownTimer xx s
  | .waveformBankWrite w off value => Sys2Proof.Machine.execWaveformBankWrite w off value s
  | .soundingCaptureDone xx samples => Sys2Proof.Machine.execSoundingCaptureDone xx samples s
  | .hmDeclare w b head noz => Sys2Proof.Machine.execHmDeclare w b head noz s
  | .hmClear w b head noz => Sys2Proof.Machine.execHmClear w b head noz s
  | .hmForceGood w b head noz => Sys2Proof.Machine.execHmForceGood w b head noz s
  | .agingPass xx noz => Sys2Proof.Machine.execAgingPass xx noz s
  | .footprintWrite w off value => Sys2Proof.Machine.execFootprintWrite w off value s
  | .learnStart w xx => Sys2Proof.Machine.execLearnStart w xx s
  | .frameStart cam vc sensorFn => Sys2Proof.Machine.execFrameStart cam vc sensorFn s
  | .frameEnd cam vc => Sys2Proof.Machine.execFrameEnd cam vc s
  | .rowPacket cam vc dt hdrBad wc crcOk pixels => Sys2Proof.Machine.execRowPacket cam vc dt hdrBad wc crcOk pixels s
  | .frameTimeout cam => Sys2Proof.Machine.execFrameTimeout cam s
  | .cmClock cam started => Sys2Proof.Machine.execCmClock cam started s
  | .cameraTriggerTimer cam => Sys2Proof.Machine.execCameraTriggerTimer cam s
  | .cameraTrigPulseEnd cam => Sys2Proof.Machine.execCameraTrigPulseEnd cam s
  | .i2cTransactionDone cam ack data => Sys2Proof.Machine.execI2cTransactionDone cam ack data s
  | .i2cHostTransaction w cam rd reg data => Sys2Proof.Machine.execI2cHostTransaction w cam rd reg data s
  | .tileGrant => Sys2Proof.Machine.execTileGrant s
  | .tileDone => Sys2Proof.Machine.execTileDone s
  | .statsComplete cam => Sys2Proof.Machine.execStatsComplete cam s
  | .cameraFsTimeout cam => Sys2Proof.Machine.execCameraFsTimeout cam s
  | .cameraTableWrite w off value => Sys2Proof.Machine.execCameraTableWrite w off value s
  | .ncJobGo w cam k head rungs rh => Sys2Proof.Machine.execNcJobGo w cam k head rungs rh s
  | .ncJobCancel w cam k => Sys2Proof.Machine.execNcJobCancel w cam k s
  | .inNcDone cam k => Sys2Proof.Machine.execInNcDone cam k s
  | .registrationReset w b => Sys2Proof.Machine.execRegistrationReset w b s
  | .thermalConversion c r => Sys2Proof.Machine.execThermalConversion c r s
  | .shutRelease w mask => Sys2Proof.Machine.execShutRelease w mask s
  | .faultLatch sigs => Sys2Proof.Machine.execFaultLatch sigs s
  | .degradeRequestRetry b => Sys2Proof.Machine.execDegradeRequestRetry b s
  | .fcRearm w => Sys2Proof.Machine.execFcRearm w s
  | .fcRelease w mask => Sys2Proof.Machine.execFcRelease w mask s
  | .quietExpiry k => Sys2Proof.Machine.execQuietExpiry k s
  | .selfCheckTest k unit pass => Sys2Proof.Machine.execSelfCheckTest k unit pass s
  | .lockWindowExpiry k => Sys2Proof.Machine.execLockWindowExpiry k s
  | .nerrPulseEnd => Sys2Proof.Machine.execNerrPulseEnd s
  | .nerrHoldWrite w hold => Sys2Proof.Machine.execNerrHoldWrite w hold s
  | .resetAssert ns => Sys2Proof.Machine.execResetAssert ns s
  | .resetRelease => Sys2Proof.Machine.execResetRelease s
  | .aonStable => Sys2Proof.Machine.execAonStable s
  | .otpIntegrityCheckDone arrayReads selfTest => Sys2Proof.Machine.execOtpIntegrityCheckDone arrayReads selfTest s
  | .pllLocked => Sys2Proof.Machine.execPllLocked s
  | .sramClearDone => Sys2Proof.Machine.execSramClearDone s
  | .imageHeadersRead f => Sys2Proof.Machine.execImageHeadersRead f s
  | .imageBodyRead body => Sys2Proof.Machine.execImageBodyRead body s
  | .frameStoreTrained ok0 ok1 mr8 => Sys2Proof.Machine.execFrameStoreTrained ok0 ok1 mr8 s
  | .loadComplete tallyUe => Sys2Proof.Machine.execLoadComplete tallyUe s
  | .supplyTrip rail us => Sys2Proof.Machine.execSupplyTrip rail us s
  | .aonPowerOnReset => Sys2Proof.Machine.execAonPowerOnReset s
  | .sealedStatusLine => Sys2Proof.Machine.execSealedStatusLine s
  | .imgreload h sel => Sys2Proof.Machine.execImgreload h sel s
  | .writebackAbandon => Sys2Proof.Machine.execWritebackAbandon s
  | .orderlyCheckpoint => Sys2Proof.Machine.execOrderlyCheckpoint s
  | .periodicCheckpoint => Sys2Proof.Machine.execPeriodicCheckpoint s
  | .checkpointDone failed => Sys2Proof.Machine.execCheckpointDone failed s
  | .imgstageErase h copy => Sys2Proof.Machine.execImgstageErase h copy s
  | .imgstageWrite h copy off data => Sys2Proof.Machine.execImgstageWrite h copy off data s
  | .imgstageVerify h copy => Sys2Proof.Machine.execImgstageVerify h copy s
  | .imgstageQuery h => Sys2Proof.Machine.execImgstageQuery h s
  | .imgstageAdvance h => Sys2Proof.Machine.execImgstageAdvance h s
  | .flashOperationDone ok body => Sys2Proof.Machine.execFlashOperationDone ok body s
  | .otpProgramWord w rec => Sys2Proof.Machine.execOtpProgramWord w rec s
  | .otpLockFull w rec => Sys2Proof.Machine.execOtpLockFull w rec s
  | .otpSealAsIs w rec => Sys2Proof.Machine.execOtpSealAsIs w rec s
  | .otpWordProgrammed mv pulses => Sys2Proof.Machine.execOtpWordProgrammed mv pulses s
  | .otpRawRead w word => Sys2Proof.Machine.execOtpRawRead w word s
  | .idPoll xx ack => Sys2Proof.Machine.execIdPoll xx ack s
  | .headRead xx r => Sys2Proof.Machine.execHeadRead xx r s
  | .writeBack xx wr rd => Sys2Proof.Machine.execWriteBack xx wr rd s
  | .wearReset w xx => Sys2Proof.Machine.execWearReset w xx s
  | .trendSample o => Sys2Proof.Machine.execTrendSample o s
  | .consoleStat => Sys2Proof.Machine.execConsoleStat s
  | .consoleRd a n => Sys2Proof.Machine.execConsoleRd a n s
  | .consoleWr a v => Sys2Proof.Machine.execConsoleWr a v s
  | .consoleF frame => Sys2Proof.Machine.execConsoleF frame s
  | .consoleStop bay => Sys2Proof.Machine.execConsoleStop bay s
  | .consoleService => Sys2Proof.Machine.execConsoleService s
  | .consoleRun => Sys2Proof.Machine.execConsoleRun s
  | .consolePark xx pin code => Sys2Proof.Machine.execConsolePark xx pin code s
  | .consoleId xx low => Sys2Proof.Machine.execConsoleId xx low s
  | .consoleTemp c on => Sys2Proof.Machine.execConsoleTemp c on s
  | .consoleOut p code => Sys2Proof.Machine.execConsoleOut p code s
  | .consoleShow what watch => Sys2Proof.Machine.execConsoleShow what watch s
  | .showWatchUpdate lanes => Sys2Proof.Machine.execShowWatchUpdate lanes s
  | .consolePen xx on => Sys2Proof.Machine.execConsolePen xx on s
  | .consolePlumb sel arg level => Sys2Proof.Machine.execConsolePlumb sel arg level s
  | .consoleOtpProg word data => Sys2Proof.Machine.execConsoleOtpProg word data s
  | .consoleOtpLock rec => Sys2Proof.Machine.execConsoleOtpLock rec s
  | .consoleOtpSeal rec => Sys2Proof.Machine.execConsoleOtpSeal rec s
  | .consoleReload sel => Sys2Proof.Machine.execConsoleReload sel s
  | .consoleBaud r => Sys2Proof.Machine.execConsoleBaud r s
  | .consoleTest test arg => Sys2Proof.Machine.execConsoleTest test arg s
  | .consoleLineRejected r => Sys2Proof.Machine.execConsoleLineRejected r s
  | .testAll => Sys2Proof.Machine.execTestAll s
  | .testSram bad => Sys2Proof.Machine.execTestSram bad s
  | .testPll lost => Sys2Proof.Machine.execTestPll lost s
  | .testOtp arrayReads selfTest => Sys2Proof.Machine.execTestOtp arrayReads selfTest s
  | .testTally ue => Sys2Proof.Machine.execTestTally ue s
  | .testLink bad => Sys2Proof.Machine.execTestLink bad s
  | .testSnadc short step => Sys2Proof.Machine.execTestSnadc short step s
  | .testTemp first second => Sys2Proof.Machine.execTestTemp first second s
  | .testFsmem failing => Sys2Proof.Machine.execTestFsmem failing s
  | .testCam pass crc => Sys2Proof.Machine.execTestCam pass crc s
  | .svTestDone => Sys2Proof.Machine.execSvTestDone s
  | .ptClear w => Sys2Proof.Machine.execPtClear w s
  | .ptCreditWrite w seat q feed => Sys2Proof.Machine.execPtCreditWrite w seat q feed s
  | .ptCamstall w mask us => Sys2Proof.Machine.execPtCamstall w mask us s
  | .camstallEnd cam => Sys2Proof.Machine.execCamstallEnd cam s
  | .ptForce w src unit => Sys2Proof.Machine.execPtForce w src unit s
  | .pllLockLoss => Sys2Proof.Machine.execPllLockLoss s
  | .seatFetchTimeout seat => Sys2Proof.Machine.execSeatFetchTimeout seat s
  | .pcieFatalError fn => Sys2Proof.Machine.execPcieFatalError fn s
  | .consoleByteReceived b framing => Sys2Proof.Machine.execConsoleByteReceived b framing s
  | .islandWakeComplete island => Sys2Proof.Machine.execIslandWakeComplete island s
  | .emulationPulseEnd n => Sys2Proof.Machine.execEmulationPulseEnd n s
  | .powerOnResetRelease => Sys2Proof.Machine.execPowerOnResetRelease s
  | .registerRead fn addr size enables => Sys2Proof.Machine.execRegisterRead fn addr size enables s

end Sys2Proof.Machine
end

