-- ==== Sys2Proof/WellFormed.lean ====
section
/-! DEFINITION. The commands that can reach the block: the operands that a command carries lie in the ranges that the spec gives the
thing they stand for (a 16-bit sequence number, a 12-bit code, an offset of the window of the tables the command names).
A command outside these ranges is not a command of this block; `exec` is total on it all the same. -/

namespace Sys2Proof

/-- R47: SEQ is 16 bits; R53: the length of a reply buffer is 32 bits. -/
def CmdHdr.wf (h : CmdHdr) : Bool := decide (h.seq < 65536) && decide (h.replyLen < 2 ^ 32)

/-- R47, R53, R88. -/
def FeedHdr.wf (h : FeedHdr) : Bool := decide (h.seq < 65536) && decide (h.replyLen < 2 ^ 32)

def Writer.wf : Writer → Bool
  | .mmio _ => true
  | .frame h => h.wf
  | .console => true

/-- R64: BAY and FLAGS are bytes, EXPGEN a word of 32 bits, TARGET a course of 48 bits. -/
def CommitRec.wf (r : CommitRec) : Bool :=
  decide (r.bay < 256) && decide (r.expgen < 2 ^ 32) && decide (r.target < 2 ^ 48)

/-- R44: UDP ports are 16 bits. -/
def EthFrame.wf : EthFrame → Bool
  | .arpRequest _ _ => true
  | .arpReply _ _ => true
  | .icmpEcho _ _ _ => true
  | .udp _ _ sp dp _ _ _ => decide (sp < 65536) && decide (dp < 65536)
  | .other => true

/-- R47, R53: lengths of 32 bits. -/
def Descriptor.wf (x : Descriptor) : Bool := decide (x.replyLen < 2 ^ 32) && decide (x.frame.length < 2 ^ 32)

/-- R291: the sources; an index not listed is reserved, and its signal is never asserted. -/
def sourceKnown (i : Nat) : Bool :=
  i ≤ 11 || (16 ≤ i && i ≤ 18) || (24 ≤ i && i ≤ 27) || i == 32 || i == 33 || (40 ≤ i && i ≤ 42) || (48 ≤ i && i ≤ 50)
    || (56 ≤ i && i ≤ 60)

/-- R291: the sources are 0x01 to 0x38; a unit index is a byte; R293: the stamp is a time base count of 64 bits, the course 48. -/
def FaultSig.wf (g : FaultSig) : Bool :=
  sourceKnown g.source && (g.source == 0 || g.lost.isNone) && decide (g.unit < 256) && decide (g.stamp < 2 ^ 64) && decide (g.course < 2 ^ 48)

/-- R302: the fence bits. -/
def FUnit.wf : FUnit → Bool
  | .port xx => decide (xx < 32)
  | .engine xx => decide (xx < 32)
  | .ps n => decide (n < 8)
  | .cam n => decide (n < 4)
  | .thermal c => decide (c < 74)
  | .seat s => decide (s < 4)

/-- R327, R330: the first 256 bytes of each copy. -/
def FlashHeads.wf (f : FlashHeads) : Bool := decide (f.a.length = 256) && decide (f.b.length = 256)

/-- R364: a transaction has at most two attempts; the longest data with its CRC has 26 bytes, or 208 cells. -/
def triesWf (l : List IdTry) : Bool := decide (l.length ≤ 2) && l.all fun t => decide (t.cells.length ≤ 208)

/-- The number of words of the tally store (DESIGN CHOICE, log 11). -/
def tallyWords : Nat := 131364

/-- R379: words of the tally store with what they hold. -/
def tallyWf (l : List (Nat × Nat)) : Bool := l.all fun p => decide (p.1 < tallyWords) && decide (p.2 < 2 ^ 64)

/-- R365: SERIAL and COUNT are 8 bytes, TYPE two, FMT one, MAC sixteen. -/
def HeadReply.wf (r : HeadReply) : Bool :=
  triesWf r.id && triesWf r.use && tallyWf r.failed

/-- R381: eyes are bytes. -/
def TrendObs.wf (o : TrendObs) : Bool := decide (o.ddr < 256) && decide (o.pcie < 256) && decide (o.eth < 256) && tallyWf o.failed

/-- R210, R396: 256 codes of 12 bits. -/
def samplesWf (l : List Nat) : Bool := decide (l.length = 256) && l.all fun x => decide (x < 4096)

def ShowWhat.wf : ShowWhat → Bool
  | .ps _ => true
  | .cam _ lanes => decide (lanes.length = 5)
  | .sn _ samples => samplesWf samples

/-- An aligned word of the window `[lo, hi)`. -/
def wordIn (lo hi off : Nat) : Bool := decide (off % 4 = 0) && decide (lo ≤ off) && decide (off < hi)

/-- R134: arrays, level tables, staging, ramp tables and bonds. -/
def tableOff (off : Nat) : Bool :=
  wordIn 0x1400000 0x1580400 off || wordIn 0x1600000 0x1800000 off

/-- R256: the tone, defect and mark tables. -/
def cameraTableOff (off : Nat) : Bool :=
  wordIn 0x1D00000 0x1D01000 off || wordIn 0x1D10000 0x1D11000 off || wordIn 0x1D20000 0x1D20400 off

/-- The operands of a command are in their ranges. -/
def Instr.wf : Instr → Bool
  | .registerWrite _ _ size _ v => decide (size ≤ 512) && decide (v < 2 ^ (8 * size))
  | .powerEstimateUpdate mw => decide (mw.length = 9) && mw.all fun x => decide (x < 65536)
  | .ethFrameReceived _ mac f => decide (mac < 2 ^ 48) && f.wf
  | .linkUp _ speed width => decide (speed < 8) && decide (width < 16)
  | .linkDown _ => true
  | .linkLossTimeout _ => true
  | .functionLevelReset _ => true
  | .perstAssert => true
  | .pcieConfigRequest _ _ dword => decide (dword < 1024)
  | .cqDoorbell w _ _ _ => w.wf
  | .descriptorFetch _ _ x => x.wf
  | .eqHeadWrite w _ _ _ => w.wf
  | .heldEventDelivery _ => true
  | .ringEnableWrite w _ _ _ _ => w.wf
  | .nop h => h.wf
  | .rd32 h offs => h.wf && offs.all fun o => decide (o < 2 ^ 32)
  | .wr32 h pairs => h.wf && pairs.all fun p => decide (p.1 < 2 ^ 32)
  | .rdblk h off len => h.wf && decide (off < 2 ^ 32) && decide (len < 2 ^ 32)
  | .wrblk h off _ => h.wf && decide (off < 2 ^ 32)
  | .commit h r => h.wf && r.wf
  | .commitArmed _ => true
  | .prepareTimeout _ => true
  | .cancel h bay => h.wf && decide (bay < 256)
  | .internalCommitStart _ => true
  | .snap h bay flags target => h.wf && decide (bay < 256) && decide (flags < 256) && decide (target < 2 ^ 48)
  | .snaprd h bay buffer off len =>
    h.wf && decide (bay < 256) && decide (buffer < 256) && decide (off < 2 ^ 32) && decide (len < 2 ^ 32)
  | .snaprel h bay buffer => h.wf && decide (bay < 256) && decide (buffer < 256)
  | .stop h bay => h.wf && decide (bay < 256)
  | .nstopFall _ _ => true
  | .cdata h raster count offset pixels format reserved value _ =>
    h.wf && decide (raster < 2 ^ 48) && decide (count < 65536) && decide (offset < 65536) && decide (pixels < 65536) &&
    decide (format < 256) && decide (reserved < 256) && decide (value < 65536)
  | .cfill h raster count offset pixels format reserved value len =>
    h.wf && decide (raster < 2 ^ 48) && decide (count < 65536) && decide (offset < 65536) && decide (pixels < 65536) &&
    decide (format < 256) && decide (reserved < 256) && decide (value < 65536) && decide (len < 2 ^ 32)
  | .fflush h raster len reserved => h.wf && decide (raster < 2 ^ 48) && decide (len < 2 ^ 32) && decide (reserved < 65536)
  | .fqDoorbell w _ _ => w.wf
  | .feedFrameResume _ => true
  | .slotComplete _ raster => decide (raster < 2 ^ 48)
  | .apertureWrite _ _ off => decide (off < 2 ^ 36)
  | .bar2Read _ off len => decide (off < 2 ^ 36) && decide (len ≤ 4096)
  | .patrolScrub addr _ => decide (addr < 2 ^ 36)
  | .dqsTracking _ => true
  | .curveHeadWrite w _ _ => w.wf
  | .curveClaim w _ => w.wf
  | .curveCopyDone _ => true
  | .curveArm w _ => w.wf
  | .tableWrite w off _ => w.wf && tableOff off
  | .positionEdge _ _ _ => true
  | .zEdge _ => true
  | .overrateSubwindow _ => true
  | .ssiFrameStart _ _ => true
  | .ssiWordDecoded _ raw => decide (raw < 2 ^ 32)
  | .speedWindowEnd _ => true
  | .stallTimeout _ => true
  | .preload w _ => w.wf
  | .move w _ _ => w.wf
  | .interpolatedTrigger _ => true
  | .generatorTrigger _ => true
  | .pacerRateUpdate _ => true
  | .delayedTriggerIssue _ => true
  | .courseBoundary _ => true
  | .compareMatch _ => true
  | .comparePulseEnd _ _ => true
  | .emulationEdge _ => true
  | .codeLoad _ => true
  | .latch _ => true
  | .latchTrailingEdge _ => true
  | .configRepeatDue _ => true
  | .headPowerRequest w _ _ => w.wf
  | .headSettleDone _ _ => true
  | .headPowerDownTimer _ => true
  | .waveformBankWrite w off _ => w.wf && wordIn 0x1800000 0x1A00000 off
  | .soundingCaptureDone _ samples => samplesWf samples
  | .hmDeclare w _ _ _ => w.wf
  | .hmClear w _ _ _ => w.wf
  | .hmForceGood w _ _ _ => w.wf
  | .agingPass _ _ => true
  | .footprintWrite w off _ => w.wf && wordIn 0x1A00000 0x1B00000 off
  | .learnStart w _ => w.wf
  | .frameStart _ _ fn => decide (fn < 65536)
  | .frameEnd _ _ => true
  | .rowPacket _ _ dt _ wc _ px => decide (dt < 64) && decide (wc < 65536) && px.all fun p => decide (p < 4096)
  | .frameTimeout _ => true
  | .cmClock _ _ => true
  | .cameraTriggerTimer _ => true
  | .cameraTrigPulseEnd _ => true
  | .i2cTransactionDone _ _ _ => true
  | .i2cHostTransaction w _ _ _ _ => w.wf
  | .tileGrant => true
  | .tileDone => true
  | .statsComplete _ => true
  | .cameraFsTimeout _ => true
  | .cameraTableWrite w off _ => w.wf && cameraTableOff off
  | .ncJobGo w _ _ _ _ _ => w.wf
  | .ncJobCancel w _ _ => w.wf
  | .inNcDone _ _ => true
  | .registrationReset w _ => w.wf
  | .thermalConversion _ _ => true
  | .shutRelease w _ => w.wf
  | .faultLatch sigs => sigs.all FaultSig.wf
  | .degradeRequestRetry _ => true
  | .fcRearm w => w.wf
  | .fcRelease w _ => w.wf
  | .quietExpiry _ => true
  | .selfCheckTest _ u _ => u.wf
  | .lockWindowExpiry _ => true
  | .nerrPulseEnd => true
  | .nerrHoldWrite w _ => w.wf
  | .resetAssert _ => true
  | .resetRelease => true
  | .aonStable => true
  | .otpIntegrityCheckDone _ _ => true
  | .pllLocked => true
  | .sramClearDone => true
  | .imageHeadersRead f => f.wf
  | .imageBodyRead _ => true
  | .frameStoreTrained _ _ _ => true
  | .loadComplete ue => ue.all fun i => decide (i < tallyWords)
  | .supplyTrip rail _ => decide (rail < 32)
  | .aonPowerOnReset => true
  | .sealedStatusLine => true
  | .imgreload h sel => h.wf && decide (sel < 256)
  | .writebackAbandon => true
  | .orderlyCheckpoint => true
  | .periodicCheckpoint => true
  | .checkpointDone failed => tallyWf failed
  | .imgstageErase h copy => h.wf && decide (copy < 256)
  | .imgstageWrite h copy off _ => h.wf && decide (copy < 256) && decide (off < 2 ^ 32)
  | .imgstageVerify h copy => h.wf && decide (copy < 256)
  | .imgstageQuery h => h.wf
  | .imgstageAdvance h => h.wf
  | .flashOperationDone _ _ => true
  | .otpProgramWord w _ => w.wf
  | .otpLockFull w _ => w.wf
  | .otpSealAsIs w _ => w.wf
  | .otpWordProgrammed mv pulses => decide (mv < 65536) && decide (pulses.length ≤ 65536)
  | .otpRawRead w _ => w.wf
  | .idPoll _ _ => true
  | .headRead _ r => r.wf
  | .writeBack _ wr rd => triesWf wr && triesWf rd
  | .wearReset w _ => w.wf
  | .trendSample o => o.wf
  | .consoleStat => true
  | .consoleRd a n => decide (a < 2 ^ 32) && decide (n < 2 ^ 32)
  | .consoleWr a _ => decide (a < 2 ^ 32)
  | .consoleF _ => true
  | .consoleStop _ => true
  | .consoleService => true
  | .consoleRun => true
  | .consolePark _ _ _ => true
  | .consoleId _ _ => true
  | .consoleTemp _ _ => true
  | .consoleOut p _ => decide (p < 65536)
  | .consoleShow what _ => what.wf
  | .showWatchUpdate lanes => decide (lanes.length = 5)
  | .consolePen _ _ => true
  | .consolePlumb sel _ _ => decide (sel < 65536)
  | .consoleOtpProg _ _ => true
  | .consoleOtpLock _ => true
  | .consoleOtpSeal _ => true
  | .consoleReload sel => decide (sel < 256)
  | .consoleBaud r => decide (r < 2 ^ 32)
  | .consoleTest _ _ => true
  | .consoleLineRejected _ => true
  | .testAll => true
  | .testSram bad => match bad with
    | none => true
    | some a => decide (a < 2 ^ 32)
  | .testPll _ => true
  | .testOtp _ _ => true
  | .testTally ue => decide (ue ≤ 65536)
  | .testLink _ => true
  | .testSnadc short step => decide (short < 4096) && decide (step < 4096)
  | .testTemp first second => decide (first < 65536) && decide (second < 65536)
  | .testFsmem failing => match failing with
    | none => true
    | some m => decide (m < 65536)
  | .testCam _ _ => true
  | .svTestDone => true
  | .ptClear w => w.wf
  | .ptCreditWrite w _ _ _ => w.wf
  | .ptCamstall w _ _ => w.wf
  | .camstallEnd _ => true
  | .ptForce w _ _ => w.wf
  | .pllLockLoss => true
  | .seatFetchTimeout _ => true
  | .pcieFatalError _ => true
  | .consoleByteReceived _ _ => true
  | .islandWakeComplete _ => true
  | .emulationPulseEnd _ => true
  | .powerOnResetRelease => true
  | .registerRead _ _ size _ => decide (size ≤ 4096)

end Sys2Proof
end

