-- ==== Sys2Proof/Safety.lean ====
section
/-! DEFINITION. What the claims speak of: the reads of one byte of the buffers, the canonical form of the non-volatile stores, what
programming may do to OTP, and runs. -/

namespace Sys2Proof.Machine

/-! ## One byte of the addressed buffers -/

/-- A byte of the frame store (R82). -/
def Dev.fsByte (d : Dev) (a : Nat) : Byte := Store.get d.fsDflt d.fs a

/-! ## What a report may change -/

/-- The registers that a completion or an event may write: HS_EVLOST(s), HS_ERRCNT(s) and HS_ERRLAST(s) of each seat (R55, R81). -/
def reports : List Nat :=
  [RegName.off .HS_EVLOST 0 0, RegName.off .HS_EVLOST 1 0, RegName.off .HS_EVLOST 2 0, RegName.off .HS_EVLOST 3 0,
   RegName.off .HS_ERRCNT 0 0, RegName.off .HS_ERRCNT 1 0, RegName.off .HS_ERRCNT 2 0, RegName.off .HS_ERRCNT 3 0,
   RegName.off .HS_ERRLAST 0 0, RegName.off .HS_ERRLAST 1 0, RegName.off .HS_ERRLAST 2 0, RegName.off .HS_ERRLAST 3 0]

/-- The device without its registers and without what reporting may change: the seats' queues, the MSI-X tables, what has left the
device, the error signals on their way, and what the console waits for or watches. -/
def Dev.quiet (d : Dev) : Dev :=
  { d with regs := [], seats := [], msix := [], out := [], fc := { d.fc with sigs := [] }, con := { d.con with wait := none, watch := none } }

/-- The registers outside a list of offsets, and outside those of `reports`, read in `d'` as in `d`. -/
def Dev.regsBut (offs : List Nat) (d d' : Dev) : Prop := ∀ o, o ∉ offs → o ∉ reports → d'.word o = d.word o

/-- What no event changes of a seat: all but its event queues, the entries held for them, and whether EVENTS_LOST is owed. -/
def Seat.still (x : Seat) : Seat := { x with eq := [], held := [], lost := false }

/-! ## How a command reaches its own rules -/

/-- A command frame passes R48 and R49: its seat's frames are taken, its sequence number is the expected one, and its queue, opcode and
mode are allowed. -/
def Dev.admits (d : Dev) (h : CmdHdr) (op : Nat) (gl : Bool) : Bool :=
  d.takes h && (d.sequenced h op).2 && ((d.sequenced h op).1.stops h op gl).isNone

/-- The device once the frame's sequence number has been taken. -/
def Dev.heard (d : Dev) (h : CmdHdr) (op : Nat) : Dev := (d.sequenced h op).1

/-- No frame of an Ethernet seat waits because its queue is withheld (R403). -/
abbrev Dev.noneWithheld (d : Dev) : Prop := (d.seat 2).withheld = [] ∧ (d.seat 3).withheld = []

/-- The header and opcode of the rows that are command frames (R49). -/
def frameOf : Instr → Option (CmdHdr × Nat)
  | .nop h => some (h, 0x0000)
  | .rd32 h _ => some (h, 0x0001)
  | .wr32 h _ => some (h, 0x0002)
  | .rdblk h _ _ => some (h, 0x0003)
  | .wrblk h _ _ => some (h, 0x0004)
  | .commit h _ => some (h, 0x0010)
  | .cancel h _ => some (h, 0x0011)
  | .snap h _ _ _ => some (h, 0x0012)
  | .snaprd h _ _ _ _ => some (h, 0x0013)
  | .snaprel h _ _ => some (h, 0x0014)
  | .stop h _ => some (h, 0x0020)
  | .imgreload h _ => some (h, 0x0031)
  | _ => none

/-- A write to an offset reaches the bus: the path by which it comes is open (R52, R50, R389, R401). -/
def Dev.opens (d : Dev) (w : Writer) (o : Nat) : Bool :=
  match w with
  | .mmio fn => d.running && d.mmioOpen fn.val && !inMsix o && o % 4 == 0
  | .frame h => d.admits h 0x0002 false
  | .console => d.hears && d.running && d.con.wait.isNone && !d.con.dropped && (d.inService || (ptOffset o && d.on .PT_CFG_BENCH))

/-- The device as the write finds it. -/
def Dev.atWrite (d : Dev) : Writer → Dev
  | .mmio _ => d
  | .frame h => d.heard h 0x0002
  | .console => d.endWatch

/-- Who writes. -/
def whoWrites : Writer → Src
  | .mmio fn => .seat (pcieSeat fn)
  | .frame h => h.src
  | .console => .console

/-- The answer to a write that is accepted: none on PCIe, a completion with the count 1, the line OK. -/
def Dev.acked (d : Dev) : Writer → Dev
  | .mmio _ => d
  | .frame h => d.complete h 0x0002 .ok (le 4 1)
  | .console => d.say "OK"

/-- A write of the word `x` at the offset `o` is accepted. -/
abbrev Dev.accepts (d : Dev) (v : Nv) (w : Writer) (o : Nat) (x : Word) : Prop :=
  d.opens w o = true ∧ (busWrite (d.atWrite w) v (whoWrites w) o x).2.2 = .ok

/-- What it leaves. -/
def Dev.written (d : Dev) (v : Nv) (w : Writer) (o : Nat) (x : Word) : Dev × Nv :=
  let m := busWrite (d.atWrite w) v (whoWrites w) o x
  (m.1.acked w, m.2.1)

/-- So is a write of named fields of a register instance. -/
abbrev Dev.acceptsFields (d : Dev) (v : Nv) (w : Writer) (r : RegName) (i j : Nat) (fields : List (Fld × Nat)) : Prop :=
  d.accepts v w (r.off i j) (putAll (d.keepWord r i j) fields)

/-- A write of the word `x` by the path `w` may reach a register instance, whatever the register's own rule asks: the path is open (R50,
R52, R389), SERVICE leaves writing to the console (R321), the writer may write the register (R27, R80) and its SV fields (R401), a staged
field belongs to a bay or the device (R63), and every field has a value of its range and keeps what is read-only there (R451). -/
def Dev.mayWrite (d : Dev) (w : Writer) (r : RegName) (i j : Nat) (x : Word) : Bool :=
  d.opens w (r.off i j) && (!d.inService || whoWrites w == .console) && (d.regDenied (whoWrites w) r i true).isNone &&
    ((r.rows.all fun y => y.acc != .sv) || d.svOpen (whoWrites w) r) &&
    ((r.rows.all fun y => y.acc != .st) || (d.regBay r i).isSome || r.info.owner == .dev) && !d.frozenHit r i j x && !r.outside x

/-- The word that gives named fields of a register instance their values and keeps the others. -/
abbrev Dev.fieldsWord (d : Dev) (r : RegName) (i j : Nat) (fields : List (Fld × Nat)) : Word := putAll (d.keepWord r i j) fields

/-- So may a write of named fields. -/
abbrev Dev.mayWriteFields (d : Dev) (w : Writer) (r : RegName) (i j : Nat) (fields : List (Fld × Nat)) : Prop :=
  d.mayWrite w r i j (d.fieldsWord r i j fields) = true

/-- A write to an offset of a table window may reach it: the path is open, SERVICE leaves writing to the console, and the table is one of the
writer's bay (R27, R28). -/
def Dev.mayStore (d : Dev) (w : Writer) (off : Nat) (win : Win) : Bool :=
  d.opens w off && (!d.inService || whoWrites w == .console) && (d.winDenied (whoWrites w) win true).isNone

/-- The console takes a line: LOAD has completed, no command waits for its end, no SHOW watches, and no over-long line is being discarded. -/
abbrev Dev.prompt (d : Dev) : Prop := d.running = true ∧ d.con.wait = none ∧ d.con.watch = none ∧ d.con.dropped = false

/-- A write by the console of the word `x` in a register instance is accepted. -/
abbrev Dev.conAccepts (d : Dev) (v : Nv) (r : RegName) (i : Nat) (x : Word) : Prop := (busWrite d v .console (r.off i 0) x).2.2 = .ok

/-- The only thing that has happened is that the console has answered with a line. -/
def State.answers (s : State) (text : String) : State := { s with dev := s.dev.emit (.line text) }

/-! ## OTP (R349, R355) -/

/-- Every bit of `a` that is 1 is 1 in `b`. -/
def bitsWithin {n : Nat} (a b : BitVec n) : Prop := a &&& b = a

/-- No word of the array loses a bit from one state to another, at either reference. -/
def Nv.otpGrows (v v' : Nv) : Prop :=
  ∀ w, bitsWithin (v.cell w).strict (v'.cell w).strict ∧ bitsWithin (v.cell w).lenient (v'.cell w).lenient

/-- A bit that reads 1 at the strict reference reads 1 at the lenient one. -/
def Nv.otpOrdered (v : Nv) : Prop := ∀ w, bitsWithin (v.cell w).strict (v.cell w).lenient

/-! ## The tally store (R378, R381) -/

/-- The stores of OTP, port records and trends hold their canonical form, and a trend holds at most as many samples as
WR_CFG.TREND can name. -/
def Nv.canonical (v : Nv) : Prop :=
  Store.wf otpDflt v.otp = true ∧ Store.wf (fun _ => ({} : TallyPort)) v.port = true ∧ Store.wf (fun _ => ([] : List Int)) v.trend = true ∧
  ∀ k, (v.trendOf k).length ≤ 2 ^ Fld.WR_CFG_TREND.width

/-! ## Runs -/

/-- `t` follows `s` after `k` steps that all answer a next state. -/
def Runs : Nat → State → State → Prop
  | 0, s, t => s = t
  | k + 1, s, t => ∃ u, step s = .next u ∧ Runs k u t

end Sys2Proof.Machine
end

