-- ==== Sys2Proof/Certificates/Slice0/Obligations.lean ====
section
/-! DEFINITION. The statements for the provers: what the commands of each family do, what they leave unchanged, and the invariants
that every step keeps. -/

open Sys2Proof Sys2Proof.Machine

/-- A step executes the command at the front of the queue, and every command completes. Every command answers a next state, never
a fault or a refusal, and leaves the queue of waiting commands as it is. With the command c at the front of the queue, a step is
exec of c on the state with the queue's rest; with no command waiting, only the instant moves, by one cycle of CK_POS (the model's
choice, log 1). Cites R17, R51. -/
def Obligations.StepRunsFront : Prop :=
  (∀ (i : Instr) (s : State), ∃ t, exec i s = .next t ∧ t.pending = s.pending) ∧
  (∀ (c : Instr) (rest : List Instr) (s : State), s.pending = c :: rest → step s = exec c { s with pending := rest }) ∧
  (∀ s : State, s.pending = [] → step s = .next { s with dev := { s.dev with now := s.dev.now + 1 } })

/-- The state after reset. At reset nRESET is low and the device is held in reset: no command waits, no table, frame-store or
snapshot word is listed, no seat link is up, no fault signal is on its way, and the registers read their reset column: GL_ID
0x32001001, GL_MODE 0, KS_GENDEV 0, every HP_PWR with PEN and READY 0. What survives every reset is in canonical form, and no word
of OTP reads a bit 1 at the strict reference and 0 at the lenient one. Cites R308, R2, R19, R75, R8. -/
def Obligations.ResetState : Prop :=
  State.reset.pending = [] ∧ State.reset.dev.boot.phase = .inReset ∧ State.reset.dev.boot.nReset = false ∧
  State.reset.dev.tbl = [] ∧ State.reset.dev.fs = [] ∧ State.reset.dev.snaps = [] ∧ State.reset.dev.fc.sigs = [] ∧
  State.reset.dev.tbStart = none ∧ State.reset.dev.peekReg State.reset.nv .GL_ID 0 0 = 0x32001001 ∧
  State.reset.dev.peekReg State.reset.nv .GL_MODE 0 0 = 0 ∧ State.reset.dev.reg .KS_GENDEV = 0 ∧
  (∀ k : Fin 4, (State.reset.dev.seat k).up = false) ∧
  (∀ b : Fin 4, (State.reset.dev.bay b).cc = 0 ∧ (State.reset.dev.bay b).gen = 0 ∧ (State.reset.dev.bay b).mode = .standby) ∧
  (∀ xx : Fin 32, State.reset.dev.on .HP_PWR_PEN xx = false ∧ State.reset.dev.on .HP_PWR_READY xx = false) ∧
  State.reset.nv.canonical ∧ State.reset.nv.otpOrdered

/-- GL_ID reads 0x32001001. A PCIe memory read of GL_ID by an enabled function returns 0x32001001 (part code 0x3200, stepping
0x10, compatibility level 0x01) and changes nothing else. Cites R2. -/
def Obligations.GlIdReads : Prop :=
  ∀ (fn : Fin 2) (s : State), s.dev.mmioOpen fn.val = true →
    exec (.registerRead fn 0 4 true) s = .next { s with dev := s.dev.emit (.mmioRead fn.val 0 [0x32001001]) } ∧
      wget 0x32001001 16 16 = 0x3200 ∧ wget 0x32001001 8 8 = 0x10 ∧ wget 0x32001001 0 8 = 0x01

/-- A seat link that comes up or goes down is shown in HS_LINK and reported. LINK_UP of a link that is down, once the time base
runs and the device is neither in reset nor SEALED (on Ethernet on a running device with the seat enabled and its island awake):
the seat is up and no link-loss timer runs, HS_LINK shows UP, SPEED and WIDTH, every other register, seat and unit is unchanged;
on a running device LINK_UP is then raised on E1 of the seat with HS_LINK and 0, and a GL_LOADED that waits for the link is sent.
LINK_DOWN of a link that is up: UP, SPEED, WIDTH and BOUND read 0, the bound address and port read 0, DOWNCNT counts up to its
ceiling, an Ethernet seat's link-loss timer starts, everything else is unchanged, and LINK_DOWN is raised on E1 of the steward
with the seat and DOWNCNT (SPEED, WIDTH and the bound peer at 0 while the link is down are the model's choice, log 157). Cites
R58, R81, R324. -/
def Obligations.LinkShown : Prop :=
  (∀ (k : Fin 4) (speed width : Nat) (s : State), s.dev.tbStart.isSome = true → s.dev.boot.phase ≠ .inReset → s.dev.boot.phase ≠ .isSealed →
    (s.dev.seat k).up = false → (k.val < 2 ∨ (s.dev.running = true ∧ s.dev.on .HS_CTL_EN k = true ∧ s.dev.islandOn (9 + k) = true)) →
    ∃ d : Dev, exec (.linkUp k speed width) s = .next { s with dev :=
        if s.dev.running then
          (match (s.dev.seat k).loaded with
           | some w => (d.seatEvent k 1 0x0200 (d.reg .HS_LINK k).toNat 0).sendLoaded k w
           | none => d.seatEvent k 1 0x0200 (d.reg .HS_LINK k).toNat 0)
        else d } ∧
      (d.seat k).up = true ∧ (d.seat k).perst = false ∧ (d.seat k).downAt = none ∧ (d.seat k).eq = (s.dev.seat k).eq ∧
      (d.seat k).loaded = (if s.dev.running then none else (s.dev.seat k).loaded) ∧
      d.fld .HS_LINK_UP k = 1 ∧ d.fld .HS_LINK_SPEED k = speed % 2 ^ Fld.HS_LINK_SPEED.width ∧
      d.fld .HS_LINK_WIDTH k = width % 2 ^ Fld.HS_LINK_WIDTH.width ∧ { d with regs := s.dev.regs, seats := s.dev.seats } = s.dev ∧
      (∀ j : Fin 4, j ≠ k → d.seat j = s.dev.seat j) ∧ ∀ o, o ≠ RegName.off .HS_LINK k 0 → d.word o = s.dev.word o) ∧
  (∀ (k : Fin 4) (s : State), (s.dev.seat k).up = true →
    ∃ d : Dev, exec (.linkDown k) s = .next { s with dev := d.stewardSeatEvent k 0x0201 k (d.fld .HS_LINK_DOWNCNT k) } ∧
      (d.seat k).up = false ∧ (d.seat k).downAt = (if 2 ≤ k.val then some s.dev.now else none) ∧
      d.fld .HS_LINK_UP k = 0 ∧ d.fld .HS_LINK_SPEED k = 0 ∧ d.fld .HS_LINK_WIDTH k = 0 ∧ d.fld .HS_LINK_BOUND k = 0 ∧
      d.fld .HS_LINK_DOWNCNT k = min (s.dev.fld .HS_LINK_DOWNCNT k + 1) (2 ^ Fld.HS_LINK_DOWNCNT.width - 1) ∧
      d.reg .HS_BOUNDIP k = 0 ∧ d.reg .HS_BOUNDPORT k = 0 ∧ { d with regs := s.dev.regs, seats := s.dev.seats } = s.dev ∧
      (∀ j : Fin 4, j ≠ k → d.seat j = s.dev.seat j) ∧
      ∀ o, o ∉ [RegName.off .HS_LINK k 0, RegName.off .HS_BOUNDIP k 0, RegName.off .HS_BOUNDPORT k 0] → d.word o = s.dev.word o)

/-- A lost host stops its bay and resets the queues of its seat. LINK_LOSS_TIMEOUT of an enabled seat whose timer has run out,
FUNCTION_LEVEL_RESET of a function whose link is up, and PERST_ASSERT for both functions: the seat's command and event queues are
at their initial state, its rings and the feed rings of its ports read EN 0 with their queues at the initial state, no event is
held; a lost host of an enabled seat of a running device is a stop of source 3 at the pacer of its present bay in a bay mode,
unless LINKSTOP is 0 or a stop waits already, and signals the seat-loss source; other bays' pacers, bay state, course rings,
tables, the frame store, OTP and the tally are unchanged. With nPE_PERST both functions stay in reset with their links down. Cites
R46, R291. -/
def Obligations.HostLossResets : Prop :=
  (∀ (k : Fin 4) (s : State), s.dev.lossDue k = true → ∃ t, exec (.linkLossTimeout k) s = .next t ∧ t.nv = s.nv ∧
    (t.dev.seat k).cq = [] ∧ (t.dev.seat k).eq = [] ∧ (t.dev.seat k).held = [] ∧ (t.dev.seat k).downAt = none ∧
    (∀ q : Fin 4, t.dev.on .HS_CQSIZE_EN k q = false ∧ t.dev.on .HS_EQSIZE_EN k q = false) ∧
    (∀ xx ∈ s.dev.portsOf k, t.dev.on .RI_FQSIZE_EN xx = false ∧ (t.dev.itk xx).fq = {} ∧ (t.dev.itk xx).frames = [] ∧
      (t.dev.itk xx).slots = (s.dev.itk xx).slots) ∧
    (t.dev.pc k).stop = (if s.dev.on .HS_CTL_LINKSTOP k = true ∧ s.dev.bayModes = true ∧ s.dev.present k = true ∧ (s.dev.pc k).stop = none
      then some 3 else (s.dev.pc k).stop) ∧
    (∀ b : Fin 4, b ≠ k → t.dev.pc b = s.dev.pc b) ∧
    (∃ g ∈ t.dev.fc.sigs, g.source = srcSeatLoss ∧ g.unit = k.val ∧ g.stamp = s.dev.tb) ∧
    t.dev.bays = s.dev.bays ∧ t.dev.tbl = s.dev.tbl ∧ t.dev.fs = s.dev.fs) ∧
  (∀ (fn : Fin 2) (s : State), s.dev.pcieUp fn = true → ∃ t, exec (.functionLevelReset fn) s = .next t ∧ t.nv = s.nv ∧
    (t.dev.seat fn).cq = [] ∧ (t.dev.seat fn).eq = [] ∧ (t.dev.seat fn).held = [] ∧ (t.dev.seat fn).up = true ∧
    (t.dev.seat fn).bars = [] ∧ (t.dev.seat fn).d3 = false ∧ (∀ x ∈ t.dev.msix, x.1 / 65536 ≠ fn.val) ∧
    (∀ q : Fin 4, t.dev.on .HS_CQSIZE_EN fn q = false ∧ t.dev.on .HS_EQSIZE_EN fn q = false) ∧
    (t.dev.pc fn).stop = (if s.dev.on .HS_CTL_EN fn = true ∧ s.dev.on .HS_CTL_LINKSTOP fn = true ∧ s.dev.bayModes = true ∧
      s.dev.present fn = true ∧ (s.dev.pc fn).stop = none then some 3 else (s.dev.pc fn).stop) ∧
    (s.dev.running = true → s.dev.on .HS_CTL_EN fn = true →
      ∃ g ∈ t.dev.fc.sigs, g.source = srcSeatLoss ∧ g.unit = fn.val ∧ g.stamp = s.dev.tb) ∧
    t.dev.bays = s.dev.bays ∧ t.dev.tbl = s.dev.tbl ∧ t.dev.fs = s.dev.fs) ∧
  (∀ s : State, ∃ t, exec .perstAssert s = .next t ∧ t.nv = s.nv ∧ t.dev.bays = s.dev.bays ∧ t.dev.tbl = s.dev.tbl ∧ t.dev.fs = s.dev.fs ∧
    ∀ fn : Fin 2, (t.dev.seat fn).perst = true ∧ (t.dev.seat fn).up = false ∧ (t.dev.seat fn).cq = [] ∧ (t.dev.seat fn).eq = [] ∧
      (t.dev.seat fn).held = [] ∧ (∀ x ∈ t.dev.msix, x.1 / 65536 ≠ fn.val) ∧
      ((s.dev.seat fn).up = true → t.dev.fld .HS_LINK_UP fn = 0) ∧
      (∀ q : Fin 4, t.dev.on .HS_CQSIZE_EN fn q = false ∧ t.dev.on .HS_EQSIZE_EN fn q = false) ∧
      (t.dev.pc fn).stop = (if s.dev.on .HS_CTL_EN fn = true ∧ s.dev.on .HS_CTL_LINKSTOP fn = true ∧ s.dev.bayModes = true ∧
        s.dev.present fn = true ∧ (s.dev.pc fn).stop = none then some 3 else (s.dev.pc fn).stop) ∧
      (s.dev.running = true → s.dev.on .HS_CTL_EN fn = true →
        ∃ g ∈ t.dev.fc.sigs, g.source = srcSeatLoss ∧ g.unit = fn.val ∧ g.stamp = s.dev.tb))

/-- Configuration requests, aperture accesses and failures of a PCIe function. A configuration request is answered with retry
status until LOAD has completed, and afterwards a read of dword 0 returns 0x32001E3D and a write completes, and changes nothing
but what the seat holds of its configuration. A write through an aperture stores nothing: all but what reporting changes is
unchanged, and ACCESS_REFUSED is raised with the offset. A read through BAR2 of a running function returns, with no injected error
waiting, the bytes of the frame store where the seat's rings and buffers lie and 0 elsewhere, poisoned exactly where a word it
takes cannot be corrected. SEAT_FETCH_TIMEOUT of an enabled seat and PCIE_FATAL_ERROR of a running device signal the seat-error
source with the seat as its unit and the time base as its stamp; every register and table is unchanged. A dword written whole
through BAR0 has the effect of the bus write when it is accepted; refused, it changes nothing but what reporting changes, leaves
its status in HS_ERRLAST and raises ACCESS_REFUSED; of another size, unaligned or without every byte enable it is refused with
REFUSED_ACCESS. Cites R107, R311, R52, R291, R293. -/
def Obligations.PcieAccesses : Prop :=
  (∀ (fn : Fin 2) (write : Option Word) (dword : Nat) (s : State), s.dev.pcieUp fn = true → s.dev.running = false →
    exec (.pcieConfigRequest fn write dword) s = .next { s with dev := s.dev.emit (.config fn.val true 0) }) ∧
  (∀ (fn : Fin 2) (data : Word) (dword : Nat) (s : State), s.dev.pcieUp fn = true → s.dev.running = true →
    ∃ d : Dev, exec (.pcieConfigRequest fn (some data) dword) s = .next { s with dev := d.emit (.config fn.val false 0) } ∧
      { d with seats := s.dev.seats } = s.dev ∧ (∀ j : Fin 4, j.val ≠ fn.val → d.seat j = s.dev.seat j) ∧
      { d.seat fn with bars := (s.dev.seat fn).bars, d3 := (s.dev.seat fn).d3 } = s.dev.seat fn) ∧
  (∀ (fn : Fin 2) (s : State), s.dev.pcieUp fn = true → s.dev.running = true →
    exec (.pcieConfigRequest fn none 0) s = .next { s with dev := s.dev.nextFree.emit (.config fn.val false 0x32001E3D) }) ∧
  (∀ (fn : Fin 2) (bar2 : Bool) (off : Nat) (s : State), s.dev.running = true → s.dev.mmioOpen fn.val = true →
    ∃ d : Dev, exec (.apertureWrite fn bar2 off) s = .next { s with dev := d.seatEvent fn 1 0x0203 off Status.refusedAccess.code } ∧
      d.quiet = s.dev.quiet ∧ s.dev.regsBut [] d ∧ d.fs = s.dev.fs ∧ d.fld .HS_ERRLAST_STATUS fn.val = Status.refusedAccess.code) ∧
  (∀ (fn : Fin 2) (off len : Nat) (s : State), s.dev.running = true → s.dev.mmioOpen fn.val = true → s.dev.fld .PT_ECC_COUNT = 0 → 0 < len →
    ∃ t bs bad, exec (.bar2Read fn off len) s = .next t ∧ t.nv = s.nv ∧ t.dev.out.head? = some (.bar2Read fn.val off bs bad) ∧
      bs.length = len ∧ t.dev.fs = s.dev.fs ∧ t.dev.tbl = s.dev.tbl ∧
      let base := 2 ^ 30 * s.dev.fld .RI_B2BASE_BASE fn.val + off
      let mine (a : Nat) : Bool := s.dev.fsReach (.seat (pcieSeat fn)) (a / 4 * 4) && decide (a / 4 * 4 < s.dev.cap)
      (∀ j, j < len → bs.getD j 0 = if mine (base + j) then (if s.dev.fsWordBad ((base + j) / 8) then 0xFF else s.dev.fsByte (base + j)) else 0) ∧
      (bad = true ↔ ∃ j, j < len ∧ mine (base + j) = true ∧ s.dev.fsWordBad ((base + j) / 8) = true)) ∧
  (∀ (k : Fin 2) (s : State), s.dev.running = true →
    (s.dev.on .HS_CTL_EN k = true → ∃ t, exec (.seatFetchTimeout k) s = .next t ∧ t.nv = s.nv ∧ t.pending = s.pending ∧
      t.dev.quiet = s.dev.quiet ∧ t.dev.regs = s.dev.regs ∧
      ∃ c, t.dev.fc.sigs = s.dev.fc.sigs ++ [⟨srcSeatErr, k.val, none, s.dev.tb, c, false, none⟩]) ∧
    (∃ t, exec (.pcieFatalError k) s = .next t ∧ t.nv = s.nv ∧ t.pending = s.pending ∧ t.dev.quiet = s.dev.quiet ∧ t.dev.regs = s.dev.regs ∧
      ∃ c, t.dev.fc.sigs = s.dev.fc.sigs ++ [⟨srcSeatErr, k.val, none, s.dev.tb, c, false, none⟩])) ∧
  (∀ (fn : Fin 2) (addr : Nat) (x : Word) (s : State), s.dev.accepts s.nv (.mmio fn) addr x → (s.dev.written s.nv (.mmio fn) addr x).1.noneWithheld →
    exec (.registerWrite fn addr 4 true x.toNat) s = .next { s with dev := (s.dev.written s.nv (.mmio fn) addr x).1, nv := (s.dev.written s.nv (.mmio fn) addr x).2 }) ∧
  (∀ (fn : Fin 2) (addr size value : Nat) (en : Bool) (s : State), s.dev.running = true → s.dev.mmioOpen fn.val = true → inMsix addr = false → s.dev.noneWithheld →
    (addr % 4 ≠ 0 ∨ size ≠ 4 ∨ en = false ∨ (busWrite s.dev s.nv (.seat (pcieSeat fn)) addr (BitVec.ofNat 32 value)).2.2 ≠ .ok) →
    ∃ (d : Dev) (st : Status), exec (.registerWrite fn addr size en value) s = .next { s with dev := d.seatEvent fn 1 0x0203 (refusedOff addr) st.code } ∧
      st = (if addr % 4 ≠ 0 ∨ size ≠ 4 ∨ en = false then Status.refusedAccess
        else (busWrite s.dev s.nv (.seat (pcieSeat fn)) addr (BitVec.ofNat 32 value)).2.2) ∧
      d.quiet = s.dev.quiet ∧ s.dev.regsBut [] d ∧ d.fld .HS_ERRLAST_STATUS fn.val = st.code)

/-- GL_PWR takes the nine estimates. Outside reset and SEALED, an update that is due, 10 ms after the last, leaves in GL_PWR(k).MW
the estimate of block group k, at most 65,535 mW, and in AGE 0 where it changed and the next count where it did not; the next is
due 10 ms later, and every other register and everything else is unchanged. Cites R33, R41. -/
def Obligations.PowerEstimates : Prop :=
  ∀ (mw : List Nat) (s : State), (s.dev.running = true ∨ s.dev.inLoad = true) → s.dev.boot.powerAt ≤ s.dev.now →
    ∃ t, exec (.powerEstimateUpdate mw) s = .next t ∧ t.nv = s.nv ∧ t.pending = s.pending ∧
      { t.dev with regs := s.dev.regs, boot := s.dev.boot } = s.dev ∧ t.dev.boot = { s.dev.boot with powerAt := s.dev.now + ms 10 } ∧
      (∀ k : Fin 9, t.dev.fld .GL_PWR_MW k = min 0xFFFF (mw.getD k 0) ∧
        t.dev.fld .GL_PWR_AGE k = (if s.dev.fld .GL_PWR_MW k = min 0xFFFF (mw.getD k 0)
          then min (s.dev.fld .GL_PWR_AGE k + 1) (2 ^ Fld.GL_PWR_AGE.width - 1) else 0)) ∧
      (∀ o, (∀ k : Fin 9, o ≠ RegName.off .GL_PWR k 0) → t.dev.word o = s.dev.word o)

/-- Events enter their ring or wait, and a held entry is delivered when its ring has room. An entry for an event queue of a PCIe
function whose link is up is written at the ring's tail with the next sequence number of the queue when the ring has room and no
entry for the queue is held; otherwise an event is held while the buffer has space (64 entries, 16 of them for E0), and else it is
discarded, counted in HS_EVLOST and signalled. HELD_EVENT_DELIVERY: when the endpoint is up, the oldest held entry whose event
ring has room is written so at the ring's tail, the tail and that number advance, and the entry leaves the holding buffer, the
others keeping their order; where events had been discarded EVENTS_LOST then follows on E0 with HS_EVLOST. Registers, tables and
every unit but the seat are unchanged before that. Cites R54, R55, R48, R58. -/
def Obligations.HeldEvents : Prop :=
  (∀ (d : Dev) (k : Fin 2) (q : Fin 4) (f : Frame), d.pcieUp k = true → d.eqRoom k q = true → (∀ h ∈ (d.seat k).held, h.1 ≠ q.val) →
    ((d.post k q true f).seat k).held = (d.seat k).held ∧
    (((d.post k q true f).seat k).evq q).tail = (((d.seat k).evq q).tail + 1) % 2 ^ d.fld .HS_EQSIZE_LOG2 k q ∧
    (((d.post k q true f).seat k).evq q).seq = (((d.seat k).evq q).seq + 1) % 65536 ∧
    Out.eqEntry k q ((d.seat k).evq q).tail { f with seq := ((d.seat k).evq q).seq, payload := f.payload.take 32 } ∈ (d.post k q true f).out) ∧
  (∀ (d : Dev) (k : Fin 2) (q : Fin 4) (f : Frame), (d.pcieUp k = false ∨ d.eqRoom k q = false ∨ ∃ h ∈ (d.seat k).held, h.1 = q.val) →
    ((((d.seat k).held.filter fun h => h.2.1).length < 64 ∧
        (q.val = 0 ∨ ((d.seat k).held.filter fun h => h.2.1 && h.1 != 0).length < 48)) →
      d.post k q true f = d.setSeat k { d.seat k with held := (d.seat k).held ++ [(q.val, true, f)] }) ∧
    (¬ (((d.seat k).held.filter fun h => h.2.1).length < 64 ∧
        (q.val = 0 ∨ ((d.seat k).held.filter fun h => h.2.1 && h.1 != 0).length < 48)) →
      ((d.post k q true f).seat k).held = (d.seat k).held ∧ ((d.post k q true f).seat k).lost = true ∧
      (d.post k q true f).fld .HS_EVLOST_LOST k = min (d.fld .HS_EVLOST_LOST k + 1) (2 ^ Fld.HS_EVLOST_LOST.width - 1) ∧
      ∃ g ∈ (d.post k q true f).fc.sigs, g.source = srcEvtLost ∧ g.unit = k.val)) ∧
  (∀ (k : Fin 2) (q : Nat) (e : Bool) (f : Frame) (pre r : List (Nat × Bool × Frame)) (s : State), s.dev.pcieUp k = true →
    (s.dev.seat k).held = pre ++ (q, e, f) :: r → (∀ h ∈ pre, s.dev.eqRoom k h.1 = false) → s.dev.eqRoom k q = true →
    ∃ d : Dev, exec (.heldEventDelivery k) s = .next { s with dev :=
        if (s.dev.seat k).lost then (d.seatEvent k 0 0x0202 (s.dev.fld .HS_EVLOST_LOST k) 0) else d } ∧
      d.quiet = s.dev.quiet ∧ d.regs = s.dev.regs ∧ (d.seat k).held = pre ++ r ∧ (d.seat k).lost = false ∧
      ((d.seat k).evq q).tail = (((s.dev.seat k).evq q).tail + 1) % 2 ^ s.dev.fld .HS_EQSIZE_LOG2 k q ∧
      ((d.seat k).evq q).seq = (((s.dev.seat k).evq q).seq + 1) % 65536 ∧
      Out.eqEntry k q ((s.dev.seat k).evq q).tail { f with seq := ((s.dev.seat k).evq q).seq, payload := f.payload.take 32 } ∈ d.out)

/-- Doorbells and ring sizes. A write, by PCIe, by a WR32 frame or by the console, that may reach HS_CQTAIL, HS_EQHEAD or
RI_FQTAIL with an index below 2^LOG2 sets the ring index to bits 11 to 0 of the value and changes no other register: an MMIO write
of HS_CQTAIL makes its ring ready for fetching exactly where it is enabled, no longer empty and has room for the answer, one of
RI_FQTAIL where the feed ring has a descriptor, no Q0 descriptor waits and nothing of it is held, one of HS_EQHEAD gives the event
ring the room that the entries up to it took; an index of 2^LOG2 or more is refused and changes neither ring nor registers. One
that may reach HS_CQSIZE or HS_EQSIZE, with LOG2 unchanged while the ring runs, sets EN and LOG2, and a 1-to-0 change of EN resets
the queue. OTP, the tally, the tables and the frame store are unchanged. Cites R53, R54, R81, R87. -/
def Obligations.RingWrites : Prop :=
  (∀ (w : Writer) (fn : Fin 2) (q : Fin 4) (x : Word) (s : State), s.dev.mayWrite w .HS_CQTAIL fn q x = true →
    ∃ t, exec (.cqDoorbell w fn q x) s = .next t ∧ t.nv = s.nv ∧ t.dev.quiet = s.dev.quiet ∧ s.dev.regsBut [] t.dev ∧
      (2 ^ s.dev.fld .HS_CQSIZE_LOG2 fn q ≤ wget x 0 12 → ((t.dev.seat fn).cmdq q).tail = ((s.dev.seat fn).cmdq q).tail) ∧
      (wget x 0 12 < 2 ^ s.dev.fld .HS_CQSIZE_LOG2 fn q → ((t.dev.seat fn).cmdq q).tail = wget x 0 12 ∧
        ∀ f, w = .mmio f → t.dev.ringReady fn q = (s.dev.serves fn && s.dev.on .HS_CQSIZE_EN fn q &&
          ((s.dev.seat fn).cmdq q).head % 2 ^ s.dev.fld .HS_CQSIZE_LOG2 fn q != wget x 0 12 && s.dev.eqRoom fn q && !s.dev.blocked fn q))) ∧
  (∀ (w : Writer) (fn : Fin 2) (q : Fin 4) (x : Word) (s : State), s.dev.mayWrite w .HS_EQHEAD fn q x = true →
    ∃ t, exec (.eqHeadWrite w fn q x) s = .next t ∧ t.nv = s.nv ∧ t.dev.quiet = s.dev.quiet ∧ s.dev.regsBut [] t.dev ∧
      (2 ^ s.dev.fld .HS_EQSIZE_LOG2 fn q ≤ wget x 0 12 → ((t.dev.seat fn).evq q).head = ((s.dev.seat fn).evq q).head) ∧
      (wget x 0 12 < 2 ^ s.dev.fld .HS_EQSIZE_LOG2 fn q → ((t.dev.seat fn).evq q).head = wget x 0 12 ∧
        ∀ f, w = .mmio f → t.dev.eqRoom fn q = (s.dev.on .HS_EQSIZE_EN fn q &&
          (((s.dev.seat fn).evq q).tail + 1) % 2 ^ s.dev.fld .HS_EQSIZE_LOG2 fn q != wget x 0 12))) ∧
  (∀ (w : Writer) (xx : Fin 32) (x : Word) (s : State), s.dev.mayWrite w .RI_FQTAIL xx 0 x = true →
    ∃ t, exec (.fqDoorbell w xx x) s = .next t ∧ t.nv = s.nv ∧ (t.dev.itk xx).slots = (s.dev.itk xx).slots ∧ s.dev.regsBut [] t.dev ∧
      t.dev.tbl = s.dev.tbl ∧ t.dev.fs = s.dev.fs ∧
      (2 ^ s.dev.fld .RI_FQSIZE_LOG2 xx ≤ wget x 0 12 → (t.dev.itk xx).fq = (s.dev.itk xx).fq) ∧
      (wget x 0 12 < 2 ^ s.dev.fld .RI_FQSIZE_LOG2 xx → (t.dev.itk xx).fq = { (s.dev.itk xx).fq with tail := wget x 0 12 } ∧
        ∀ f : Fin 2, w = .mmio f → t.dev.feedReady f xx = (s.dev.serves f && s.dev.portBay xx == some f.val && !s.dev.ringReady f 0 &&
          s.dev.on .RI_FQSIZE_EN xx && (s.dev.itk xx).fq.head % 2 ^ s.dev.fld .RI_FQSIZE_LOG2 xx != wget x 0 12 &&
          !s.dev.on .PT_CREDIT_FEED f && (s.dev.itk xx).frames.isEmpty))) ∧
  (∀ (w : Writer) (fn : Fin 2) (q : Fin 4) (x : Word) (s : State), s.dev.mayWrite w .HS_CQSIZE fn q x = true →
    (s.dev.on .HS_CQSIZE_EN fn q = true → wget x 0 4 = s.dev.fld .HS_CQSIZE_LOG2 fn q) →
    ∃ t, exec (.ringEnableWrite w fn false q x) s = .next t ∧ t.nv = s.nv ∧ t.dev.fld .HS_CQSIZE_EN fn q = wget x 31 1 ∧
      t.dev.fld .HS_CQSIZE_LOG2 fn q = wget x 0 4 ∧ t.dev.quiet = s.dev.quiet ∧ s.dev.regsBut [RegName.off .HS_CQSIZE fn q] t.dev ∧
      (∀ f, w = .mmio f → (t.dev.seat fn).cmdq q =
        (if s.dev.on .HS_CQSIZE_EN fn q = true ∧ wget x 31 1 = 0 then {} else (s.dev.seat fn).cmdq q))) ∧
  (∀ (w : Writer) (fn : Fin 2) (q : Fin 4) (x : Word) (s : State), s.dev.mayWrite w .HS_EQSIZE fn q x = true →
    (s.dev.on .HS_EQSIZE_EN fn q = true → wget x 0 4 = s.dev.fld .HS_EQSIZE_LOG2 fn q) →
    ∃ t, exec (.ringEnableWrite w fn true q x) s = .next t ∧ t.nv = s.nv ∧ t.dev.fld .HS_EQSIZE_EN fn q = wget x 31 1 ∧
      t.dev.fld .HS_EQSIZE_LOG2 fn q = wget x 0 4 ∧ t.dev.quiet = s.dev.quiet ∧ s.dev.regsBut [RegName.off .HS_EQSIZE fn q] t.dev ∧
      (∀ f, w = .mmio f → (t.dev.seat fn).evq q =
        (if s.dev.on .HS_EQSIZE_EN fn q = true ∧ wget x 31 1 = 0 then {} else (s.dev.seat fn).evq q)))

/-- A table write stores its word and nothing else, or is refused. TABLE_WRITE, WAVEFORM_BANK_WRITE, FOOTPRINT_WRITE and
CAMERA_TABLE_WRITE that may reach their table, by whichever path. Where the table's own rule lets it through (R121, R134, R182,
R225, R256): in a window other than curve staging, every byte of the tables reads as before but the four of the word, which read
as the written word within the bits its table holds; in the staging window the staged bytes do; a write of the level tables clears
the port's diffusion buffers. The frame store, the registers but the counts of cleared diffusion buffers and the reports, OTP and
the tally are unchanged. Where the rule refuses it, nothing changes but what reporting changes. Cites R134, R133, R126, R181,
R182, R225, R256, R446. -/
def Obligations.TableWrites : Prop :=
  ∀ (w : Writer) (off : Nat) (x : Word) (s : State) (win : Win) (k : Nat), winAt off = some (win, k) → s.dev.mayStore w off win = true →
    off % 4 = 0 →
    ∀ i ∈ [Instr.tableWrite w off x, .waveformBankWrite w off x, .footprintWrite w off x, .cameraTableWrite w off x],
    ∃ t, exec i s = .next t ∧ t.nv = s.nv ∧ t.dev.fs = s.dev.fs ∧
      (s.dev.winRefuses (whoWrites w) win k x ≠ none → t.dev.quiet = s.dev.quiet ∧ s.dev.regsBut [] t.dev) ∧
      (s.dev.winRefuses (whoWrites w) win k x = none →
        s.dev.regsBut ((List.range 32).map fun xx => Fld.SC_CNT_EDCLR.reg.off xx 0) t.dev ∧
        (∀ a, (win.mask k = 0 ∨ a < off ∨ off + 4 ≤ a ∨ ∃ b, win = .staging b) →
          Store.get tblByte t.dev.tbl a = Store.get tblByte s.dev.tbl a) ∧
        (win.mask k ≠ 0 → (∀ b, win ≠ .staging b) → ∀ j : Fin 4,
          Store.get tblByte t.dev.tbl (off + j) = BitVec.ofNat 8 ((x &&& win.mask k).toNat / 2 ^ (8 * j.val))) ∧
        (win.mask k ≠ 0 → ∀ b, win = .staging b → ∀ j : Fin 4,
          t.dev.stagingByte b (k + j) = BitVec.ofNat 8 ((x &&& win.mask k).toNat / 2 ^ (8 * j.val))) ∧
        (win.mask k ≠ 0 → ∀ xx : Fin 32, (win = .lut xx ∨ win = .lv xx) → (t.dev.engine xx).cur = [] ∧ (t.dev.engine xx).tent = none))

/-- The curve staging bank is headed, claimed, copied and armed. A write of SC_CVSTG that may reach it, of a head of the bay, with
ARM and PEND 0: of HEAD leaves HEAD at the head written and, where it changes HEAD, VALID at 0; of CLAIM, CLAIM at 1; of ARM,
while VALID is 1 and no claim runs, ARM at 1. One that would change HEAD while ARM or PEND is 1 is refused and leaves the
register. The end of a claim copy leaves the staging bank with the active curves of the head, VALID 1 and CLAIM 0, and changes
nothing else. OTP, the tally, the tables and, but for the copy, the staging banks are unchanged. Cites R121. -/
def Obligations.CurveStaging : Prop :=
  (∀ (w : Writer) (b : Fin 4) (head : Fin 32) (s : State), s.dev.mayWriteFields w .SC_CVSTG b 0 [(.SC_CVSTG_HEAD, head.val)] →
    s.dev.portBay head = some b.val →
    ∃ t, exec (.curveHeadWrite w b head) s = .next t ∧ t.nv = s.nv ∧ t.dev.tbl = s.dev.tbl ∧ t.dev.cvBank = s.dev.cvBank ∧
      (s.dev.on .SC_CVSTG_ARM b = false → s.dev.on .SC_CVSTG_PEND b = false → t.dev.fld .SC_CVSTG_HEAD b = head.val ∧
        t.dev.on .SC_CVSTG_VALID b = (s.dev.on .SC_CVSTG_VALID b && s.dev.fld .SC_CVSTG_HEAD b == head.val) ∧
        s.dev.regsBut [RegName.off .SC_CVSTG b 0] t.dev) ∧
      ((s.dev.on .SC_CVSTG_ARM b = true ∨ s.dev.on .SC_CVSTG_PEND b = true) → s.dev.fld .SC_CVSTG_HEAD b ≠ head.val →
        s.dev.regsBut [] t.dev)) ∧
  (∀ (w : Writer) (b : Fin 4) (s : State), s.dev.mayWriteFields w .SC_CVSTG b 0 [(.SC_CVSTG_CLAIM, 1)] →
    s.dev.portBay (s.dev.fld .SC_CVSTG_HEAD b) = some b.val → s.dev.on .SC_CVSTG_ARM b = false → s.dev.on .SC_CVSTG_PEND b = false →
    ∃ t, exec (.curveClaim w b) s = .next t ∧ t.nv = s.nv ∧ t.dev.on .SC_CVSTG_CLAIM b = true ∧
      t.dev.fld .SC_CVSTG_HEAD b = s.dev.fld .SC_CVSTG_HEAD b ∧ t.dev.tbl = s.dev.tbl ∧ t.dev.cvBank = s.dev.cvBank ∧
      s.dev.regsBut [RegName.off .SC_CVSTG b 0] t.dev) ∧
  (∀ (w : Writer) (b : Fin 4) (s : State), s.dev.mayWriteFields w .SC_CVSTG b 0 [(.SC_CVSTG_ARM, 1)] →
    s.dev.portBay (s.dev.fld .SC_CVSTG_HEAD b) = some b.val → s.dev.on .SC_CVSTG_VALID b = true → s.dev.on .SC_CVSTG_CLAIM b = false →
    ∃ t, exec (.curveArm w b) s = .next t ∧ t.nv = s.nv ∧ t.dev.on .SC_CVSTG_ARM b = true ∧ t.dev.on .SC_CVSTG_VALID b = true ∧
      t.dev.fld .SC_CVSTG_HEAD b = s.dev.fld .SC_CVSTG_HEAD b ∧ t.dev.tbl = s.dev.tbl ∧ t.dev.cvBank = s.dev.cvBank ∧
      s.dev.regsBut [RegName.off .SC_CVSTG b 0] t.dev) ∧
  (∀ (b : Fin 4) (s : State), s.dev.running = true → s.dev.on .SC_CVSTG_CLAIM b = true →
    ∃ t, exec (.curveCopyDone b) s = .next t ∧ t.nv = s.nv ∧
      t.dev.bank b = some (s.dev.engine (s.dev.fld .SC_CVSTG_HEAD b)).curves ∧
      t.dev.on .SC_CVSTG_VALID b = true ∧ t.dev.on .SC_CVSTG_CLAIM b = false ∧
      { t.dev with regs := s.dev.regs, cvBank := s.dev.cvBank } = s.dev ∧
      ∀ o, o ≠ RegName.off .SC_CVSTG b 0 → t.dev.word o = s.dev.word o)

/-- PRELOAD and MOVE. A write of PS_CMD that may reach it. MOVE takes the value written, and where that makes the stall watch run
it runs from now. PRELOAD loads PS_PREVAL into the counter, held between LIMLO and LIMHI unless WRAP is 1, with no increment in
the same cycle, and leaves MOVE as it was; a fenced channel keeps its counter. Neither changes OTP, the tally, a table, a course
counter or a pacer. Cites R152, R155, R156. -/
def Obligations.PositionWrites : Prop :=
  (∀ (w : Writer) (n : Fin 8) (v : Bool) (s : State), s.dev.mayWriteFields w .PS_CMD n 0 [(.PS_CMD_MOVE, bit v)] →
    ∃ t, exec (.move w n v) s = .next t ∧ t.nv = s.nv ∧ t.dev.on .PS_CMD_MOVE n = v ∧ t.dev.bays = s.dev.bays ∧ (∀ b : Fin 4, t.dev.pc b = s.dev.pc b) ∧
      t.dev.tbl = s.dev.tbl ∧ s.dev.regsBut [RegName.off .PS_CMD n 0] t.dev ∧
      (t.dev.stallWatched n = true → s.dev.stallWatched n = false →
        (t.dev.psc n).stallFrom = s.dev.tb ∧ (t.dev.psc n).stalled = false) ∧
      (t.dev.stallWatched n = false ∨ s.dev.stallWatched n = true → t.dev.psc n = s.dev.psc n)) ∧
  (∀ (w : Writer) (n : Fin 8) (s : State), s.dev.mayWriteFields w .PS_CMD n 0 [(.PS_CMD_PRELOAD, 1)] →
    ((s.dev.psc n).cyc.1 ≠ s.dev.tb ∨ (s.dev.psc n).cyc.2 = 0) →
    ∃ t, exec (.preload w n) s = .next t ∧ t.nv = s.nv ∧ t.dev.bays = s.dev.bays ∧ (∀ b : Fin 4, t.dev.pc b = s.dev.pc b) ∧ t.dev.tbl = s.dev.tbl ∧
      t.dev.fld .PS_POS_COUNT n = (if s.dev.psFenced n then s.dev.fld .PS_POS_COUNT n
        else enc 32 (if s.dev.on .PS_CFG_WRAP n then s.dev.sfld .PS_PREVAL_VAL n
          else clampInt (s.dev.sfld .PS_LIMLO_LIM n) (s.dev.sfld .PS_LIMHI_LIM n) (s.dev.sfld .PS_PREVAL_VAL n))) ∧
      t.dev.fld .PS_CMD_MOVE n = s.dev.fld .PS_CMD_MOVE n ∧
      s.dev.regsBut [RegName.off .PS_CMD n 0, RegName.off .PS_POS n 0, RegName.off .PS_STAT n 0] t.dev)

/-- Head power requests and learning. A write of HP_PWR.REQ that may reach it leaves REQ at the value written. With REQ 1, where
the head's bay is present and in STANDBY, the port neither shut, refused, gone nor being read, and unpowered with no power-down
under way, PEN rises and the settle time of TPON starts; where the port is shut or refused, an unpowered one stays so. With REQ 0
a powered head of a present bay in STANDBY starts the power-down of R196, 10 µs from its first step. A write of SN_LEARN.START
that may reach it, in CALIBRATE while no learning runs, leaves BUSY at 1 with learning at nozzle 0. OTP, the tally and the tables
are unchanged. Cites R196, R226. -/
def Obligations.HeadRequests : Prop :=
  (∀ (w : Writer) (xx : Fin 32) (req : Bool) (b : Fin 4) (s : State), s.dev.mayWriteFields w .HP_PWR xx 0 [(.HP_PWR_REQ, bit req)] →
    s.dev.bayModes = true → s.dev.boot.phase = .running → s.dev.portBay xx = some b.val → s.dev.present b = true → (s.dev.bay b).mode = .standby →
    ∃ t, exec (.headPowerRequest w xx req) s = .next t ∧ t.nv = s.nv ∧ t.dev.on .HP_PWR_REQ xx = req ∧ t.dev.bays = s.dev.bays ∧ t.dev.tbl = s.dev.tbl ∧
      (req = true → s.dev.on .HP_PWR_PEN xx = false → (s.dev.hp xx).downAt = none →
        (s.dev.on .HP_STAT_SHUT xx = false → s.dev.on .HP_PWR_REFUSED xx = false → s.dev.fld .TR_STAT_STATE xx ≠ 7 →
          s.dev.fld .TR_STAT_STATE xx ≠ 1 → t.dev.on .HP_PWR_PEN xx = true ∧ (t.dev.hp xx).penAt = some s.dev.now ∧
          ∃ e, (t.dev.hp xx).settleAt = some e ∧ s.dev.now + s.dev.fld .HP_PWR_TPON xx * us 10 ≤ e) ∧
        (s.dev.on .HP_STAT_SHUT xx = true ∨ s.dev.on .HP_PWR_REFUSED xx = true → t.dev.on .HP_PWR_PEN xx = false)) ∧
      (req = false → s.dev.on .HP_PWR_PEN xx = true → (s.dev.hp xx).downAt = none →
        (t.dev.hp xx).downAt = some (1, s.dev.now + us 10, 0) ∧ (t.dev.hp xx).jobs = [])) ∧
  (∀ (w : Writer) (xx : Fin 32) (b : Fin 4) (s : State), s.dev.mayWriteFields w .SN_LEARN xx 0 [(.SN_LEARN_START, 1)] →
    s.dev.bayModes = true → s.dev.portBay xx = some b.val → (s.dev.bay b).mode = .calibrate → s.dev.on .SN_LEARN_BUSY xx = false →
    ∃ t, exec (.learnStart w xx) s = .next t ∧ t.nv = s.nv ∧ t.dev.on .SN_LEARN_BUSY xx = true ∧
      (t.dev.sn xx).learn = some ⟨0, [], false, 0, 0⟩ ∧ t.dev.tbl = s.dev.tbl ∧ s.dev.regsBut [RegName.off .SN_LEARN xx 0] t.dev)

/-- HM_DECL declares, clears and forces a nozzle. A write of HM_DECL with GO that may reach it, of a nozzle of a head of the bay,
leaves the nozzle's entry of the health map in state DECLARED with ACT 0, UNKNOWN with ACT 1 and SOUND with ACT 2, with CONF 3, 0
and 3 and the entry's age kept, the nozzle in the suspect list with ACT 1 while that has space and in no list otherwise, and every
other byte of every table as it was. OTP and the tally are unchanged. Cites R216, R213, R217. -/
def Obligations.HostDeclarations : Prop :=
  ∀ (w : Writer) (b : Fin 4) (head : Fin 32) (noz : Fin 8192) (s : State) (act : Nat) (i : Instr) (state conf : Nat),
    (act, i, state, conf) ∈ [(0, Instr.hmDeclare w b head noz, stDeclared, 3), (1, .hmClear w b head noz, stUnknown, 0),
      (2, .hmForceGood w b head noz, stSound, 3)] →
    s.dev.mayWriteFields w .HM_DECL b 0
      [(.HM_DECL_HEAD, head.val), (.HM_DECL_NOZ, noz.val), (.HM_DECL_ACT, act), (.HM_DECL_GO, 1)] →
    s.dev.portBay head = some b.val → noz.val < s.dev.fld .HP_PROF_NOZZLES head → noz.val < 4096 →
    ∃ t, exec i s = .next t ∧ t.nv = s.nv ∧ t.dev.hmState head noz = state ∧ t.dev.hmConf head noz = conf ∧
      t.dev.hmAge head noz = s.dev.hmAge head noz ∧ t.dev.fs = s.dev.fs ∧
      (act = 1 → noz.val ∈ (t.dev.sn head).suspects ∨ 16 ≤ (s.dev.sn head).suspects.length) ∧
      (act ≠ 1 → noz.val ∉ (t.dev.sn head).suspects) ∧
      ∀ a, a ≠ mapAt head + noz → Store.get tblByte t.dev.tbl a = Store.get tblByte s.dev.tbl a

/-- Camera I²C, nozzle-check and registration commands. Writes that may reach their register: CM_I2CCMD.GO while no host
transaction is pending leaves BUSY 1 with the register, data and direction written, and on an idle master with no sequence running
the transaction starts, and behind one it waits; IN_NCCFG.GO on a job that neither is armed nor runs, with HEAD a head of the
camera's bay, S from 1 to 63 and RH at least 1 within the frame's rows, leaves it ARMED with HEAD, S and RH as written, no reason
and nothing missing; IN_NCCFG.CANCEL on a job that is armed or runs ends it CANCELLED with REASON 4 and raises IN_NC_DONE;
IN_RCTL.RESET on a bay with heads, while none is under way, leaves a registration commit waiting in the bay's internal slot. OTP,
the tally and the tables are unchanged. Cites R240, R259, R260, R262, R264. -/
def Obligations.CameraRequests : Prop :=
  (∀ (w : Writer) (cam : Fin 4) (rd : Bool) (reg : Fin 65536) (data : Fin 256) (s : State),
    s.dev.mayWriteFields w .CM_I2CCMD cam 0
      [(.CM_I2CCMD_REG, reg.val), (.CM_I2CCMD_DATA, data.val), (.CM_I2CCMD_RD, bit rd), (.CM_I2CCMD_GO, 1)] →
    s.dev.on .CM_I2CCMD_BUSY cam = false →
    ∃ t, exec (.i2cHostTransaction w cam rd reg data) s = .next t ∧ t.nv = s.nv ∧ t.dev.on .CM_I2CCMD_BUSY cam = true ∧
      t.dev.fld .CM_I2CCMD_REG cam = reg.val ∧ t.dev.fld .CM_I2CCMD_DATA cam = data.val ∧ t.dev.on .CM_I2CCMD_RD cam = rd ∧
      ((s.dev.cam cam).txn = none → (s.dev.cam cam).seqRun = false →
        (t.dev.cam cam).txn = some ⟨true, rd, reg.val, 1, data.val⟩ ∧ (t.dev.cam cam).hostWaits = false) ∧
      ((s.dev.cam cam).txn.isSome = true → (t.dev.cam cam).txn = (s.dev.cam cam).txn ∧ (t.dev.cam cam).hostWaits = true) ∧
      t.dev.tbl = s.dev.tbl ∧ s.dev.regsBut [RegName.off .CM_I2CCMD cam 0] t.dev) ∧
  (∀ (w : Writer) (cam : Fin 4) (k : Fin 2) (b : Fin 4) (head : Fin 32) (rungs : Fin 64) (rh : Fin 256) (s : State),
    s.dev.mayWriteFields w .IN_NCCFG cam k
      [(.IN_NCCFG_HEAD, head.val), (.IN_NCCFG_S, rungs.val), (.IN_NCCFG_RH, rh.val), (.IN_NCCFG_GO, 1)] →
    s.dev.fld .IN_NCRES_STATE cam k ≠ 1 → s.dev.fld .IN_NCRES_STATE cam k ≠ 2 → s.dev.camBay cam = some b.val → s.dev.portBay head = some b.val →
    1 ≤ rungs.val → 1 ≤ rh.val → s.dev.fld .IN_NCROW_ROW0 cam k + rungs.val * rh.val ≤ s.dev.fld .CM_GEOM_ROWS cam →
    ∃ t, exec (.ncJobGo w cam k head rungs rh) s = .next t ∧ t.nv = s.nv ∧ t.dev.fld .IN_NCRES_STATE cam k = 1 ∧
      t.dev.fld .IN_NCRES_REASON cam k = 0 ∧ t.dev.fld .IN_NCRES_MISSING cam k = 0 ∧ t.dev.fld .IN_NCCFG_HEAD cam k = head.val ∧
      t.dev.fld .IN_NCCFG_S cam k = rungs.val ∧ t.dev.fld .IN_NCCFG_RH cam k = rh.val ∧ t.dev.tbl = s.dev.tbl ∧
      s.dev.regsBut [RegName.off .IN_NCCFG cam k, RegName.off .IN_NCRES cam k] t.dev) ∧
  (∀ (w : Writer) (cam : Fin 4) (k : Fin 2) (s : State), s.dev.mayWriteFields w .IN_NCCFG cam k [(.IN_NCCFG_CANCEL, 1)] →
    (s.dev.fld .IN_NCRES_STATE cam k = 1 ∨ s.dev.fld .IN_NCRES_STATE cam k = 2) →
    ∃ t, exec (.ncJobCancel w cam k) s = .next t ∧ t.nv = s.nv ∧ t.dev.fld .IN_NCRES_STATE cam k = 3 ∧
      t.dev.fld .IN_NCRES_REASON cam k = 4 ∧ t.dev.fld .IN_NCRES_MISSING cam k = 0 ∧ t.dev.tbl = s.dev.tbl ∧
      s.dev.regsBut [RegName.off .IN_NCCFG cam k, RegName.off .IN_NCRES cam k] t.dev ∧
      (∀ f, w = .mmio f → ∃ d : Dev, t.dev = d.camEvent cam 1 0x1000 k (d.reg .IN_NCRES cam k).toNat)) ∧
  (∀ (w : Writer) (b : Fin 4) (s : State), s.dev.mayWriteFields w .IN_RCTL b 0 [(.IN_RCTL_RESET, 1)] → s.dev.portsOf b ≠ [] →
    s.dev.regResets b = false →
    ∃ t, exec (.registrationReset w b) s = .next t ∧ t.nv = s.nv ∧ t.dev.tbl = s.dev.tbl ∧
      (∃ r ∈ (t.dev.kset b).waiting, r.src = .registration ∧
        ∀ xx ∈ s.dev.portsOf b, mkStaged .SC_RSHIFT_RSHIFT xx 0 0 ∈ r.fields ∧ mkStaged .IN_RPH_RPH xx 0 0 ∈ r.fields) ∧
      s.dev.regsBut [RegName.off .IN_RCTL b 0] t.dev)

/-- SHUT release, REARM, RELEASE and HOLD. Writes that may reach their register: TM_SHUTST, of bits of ports that no SHUT level
still holds, clears those bits and ends the shut of their ports, and with a bit of a port that one still holds changes nothing but
what reporting changes; FC_CMD.REARM clears FC_FIRST.VALID and OVF; FC_CMD.RELEASE puts every record named that is HALTED or
LOCKED into QUIET with a quiet timer started now, and leaves the word of every other record, and of one record alone raises
FC_RELEASED with the state it left; FC_NERR.HOLD takes the value written, and nERR is low while it is 1 or a pulse runs. OTP, the
tally and the tables are unchanged. Cites R286, R293, R301, R303. -/
def Obligations.FaultWrites : Prop :=
  (∀ (w : Writer) (mask : Word) (s : State), s.dev.mayWrite w .TM_SHUTST 0 0 mask = true →
    ∃ t, exec (.shutRelease w mask) s = .next t ∧ t.nv = s.nv ∧ t.dev.tbl = s.dev.tbl ∧ t.dev.fs = s.dev.fs ∧
      ((∀ xx : Fin 32, wbit mask xx = true → s.dev.shutHeld xx = false) → ∀ xx : Fin 32, wbit mask xx = true →
        t.dev.fbit .TM_SHUTST_SHUT 0 0 xx = false ∧ t.dev.on .HP_STAT_SHUT xx = false) ∧
      ((∃ xx : Fin 32, wbit mask xx = true ∧ s.dev.shutHeld xx = true) → t.dev.quiet = s.dev.quiet ∧ s.dev.regsBut [] t.dev)) ∧
  (∀ (w : Writer) (s : State), s.dev.mayWriteFields w .FC_CMD 0 0 [(.FC_CMD_REARM, 1)] →
    ∃ t, exec (.fcRearm w) s = .next t ∧ t.nv = s.nv ∧ t.dev.on .FC_FIRST_VALID = false ∧ t.dev.on .FC_FIRST_OVF = false ∧
      s.dev.regsBut [RegName.off .FC_CMD 0 0, RegName.off .FC_FIRST 0 0] t.dev ∧ t.dev.tbl = s.dev.tbl) ∧
  (∀ (w : Writer) (mask : Fin 32) (s : State), s.dev.mayWriteFields w .FC_CMD 0 0 [(.FC_CMD_RELEASE, mask.val)] →
    ∃ t, exec (.fcRelease w mask) s = .next t ∧ t.nv = s.nv ∧ t.dev.tbl = s.dev.tbl ∧
      (∀ k : Fin 5, (mask.val / 2 ^ k.val % 2 = 1 → 2 ≤ s.dev.fld .FC_REC_STATE k → t.dev.fld .FC_REC_STATE k = 1 ∧
          Store.get (fun _ => none) t.dev.fc.quietAt k = some s.dev.now) ∧
        (mask.val / 2 ^ k.val % 2 = 0 ∨ s.dev.fld .FC_REC_STATE k ≤ 1 → t.dev.reg .FC_REC k = s.dev.reg .FC_REC k)) ∧
      (∀ (k : Fin 5) (f : Fin 2), mask.val = 2 ^ k.val → 2 ≤ s.dev.fld .FC_REC_STATE k → w = .mmio f →
        ∃ d : Dev, t.dev = d.recEvent k 0x1203 0xFF (s.dev.fld .FC_REC_STATE k) k ∧ d.fld .FC_REC_STATE k = 1)) ∧
  (∀ (w : Writer) (hold : Bool) (s : State), s.dev.mayWriteFields w .FC_NERR 0 0 [(.FC_NERR_HOLD, bit hold)] →
    ∃ t, exec (.nerrHoldWrite w hold) s = .next t ∧ t.nv = s.nv ∧ t.dev.on .FC_NERR_HOLD = hold ∧ t.dev.tbl = s.dev.tbl ∧
      t.dev.nerrLow = (hold || s.dev.on .FC_NERR_PULSE) ∧ s.dev.regsBut [RegName.off .FC_NERR 0 0] t.dev)

/-- OTP programming requests and raw reads. Writes of OT_PCMD with GO that may reach it, in SERVICE while no console request is
queued, of the next record: PROGRAM of a blank word of the record's data words with data joins the queue with that word; LOCK_FULL
of a complete record, and SEAL_AS_IS, join it with the next XFER word and the record's lock word, unless all 16 are used. One that
fails a check queues nothing and shows the result of its first failing check. No word of OTP changes before it is programmed. A
write of OT_RAWSEL that may reach it reads the word at both references, with the errors that PT_ECC injects. Cites R359, R360,
R373, R406. -/
def Obligations.OtpRequests : Prop :=
  (∀ (w : Writer) (rec : Fin 16) (s : State),
    s.dev.mayWriteFields w .OT_PCMD 0 0 [(.OT_PCMD_OP, 0), (.OT_PCMD_REC, rec.val), (.OT_PCMD_GO, 1)] → s.dev.inService = true →
    (s.dev.ot.queue.any fun q => q.src == 0) = false → rec.val = s.dev.nextRec →
    ∃ t, exec (.otpProgramWord w rec) s = .next t ∧ t.nv = s.nv ∧ t.dev.tbl = s.dev.tbl ∧
      (recAt rec ≤ s.dev.fld .OT_PADDR_WORD → s.dev.fld .OT_PADDR_WORD ≤ recAt rec + 0x11 →
        s.nv.programmed (s.dev.fld .OT_PADDR_WORD) = false → otpStored (s.dev.fld .OT_PADDR_WORD) (s.dev.reg .OT_PDATA) ≠ 0 →
        t.dev.ot.queue = s.dev.ot.queue ++
          [⟨0, [(s.dev.fld .OT_PADDR_WORD, otpStored (s.dev.fld .OT_PADDR_WORD) (s.dev.reg .OT_PDATA))], none⟩]) ∧
      (s.dev.fld .OT_PADDR_WORD < recAt rec ∨ recAt rec + 0x11 < s.dev.fld .OT_PADDR_WORD →
        t.dev.ot.queue = s.dev.ot.queue ∧ t.dev.fld .OT_PRES_RESULT = otRegion) ∧
      (recAt rec ≤ s.dev.fld .OT_PADDR_WORD → s.dev.fld .OT_PADDR_WORD ≤ recAt rec + 0x11 →
        s.nv.programmed (s.dev.fld .OT_PADDR_WORD) = true → t.dev.ot.queue = s.dev.ot.queue ∧ t.dev.fld .OT_PRES_RESULT = otNotBlank)) ∧
  (∀ (w : Writer) (rec : Fin 16) (op : Nat) (i : Instr) (lock : Word) (s : State),
    (op, i, lock) ∈ [(1, Instr.otpLockFull w rec, (0x5EA10001 : Word)), (2, .otpSealAsIs w rec, 0x5EA10002)] →
    s.dev.mayWriteFields w .OT_PCMD 0 0 [(.OT_PCMD_OP, op), (.OT_PCMD_REC, rec.val), (.OT_PCMD_GO, 1)] → s.dev.inService = true →
    (s.dev.ot.queue.any fun q => q.src == 0) = false → rec.val = s.dev.nextRec →
    ∃ t, exec i s = .next t ∧ t.nv = s.nv ∧ t.dev.tbl = s.dev.tbl ∧
      ((op = 2 ∨ (otpItems.all fun i => s.dev.complete0 (recAt rec + i.1) i.2) = true) → s.nv.xfer ≠ 16 →
        t.dev.ot.queue = s.dev.ot.queue ++ [⟨0, [(0x300 + s.nv.xfer, 0xFFFFFFFF), (recAt rec + 0x1F, lock)], none⟩]) ∧
      (op = 1 → (otpItems.all fun i => s.dev.complete0 (recAt rec + i.1) i.2) = false →
        t.dev.ot.queue = s.dev.ot.queue ∧ t.dev.fld .OT_PRES_RESULT = otIncomplete)) ∧
  (∀ (w : Writer) (word : Fin 2048) (s : State), s.dev.mayWriteFields w .OT_RAWSEL 0 0 [(.OT_RAWSEL_WORD, word.val)] →
    ∃ t, exec (.otpRawRead w word) s = .next t ∧ t.nv = s.nv ∧ t.dev.tbl = s.dev.tbl ∧
      let n := if s.dev.fld .PT_ECC_TARGET = 2 then min 2 (s.dev.fld .PT_ECC_COUNT) else 0
      let flip (k c : Nat) : Nat := if k ≤ n then Nat.xor c (if s.dev.on .PT_ECC_TWO then 40 else 8) else c
      t.dev.fld .OT_RAWS_DATA = (otpData (flip 1 (s.nv.cell word).strict.toNat)).toNat ∧
      t.dev.fld .OT_RAWL_DATA = (otpData (flip 2 (s.nv.cell word).lenient.toNat)).toNat ∧
      t.dev.fld .OT_RAWC_SC = otpChecks (flip 1 (s.nv.cell word).strict.toNat) ∧
      t.dev.fld .OT_RAWC_LC = otpChecks (flip 2 (s.nv.cell word).lenient.toNat))

/-- Perturbations are set, forced and cleared. Writes that may reach their register. PT_CREDIT takes Q and FEED; frames of the
Ethernet seats that no longer wait are then executed in order, and with none waiting nothing else changes. PT_CAMSTALL leaves the
bit of every port named at 1, with the stall to last US from its next frame. PT_FORCE.GO of a source of R291 and one of its units,
while GO is 0, leaves GO and FORCED at 1 and a forced signal of the source on its way. PT_CFG.CLEAR, no frame waiting, leaves
PT_MQDLY, PT_CREDIT, PT_TRIGDLY, PT_ECC and PT_FORCE at 0, FORCED at 0 and no perturbation of them in force. OTP, the tally and
the tables are unchanged. Cites R401, R403, R404, R407, R408. -/
def Obligations.PerturbationWrites : Prop :=
  (∀ (w : Writer) (k : Fin 4) (q : Fin 8) (feed : Bool) (s : State),
    s.dev.mayWriteFields w .PT_CREDIT k 0 [(.PT_CREDIT_Q, q.val), (.PT_CREDIT_FEED, bit feed)] →
    ∃ d : Dev, exec (.ptCreditWrite w k q feed) s = .next { s with dev := (release (d, s.nv)).1, nv := (release (d, s.nv)).2 } ∧
      d.fld .PT_CREDIT_Q k = q.val ∧ d.on .PT_CREDIT_FEED k = feed ∧ d.tbl = s.dev.tbl ∧ s.dev.regsBut [RegName.off .PT_CREDIT k 0] d ∧
      (∀ j : Fin 4, (d.seat j).withheld = (s.dev.seat j).withheld) ∧ (s.dev.noneWithheld → release (d, s.nv) = (d, s.nv))) ∧
  (∀ (d : Dev) (v : Nv) (s : Fin 4) (n : Nat) (f : List Byte) (r : List (List Byte)), d.serves s = true → (d.seat s).withheld = f :: r →
    d.blockedAt s (parseHdr f).queue = false →
    releaseSeat d v s (n + 1) = releaseSeat (runFrame (d.setSeat s { d.seat s with withheld := r }) v s 0 f).1
      (runFrame (d.setSeat s { d.seat s with withheld := r }) v s 0 f).2 s n) ∧
  (∀ (w : Writer) (mask : Fin 16) (us : Fin 65536) (s : State),
    s.dev.mayWriteFields w .PT_CAMSTALL 0 0 [(.PT_CAMSTALL_GO, mask.val), (.PT_CAMSTALL_US, us.val)] →
    ∃ t, exec (.ptCamstall w mask us) s = .next t ∧ t.nv = s.nv ∧ t.dev.fld .PT_CAMSTALL_US = us.val ∧ t.dev.tbl = s.dev.tbl ∧
      (∀ n : Fin 4, mask.val / 2 ^ n.val % 2 = 1 → t.dev.fbit .PT_CAMSTALL_GO 0 0 n = true ∧
        (s.dev.fbit .PT_CAMSTALL_GO 0 0 n = false → (t.dev.cam n).stallFor = us.val)) ∧ s.dev.regsBut [RegName.off .PT_CAMSTALL 0 0] t.dev) ∧
  (∀ (w : Writer) (src : Fin 64) (unit : Fin 256) (s : State), s.dev.on .PT_FORCE_GO = false → knownSource src = true →
    (unitCount src = 0 ∨ unit.val < unitCount src) →
    s.dev.mayWriteFields w .PT_FORCE 0 0 [(.PT_FORCE_SRC, src.val), (.PT_FORCE_UNIT, unit.val), (.PT_FORCE_GO, 1)] →
    ∃ t, exec (.ptForce w src unit) s = .next t ∧ t.nv = s.nv ∧ t.dev.on .PT_FORCE_GO = true ∧ t.dev.on .PT_ACTIVE_FORCED = true ∧
      t.dev.fld .PT_FORCE_SRC = src.val ∧ t.dev.tbl = s.dev.tbl ∧ (∃ g ∈ t.dev.fc.sigs, g.source = src.val ∧ g.forced = true ∧ g.stamp = s.dev.tb ∧
        g.unit = (if unitCount src = 0 then 0xFF else unit.val))) ∧
  (∀ (w : Writer) (s : State), s.dev.noneWithheld → s.dev.mayWriteFields w .PT_CFG 0 0 [(.PT_CFG_CLEAR, 1)] →
    ∃ t, exec (.ptClear w) s = .next t ∧ t.nv = s.nv ∧ t.dev.tbl = s.dev.tbl ∧
      (∀ k : Fin 4, t.dev.reg .PT_MQDLY k = 0 ∧ t.dev.reg .PT_CREDIT k = 0 ∧ t.dev.reg .PT_TRIGDLY k = 0 ∧
        (t.dev.cam k).stallFor = 0 ∧ (t.dev.cam k).stallTill = none) ∧
      t.dev.reg .PT_ECC = 0 ∧ t.dev.reg .PT_FORCE = 0 ∧ t.dev.on .PT_ACTIVE_FORCED = false ∧ t.dev.ptActive % 64 = 0)

/-- A command frame out of sequence has no effect but its completion. A command frame of a seat whose sequence number is not the
expected one is not executed, whatever its opcode: nothing changes but what reporting changes, and the expected number stays.
Cites R48. -/
def Obligations.FrameOutOfOrder : Prop :=
  ∀ (i : Instr) (h : CmdHdr) (op : Nat) (k : Fin 4) (s : State), frameOf i = some (h, op) → h.src = .seat k → s.dev.takes h = true →
    s.dev.noneWithheld → seqDist ((s.dev.seat k).cmdq h.q) h.seq ≠ 0 →
    ∃ t, exec i s = .next t ∧ t.nv = s.nv ∧ t.pending = s.pending ∧ t.dev.quiet = s.dev.quiet ∧ s.dev.regsBut [] t.dev ∧
      ((t.dev.seat k).cmdq h.q).exp = ((s.dev.seat k).cmdq h.q).exp

/-- NOP, RD32 and RDBLK. A NOP that passes R48 and R49 is completed with OK and no payload, takes its sequence number, and changes
nothing but what reporting changes. An RD32 of at most 16 (Q0) or 256 (Q1) offsets is completed with one word for each offset, and
one of more with BAD_FRAME; an RDBLK of an allowed block no longer than a frame may be with every word of it, one of another block
with REFUSED_ACCESS and no data. The words are those of the bus reads in order, a refused one reads as 0 (R27, R50), and the
status is that of the first refused one. None changes OTP or the tally. Cites R48, R49, R50, R447, R27. -/
def Obligations.PlainFrames : Prop :=
  (∀ (h : CmdHdr) (s : State), s.dev.admits h 0x0000 false = true →
    exec (.nop h) s = .next { s with dev := (s.dev.heard h 0x0000).complete h 0x0000 .ok [] } ∧
    ((s.dev.heard h 0x0000).complete h 0x0000 .ok []).quiet = s.dev.quiet ∧
    s.dev.regsBut [] ((s.dev.heard h 0x0000).complete h 0x0000 .ok []) ∧
    (∀ k : Fin 4, h.src = .seat k → ((((s.dev.heard h 0x0000).complete h 0x0000 .ok []).seat k).cmdq h.q).exp =
      (((s.dev.seat k).cmdq h.q).exp + 1) % 65536)) ∧
  (∀ (h : CmdHdr) (offs : List Nat) (s : State), s.dev.admits h 0x0001 (offs.all glOffset) = true →
    (offs.length ≤ (if h.q.val = 0 then 16 else 256) →
      ∃ d ws st, (s.dev.heard h 0x0001).readAll s.nv h.src offs = (d, ws, st) ∧ ws.length = offs.length ∧
        exec (.rd32 h offs) s = .next { s with dev := d.complete h 0x0001 st (wordBytes ws) }) ∧
    ((if h.q.val = 0 then 16 else 256) < offs.length →
      exec (.rd32 h offs) s = .next { s with dev := (s.dev.heard h 0x0001).complete h 0x0001 .badFrame [] })) ∧
  (∀ (h : CmdHdr) (off len : Nat) (s : State), s.dev.admits h 0x0003 false = true → len ≤ frameMax h →
    (blockOk off len = true →
      ∃ d ws st, (s.dev.heard h 0x0003).readAll s.nv h.src (blockOffs off len) = (d, ws, st) ∧ ws.length = len / 4 ∧
        exec (.rdblk h off len) s = .next { s with dev := d.complete h 0x0003 st (wordBytes ws) }) ∧
    (blockOk off len = false →
      exec (.rdblk h off len) s = .next { s with dev := (s.dev.heard h 0x0003).complete h 0x0003 .refusedAccess [] })) ∧
  (∀ (d : Dev) (v : Nv) (who : Src) (o : Nat) (r : List Nat),
    (d.readAll v who (o :: r)).2.1 = (d.busRead v who o).2.1 :: ((d.busRead v who o).1.readAll v who r).2.1 ∧
    (d.readAll v who (o :: r)).2.2 =
      (if (d.busRead v who o).2.2 = .ok then ((d.busRead v who o).1.readAll v who r).2.2 else (d.busRead v who o).2.2) ∧
    ((d.busRead v who o).2.2 ≠ .ok → (d.busRead v who o).2.1 = 0))

/-- WR32 and WRBLK. A WR32 of at most 256 pairs executes them in order up to the first refused one and is completed with the count
of those done and the status of that one; a WRBLK of an allowed block writes its words so and is completed with the status and no
payload, and one of another block with REFUSED_ACCESS; then withheld frames whose queues no longer wait are executed. A pair
executes as the write of the bus. Cites R50, R447, R403. -/
def Obligations.WriteFrames : Prop :=
  (∀ (h : CmdHdr) (pairs : List (Nat × Word)) (s : State), s.dev.admits h 0x0002 false = true → pairs.length ≤ 256 →
    ∃ d v n st, writeAll (s.dev.heard h 0x0002) s.nv h.src pairs 0 = (d, v, n, st) ∧ n ≤ pairs.length ∧ (st = .ok → n = pairs.length) ∧
      exec (.wr32 h pairs) s = .next { s with
        dev := (release (((d.noteFrameMode h st).complete h 0x0002 st (le 4 n)), v)).1,
        nv := (release (((d.noteFrameMode h st).complete h 0x0002 st (le 4 n)), v)).2 }) ∧
  (∀ (h : CmdHdr) (o : Nat) (x : Word) (s : State), s.dev.accepts s.nv (.frame h) o x →
    exec (.wr32 h [(o, x)]) s = .next { s with
      dev := (release (s.dev.written s.nv (.frame h) o x)).1, nv := (release (s.dev.written s.nv (.frame h) o x)).2 }) ∧
  (∀ (h : CmdHdr) (off : Nat) (data : List Word) (s : State), s.dev.admits h 0x0004 false = true →
    (blockOk off (4 * data.length) = true →
      ∃ d v n st, writeAll (s.dev.heard h 0x0004) s.nv h.src (List.zip (blockOffs off (4 * data.length)) data) 0 = (d, v, n, st) ∧
        (st = .ok → n = data.length) ∧
        exec (.wrblk h off data) s = .next { s with
          dev := (release (((d.noteFrameMode h st).complete h 0x0004 st []), v)).1,
          nv := (release (((d.noteFrameMode h st).complete h 0x0004 st []), v)).2 }) ∧
    (blockOk off (4 * data.length) = false → s.dev.noneWithheld →
      exec (.wrblk h off data) s = .next { s with dev := (s.dev.heard h 0x0004).complete h 0x0004 .refusedAccess [] })) ∧
  (∀ (d : Dev) (v : Nv) (who : Src) (o n : Nat) (x : Word) (r : List (Nat × Word)),
    writeAll d v who ((o, x) :: r) n = (if (busWrite d v who o x).2.2 = .ok
      then writeAll (busWrite d v who o x).1 (busWrite d v who o x).2.1 who r (n + 1)
      else ((busWrite d v who o x).1, (busWrite d v who o x).2.1, n, (busWrite d v who o x).2.2)))

/-- A seat reaches the resources of its own bay only. A seat that reads a register owned by another bay, or by none, gets 0 and
REFUSED_BAY; one that writes it changes nothing, and neither does one that writes a table of another bay, or, without being the
steward, a device-wide register: the write answers REFUSED_BAY or REFUSED_STEWARD. Cites R27, R28. -/
def Obligations.BayAccess : Prop :=
  (∀ (k : Fin 4) (r : RegName) (i j o : Nat) (d : Dev) (v : Nv), d.running = true → o % 4 = 0 → winAt o = none → decodeOff o = some (r, i, j) →
    r.info.owner ∉ [.dev, .shared, .ksdev, .ownseat, .seat] → d.regBay r i ≠ some k.val →
    d.busRead v (.seat k) o = (d, 0, .refusedBay) ∧ (d.inService = false → ∀ x, busWrite d v (.seat k) o x = (d, v, .refusedBay))) ∧
  (∀ (k : Fin 4) (r : RegName) (i j o : Nat) (d : Dev) (v : Nv), d.running = true → d.inService = false → o % 4 = 0 → winAt o = none →
    decodeOff o = some (r, i, j) → r.info.owner = .dev → d.steward ≠ k.val → ∀ x, busWrite d v (.seat k) o x = (d, v, .refusedSteward)) ∧
  (∀ (k : Fin 4) (o n : Nat) (win : Win) (d : Dev) (v : Nv), d.running = true → d.inService = false → o % 4 = 0 → winAt o = some (win, n) →
    win.shared = false → d.winBay win ≠ some k.val → ∀ x, busWrite d v (.seat k) o x = (d, v, .refusedBay))

/-- A COMMIT that passes its checks is PREPARING, one that fails returns its values. A COMMIT of a present bay from its seat or
the console, with no host commit under way, moves the whole staging set into the pending set. When checks 3 to 12 pass, the host
slot is PREPARING with the commit's record and the staging set is empty; when one fails, the slot is IDLE, the values are back in
staging, KS_STATUS.REASON shows the reason and KS_CNT.REFUSED has counted, COMMIT_REFUSED is raised and the frame is answered with
the reason. With a host commit under way it is refused with BUSY and no set changes. A device-wide COMMIT with NEXT from the
steward or the console, of the expected generation and with values that pass check 6, is PREPARING so. Tables, bays, OTP and the
tally are unchanged. (The checks take no step of their own: CHECKING is never shown, log 31.) Cites R63, R64, R65, R69, R73. -/
def Obligations.CommitPrepares : Prop :=
  (∀ (h : CmdHdr) (rec : CommitRec) (b : Fin 4) (s : State), s.dev.admits h 0x0010 false = true → rec.bay = b.val →
    (h.src = .seat b ∨ h.src = .console) → s.dev.present b = true →
    ((s.dev.kset b).host.st = .idle → ∃ t, exec (.commit h rec) s = .next t ∧ t.nv = s.nv ∧ t.dev.bays = s.dev.bays ∧ t.dev.tbl = s.dev.tbl ∧ t.dev.fs = s.dev.fs ∧
      ((((s.dev.heard h 0x0010).formPending b).setHost b { st := .preparing, cmd := rec, origin := some h, prepAt := s.dev.now }).commitChecks b rec
          (s.dev.kset b).staging = none →
        (t.dev.kset b).pending = (s.dev.kset b).staging ∧ (t.dev.kset b).staging = [] ∧
        (t.dev.kset b).host = { st := .preparing, cmd := rec, origin := some h, prepAt := s.dev.now } ∧
        s.dev.regsBut [RegName.off .SC_CVSTG b 0] t.dev) ∧
      (∀ r off, (((s.dev.heard h 0x0010).formPending b).setHost b { st := .preparing, cmd := rec, origin := some h, prepAt := s.dev.now }).commitChecks b rec
          (s.dev.kset b).staging = some (r, off) →
        (t.dev.kset b).staging = (s.dev.kset b).staging ∧ (t.dev.kset b).pending = [] ∧ (t.dev.kset b).host.st = .idle ∧
        t.dev.fld .KS_STATUS_REASON b = r.code ∧
        t.dev.fld .KS_CNT_REFUSED b = min (s.dev.fld .KS_CNT_REFUSED b + 1) (2 ^ Fld.KS_CNT_REFUSED.width - 1) ∧
        ∃ d : Dev, t.dev = (d.bayEvent b 1 0x0101 0xFF r.code off).completeRefused h b r.code)) ∧
    ((s.dev.kset b).host.st ≠ .idle → ∃ d : Dev,
      exec (.commit h rec) s = .next { s with dev := (d.bayEvent b 1 0x0101 0xFF Reason.busy.code noField).completeRefused h b Reason.busy.code } ∧
      d.ks = s.dev.ks ∧ d.fld .KS_STATUS_REASON b = Reason.busy.code)) ∧
  (∀ (h : CmdHdr) (rec : CommitRec) (s : State), s.dev.admits h 0x0010 false = true → rec.bay = 4 →
    (h.src = .console ∨ ∃ k : Fin 4, h.src = .seat k ∧ k.val = s.dev.steward) → (s.dev.kset 4).host.st = .idle →
    (rec.expect = false ∨ s.dev.fld .KS_GENDEV_GEN = rec.expgen) → rec.next = true → rec.now = false →
    (((s.dev.heard h 0x0010).formPending 4).setHost 4 { st := .preparing, cmd := rec, origin := some h, prepAt := s.dev.now }).deviceChecks
      (s.dev.kset 4).staging = none →
    ∃ t, exec (.commit h rec) s = .next t ∧ t.nv = s.nv ∧ t.dev.bays = s.dev.bays ∧ t.dev.tbl = s.dev.tbl ∧
      (t.dev.kset 4).pending = (s.dev.kset 4).staging ∧ (t.dev.kset 4).staging = [] ∧
      (t.dev.kset 4).host = { st := .preparing, cmd := rec, origin := some h, prepAt := s.dev.now } ∧ t.dev.regs = s.dev.regs)

/-- Acknowledged commits are ARMED, late ones are refused. When every acknowledgement is in, a host commit with NEXT is ARMED for
CC + 2, one with a TARGET from CC + 2 to below CC + 2^32 is ARMED for it, its completion gives the target and the generation that
it will make, and one with another TARGET is refused and returns to IDLE; one with NOW applies: its slot is IDLE, its values are
those in force, the bay's generation has risen by 1; an internal commit is ARMED for CC + 2; a device-wide commit applies: its
slot is IDLE, its thresholds and fault sources are in force and KS_GENDEV has risen by 1. A commit that stays PREPARING for 100 µs
is refused: its slot is IDLE, a host commit's reason is PREPARE_TIMEOUT, and the time-out source is signalled. CC here counts the
triggers issued. Cites R65, R68, R70, R71, R73. -/
def Obligations.CommitArms : Prop :=
  (∀ (b : Fin 4) (s : State), s.dev.bayModes = true → (s.dev.kset b).host.st = .preparing → (s.dev.kset b).host.cmd.now = false →
    ∃ t, exec (.commitArmed (.host b)) s = .next t ∧ t.nv = s.nv ∧ t.dev.bays = s.dev.bays ∧ t.dev.tbl = s.dev.tbl ∧
      ((s.dev.kset b).host.cmd.next = true → (t.dev.kset b).host.st = .armed ∧
        (t.dev.kset b).host.target = add48 (s.dev.ccPacer b) 2 ∧ (t.dev.kset b).pending = (s.dev.kset b).pending) ∧
      ((s.dev.kset b).host.cmd.next = false → s.dev.reachBad b (s.dev.kset b).host.cmd.target = none →
        (t.dev.kset b).host.st = .armed ∧ (t.dev.kset b).host.target = (s.dev.kset b).host.cmd.target) ∧
      ((s.dev.kset b).host.cmd.next = true ∨ s.dev.reachBad b (s.dev.kset b).host.cmd.target = none →
        ∀ h, (s.dev.kset b).host.origin = some h → ∃ d : Dev, t.dev = d.complete h 0x0010 .ok (commitResult (t.dev.kset b).host.target
          (((s.dev.bay b).gen + 1 + (if (s.dev.kset b).int.st = .armed && before48 (s.dev.kset b).int.target (t.dev.kset b).host.target then 1 else 0)) % 2 ^ 32) 0)) ∧
      ((s.dev.kset b).host.cmd.next = false → s.dev.reachBad b (s.dev.kset b).host.cmd.target ≠ none →
        (t.dev.kset b).host.st = .idle ∧ (t.dev.kset b).pending = [])) ∧
  (∀ (b : Fin 4) (s : State), s.dev.bayModes = true → (s.dev.kset b).host.st = .preparing → (s.dev.kset b).host.cmd.now = true →
    ∃ t, exec (.commitArmed (.host b)) s = .next t ∧ t.nv = s.nv ∧ (t.dev.kset b).host.st = .idle ∧ (t.dev.kset b).pending = [] ∧
      (t.dev.bay b).gen = ((s.dev.bay b).gen + 1) % 2 ^ 32 ∧ (t.dev.bay b).cc = (s.dev.bay b).cc ∧
      ∀ xx : Fin 32, t.dev.reg .SC_LEVELS xx = (s.dev.withFields (s.dev.kset b).pending).reg .SC_LEVELS xx ∧
        t.dev.reg .WV_CTL xx = (s.dev.withFields (s.dev.kset b).pending).reg .WV_CTL xx) ∧
  (∀ (b : Fin 4) (s : State), s.dev.bayModes = true → (s.dev.kset b).int.st = .preparing →
    ∃ t, exec (.commitArmed (.internal b)) s = .next t ∧ t.nv = s.nv ∧ (t.dev.kset b).int.st = .armed ∧
      (t.dev.kset b).int.target = add48 (s.dev.ccPacer b) 2 ∧ (t.dev.kset b).intReq = (s.dev.kset b).intReq ∧ t.dev.tbl = s.dev.tbl) ∧
  (∀ s : State, s.dev.bayModes = true → (s.dev.kset 4).host.st = .preparing →
    ∃ t, exec (.commitArmed .device) s = .next t ∧ t.nv = s.nv ∧ (t.dev.kset 4).host.st = .idle ∧ (t.dev.kset 4).pending = [] ∧
      t.dev.fld .KS_GENDEV_GEN = (s.dev.fld .KS_GENDEV_GEN + 1) % 2 ^ 32 ∧
      (∀ c : Fin 74, t.dev.reg .TM_THR0 c = (s.dev.withFields (s.dev.kset 4).pending).reg .TM_THR0 c ∧
        t.dev.reg .TM_THR1 c = (s.dev.withFields (s.dev.kset 4).pending).reg .TM_THR1 c) ∧
      (∀ i : Fin 64, t.dev.reg .FC_SRC i = (s.dev.withFields (s.dev.kset 4).pending).reg .FC_SRC i)) ∧
  (∀ (slot : Slot) (s : State), s.dev.prepLate slot = true →
    ∃ t, exec (.prepareTimeout slot) s = .next t ∧ t.nv = s.nv ∧ (t.dev.slotOf slot).st = .idle ∧
      (∃ g ∈ t.dev.fc.sigs, g.source = srcKsTimeout ∧ g.stamp = s.dev.tb) ∧ t.dev.tbl = s.dev.tbl ∧
      (∀ b : Fin 4, slot = .host b → t.dev.fld .KS_STATUS_REASON b = Reason.prepareTimeout.code ∧ (t.dev.kset b).pending = []))

/-- CANCEL and the start of internal commits. A CANCEL from the bay's seat, of the device-wide set from the steward, or from the
console, of a host commit that is CHECKING or PREPARING, or ARMED and of a bay whose trigger of the apply is not issued and is
three courses away or whose pacer is quiet, leaves its slot IDLE, its pending set empty and its values staged, and is completed
with OK; of any other it changes no commit and is completed with BUSY. An internal request that waits while the internal slot is
IDLE enters it as PREPARING, the fault reaction before the thermal clamp before registration, and nothing else changes. Cites R70,
R71, R264. -/
def Obligations.CommitEnds : Prop :=
  (∀ (h : CmdHdr) (b : Fin 5) (s : State), s.dev.admits h 0x0011 false = true →
    (h.src = .console ∨ ∃ k : Fin 4, h.src = .seat k ∧ k.val = (if b.val = 4 then s.dev.steward else b.val)) →
    ((s.dev.kset b).host.st = .preparing ∨ (s.dev.kset b).host.st = .checking ∨ ((s.dev.kset b).host.st = .armed ∧ b.val < 4 ∧
        (s.dev.kset b).host.carried = false ∧ (3 ≤ sub48 (s.dev.kset b).host.target (s.dev.ccPacer b) ∨ s.dev.pacerQuiet b = true)) →
      ∃ t, exec (.cancel h b) s = .next t ∧ t.nv = s.nv ∧ t.dev.bays = s.dev.bays ∧ t.dev.tbl = s.dev.tbl ∧
        (t.dev.kset b).host.st = .idle ∧ (t.dev.kset b).pending = [] ∧
        (∀ x ∈ (s.dev.kset b).pending, ∃ y ∈ (t.dev.kset b).staging, y.key = x.key) ∧ ∃ d : Dev, t.dev = d.complete h 0x0011 .ok []) ∧
    (¬ ((s.dev.kset b).host.st = .preparing ∨ (s.dev.kset b).host.st = .checking ∨ ((s.dev.kset b).host.st = .armed ∧ b.val < 4 ∧
        (s.dev.kset b).host.carried = false ∧ (3 ≤ sub48 (s.dev.kset b).host.target (s.dev.ccPacer b) ∨ s.dev.pacerQuiet b = true))) →
      exec (.cancel h b) s = .next { s with dev := (s.dev.heard h 0x0011).complete h 0x0011 .busy [] })) ∧
  (∀ (b : Fin 4) (r : IntReq) (s : State), s.dev.bayModes = true → (s.dev.kset b).int.st = .idle → (s.dev.kset b).nextReq = some r →
    exec (.internalCommitStart b) s = .next { s with dev := s.dev.setKset b { s.dev.kset b with
      int := { st := .preparing, prepAt := s.dev.now }, intReq := some r, waiting := (s.dev.kset b).waiting.filter (· != r) } } ∧
    r ∈ (s.dev.kset b).waiting ∧
    ((∃ x ∈ (s.dev.kset b).waiting, x.src = .fault) → r.src = .fault) ∧
    ((∀ x ∈ (s.dev.kset b).waiting, x.src ≠ .fault) → (∃ x ∈ (s.dev.kset b).waiting, x.src = .thermal) → r.src = .thermal)) ∧
  (∀ (b : Fin 4) (s : State), (s.dev.kset b).waiting ≠ [] → (s.dev.kset b).nextReq.isSome = true)

/-- SNAP, SNAPRD and SNAPREL. A SNAP of a present bay, from its seat, takes the first free buffer: with NEXT, outside SERVICE, it
is pending for CC + 1; with a target in reach, outside SERVICE, for that; with NOW, with the pacer quiet or in SERVICE, it latches
at once: the buffer holds the bay's words and is tagged with its generation and course, and SNAP_READY is raised. Each is
completed with the buffer and the course. With no buffer free it is BUSY. (That a NOW needs a quiet pacer is the model's choice,
log 153.) SNAPRD of an aligned range no longer than a frame may be returns the latched words by offset, 0 where none is, and
changes nothing but what reporting changes; SNAPREL leaves the buffer free, its SNAP no longer pending and its VALID 0. Bays, OTP,
the tally and the tables are unchanged. Cites R76, R77. -/
def Obligations.Snapshots : Prop :=
  (∀ (h : CmdHdr) (b : Fin 4) (flags target : Nat) (s : State), s.dev.admits h 0x0012 false = true → h.src = .seat b →
    s.dev.present b = true → (flags % 2 = 0 ∨ flags / 2 % 2 = 0) → (s.dev.inService = false ∨ flags / 2 % 2 = 1) →
    (∀ k, ((List.range 2).find? fun k => !(s.dev.snap b k).taken) = some k →
      ∃ t, exec (.snap h b flags target) s = .next t ∧ t.nv = s.nv ∧ t.dev.bays = s.dev.bays ∧ t.dev.tbl = s.dev.tbl ∧
        (flags % 2 = 1 → t.dev.snap b k = { taken := true, pendingAt := some (add48 (s.dev.ccPacer b) 1) } ∧ s.dev.regsBut [] t.dev ∧
          ∃ d : Dev, t.dev = d.complete h 0x0012 .ok (le 1 k ++ le 3 0 ++ le 8 (add48 (s.dev.ccPacer b) 1))) ∧
        (flags % 2 = 0 → flags / 2 % 2 = 0 → s.dev.reachBad b target = none →
          t.dev.snap b k = { taken := true, pendingAt := some target } ∧ s.dev.regsBut [] t.dev ∧
          ∃ d : Dev, t.dev = d.complete h 0x0012 .ok (le 1 k ++ le 3 0 ++ le 8 target)) ∧
        (flags / 2 % 2 = 1 → (s.dev.pacerQuiet b = true ∨ s.dev.bayModes = false) →
          (t.dev.snap b k).taken = true ∧ (t.dev.snap b k).pendingAt = none ∧ t.dev.fld .KS_SNAPGEN_GEN b k = (s.dev.bay b).gen % 2 ^ 32 ∧
          (t.dev.snap b k).words =
            ({ s.dev.heard h 0x0012 with now := (s.dev.heard h 0x0012).instantOf (s.dev.heard h 0x0012).tb }).snapWords b ∧
          t.dev.on .KS_SNAPCCHI_VALID b k = true ∧ t.dev.on .KS_SNAPCCHI_NOW b k = true ∧
          t.dev.fld .KS_SNAPCCLO_CC b k = (s.dev.bay b).cc % 2 ^ 32 ∧
          ∃ d : Dev, t.dev = (d.bayEvent b 3 0x0102 0xFF k d.ptActive).complete h 0x0012 .ok (le 1 k ++ le 3 0 ++ le 8 (s.dev.bay b).cc))) ∧
    (((List.range 2).find? fun k => !(s.dev.snap b k).taken) = none →
      exec (.snap h b flags target) s = .next { s with dev := (s.dev.heard h 0x0012).complete h 0x0012 .busy [] })) ∧
  (∀ (h : CmdHdr) (b : Fin 4) (buffer : Fin 2) (off len : Nat) (s : State), s.dev.admits h 0x0013 false = true → (h.src = .seat b ∨ h.src = .console) →
    off % 4 = 0 → len % 4 = 0 → len ≤ frameMax h →
    exec (.snaprd h b buffer off len) s = .next { s with dev := ((s.dev.heard h 0x0013).complete h 0x0013 .ok
      ((List.range (len / 4)).flatMap fun i =>
        le 4 ((((s.dev.snap b buffer).words.find? fun x => x.1 == off + 4 * i).map (·.2)).getD (0 : Word)).toNat)) }) ∧
  (∀ (h : CmdHdr) (b : Fin 4) (buffer : Fin 2) (s : State), s.dev.admits h 0x0014 false = true → (h.src = .seat b ∨ h.src = .console) →
    ∃ t, exec (.snaprel h b buffer) s = .next t ∧ t.nv = s.nv ∧ t.dev.bays = s.dev.bays ∧ t.dev.tbl = s.dev.tbl ∧
      (t.dev.snap b buffer).taken = false ∧
      ((s.dev.snap b buffer).taken = true → t.dev.on .KS_SNAPCCHI_VALID b buffer = false ∧ (t.dev.snap b buffer).pendingAt = none) ∧
      (∃ d : Dev, t.dev = d.complete h 0x0014 .ok []) ∧ s.dev.regsBut [RegName.off .KS_SNAPCCHI b buffer] t.dev)

/-- STOP and nSTOPn register a stop of the bay. A STOP of a present bay from its seat in a bay mode leaves a stop registered at
the bay's pacer, of source 0 unless one waited, and one from the console source 2, and is completed with OK: the next trigger the
bay's pacer issues carries it. A fall of nSTOPn of a present bay with NSTOPEN in a bay mode registers a stop of source 1 unless
one waited, and in SERVICE, as a console STOP there, clears SV_PEN, after which no head is to be powered. Neither changes the mode
in force, the course counter, the registers of the bay, OTP or the tally at once. Cites R61, R62, R321. -/
def Obligations.Stops : Prop :=
  (∀ (h : CmdHdr) (b : Fin 4) (s : State), s.dev.admits h 0x0020 false = true → (h.src = .seat b ∨ h.src = .console) → s.dev.inService = false →
    s.dev.present b = true →
    ∃ t, exec (.stop h b) s = .next t ∧ t.nv = s.nv ∧ (t.dev.bay b).mode = (s.dev.bay b).mode ∧ (t.dev.bay b).cc = (s.dev.bay b).cc ∧
      (t.dev.pc b).stop = (if (s.dev.pc b).stop.isSome then (s.dev.pc b).stop else some (if h.src = .console then 2 else 0)) ∧
      (∀ c : Fin 4, c ≠ b → t.dev.bay c = s.dev.bay c) ∧ t.dev.ks = s.dev.ks ∧ s.dev.regsBut [] t.dev ∧ t.dev.tbl = s.dev.tbl ∧
      ∃ d : Dev, t.dev = d.complete h 0x0020 .ok []) ∧
  (∀ (h : CmdHdr) (b : Fin 4) (s : State), s.dev.admits h 0x0020 false = true → h.src = .console → s.dev.inService = true →
    ∃ t, exec (.stop h b) s = .next t ∧ t.nv = s.nv ∧ t.dev.reg .SV_PEN = 0 ∧ (∀ xx : Fin 32, t.dev.penWant xx = false) ∧
      ∃ d : Dev, t.dev = d.complete h 0x0020 .ok []) ∧
  (∀ (b : Fin 4) (lowFor : Option Nat) (s : State), s.dev.bayModes = true → s.dev.present b = true → s.dev.on .KS_BAYCTL_NSTOPEN b = true →
    ∃ t, exec (.nstopFall b lowFor) s = .next t ∧ t.nv = s.nv ∧ (t.dev.bay b).mode = (s.dev.bay b).mode ∧
      (t.dev.pc b).stop = (if (s.dev.pc b).stop.isSome then (s.dev.pc b).stop else some 1) ∧
      Store.get (fun _ => none) t.dev.nstop b = some (lowFor.map (s.dev.now + ·)) ∧ t.dev.regs = s.dev.regs ∧ t.dev.ks = s.dev.ks) ∧
  (∀ (b : Fin 4) (lowFor : Option Nat) (s : State), s.dev.inService = true →
    ∃ t, exec (.nstopFall b lowFor) s = .next t ∧ t.nv = s.nv ∧ t.dev.reg .SV_PEN = 0 ∧ ∀ xx : Fin 32, t.dev.penWant xx = false)

/-- IMGSTAGE frames of the steward and the console. With no IMGSTAGE under way and no reload waiting, a frame that passes R48 and
R49. From a seat that is not the steward: REFUSED_STEWARD. An ERASE, WRITE or VERIFY of the copy in use: REFUSED_ACCESS. ERASE of
the other copy empties its header buffer, sets its header state to erased and sends the erase of the copy to the flash; WRITE at a
multiple of 4 inside the region fills the header buffer with the bytes below 256 and programs the others, and ends at once with
result 0 where there are none; beyond the region it is answered BAD_FRAME; VERIFY of a bad header ends at once with its reason, of
a good one reads the body; QUERY returns the 48 bytes of R345; ADVANCE with a newer VERSION queues the rollback words up to it,
with no newer one ends with result 0, and on the factory defaults is answered REFUSED_ACCESS. OTP words do not change yet, and
neither do the tally and the tables. Cites R343, R344, R345. -/
def Obligations.ImageStaging : Prop :=
  (∀ (h : CmdHdr) (k : Fin 2) (off : Nat) (data : List Byte) (s : State), s.dev.staging = false → s.dev.admits h 0x0030 false = true → s.dev.notSteward h = true →
    ∀ i ∈ [Instr.imgstageErase h k, .imgstageWrite h k off data, .imgstageVerify h k, .imgstageQuery h, .imgstageAdvance h],
      exec i s = .next { s with dev := (s.dev.heard h 0x0030).complete h 0x0030 .refusedSteward [] }) ∧
  (∀ (h : CmdHdr) (k : Fin 2) (off : Nat) (data : List Byte) (s : State), s.dev.staging = false → s.dev.admits h 0x0030 false = true → s.dev.notSteward h = false →
    k.val = s.dev.boot.inUse → ∀ i ∈ [Instr.imgstageErase h k, .imgstageWrite h k off data, .imgstageVerify h k],
      exec i s = .next { s with dev := (s.dev.heard h 0x0030).complete h 0x0030 .refusedAccess [] }) ∧
  (∀ (h : CmdHdr) (k : Fin 2) (s : State), s.dev.staging = false → s.dev.admits h 0x0030 false = true → s.dev.notSteward h = false → k.val ≠ s.dev.boot.inUse →
    ∃ t, exec (.imgstageErase h k) s = .next t ∧ t.nv = s.nv ∧ t.dev.buf k = [] ∧ (t.dev.boot.copy k).state = 1 ∧
      t.dev.boot.flashOp = some ⟨h, 0, k, 0⟩ ∧ t.dev.out.head? = some (.flash k 0 none s.dev.boot.eraseOp s.dev.boot.eraseUnit) ∧
      t.dev.regs = s.dev.regs ∧ t.dev.tbl = s.dev.tbl) ∧
  (∀ (h : CmdHdr) (k : Fin 2) (off : Nat) (data : List Byte) (s : State), s.dev.staging = false → s.dev.admits h 0x0030 false = true → s.dev.notSteward h = false →
    k.val ≠ s.dev.boot.inUse → s.dev.boot.reloadWaits = none →
    (off % 4 = 0 → off + data.length ≤ (s.dev.boot.density.getD 0) * 524288 →
      ∃ t, exec (.imgstageWrite h k off data) s = .next t ∧ t.nv = s.nv ∧ t.dev.tbl = s.dev.tbl ∧ s.dev.regsBut [] t.dev ∧
        (∀ j, off + j < 256 → ∀ b, data[j]? = some b → Store.get bufDflt (t.dev.buf k) (off + j) = b) ∧
        (∀ j, (j < off ∨ off + data.length ≤ j) → Store.get bufDflt (t.dev.buf k) j = Store.get bufDflt (s.dev.buf k) j) ∧
        (off + data.length ≤ 256 → t.dev.boot.flashOp = none ∧ ∃ d : Dev, t.dev = d.complete h 0x0030 .ok (le 4 0)) ∧
        (256 < off + data.length → data ≠ [] → t.dev.boot.flashOp = some ⟨h, 1, k, off⟩ ∧
          t.dev.out.head? = some (.flash k (max off 256) (some (data.drop (256 - off))) s.dev.boot.programOp 256))) ∧
    (off % 4 = 0 → (s.dev.boot.density.getD 0) * 524288 < off + data.length →
      exec (.imgstageWrite h k off data) s = .next { s with dev := (s.dev.heard h 0x0030).complete h 0x0030 .badFrame [] })) ∧
  (∀ (h : CmdHdr) (k : Fin 2) (s : State), s.dev.staging = false → s.dev.admits h 0x0030 false = true → s.dev.notSteward h = false → k.val ≠ s.dev.boot.inUse →
    s.dev.boot.reloadWaits = none →
    ∃ t, exec (.imgstageVerify h k) s = .next t ∧ t.nv = s.nv ∧ t.dev.tbl = s.dev.tbl ∧ s.dev.regsBut [] t.dev ∧
      ((s.dev.headerChecks s.nv (s.dev.bufHeader k) = 0 ∧ sizeBad (s.dev.bufHeader k) (s.dev.boot.density.getD 0) = false) →
        t.dev.boot.flashOp = some ⟨h, 2, k, 0⟩ ∧ t.dev.out.head? = some (.flashRead s.dev.boot.readOp (s.dev.boot.flashAt k 256)
          (hdrNat (s.dev.bufHeader k) 16 4) (sckMhz (s.dev.bufHeader k)))) ∧
      (s.dev.headerChecks s.nv (s.dev.bufHeader k) ≠ 0 → t.dev.boot.flashOp = none ∧
        ∃ d : Dev, t.dev = d.complete h 0x0030 .ok
          (le 4 (s.dev.headerChecks s.nv (s.dev.bufHeader k)) ++ verifyExtra (s.dev.bufHeader k) noField)) ∧
      (s.dev.headerChecks s.nv (s.dev.bufHeader k) = 0 → sizeBad (s.dev.bufHeader k) (s.dev.boot.density.getD 0) = true →
        t.dev.boot.flashOp = none ∧ ∃ d : Dev, t.dev = d.complete h 0x0030 .ok (le 4 6 ++ verifyExtra (s.dev.bufHeader k) noField))) ∧
  (∀ (h : CmdHdr) (s : State), s.dev.staging = false → s.dev.admits h 0x0030 false = true → s.dev.notSteward h = false → s.dev.boot.reloadWaits = none →
    ∃ t, exec (.imgstageQuery h) s = .next t ∧ t.nv = s.nv ∧ t.dev.quiet = s.dev.quiet ∧ s.dev.regsBut [] t.dev ∧
      ∃ d : Dev, t.dev = d.complete h 0x0030 .ok (le 4 0 ++ (le 1 s.dev.boot.inUse ++ le 1 (if s.dev.ot.active.isSome then 1 else 0) ++
        le 1 s.nv.rollback ++ le 1 0 ++ le 4 (s.dev.boot.density.getD 0) ++ s.dev.boot.copyA.bytes ++ s.dev.boot.copyB.bytes ++
        le 8 s.dev.boot.loadTb))) ∧
  (∀ (h : CmdHdr) (s : State), s.dev.staging = false → s.dev.admits h 0x0030 false = true → s.dev.notSteward h = false → s.dev.boot.reloadWaits = none →
    (s.dev.boot.inUse = 2 →
      exec (.imgstageAdvance h) s = .next { s with dev := (s.dev.heard h 0x0030).complete h 0x0030 .refusedAccess [] }) ∧
    (s.dev.boot.inUse < 2 → (s.dev.boot.copy s.dev.boot.inUse).version ≤ s.nv.rollback →
      exec (.imgstageAdvance h) s = .next { s with dev := (s.dev.heard h 0x0030).complete h 0x0030 .ok (le 4 0) }) ∧
    (s.dev.boot.inUse < 2 → s.nv.rollback < (s.dev.boot.copy s.dev.boot.inUse).version →
      ∃ t, exec (.imgstageAdvance h) s = .next t ∧ t.nv = s.nv ∧ t.dev.regs = s.dev.regs ∧ t.dev.tbl = s.dev.tbl ∧
        t.dev.ot.queue = s.dev.ot.queue ++ [⟨1, (List.range ((s.dev.boot.copy s.dev.boot.inUse).version - s.nv.rollback)).map
          fun i => (0x400 + s.nv.rollback + i, 0xFFFFFFFF), some h⟩]))

/-- IMGRELOAD starts LOAD again, waits for an IMGSTAGE or is refused, and the flash reports. IMGRELOAD that passes R48 and R49:
from a seat that is not the steward, REFUSED_STEWARD; SEL of 4 or more, BAD_FRAME; from the steward in the bay modes where the
conditions of R323 are not met, MODE with nothing else changed than the commits that their test cancels. Accepted, from the
console in SERVICE or from the steward where they are met, with no IMGSTAGE under way: the completion with SEL leaves, the device
stops its pacers, starts the power-down of every powered head, a checkpoint runs, and LOAD will follow; while an IMGSTAGE executes
it is kept until that has completed. The end of an ERASE or WRITE of the flash ends the operation with a completion of result 0,
or 0x0A where the flash failed; a failed VERIFY ends with its reason; the body of a VERIFY that passes its checks starts the write
of the header, whose end ends the VERIFY with result 0 and the header valid, or 0x0A. Cites R323, R343, R344, R346, R347. -/
def Obligations.ReloadAndFlash : Prop :=
  (∀ (h : CmdHdr) (sel : Nat) (s : State), s.dev.admits h 0x0031 false = true →
    (s.dev.notSteward h = true →
      exec (.imgreload h sel) s = .next { s with dev := (s.dev.heard h 0x0031).complete h 0x0031 .refusedSteward [] }) ∧
    (s.dev.notSteward h = false → 4 ≤ sel →
      exec (.imgreload h sel) s = .next { s with dev := (s.dev.heard h 0x0031).complete h 0x0031 .badFrame [] }) ∧
    (s.dev.notSteward h = false → sel < 4 → s.dev.boot.service = false → (s.dev.heard h 0x0031).quietForService.2 = false →
      exec (.imgreload h sel) s = .next { s with dev := ((s.dev.heard h 0x0031).quietForService.1).complete h 0x0031 .mode (le 4 sel) }) ∧
    (s.dev.notSteward h = false → sel < 4 → s.dev.boot.service = false → (s.dev.heard h 0x0031).quietForService.2 = true →
      s.dev.boot.phase = .running → s.dev.boot.reloadWaits = none → s.dev.staging = false →
      ∃ t, exec (.imgreload h sel) s = .next t ∧ t.nv = s.nv ∧ t.dev.boot.phase = .reloadWait ∧ t.dev.boot.sel = sel ∧
        t.dev.boot.reloadAt = s.dev.now ∧ t.dev.wear.ckpt.isSome = true)) ∧
  (∀ (h : CmdHdr) (sel : Nat) (s : State), s.dev.admits h 0x0031 false = true → h.src = .console → s.dev.inService = true → sel < 4 →
    s.dev.boot.phase = .running → s.dev.boot.reloadWaits = none → s.dev.staging = true →
    exec (.imgreload h sel) s = .next { s with dev := { s.dev with boot := { s.dev.boot with reloadWaits := some (some h, sel) } } }) ∧
  (∀ (h : CmdHdr) (sel : Nat) (s : State), s.dev.admits h 0x0031 false = true → h.src = .console → s.dev.inService = true → sel < 4 →
    s.dev.boot.phase = .running → s.dev.boot.reloadWaits = none → s.dev.staging = false → (∀ b : Fin 4, (s.dev.pc b).trigs = []) →
    ∃ t, exec (.imgreload h sel) s = .next t ∧ t.nv = s.nv ∧ t.dev.tbl = s.dev.tbl ∧ t.dev.boot.phase = .reloadWait ∧ t.dev.boot.sel = sel ∧
      t.dev.boot.reloadAt = s.dev.now ∧ t.dev.wear.ckpt.isSome = true ∧ (∀ b : Fin 4, (t.dev.pc b).src = 0 ∧ (t.dev.pc b).trigs = []) ∧
      ∀ xx : Fin 32, s.dev.on .HP_PWR_PEN xx = true → (s.dev.hp xx).downAt = none →
        (t.dev.hp xx).downAt = some (1, s.dev.now + us 10, 1) ∧ (t.dev.hp xx).settleAt = none) ∧
  (∀ (ok : Bool) (body : List Byte) (f : FlashOp) (s : State), s.dev.running = true → s.dev.boot.flashOp = some f → s.dev.noneWithheld →
    s.dev.boot.reloadWaits = none →
    ∃ t, exec (.flashOperationDone ok body) s = .next t ∧ t.nv = s.nv ∧ t.dev.tbl = s.dev.tbl ∧ s.dev.regsBut [] t.dev ∧
      (f.op ≠ 2 → t.dev.boot.flashOp = none) ∧
      (f.op = 0 ∨ f.op = 1 → ∃ d : Dev, t.dev = d.complete f.origin 0x0030 .ok (le 4 (if ok then 0 else 0x0A))) ∧
      (f.op = 2 → ok = false → t.dev.boot.flashOp = none ∧
        ∃ d : Dev, t.dev = d.complete f.origin 0x0030 .ok (le 4 0x0A ++ verifyExtra (s.dev.bufHeader f.copy) noField)) ∧
      (∀ r a, f.op = 2 → ok = true → s.dev.bodyChecks (s.dev.bufHeader f.copy) body = .inr (r, a) → t.dev.boot.flashOp = none ∧
        ∃ d : Dev, t.dev = d.complete f.origin 0x0030 .ok (le 4 r ++ verifyExtra (s.dev.bufHeader f.copy) a)) ∧
      (f.op = 2 → ok = true → (∃ x, s.dev.bodyChecks (s.dev.bufHeader f.copy) body = .inl x) →
        t.dev.boot.flashOp = some ⟨f.origin, 5, f.copy, 0⟩ ∧
        Out.flash f.copy 0 (some (s.dev.bufHeader f.copy)) s.dev.boot.programOp 256 ∈ t.dev.out) ∧
      (f.op = 5 → (t.dev.boot.copy f.copy).state = (if ok then (copyInfo (s.dev.bufHeader f.copy)).state else 2) ∧
        ∃ d : Dev, t.dev = d.complete f.origin 0x0030 .ok
          (le 4 (if ok then 0 else 0x0A) ++ verifyExtra (s.dev.bufHeader f.copy) noField)))

/-- CDATA and CFILL store their courses in their slots and nowhere else. A well-formed CDATA or CFILL frame, alone in the feed
queue of a port of the seat's bay and in sequence, takes its sequence number. Of one course: where the raster starts or extends
its slot in the window, the slot holds the raster up to OFFSET + PIXELS with no stamp, the queue is empty, the course counts as
accepted in the completion, and the slot's bytes hold the pixel stream and, in a cut last byte, the bits they held; every other
byte of the frame store reads as before; a course behind the window counts as STALE, one ahead of it over Ethernet as AHEAD, one
with a gap as GAP, and leaves the frame store and the slots as they are; one that has to wait holds the frame and the queue. Of
any number of courses: either the frame is held at one of its courses, or its completion gives a disposition for each of them.
Tables, bays, OTP and the tally are unchanged. A frame for a port outside the seat's bay is answered REFUSED_BAY, one that breaks
a header rule BAD_FRAME, one for a port without ring REFUSED_ACCESS, and one outside the bay modes MODE. Cites R88, R89, R90, R91,
R92, R94, R95. -/
def Obligations.FeedStores : Prop :=
  ∀ (fill : Bool) (h : FeedHdr) (raster count offset pixels format reserved value len : Nat) (data : List Byte) (i : Instr) (stream op : Nat) (t0 : Intake) (s : State),
    t0 = s.dev.itk h.port → op = (if fill then 0x41 else 0x40) →
    i = (if fill then Instr.cfill h raster count offset pixels format reserved value len
      else Instr.cdata h raster count offset pixels format reserved value data) →
    stream = (if fill then fillStream (fmtBits t0.geo.1) pixels value else ofLe (data.take ((pixels * fmtBits t0.geo.1 + 31) / 32 * 4))) →
    s.dev.feedOpen h = true → t0.frames = [] → raster < 2 ^ 48 →
    (s.dev.bayModes = true → s.dev.portBay h.port ≠ some h.seat.val →
      exec i s = .next { s with dev := s.dev.feedComplete h op .refusedBay [] }) ∧
    (s.dev.bayModes = false → seqDist t0.fq h.seq = 0 → ∃ t, exec i s = .next t ∧ t.nv = s.nv ∧ t.dev.fs = s.dev.fs ∧
      (t.dev.itk h.port).slots = t0.slots ∧ ∃ d : Dev, t.dev = d.feedComplete h op .mode []) ∧
    (s.dev.bayModes = true → s.dev.portBay h.port = some h.seat.val → seqDist t0.fq h.seq = 0 →
      (t0.geo.2.2.2 = 0 ∨ feedHeaderOk t0.geo (!fill) count offset pixels format reserved value (if fill then len else 16 + data.length) = false →
        ∃ t, exec i s = .next t ∧ t.nv = s.nv ∧ t.dev.fs = s.dev.fs ∧ s.dev.regsBut [] t.dev ∧
          (t.dev.itk h.port).slots = t0.slots ∧ (t.dev.itk h.port).fq.exp = (t0.fq.exp + 1) % 65536 ∧
          ∃ d : Dev, t.dev = d.feedComplete h op (if t0.geo.2.2.2 = 0 then .refusedAccess else .badFrame) []) ∧
      (t0.geo.2.2.2 ≠ 0 → feedHeaderOk t0.geo (!fill) count offset pixels format reserved value (if fill then len else 16 + data.length) = true →
        ∃ t, exec i s = .next t ∧ t.nv = s.nv ∧ t.dev.bays = s.dev.bays ∧ t.dev.tbl = s.dev.tbl ∧
          (t.dev.itk h.port).fq.exp = (t0.fq.exp + 1) % 65536 ∧
          (((t.dev.itk h.port).frames = [] ∧ ∃ acc late ahead gap, acc + late + ahead + gap = count ∧
              ∃ d : Dev, t.dev = d.feedComplete h op .ok (le 2 acc ++ le 2 late ++ le 2 ahead ++ le 2 gap)) ∨
            (∃ e : FeedEnt, (t.dev.itk h.port).frames = [e] ∧ e.hdr = h ∧ e.taken = true ∧ e.next < count)) ∧
          (count = 1 →
            (t0.courseRes (2 ≤ h.seat.val) raster offset = .restart ∨ t0.courseRes (2 ≤ h.seat.val) raster offset = .extend →
              (t.dev.itk h.port).slot raster = some ⟨raster, offset + pixels, none⟩ ∧ (t.dev.itk h.port).frames = [] ∧
              (∃ d : Dev, t.dev = d.feedComplete h op .ok (le 2 1 ++ le 2 0 ++ le 2 0 ++ le 2 0)) ∧
              t.dev.fsBytes (t0.slotAddr raster + fmtBits t0.geo.1 * offset / 8) ((fmtBits t0.geo.1 * pixels + 7) / 8) =
                le ((fmtBits t0.geo.1 * pixels + 7) / 8)
                  (ofLe (s.dev.fsBytes (t0.slotAddr raster + fmtBits t0.geo.1 * offset / 8) ((fmtBits t0.geo.1 * pixels + 7) / 8)) /
                    2 ^ (fmtBits t0.geo.1 * pixels) * 2 ^ (fmtBits t0.geo.1 * pixels) + stream % 2 ^ (fmtBits t0.geo.1 * pixels)) ∧
              ∀ a, (a < t0.slotAddr raster + fmtBits t0.geo.1 * offset / 8 ∨
                  t0.slotAddr raster + fmtBits t0.geo.1 * offset / 8 + (fmtBits t0.geo.1 * pixels + 7) / 8 ≤ a) → t.dev.fsByte a = s.dev.fsByte a) ∧
            (t0.courseRes (2 ≤ h.seat.val) raster offset ≠ .restart → t0.courseRes (2 ≤ h.seat.val) raster offset ≠ .extend →
              t.dev.fs = s.dev.fs ∧ (t.dev.itk h.port).slots = t0.slots) ∧
            (t0.courseRes (2 ≤ h.seat.val) raster offset = .late →
              (∃ d : Dev, t.dev = d.feedComplete h op .ok (le 2 0 ++ le 2 1 ++ le 2 0 ++ le 2 0)) ∧
              t.dev.fld .RI_STALECNT_STALE h.port = min (s.dev.fld .RI_STALECNT_STALE h.port + 1) (2 ^ Fld.RI_STALECNT_STALE.width - 1)) ∧
            (t0.courseRes (2 ≤ h.seat.val) raster offset = .ahead →
              (∃ d : Dev, t.dev = d.feedComplete h op .ok (le 2 0 ++ le 2 0 ++ le 2 1 ++ le 2 0)) ∧
              t.dev.fld .RI_CNT_AHEAD h.port = min (s.dev.fld .RI_CNT_AHEAD h.port + 1) (2 ^ Fld.RI_CNT_AHEAD.width - 1)) ∧
            (t0.courseRes (2 ≤ h.seat.val) raster offset = .gap →
              (∃ d : Dev, t.dev = d.feedComplete h op .ok (le 2 0 ++ le 2 0 ++ le 2 0 ++ le 2 1)) ∧
              t.dev.fld .RI_CNT_GAP h.port = min (s.dev.fld .RI_CNT_GAP h.port + 1) (2 ^ Fld.RI_CNT_GAP.width - 1)) ∧
            (t0.courseRes (2 ≤ h.seat.val) raster offset = .hold →
              ∃ e : FeedEnt, (t.dev.itk h.port).frames = [e] ∧ e.hdr = h ∧ e.taken = true ∧ e.next = 0))))

/-- FFLUSH empties slots, a held frame resumes, a full slot is stamped. An FFLUSH alone in its queue and in sequence, in the bay
modes, for a port of the seat's bay: of 8 bytes with the reserved field 0, it leaves exactly the slots whose raster lies before
its own, whether complete or not, and the frame store as it is, and its completion returns how many slots it emptied; otherwise it
is answered BAD_FRAME and empties none. A held feed frame that is resumed and can run to its end leaves the queue with its
completion, and stays at its head otherwise. The acknowledgement of a full slot stamps it with the time base and changes nothing
else. Cites R88, R95, R96, R99. -/
def Obligations.FeedFlushAndResume : Prop :=
  (∀ (h : FeedHdr) (raster len reserved : Nat) (s : State), s.dev.feedOpen h = true → s.dev.bayModes = true → s.dev.portBay h.port = some h.seat.val →
    (s.dev.itk h.port).frames = [] → seqDist (s.dev.itk h.port).fq h.seq = 0 →
    ∃ t, exec (.fflush h raster len reserved) s = .next t ∧ t.nv = s.nv ∧ t.dev.fs = s.dev.fs ∧ t.dev.tbl = s.dev.tbl ∧ t.dev.bays = s.dev.bays ∧
      s.dev.regsBut [] t.dev ∧ (t.dev.itk h.port).frames = [] ∧ (t.dev.itk h.port).u = (s.dev.itk h.port).u ∧
      (t.dev.itk h.port).fq.exp = ((s.dev.itk h.port).fq.exp + 1) % 65536 ∧
      (len = 8 → reserved = 0 → (t.dev.itk h.port).slots = ((s.dev.itk h.port).slots.filter fun x => match x.2 with | some y => before48 y.raster raster | none => true) ∧
        ∃ d : Dev, t.dev = d.feedComplete h 0x42 .ok (le 4 ((s.dev.itk h.port).slots.filter fun x => match x.2 with | some y => !before48 y.raster raster | none => false).length)) ∧
      (len ≠ 8 ∨ reserved ≠ 0 → (t.dev.itk h.port).slots = (s.dev.itk h.port).slots ∧ ∃ d : Dev, t.dev = d.feedComplete h 0x42 .badFrame [])) ∧
  (∀ (xx : Fin 32) (e : FeedEnt) (s : State), s.dev.bayModes = true → (s.dev.itk xx).frames = [e] → e.taken = true → e.hdr.port = xx →
    ∃ t, exec (.feedFrameResume xx) s = .next t ∧ t.nv = s.nv ∧
      (∀ e', (s.dev.feedExec e).2 = .held e' → (t.dev.itk xx).frames = [e'] ∧ t.dev.fs = (s.dev.feedExec e).1.fs) ∧
      (∀ st p, (s.dev.feedExec e).2 = .done st p → (t.dev.itk xx).frames = [] ∧ t.dev.fs = (s.dev.feedExec e).1.fs ∧
        ∃ d : Dev, t.dev = d.feedComplete e.hdr e.feed.opcode st p)) ∧
  (∀ (xx : Fin 32) (raster : Nat) (x : RSlot) (s : State), s.dev.running = true → s.dev.slotAwaits xx raster = true → (s.dev.itk xx).slot raster = some x →
    exec (.slotComplete xx raster) s =
      .next { s with dev := s.dev.setItk xx ((s.dev.itk xx).setSlot raster (some { x with stamp := some s.dev.tb })) })

/-- The patrol scrubber and DQS tracking. A scrubbed block in which no read is to be corrupted: without error it changes nothing;
a corrected error counts in RI_ECC.CE and signals FS_CE, an uncorrectable one counts in RI_ECC.UE, stays marked, signals FS_UE and
raises RI_ECC_UNCORR on the steward's E1, and RI_ECCALO and RI_ECCAHI hold the block's address with SCRUB 1. A read that PT_ECC
corrupts counts as its TWO says and uses one of its COUNT. No byte of the frame store changes. DQS tracking changes nothing. Cites
R82, R85, R86, R406. -/
def Obligations.FrameStoreUpkeep : Prop :=
  (∀ (channel : Fin 2) (s : State), exec (.dqsTracking channel) s = .next s) ∧
  (∀ (addr : Nat) (err : Option Bool) (s : State), s.dev.running = true → s.dev.on .RI_SCRUB_EN = true → addr < s.dev.cap → s.dev.fld .PT_ECC_COUNT = 0 →
    (((List.range 8).any fun i => s.dev.fsWordBad (addr / 64 * 64 / 8 + i)) = false → err = none →
      exec (.patrolScrub addr err) s = .next s) ∧
    (((List.range 8).any fun i => s.dev.fsWordBad (addr / 64 * 64 / 8 + i)) = false → err = some false →
      ∃ t, exec (.patrolScrub addr err) s = .next t ∧ t.nv = s.nv ∧ t.dev.fs = s.dev.fs ∧ t.dev.fsBad = s.dev.fsBad ∧
        t.dev.fld .RI_ECC_CE = min (s.dev.fld .RI_ECC_CE + 1) (2 ^ Fld.RI_ECC_CE.width - 1) ∧ t.dev.fld .RI_ECC_UE = s.dev.fld .RI_ECC_UE ∧
        t.dev.fld .RI_ECCALO_ADDR = addr / 64 * 64 % 2 ^ 32 ∧ t.dev.on .RI_ECCAHI_SCRUB = true ∧ t.dev.on .RI_ECCAHI_UE = false ∧
        (∃ g ∈ t.dev.fc.sigs, g.source = srcFsCe ∧ g.stamp = s.dev.tb) ∧
        s.dev.regsBut [RegName.off .RI_ECC 0 0, RegName.off .RI_ECCALO 0 0, RegName.off .RI_ECCAHI 0 0] t.dev) ∧
    (((List.range 8).any fun i => s.dev.fsWordBad (addr / 64 * 64 / 8 + i)) = true ∨ err = some true →
      ∃ t, exec (.patrolScrub addr err) s = .next t ∧ t.nv = s.nv ∧ t.dev.fs = s.dev.fs ∧
        (err = some true → t.dev.fsWordBad (addr / 8) = true) ∧ (∀ k, s.dev.fsWordBad k = true → t.dev.fsWordBad k = true) ∧
        t.dev.fld .RI_ECC_UE = min (s.dev.fld .RI_ECC_UE + 1) (2 ^ Fld.RI_ECC_UE.width - 1) ∧ t.dev.fld .RI_ECC_CE = s.dev.fld .RI_ECC_CE ∧
        t.dev.fld .RI_ECCALO_ADDR = addr / 64 * 64 % 2 ^ 32 ∧ t.dev.on .RI_ECCAHI_SCRUB = true ∧ t.dev.on .RI_ECCAHI_UE = true ∧
        (∃ g ∈ t.dev.fc.sigs, g.source = srcFsUe ∧ g.stamp = s.dev.tb) ∧
        (∃ d : Dev, t.dev = d.devEvent d.steward 1 0x0301 0xFF (d.reg .RI_ECCALO).toNat (d.reg .RI_ECCAHI).toNat) ∧
        s.dev.regsBut [RegName.off .RI_ECC 0 0, RegName.off .RI_ECCALO 0 0, RegName.off .RI_ECCAHI 0 0] t.dev)) ∧
  (∀ (addr : Nat) (s : State), s.dev.running = true → s.dev.on .RI_SCRUB_EN = true → addr < s.dev.cap →
    ((List.range 8).any fun i => s.dev.fsWordBad (addr / 64 * 64 / 8 + i)) = false → s.dev.fld .PT_ECC_COUNT ≠ 0 → s.dev.fld .PT_ECC_TARGET = 1 →
    addr / 64 * 64 / 2 ^ 28 = s.dev.fld .PT_ECC_ARG →
    ∃ t, exec (.patrolScrub addr none) s = .next t ∧ t.nv = s.nv ∧ t.dev.fs = s.dev.fs ∧ t.dev.fsBad = s.dev.fsBad ∧
      t.dev.fld .PT_ECC_COUNT = s.dev.fld .PT_ECC_COUNT - 1 ∧
      (s.dev.on .PT_ECC_TWO = true → t.dev.fld .RI_ECC_UE = min (s.dev.fld .RI_ECC_UE + 1) (2 ^ Fld.RI_ECC_UE.width - 1)) ∧
      (s.dev.on .PT_ECC_TWO = false → t.dev.fld .RI_ECC_CE = min (s.dev.fld .RI_ECC_CE + 1) (2 ^ Fld.RI_ECC_CE.width - 1)))

/-- A fetched descriptor advances its ring and its frame is executed. A descriptor of the command ring served next advances
HS_CQHEAD of that ring modulo its size, and its frame is then executed as it would be on the device with the ring advanced; the
same holds of the feed ring of a port that may be read. A frame of 16 bytes or more whose header names another queue is answered
BAD_FRAME; one with a good header, VERSION 1 and a command queue, which passes R48 and R49, executes as the command of its opcode
with the bytes after the header, where a NOP completes with OK; one with another VERSION is answered BAD_VERSION. Where no ring
may be read nothing changes but frames that no longer wait. Cites R47, R53, R59, R87, R88. -/
def Obligations.DescriptorsFetched : Prop :=
  (∀ (fn : Fin 2) (desc : Descriptor) (q : Fin 4) (s : State), s.dev.nextRing fn = some q →
    ∃ d, exec (.descriptorFetch fn none desc) s = .next { s with
        dev := (release (pcieFrame d s.nv (pcieSeat fn) (4 * fn.val + q.val) desc)).1,
        nv := (release (pcieFrame d s.nv (pcieSeat fn) (4 * fn.val + q.val) desc)).2 } ∧
      ((d.seat fn).cmdq q).head = (((s.dev.seat fn).cmdq q).head + 1) % 2 ^ s.dev.fld .HS_CQSIZE_LOG2 fn q ∧
      ((d.seat fn).cmdq q).exp = ((s.dev.seat fn).cmdq q).exp ∧ d.quiet = s.dev.quiet ∧ d.regs = s.dev.regs) ∧
  (∀ (fn : Fin 2) (xx : Fin 32) (desc : Descriptor) (s : State), s.dev.feedReady fn xx = true →
    ∃ d, exec (.descriptorFetch fn (some xx) desc) s = .next { s with
        dev := (release (pcieFrame d s.nv (pcieSeat fn) (32 + xx.val) desc)).1,
        nv := (release (pcieFrame d s.nv (pcieSeat fn) (32 + xx.val) desc)).2 } ∧
      (d.itk xx).fq.head = ((s.dev.itk xx).fq.head + 1) % 2 ^ s.dev.fld .RI_FQSIZE_LOG2 xx ∧ d.regs = s.dev.regs ∧ d.seats = s.dev.seats) ∧
  (∀ (k q : Fin 4) (desc : Descriptor) (h : CmdHdr) (d : Dev) (v : Nv), 16 ≤ desc.frame.length →
    h = ⟨.seat k, q, (parseHdr desc.frame).seq, (parseHdr desc.frame).flags / 2 % 2 == 1, (parseHdr desc.frame).flags / 4 % 2 == 1, desc.replyLen⟩ →
    ((parseHdr desc.frame).queue ≠ 4 * k.val + q.val →
      pcieFrame d v k (4 * k.val + q.val) desc = (d.completeAs h (parseHdr desc.frame).op .badFrame [], v)) ∧
    ((parseHdr desc.frame).queue = 4 * k.val + q.val → headerBad (parseHdr desc.frame) k.val (seatMaxLen k.val) (desc.frame.drop 16).length = false →
      ((parseHdr desc.frame).version ≠ 1 →
        pcieFrame d v k (4 * k.val + q.val) desc = (d.completeAs h (parseHdr desc.frame).op .badVersion [], v)) ∧
      ((parseHdr desc.frame).version = 1 →
        d.admits h (parseHdr desc.frame).op ((parseOffs (desc.frame.drop 16)).all glOffset) = true →
        pcieFrame d v k (4 * k.val + q.val) desc =
          execute (d.heard h (parseHdr desc.frame).op) v h (parseHdr desc.frame).op (desc.frame.drop 16) ∧
        ((parseHdr desc.frame).op = 0 → pcieFrame d v k (4 * k.val + q.val) desc = ((d.heard h 0).complete h 0 .ok [], v))))) ∧
  (∀ (fn : Fin 2) (desc : Descriptor) (s : State), s.dev.nextRing fn = none → s.dev.noneWithheld →
    exec (.descriptorFetch fn none desc) s = .next s)

/-- What an Ethernet port answers, drops and takes. At a port of an enabled, unfenced seat whose link is up, addressed to it or
broadcast: an ARP request for its address is answered, and so is an echo request to it of at most 1,472 bytes from an address it
accepts, with DF set; an ARP reply of the bound peer is taken; anything outside R44, a datagram with a bad checksum, options,
another port or another sender than the fixed or bound peer is dropped and counted in DROP, and changes nothing else; a datagram
whose trailer is wrong counts in CRC. An Ndoef frame with the right trailer, a good header and VERSION 1, whose queue does not
wait, is executed, after it has bound its sender where none was bound, and an ARP request for the new peer has then left; a
malformed one binds nobody and is answered. A frame to another address counts in DROP. Cites R44, R45, R47. -/
def Obligations.EthernetAnswers : Prop :=
  ∀ (p : Fin 2) (mac : Nat) (s : State), (s.dev.running = true ∨ s.dev.inLoad = true) → s.dev.on .HS_CTL_EN (ethSeat p) = true →
    (s.dev.seat (ethSeat p)).up = true → s.dev.seatFenced (ethSeat p) = false → s.dev.noneWithheld →
    ((mac = s.dev.macOf (ethSeat p) ∨ mac = macBroadcast) →
      (∀ sender, exec (.ethFrameReceived p mac (.arpRequest (s.dev.reg .HS_IPADDR (ethSeat p)) sender)) s =
        .next { s with dev := s.dev.emit (.arpReply (ethSeat p) sender) }) ∧
      (∀ target sender, target ≠ s.dev.reg .HS_IPADDR (ethSeat p) → exec (.ethFrameReceived p mac (.arpRequest target sender)) s =
        .next { s with dev := s.dev.bump .HS_ERRCNT_DROP (ethSeat p) 0 }) ∧
      (s.dev.on .HS_LINK_BOUND (ethSeat p) = true → exec (.ethFrameReceived p mac
        (.arpReply (s.dev.reg .HS_BOUNDIP (ethSeat p)) (s.dev.reg .HS_IPADDR (ethSeat p)))) s = .next s) ∧
      (∀ src data, data.length ≤ 1472 → s.dev.peerOk (ethSeat p) src = true →
        exec (.ethFrameReceived p mac (.icmpEcho src (s.dev.reg .HS_IPADDR (ethSeat p)) data)) s =
        .next { s with dev := s.dev.emit (.echoReply (ethSeat p) src data true) }) ∧
      (∀ src dst data, (1472 < data.length ∨ dst ≠ s.dev.reg .HS_IPADDR (ethSeat p) ∨ s.dev.peerOk (ethSeat p) src = false) →
        exec (.ethFrameReceived p mac (.icmpEcho src dst data)) s = .next { s with dev := s.dev.bump .HS_ERRCNT_DROP (ethSeat p) 0 }) ∧
      (exec (.ethFrameReceived p mac .other) s = .next { s with dev := s.dev.bump .HS_ERRCNT_DROP (ethSeat p) 0 }) ∧
      (∀ srcIp dstIp sp dp plain ok data,
        (plain = false ∨ ok = false ∨ dstIp ≠ s.dev.reg .HS_IPADDR (ethSeat p) ∨ dp ≠ s.dev.fld .HS_UDPPORT_PORT (ethSeat p) ∨
          s.dev.peerOk (ethSeat p) srcIp = false) →
        exec (.ethFrameReceived p mac (.udp srcIp dstIp sp dp plain ok data)) s = .next { s with dev := s.dev.bump .HS_ERRCNT_DROP (ethSeat p) 0 }) ∧
      (∀ srcIp sp data, s.dev.peerOk (ethSeat p) srcIp = true → data.length ≤ 8972 →
        (data.length < 4 ∨ ofLe (data.drop (data.length - 4)) ≠ (crc32 (data.take (data.length - 4))).toNat) →
        exec (.ethFrameReceived p mac (.udp srcIp (s.dev.reg .HS_IPADDR (ethSeat p)) sp (s.dev.fld .HS_UDPPORT_PORT (ethSeat p)) true true data)) s =
          .next { s with dev := s.dev.bump .HS_ERRCNT_CRC (ethSeat p) 0 }) ∧
      (∀ (srcIp : Word) (sp : Nat) (f data : List Byte), s.dev.peerOk (ethSeat p) srcIp = true → 16 ≤ f.length → data.length ≤ 8972 →
        data = f ++ le 4 (crc32 f).toNat →
        (headerBad (parseHdr f) (ethSeat p).val 8952 (f.length - 16) = false → (parseHdr f).version = 1 →
          s.dev.blockedAt (ethSeat p) (parseHdr f).queue = false →
          exec (.ethFrameReceived p mac (.udp srcIp (s.dev.reg .HS_IPADDR (ethSeat p)) sp (s.dev.fld .HS_UDPPORT_PORT (ethSeat p)) true true data)) s =
            .next { s with
              dev := (release (runFrame (s.dev.bindPeer (ethSeat p) srcIp sp) s.nv (ethSeat p) 0 f)).1,
              nv := (release (runFrame (s.dev.bindPeer (ethSeat p) srcIp sp) s.nv (ethSeat p) 0 f)).2 }) ∧
        (headerBad (parseHdr f) (ethSeat p).val 8952 (f.length - 16) = true →
          exec (.ethFrameReceived p mac (.udp srcIp (s.dev.reg .HS_IPADDR (ethSeat p)) sp (s.dev.fld .HS_UDPPORT_PORT (ethSeat p)) true true data)) s =
            .next { s with
              dev := (release (runFrame s.dev s.nv (ethSeat p) 0 f)).1, nv := (release (runFrame s.dev s.nv (ethSeat p) 0 f)).2 })) ∧
      (∀ (srcIp : Word) (sp : Nat), (s.dev.on .HS_LINK_BOUND (ethSeat p) = true → s.dev.bindPeer (ethSeat p) srcIp sp = s.dev) ∧
        (s.dev.on .HS_LINK_BOUND (ethSeat p) = false → sp < 65536 → (s.dev.bindPeer (ethSeat p) srcIp sp).on .HS_LINK_BOUND (ethSeat p) = true ∧
          (s.dev.bindPeer (ethSeat p) srcIp sp).reg .HS_BOUNDIP (ethSeat p) = srcIp ∧
          (s.dev.bindPeer (ethSeat p) srcIp sp).fld .HS_BOUNDPORT_PORT (ethSeat p) = sp ∧
          (s.dev.bindPeer (ethSeat p) srcIp sp).out.head? = some (.arpRequest (ethSeat p) srcIp)))) ∧
    (mac ≠ s.dev.macOf (ethSeat p) → mac ≠ macBroadcast → ∀ f, exec (.ethFrameReceived p mac f) s =
      .next { s with dev := s.dev.bump .HS_ERRCNT_DROP (ethSeat p) 0 })

/-- The header of a frame decodes to what was encoded. For every frame whose fields fit the header of R47, the header the device
reads from the frame's bytes is the frame's: MAGIC 0x4E44, VERSION 1, and its SEAT, QUEUE, FLAGS, SEQ, OPCODE and LENGTH, and the
bytes after the sixteenth are its payload. Cites R47. -/
def Obligations.FrameHeaderRead : Prop :=
  ∀ f : Frame, f.seat < 256 → f.queue < 256 → f.flags < 256 → f.seq < 65536 → f.opcode < 65536 → f.len < 2 ^ 32 →
    parseHdr f.bytes = ⟨0x4E44, 1, f.seat, f.queue, f.flags, f.seq, f.opcode, f.len⟩ ∧ f.bytes.drop 16 = f.payload ∧
    f.bytes.length = 16 + f.payload.length

/-- Quadrature, step/direction and Hall channels count, and Z latches. A change of the pins of a channel in a bay stores the
levels after INV in PS_STAT.RAW; an input whose level before the filter is the one to accept, and has been for FILT + 1 samples,
takes it in PS_STAT.IN, and the others keep theirs. An increment event counts in PS_POS, within the limits unless WRAP is 1, moves
the phase of the pacer of the bay by increment × ratio, reaches every emulation output of the channel, and on a fenced channel
does none of that. With no rise of Z: a quadrature channel counts by QMODE for a move to the next state of 00, 10, 11, 01 and back
for one to the previous one, and counts QERR and nothing else for a move of two; a step/direction channel counts one on a rising
step edge, up while the direction is high; a Hall channel counts +1 and −1 for the next and previous of 1, 3, 2, 6, 4, 5, +2 and
−2 with SKIP for the second next and previous, 0 with SKIP for the opposite, and nothing for 0 or 7, which set HALLBAD and signal
the collector. A channel in no bay only shows its levels, and outside the running device they are only noted. The filtered rising
edge of Z latches the count, and with ZMODE 2 loads PREVAL, and the increments of the same cycle add to it; with ZMODE 0 or on a
fenced channel it does neither. Beside the channels' status, counts, Z latches and error counters, only PC_PERIOD, PT_TRIGDLY,
EM_LOST, EM_STAT and what reporting changes may change. Cites R143, R146, R147, R148, R151, R152, R156, R159, R168. -/
def Obligations.EncoderCounts : Prop :=
  (∀ (n : Fin 8) (raw pins : Fin 8) (s : State), s.dev.running = true → (s.dev.psBay n).isSome = true →
    ∃ t, exec (.positionEdge n raw pins) s = .next t ∧ t.nv = s.nv ∧ t.pending = s.pending ∧ t.dev.tbl = s.dev.tbl ∧ t.dev.fs = s.dev.fs ∧
      t.dev.fld .PS_STAT_RAW n = Nat.xor raw (s.dev.fld .PS_CFG_INV n) ∧ s.dev.regsBut (((List.finRange 8).flatMap fun k => [RegName.off .PS_STAT k 0, RegName.off .PS_POS k 0, RegName.off .PS_ERRCNT k 0, RegName.off .PS_ZLAT k 0]) ++
      ((List.finRange 4).flatMap fun b => [RegName.off .PC_PERIOD b 0, RegName.off .PT_TRIGDLY b 0, RegName.off .EM_LOST b 0, RegName.off .EM_STAT b 0])) t.dev ∧
      (∀ k : Fin 3, t.dev.fbit .PS_STAT_IN n 0 k =
        (if Nat.testBit raw k = Nat.testBit pins k ∧ (if s.dev.fbit .PS_STAT_RAW n 0 k = t.dev.fbit .PS_STAT_RAW n 0 k
            then s.dev.filtered n k = true else s.dev.fld .PS_CFG_FILT n = 0)
          then t.dev.fbit .PS_STAT_RAW n 0 k else s.dev.fbit .PS_STAT_IN n 0 k)) ∧
      let kept : Prop := t.dev.fld .PS_POS_COUNT n = s.dev.fld .PS_POS_COUNT n
      let moved : Int → Prop := fun v => t.dev.fld .PS_POS_COUNT n = (if s.dev.psFenced n then s.dev.fld .PS_POS_COUNT n
          else enc 32 (if s.dev.on .PS_CFG_WRAP n then s.dev.sfld .PS_POS_COUNT n + v
            else clampInt (s.dev.sfld .PS_LIMLO_LIM n) (s.dev.sfld .PS_LIMHI_LIM n) (s.dev.sfld .PS_POS_COUNT n + v))) ∧
        (s.dev.psFenced n = false →
          (∀ b : Fin 4, s.dev.pacedBy n = some b.val → s.dev.fld .PC_CTL_SENSE b < 2 → (t.dev.pc b).p = (s.dev.pc b).p +
            (if s.dev.fld .PC_CTL_SENSE b = 1 then -v else v) * s.dev.pair .PC_RATLO_FRAC .PC_RATHI_INT b) ∧
          ∀ k : Fin 4, k.val ∈ s.dev.emulators n (s.dev.psBay n) → (t.dev.em k).k = ((s.dev.emulate k v).em k).k)
      (s.dev.fld .PS_CFG_TYPE n = 0 → (s.dev.fbit .PS_STAT_IN n 0 2 = true ∨ t.dev.fbit .PS_STAT_IN n 0 2 = false) →
        ∀ k : Fin 4, s.dev.fld .PS_STAT_IN n % 4 = [0, 1, 3, 2].getD k 0 →
        (t.dev.fld .PS_STAT_IN n % 4 = s.dev.fld .PS_STAT_IN n % 4 → kept) ∧
        (t.dev.fld .PS_STAT_IN n % 4 = [1, 3, 2, 0].getD k 0 →
          if s.dev.fld .PS_CFG_QMODE n = 0 then (if k.val = 0 then moved 1 else kept)
          else if s.dev.fld .PS_CFG_QMODE n = 1 then (if k.val % 2 = 0 then moved 1 else kept) else moved 1) ∧
        (t.dev.fld .PS_STAT_IN n % 4 = [2, 0, 1, 3].getD k 0 →
          if s.dev.fld .PS_CFG_QMODE n = 0 then (if k.val = 3 then moved (-1) else kept)
          else if s.dev.fld .PS_CFG_QMODE n = 1 then (if k.val % 2 = 1 then moved (-1) else kept) else moved (-1)) ∧
        (t.dev.fld .PS_STAT_IN n % 4 = [3, 2, 0, 1].getD k 0 → kept ∧
          t.dev.fld .PS_ERRCNT_QERR n = min (s.dev.fld .PS_ERRCNT_QERR n + 1) 255)) ∧
      (s.dev.fld .PS_CFG_TYPE n = 1 → (s.dev.fbit .PS_STAT_IN n 0 2 = true ∨ t.dev.fbit .PS_STAT_IN n 0 2 = false) →
        (s.dev.fbit .PS_STAT_IN n 0 0 = false → t.dev.fbit .PS_STAT_IN n 0 0 = true → if t.dev.fbit .PS_STAT_IN n 0 1 then moved 1 else moved (-1)) ∧
        (s.dev.fbit .PS_STAT_IN n 0 0 = true ∨ t.dev.fbit .PS_STAT_IN n 0 0 = false → kept)) ∧
      (s.dev.fld .PS_CFG_TYPE n = 2 → t.dev.fld .PS_STAT_IN n ≠ s.dev.fld .PS_STAT_IN n → ∀ k : Fin 6, (s.dev.psc n).hallLast = [1, 3, 2, 6, 4, 5].getD k 0 →
        (t.dev.fld .PS_STAT_IN n = [3, 2, 6, 4, 5, 1].getD k 0 → moved 1) ∧
        (t.dev.fld .PS_STAT_IN n = [5, 1, 3, 2, 6, 4].getD k 0 → moved (-1)) ∧
        (t.dev.fld .PS_STAT_IN n = [2, 6, 4, 5, 1, 3].getD k 0 → moved 2 ∧ t.dev.fld .PS_ERRCNT_SKIP n = min (s.dev.fld .PS_ERRCNT_SKIP n + 1) 255) ∧
        (t.dev.fld .PS_STAT_IN n = [4, 5, 1, 3, 2, 6].getD k 0 → moved (-2) ∧ t.dev.fld .PS_ERRCNT_SKIP n = min (s.dev.fld .PS_ERRCNT_SKIP n + 1) 255) ∧
        (t.dev.fld .PS_STAT_IN n = [6, 4, 5, 1, 3, 2].getD k 0 → kept ∧ t.dev.fld .PS_ERRCNT_SKIP n = min (s.dev.fld .PS_ERRCNT_SKIP n + 1) 255) ∧
        (t.dev.fld .PS_STAT_IN n = 0 ∨ t.dev.fld .PS_STAT_IN n = 7 → kept ∧ t.dev.on .PS_STAT_HALLBAD n = true ∧
          (t.dev.psc n).hallLast = (s.dev.psc n).hallLast ∧ ∃ g ∈ t.dev.fc.sigs, g.source = srcPsInput ∧ g.unit = n.val))) ∧
  (∀ (n : Fin 8) (raw pins : Fin 8) (s : State), s.dev.running = true → s.dev.psBay n = none →
    ∃ t, exec (.positionEdge n raw pins) s = .next t ∧ t.nv = s.nv ∧ t.pending = s.pending ∧ t.dev.out = s.dev.out ∧
      s.dev.regsBut [RegName.off .PS_STAT n 0] t.dev ∧ t.dev.fld .PS_STAT_IN n = Nat.xor pins (s.dev.fld .PS_CFG_INV n) ∧
      t.dev.fld .PS_STAT_RAW n = Nat.xor raw (s.dev.fld .PS_CFG_INV n) ∧ exec (.zEdge n) s = .next s) ∧
  (∀ (n : Fin 8) (raw pins : Fin 8) (s : State), s.dev.running = false →
    exec (.positionEdge n raw pins) s = .next { s with dev := s.dev.notePins n raw }) ∧
  (∀ (n : Fin 8) (s : State), s.dev.running = true → (s.dev.psBay n).isSome = true → s.dev.fld .PS_CFG_TYPE n < 2 →
    ∃ t, exec (.zEdge n) s = .next t ∧ t.nv = s.nv ∧ t.pending = s.pending ∧ t.dev.tbl = s.dev.tbl ∧ t.dev.fs = s.dev.fs ∧
      s.dev.regsBut [RegName.off .PS_STAT n 0, RegName.off .PS_POS n 0, RegName.off .PS_ZLAT n 0] t.dev ∧ t.dev.fbit .PS_STAT_IN n 0 2 = true ∧
      (s.dev.fld .PS_CFG_ZMODE n = 0 ∨ s.dev.psFenced n = true → t.dev.fld .PS_POS_COUNT n = s.dev.fld .PS_POS_COUNT n ∧
        t.dev.fld .PS_ZLAT_COUNT n = s.dev.fld .PS_ZLAT_COUNT n) ∧
      (s.dev.fld .PS_CFG_ZMODE n ≠ 0 → s.dev.psFenced n = false → t.dev.fld .PS_ZLAT_COUNT n = s.dev.fld .PS_POS_COUNT n ∧ t.dev.on .PS_STAT_ZSEEN n = true ∧
        (s.dev.fld .PS_CFG_ZMODE n = 2 → ((s.dev.psc n).cyc.1 ≠ s.dev.tb ∨ (s.dev.psc n).cyc.2 = 0) →
          t.dev.fld .PS_POS_COUNT n = enc 32 (if s.dev.on .PS_CFG_WRAP n then s.dev.sfld .PS_PREVAL_VAL n
            else clampInt (s.dev.sfld .PS_LIMLO_LIM n) (s.dev.sfld .PS_LIMHI_LIM n) (s.dev.sfld .PS_PREVAL_VAL n))) ∧
        (s.dev.fld .PS_CFG_ZMODE n = 2 → (s.dev.psc n).cyc.1 = s.dev.tb → s.dev.on .PS_CFG_WRAP n = true →
          t.dev.fld .PS_POS_COUNT n = enc 32 (s.dev.sfld .PS_PREVAL_VAL n + (s.dev.psc n).cyc.2)) ∧
        (s.dev.fld .PS_CFG_ZMODE n ≠ 2 → t.dev.fld .PS_POS_COUNT n = s.dev.fld .PS_POS_COUNT n)))

/-- Over-rate sub-windows, SSI frames, speed windows and stall watches of a channel. An over-rate sub-window that ends starts the
next 10 µs later and counts OVRATE when it was bad, and the hundredth bad one in a row sets CHATTER, raises PS_CHATTER and signals
the collector. A due SSI frame starts with the time base as its stamp and drives its clock; its decoded word on an unfenced
channel is an SSI error, counted and signalled, where the input was idle low or the step exceeds MAXSTEP, and the reference stays;
the first good word sets the reference and counts nothing, a later one counts the step. On a fenced channel the word only ends the
frame. A speed window that ends stores its sum in PS_SPEED and its end in PS_SPDTBLO and PS_SPDTBHI, the next starts from 0, and
PREWARN of the bay the channel paces follows 95 and 93 % of the maximum rate. A stall watch that runs out sets STALL, raises
PS_STALL where it was 0, signals the collector and is not due again until it restarts. Cites R145, R149, R150, R151, R154, R155,
R194. -/
def Obligations.ChannelWindows : Prop :=
  (∀ (n : Fin 8) (s : State), s.dev.running = true → (s.dev.psc n).subEnd ≤ s.dev.tb →
    ∃ t, exec (.overrateSubwindow n) s = .next t ∧ t.nv = s.nv ∧ t.pending = s.pending ∧ (t.dev.psc n).subEnd = (s.dev.psc n).subEnd + 2000 ∧
      (t.dev.psc n).subBad = false ∧ s.dev.regsBut [RegName.off .PS_ERRCNT n 0, RegName.off .PS_STAT n 0] t.dev ∧
      t.dev.fld .PS_ERRCNT_OVRATE n = (if (s.dev.psc n).subBad then min (s.dev.fld .PS_ERRCNT_OVRATE n + 1) 255 else s.dev.fld .PS_ERRCNT_OVRATE n) ∧
      ((s.dev.psc n).subBad = false → (t.dev.psc n).badRun = 0 ∧ t.dev.fld .PS_STAT_CHATTER n = s.dev.fld .PS_STAT_CHATTER n) ∧
      ((s.dev.psc n).subBad = true → (s.dev.psc n).badRun < 99 → (t.dev.psc n).badRun = (s.dev.psc n).badRun + 1 ∧
        t.dev.fld .PS_STAT_CHATTER n = s.dev.fld .PS_STAT_CHATTER n) ∧
      ((s.dev.psc n).subBad = true → (s.dev.psc n).badRun = 99 → t.dev.on .PS_STAT_CHATTER n = true ∧ (t.dev.psc n).badRun = 0 ∧
        (∃ g ∈ t.dev.fc.sigs, g.source = srcPsChatter ∧ g.unit = n.val ∧ g.stamp = s.dev.tb) ∧
        (s.dev.on .PS_STAT_CHATTER n = false → ∃ d : Dev, t.dev = (d.unitEvent (d.psBay n) 1 0x0600 n (d.fld .PS_POS_COUNT n)
          (d.fld .PS_ERRCNT_OVRATE n)).signal srcPsChatter n))) ∧
  (∀ (n : Fin 8) (idleLow : Bool) (s : State), s.dev.ssiDue n = true →
    ∃ t, exec (.ssiFrameStart n idleLow) s = .next t ∧ t.nv = s.nv ∧ t.dev.regs = s.dev.regs ∧ (t.dev.psc n).ssi = some (s.dev.tb, idleLow) ∧
      (t.dev.psc n).ssiNext = s.dev.tb + 20 * s.dev.fld .PS_SSIT_PERIOD n ∧ t.dev.ssiDue n = false ∧
      t.dev.out = .ssiClock n s.dev.tb (2 * (s.dev.fld .PS_SSI_CLKDIV n + 1)) (s.dev.fld .PS_SSI_BITS n) (s.dev.fld .PS_SSI_SDLY n) :: s.dev.out) ∧
  (∀ (n : Fin 8) (raw stamp w : Nat) (idle : Bool) (s : State), s.dev.running = true → s.dev.ssiEndDue n = true → (s.dev.psc n).ssi = some (stamp, idle) →
    w = (if s.dev.on .PS_SSI_GRAY n then grayDecode (s.dev.fld .PS_SSI_BITS n) (raw % 2 ^ s.dev.fld .PS_SSI_BITS n)
      else raw % 2 ^ s.dev.fld .PS_SSI_BITS n) →
    ∃ t, exec (.ssiWordDecoded n raw) s = .next t ∧ t.nv = s.nv ∧ (t.dev.psc n).ssi = none ∧ s.dev.regsBut (((List.finRange 8).flatMap fun k => [RegName.off .PS_STAT k 0, RegName.off .PS_POS k 0, RegName.off .PS_ERRCNT k 0, RegName.off .PS_ZLAT k 0]) ++
      ((List.finRange 4).flatMap fun b => [RegName.off .PC_PERIOD b 0, RegName.off .PT_TRIGDLY b 0, RegName.off .EM_LOST b 0, RegName.off .EM_STAT b 0])) t.dev ∧
      (s.dev.psFenced n = true → t.dev.regs = s.dev.regs ∧ (t.dev.psc n).ssiPrev = (s.dev.psc n).ssiPrev) ∧
      (s.dev.psFenced n = false → (s.dev.psc n).ssiPrev = none → idle = false → t.dev.regs = s.dev.regs ∧ (t.dev.psc n).ssiPrev = some w) ∧
      (s.dev.psFenced n = false → (s.dev.psc n).ssiPrev = none → idle = true → t.dev.on .PS_STAT_SSIERR n = true ∧ (t.dev.psc n).ssiPrev = none) ∧
      (∀ (prev : Nat) (v : Int), s.dev.psFenced n = false → (s.dev.psc n).ssiPrev = some prev →
        v = sgn (s.dev.fld .PS_SSI_BITS n) ((w + 2 ^ s.dev.fld .PS_SSI_BITS n - prev) % 2 ^ s.dev.fld .PS_SSI_BITS n) →
        (idle = true ∨ (s.dev.fld .PS_SSIT_MAXSTEP n : Int) < v ∨ v < -(s.dev.fld .PS_SSIT_MAXSTEP n : Int) →
          t.dev.on .PS_STAT_SSIERR n = true ∧ t.dev.fld .PS_ERRCNT_SSIERR n = min (s.dev.fld .PS_ERRCNT_SSIERR n + 1) 255 ∧
          (t.dev.psc n).ssiPrev = some prev ∧ t.dev.fld .PS_POS_COUNT n = s.dev.fld .PS_POS_COUNT n ∧
          ∃ g ∈ t.dev.fc.sigs, g.source = srcPsInput ∧ g.unit = n.val) ∧
        (idle = false → v ≤ s.dev.fld .PS_SSIT_MAXSTEP n → -(s.dev.fld .PS_SSIT_MAXSTEP n : Int) ≤ v →
          (t.dev.psc n).ssiPrev = some w ∧ (t.dev.psc n).stallFrom = s.dev.tb ∧
          t.dev.fld .PS_POS_COUNT n = enc 32 (if s.dev.on .PS_CFG_WRAP n then s.dev.sfld .PS_POS_COUNT n + v
            else clampInt (s.dev.sfld .PS_LIMLO_LIM n) (s.dev.sfld .PS_LIMHI_LIM n) (s.dev.sfld .PS_POS_COUNT n + v))))) ∧
  (∀ (n : Fin 8) (s : State), s.dev.running = true → (s.dev.psc n).spdEnd ≤ s.dev.tb →
    ∃ t, exec (.speedWindowEnd n) s = .next t ∧ t.nv = s.nv ∧ t.pending = s.pending ∧
      t.dev.fld .PS_SPEED_SUM n = enc 32 (s.dev.psc n).spdSum ∧ t.dev.pair .PS_SPDTBLO_TB .PS_SPDTBHI_TB n = (s.dev.psc n).spdEnd % 2 ^ 64 ∧
      (t.dev.psc n).spdSum = 0 ∧ (t.dev.psc n).spdEnd = (s.dev.psc n).spdEnd + s.dev.fld .PS_SPDWIN_WIN n * 2000 ∧
      t.dev.fld .PS_POS_COUNT n = s.dev.fld .PS_POS_COUNT n ∧
      (∀ b : Fin 4, t.dev.on .HP_BAYSTAT_PREWARN b =
        (if s.dev.bayModes = true ∧ s.dev.present b = true ∧ s.dev.fld .PC_CTL_CHAN b = n.val ∧ s.dev.psBay n = some b.val ∧ s.dev.on .HP_OSCTL_PWEN b = true then
          if (95 * s.dev.maxrate b + 99) / 100 ≤ t.dev.pcSpeed b then true
          else if t.dev.pcSpeed b < 93 * s.dev.maxrate b / 100 then false else s.dev.on .HP_BAYSTAT_PREWARN b
        else s.dev.on .HP_BAYSTAT_PREWARN b)) ∧
      s.dev.regsBut ([RegName.off .PS_SPEED n 0, RegName.off .PS_SPDTBLO n 0, RegName.off .PS_SPDTBHI n 0] ++
        (List.finRange 4).map fun b => RegName.off .HP_BAYSTAT b 0) t.dev) ∧
  (∀ (n : Fin 8) (s : State), s.dev.running = true → s.dev.stallDue n = true →
    ∃ t, exec (.stallTimeout n) s = .next t ∧ t.nv = s.nv ∧ t.pending = s.pending ∧ t.dev.on .PS_STAT_STALL n = true ∧
      (∃ g ∈ t.dev.fc.sigs, g.source = srcPsStall ∧ g.unit = n.val ∧ g.stamp = s.dev.tb) ∧ t.dev.stallDue n = false ∧
      t.dev.fld .PS_POS_COUNT n = s.dev.fld .PS_POS_COUNT n ∧
      (s.dev.on .PS_STAT_STALL n = false → ∃ d : Dev, t.dev = (d.unitEvent (s.dev.psBay n) 1 0x0601 n (s.dev.fld .PS_POS_COUNT n)
        (s.dev.fld .PS_STALL_TIMEOUT n)).signal srcPsStall n) ∧
      s.dev.regsBut [RegName.off .PS_STAT n 0] t.dev)

/-- Interpolated, generated and delayed triggers, and the rate count. A due generator issues a trigger stamped with its own
instant and is next due PERIOD cycles later; a due interpolated crossing issues one stamped with the cycle of the crossing and
moves the mark by one. With no PT_TRIGDLY set and none delayed for the bay, the trigger joins those that wait, takes a registered
stop, or that of nSTOPn while it is low, with it, gives PC_PERIOD the interval from the one before, and leaves every other bay as
it is; with a delay set it joins the delayed ones, behind the last of them, and a single delay ends. The oldest delayed trigger
issues with its delayed stamp. The rate update writes PC_RATE with the triggers of the last 10 ms, sets RI_BAYRATE.OVER when a
hundred times that many exceed MAXHZ, and enforces the throttle of a bay whose grace has run out while it prints faster than its
reduced rate. Cites R159, R162, R163, R168, R282, R405. -/
def Obligations.TriggersIssued : Prop :=
  (∀ (b : Fin 4) (x : Nat) (s : State), s.dev.bayModes = true → s.dev.genDue b = true → x = (s.dev.pc b).genNext →
    (s.dev.fld .PT_TRIGDLY_MODE b = 0 → (s.dev.pc b).delayed = [] →
      ∃ t, exec (.generatorTrigger b) s = .next t ∧ t.nv = s.nv ∧ t.pending = s.pending ∧
        (t.dev.pc b).trigs = (s.dev.pc b).trigs ++ [⟨x, (s.dev.pc b).stop.or (if s.dev.nstopLow b then some 1 else none)⟩] ∧ (t.dev.pc b).stop = none ∧
        (t.dev.pc b).genNext = x + s.dev.fld .PC_GEN_PERIOD b ∧ (t.dev.pc b).lastTrig = some x ∧ (∀ l, (s.dev.pc b).lastTrig = some l → t.dev.fld .PC_PERIOD_CYC b = min (x - l) 0xFFFFFF) ∧
        (∀ c : Fin 4, c ≠ b → t.dev.bay c = s.dev.bay c) ∧
        s.dev.regsBut ([RegName.off .PC_PERIOD b 0] ++ (List.finRange 4).flatMap fun k => [RegName.off .EM_LOST k 0, RegName.off .EM_STAT k 0]) t.dev) ∧
    ((s.dev.fld .PT_TRIGDLY_MODE b = 1 ∨ s.dev.fld .PT_TRIGDLY_MODE b = 2) → 0 < s.dev.fld .PT_TRIGDLY_CYC b →
      ∃ t, exec (.generatorTrigger b) s = .next t ∧ t.nv = s.nv ∧ t.pending = s.pending ∧ (t.dev.pc b).trigs = (s.dev.pc b).trigs ∧
        (t.dev.pc b).genNext = x + s.dev.fld .PC_GEN_PERIOD b ∧ (t.dev.pc b).stop = (s.dev.pc b).stop ∧
        (t.dev.pc b).delayed = (s.dev.pc b).delayed ++ [match (s.dev.pc b).delayed.getLast? with
          | some l => max (x + s.dev.fld .PT_TRIGDLY_CYC b) (l + 1)
          | none => x + s.dev.fld .PT_TRIGDLY_CYC b] ∧
        t.dev.fld .PT_TRIGDLY_MODE b = (if s.dev.fld .PT_TRIGDLY_MODE b = 2 then 0 else s.dev.fld .PT_TRIGDLY_MODE b))) ∧
  (∀ (b : Fin 4) (x : Nat) (s : State), s.dev.bayModes = true → s.dev.interpDue b = true → (s.dev.pc b).nextCross = some x →
    (s.dev.fld .PT_TRIGDLY_MODE b = 0 → (s.dev.pc b).delayed = [] →
      ∃ t, exec (.interpolatedTrigger b) s = .next t ∧ t.nv = s.nv ∧ t.pending = s.pending ∧
        (t.dev.pc b).trigs = (s.dev.pc b).trigs ++ [⟨x, (s.dev.pc b).stop.or (if s.dev.nstopLow b then some 1 else none)⟩] ∧ (t.dev.pc b).stop = none ∧
        (t.dev.pc b).m = (s.dev.pc b).m + 1 ∧ (t.dev.pc b).p = (s.dev.pc b).p ∧ (t.dev.pc b).lastTrig = some x ∧ (∀ l, (s.dev.pc b).lastTrig = some l → t.dev.fld .PC_PERIOD_CYC b = min (x - l) 0xFFFFFF) ∧
        (∀ c : Fin 4, c ≠ b → t.dev.bay c = s.dev.bay c) ∧
        s.dev.regsBut ([RegName.off .PC_PERIOD b 0] ++ (List.finRange 4).flatMap fun k => [RegName.off .EM_LOST k 0, RegName.off .EM_STAT k 0]) t.dev) ∧
    ((s.dev.fld .PT_TRIGDLY_MODE b = 1 ∨ s.dev.fld .PT_TRIGDLY_MODE b = 2) → 0 < s.dev.fld .PT_TRIGDLY_CYC b →
      ∃ t, exec (.interpolatedTrigger b) s = .next t ∧ t.nv = s.nv ∧ t.pending = s.pending ∧ (t.dev.pc b).trigs = (s.dev.pc b).trigs ∧
        (t.dev.pc b).m = (s.dev.pc b).m + 1 ∧ (t.dev.pc b).p = (s.dev.pc b).p ∧ (t.dev.pc b).stop = (s.dev.pc b).stop ∧
        (t.dev.pc b).delayed = (s.dev.pc b).delayed ++ [match (s.dev.pc b).delayed.getLast? with
          | some l => max (x + s.dev.fld .PT_TRIGDLY_CYC b) (l + 1)
          | none => x + s.dev.fld .PT_TRIGDLY_CYC b] ∧
        t.dev.fld .PT_TRIGDLY_MODE b = (if s.dev.fld .PT_TRIGDLY_MODE b = 2 then 0 else s.dev.fld .PT_TRIGDLY_MODE b))) ∧
  (∀ (b : Fin 4) (x : Nat) (rest : List Nat) (s : State), s.dev.bayModes = true → (s.dev.pc b).delayed = x :: rest → x ≤ s.dev.tb →
    ∃ t, exec (.delayedTriggerIssue b) s = .next t ∧ t.nv = s.nv ∧ t.pending = s.pending ∧ (t.dev.pc b).delayed = rest ∧
      (t.dev.pc b).trigs = (s.dev.pc b).trigs ++ [⟨x, (s.dev.pc b).stop.or (if s.dev.nstopLow b then some 1 else none)⟩] ∧ (t.dev.pc b).stop = none ∧
      (t.dev.pc b).lastTrig = some x ∧ (∀ l, (s.dev.pc b).lastTrig = some l → t.dev.fld .PC_PERIOD_CYC b = min (x - l) 0xFFFFFF) ∧
      (∀ c : Fin 4, c ≠ b → t.dev.bay c = s.dev.bay c) ∧
      s.dev.regsBut ([RegName.off .PC_PERIOD b 0] ++ (List.finRange 4).flatMap fun k => [RegName.off .EM_LOST k 0, RegName.off .EM_STAT k 0]) t.dev) ∧
  (∀ (b : Fin 4) (s : State), s.dev.running = true → s.dev.present b = true → (s.dev.pc b).rateNext ≤ s.dev.tb →
    ∃ t, exec (.pacerRateUpdate b) s = .next t ∧ t.nv = s.nv ∧ t.pending = s.pending ∧
      t.dev.fld .PC_RATE_CNT b = min 0xFFFF ((s.dev.pc b).recent.filter fun x => decide (s.dev.tb < x + ms 10)).length ∧
      t.dev.on .RI_BAYRATE_OVER b = (s.dev.on .RI_BAYRATE_OVER b ||
        decide (s.dev.fld .RI_BAYRATE_MAXHZ b < 100 * ((s.dev.pc b).recent.filter fun x => decide (s.dev.tb < x + ms 10)).length)) ∧
      (t.dev.pc b).rateNext = s.dev.tb + us 100 ∧
      (s.dev.fld .TM_BSTAT_STATE b = 0 → s.dev.thrPorts b = [] → s.dev.regsBut [RegName.off .PC_RATE b 0, RegName.off .RI_BAYRATE b 0] t.dev) ∧
      (∀ e, s.dev.fld .TM_BSTAT_STATE b = 1 → s.dev.thrPorts b ≠ [] → (s.dev.thro b).busy = none → (s.dev.thro b).graceEnd = some e → e ≤ s.dev.now →
        s.dev.bayModes = true → (s.dev.bay b).mode ≠ .standby → (s.dev.bay b).mode ≠ .hold →
        s.dev.fld .TM_TACT_RATE b < t.dev.fld .PC_RATE_CNT b * 100 → ∃ d : Dev, t.dev = d.thrEnforce b))

/-- A course trigger that is processed advances CC, fixes the mode and moves the raster. The oldest waiting trigger of a bay is
processed: CC advances by one modulo 2^48, that trigger leaves the queue, snapshots that wait for this course latch, and the work
of the next course starts. An ARMED host commit whose target is this course, and whose apply the trigger carries, applies: the
generation rises by one, its slot is free again, and the registers, the mode requested among them, are those of its pending set;
with none the generation stays. Unless an internal commit applies on the same boundary, without a stop the bay takes the mode that
KS_BAYCTL.MODE and its degrade mark then give, and in PRINT the raster number moves on by one when the last boundary saw the
course advance, and stays when it did not. A stop that falls on the boundary, unless STANDBY is requested, puts the bay in HOLD,
writes HOLD into KS_BAYCTL.MODE and clears the mark, and with HOLDPOL 0 for that course the raster number stays. Cites R19, R61,
R66, R76, R93, R316. -/
def Obligations.CourseProcessed : Prop :=
  ∀ (b : Fin 4) (x : Trig) (rest : List Trig) (applies : Bool) (a : Dev) (s : State), s.dev.bayModes = true → (s.dev.pc b).trigs = x :: rest →
    applies = ((s.dev.kset b).host.st == .armed && (s.dev.kset b).host.carried && (s.dev.kset b).host.target == add48 (s.dev.bay b).cc 1) →
    a = (if applies then s.dev.withFields (s.dev.kset b).pending else s.dev) →
    ∃ t, exec (.courseBoundary b) s = .next t ∧ t.nv = s.nv ∧ t.pending = s.pending ∧ t.dev.fs = s.dev.fs ∧
      (t.dev.bay b).cc = add48 (s.dev.bay b).cc 1 ∧ (t.dev.pc b).trigs = rest ∧
      (∃ d : Dev, t.dev = d.prepareCourse b (add48 (add48 (s.dev.bay b).cc 1) 1) x.stamp) ∧
      (∀ k : Fin 2, (s.dev.snap b k).taken = true → (s.dev.snap b k).pendingAt = some (add48 (s.dev.bay b).cc 1) →
        (t.dev.snap b k).pendingAt = none ∧ t.dev.on .KS_SNAPCCHI_VALID b k = true ∧ t.dev.on .KS_SNAPCCHI_NOW b k = false ∧
        t.dev.fld .KS_SNAPCCLO_CC b k = add48 (s.dev.bay b).cc 1 % 2 ^ 32) ∧
      (¬ ((s.dev.kset b).int.st = .armed ∧ (s.dev.kset b).int.carried = true ∧ (s.dev.kset b).int.target = add48 (s.dev.bay b).cc 1) →
        (t.dev.bay b).gen = (if applies then ((s.dev.bay b).gen + 1) % 2 ^ 32 else (s.dev.bay b).gen) ∧
        (applies = true → (t.dev.kset b).host = {} ∧ (t.dev.kset b).pending = []) ∧
        (x.hold = none → (t.dev.bay b).mode = planMode (a.reqMode b) (s.dev.bay b).mark ∧
          t.dev.fld .KS_BAYCTL_MODE b = a.fld .KS_BAYCTL_MODE b ∧
          (a.reqMode b = .print → (s.dev.bay b).adv = true → (t.dev.bay b).rn = add48 (s.dev.bay b).rn 1) ∧
          ((s.dev.bay b).adv = false ∨ a.reqMode b = .standby ∨ a.reqMode b = .prime → (t.dev.bay b).rn = (s.dev.bay b).rn)) ∧
        (∀ z, x.hold = some z → a.reqMode b ≠ .standby → (t.dev.bay b).mode = .hold ∧ (t.dev.bay b).mark = false ∧
          t.dev.fld .KS_BAYCTL_MODE b = 5 ∧
          ((s.dev.bay b).pol = false → (t.dev.bay b).rn = (s.dev.bay b).rn)))

/-- Compare matches, compare pulses, emulated counts and emulated pulses. A due compare match counts FIRED; its owned outputs in
the entry's mask toggle for width 0 and pulse for 2 × width cycles otherwise, the others stay; then the next entry is armed, at
its list value plus the lap's period, after LAST entry 0 of the next lap when CYCLIC, and otherwise the engine stops with DONE. A
pulse that ends leaves no register changed. A due quadrature count of an emulation output moves EM_POS, its backlog and its levels
by one in the direction of the backlog, along 00, 10, 11, 01; a step count with the direction already set raises A for MINIVL, and
one with another direction moves B alone. A step or Z pulse that has run out falls, and holds while EN is 0 or the source is
fenced; the backlog stays. Cites R166, R167, R168, R169. -/
def Obligations.CompareAndEmulation : Prop :=
  (∀ (e : Fin 8) (s : State), s.dev.cmpDue e = true →
    ∃ t, exec (.compareMatch e) s = .next t ∧ t.nv = s.nv ∧ t.pending = s.pending ∧ t.dev.tbl = s.dev.tbl ∧
      s.dev.regsBut [RegName.off .CP_CNT e 0, RegName.off .CP_STAT e 0] t.dev ∧
      t.dev.fld .CP_CNT_FIRED e = min (s.dev.fld .CP_CNT_FIRED e + 1) (2 ^ 32 - 1) ∧
      (∀ o : Fin 16, (s.dev.cp e).mask / 2 ^ o.val % 2 = 1 → s.dev.cmpBay o = s.dev.cpeBay e →
        if (s.dev.cp e).width = 0 then Store.get (fun _ => false) t.dev.cmpT o = !Store.get (fun _ => false) s.dev.cmpT o
        else Store.get (fun _ => none) (t.dev.cp e).pulses o = some (s.dev.tb + 2 * (s.dev.cp e).width)) ∧
      (∀ o : Fin 16, (s.dev.cp e).mask / 2 ^ o.val % 2 = 0 ∨ s.dev.cmpBay o ≠ s.dev.cpeBay e →
        Store.get (fun _ => false) t.dev.cmpT o = Store.get (fun _ => false) s.dev.cmpT o ∧
        Store.get (fun _ => none) (t.dev.cp e).pulses o = Store.get (fun _ => none) (s.dev.cp e).pulses o) ∧
      ((s.dev.cp e).idx ≠ s.dev.fld .CP_CTL_LAST e → (t.dev.cp e).run = true ∧ (t.dev.cp e).idx = (s.dev.cp e).idx + 1 ∧
        t.dev.fld .CP_STAT_PTR e = ((s.dev.cp e).idx + 1) % 1024 ∧
        (t.dev.cp e).target = enc 32 (sgn 32 (s.dev.tb32 (listAt e + 8 * ((s.dev.cp e).idx + 1))) + ((s.dev.cp e).lap : Int) * s.dev.sfld .CP_PERIOD_PERIOD e)) ∧
      ((s.dev.cp e).idx = s.dev.fld .CP_CTL_LAST e → s.dev.on .CP_CTL_CYCLIC e = true → (t.dev.cp e).run = true ∧ (t.dev.cp e).idx = 0 ∧
        (t.dev.cp e).lap = (s.dev.cp e).lap + 1) ∧
      ((s.dev.cp e).idx = s.dev.fld .CP_CTL_LAST e → s.dev.on .CP_CTL_CYCLIC e = false → (t.dev.cp e).run = false ∧
        t.dev.on .CP_STAT_RUN e = false ∧ t.dev.on .CP_STAT_DONE e = true)) ∧
  (∀ (e : Fin 8) (o : Fin 16) (s : State), s.dev.running = true → s.dev.pulseDue e o = true →
    ∃ t, exec (.comparePulseEnd e o) s = .next t ∧ t.nv = s.nv ∧ t.dev.regs = s.dev.regs ∧ t.dev.cmpT = s.dev.cmpT ∧
      Store.get (fun _ => none) (t.dev.cp e).pulses o = none ∧ (t.dev.cp e).run = (s.dev.cp e).run ∧
      ∀ f : Fin 8, f ≠ e → t.dev.cp f = s.dev.cp f) ∧
  (∀ (n : Fin 4) (up : Bool) (s : State), s.dev.emDue n = true → up = decide (0 < (s.dev.em n).k) →
    ∃ t, exec (.emulationEdge n) s = .next t ∧ t.nv = s.nv ∧ t.pending = s.pending ∧ s.dev.regsBut [RegName.off .EM_POS n 0] t.dev ∧
      (s.dev.on .EM_CFG_STEPDIR n = true → (s.dev.em n).lvB ≠ up → (t.dev.em n).lvB = up ∧ (t.dev.em n).k = (s.dev.em n).k ∧
        (t.dev.em n).lvA = (s.dev.em n).lvA ∧ t.dev.regs = s.dev.regs) ∧
      ((s.dev.on .EM_CFG_STEPDIR n = false ∨ (s.dev.em n).lvB = up) →
        (t.dev.em n).k = (if up then (s.dev.em n).k - 1 else (s.dev.em n).k + 1) ∧ (t.dev.em n).edgeAt = s.dev.tb ∧
        t.dev.fld .EM_POS_POS n = (if up then s.dev.fld .EM_POS_POS n + 1 else s.dev.fld .EM_POS_POS n + 2 ^ 32 - 1) % 2 ^ 32) ∧
      (s.dev.on .EM_CFG_STEPDIR n = true → (s.dev.em n).lvB = up → (t.dev.em n).lvA = true ∧
        (t.dev.em n).pulseEnd = some (s.dev.tb + s.dev.fld .EM_CFG_MINIVL n)) ∧
      (s.dev.on .EM_CFG_STEPDIR n = false → ∀ k : Fin 4,
        ((s.dev.em n).lvA, (s.dev.em n).lvB) = [(false, false), (true, false), (true, true), (false, true)].getD k (false, false) →
        ((t.dev.em n).lvA, (t.dev.em n).lvB) = (if up then [(true, false), (true, true), (false, true), (false, false)].getD k (false, false)
          else [(false, true), (false, false), (true, false), (true, true)].getD k (false, false)))) ∧
  (∀ (n : Fin 4) (s : State), s.dev.running = true → s.dev.on .EM_CFG_EN n = true → s.dev.emFenced n = false →
    (∀ x, (s.dev.em n).pulseEnd = some x → x ≤ s.dev.tb →
      ∃ t, exec (.emulationPulseEnd n) s = .next t ∧ t.nv = s.nv ∧ t.dev.regs = s.dev.regs ∧ (t.dev.em n).pulseEnd = none ∧
        (t.dev.em n).lvA = false ∧ (t.dev.em n).edgeAt = s.dev.tb ∧ (t.dev.em n).k = (s.dev.em n).k) ∧
    (∀ x, (s.dev.em n).zEnd = some x → x ≤ s.dev.tb →
      ∃ t, exec (.emulationPulseEnd n) s = .next t ∧ t.nv = s.nv ∧ t.dev.regs = s.dev.regs ∧ (t.dev.em n).zEnd = none ∧
        (t.dev.em n).lvZ = false ∧ (t.dev.em n).lvB = (s.dev.em n).lvB ∧ (t.dev.em n).k = (s.dev.em n).k)) ∧
  (∀ (n : Fin 4) (s : State), s.dev.on .EM_CFG_EN n = false ∨ s.dev.emFenced n = true → exec (.emulationPulseEnd n) s = .next s)

/-- Codes loaded, latched and counted, and the configuration block that falls due. The load of a course that has ended is sent and
its end noted at the frame boundary reached. A due latch whose load ended in time fires the course's codes; one that did not
blanks the course, takes it off the queue, changes at most the counters HP_CNT, SN_CNT and SC_CNT of the port, and the second in a
row signals the collector. At the trailing edge the course leaves the queue, the counter of each nozzle whose code is not 0 counts
one, up to 2^48 − 1, and the counters of other nozzles and ports stay; with no injected error the sample frames of its plays
start, and on a fenced or held port the course prints blank instead. A repeat of the configuration block that falls due is noted
and waits for a trailing edge. Cites R179, R180, R183, R189, R190, R192, R291, R375. -/
def Obligations.HeadsFire : Prop :=
  (∀ (xx : Fin 32) (j : Job) (r : List Job) (s : State), s.dev.loadDue xx = true → (s.dev.hp xx).jobs = j :: r →
    ∃ t, exec (.codeLoad xx) s = .next t ∧ t.nv = s.nv ∧ t.dev.regs = s.dev.regs ∧ t.dev.tbl = s.dev.tbl ∧
      (t.dev.hp xx).jobs = { j with lend := some (frameBefore (s.dev.hp xx).grid j.tf s.dev.nowPs) } :: r ∧
      t.dev.out = .codeLoad xx j.course j.frames (frameBefore (s.dev.hp xx).grid j.tf s.dev.nowPs) j.lanes :: s.dev.out ∧
      ∀ y : Fin 32, y ≠ xx → t.dev.hp y = s.dev.hp y) ∧
  (∀ (xx : Fin 32) (j : Job) (p : LatchP) (r : List Job) (s : State), s.dev.latchDue xx = true → (s.dev.hp xx).jobs = j :: r → j.latch = some p →
    ∃ t, exec (.latch xx) s = .next t ∧ t.nv = s.nv ∧ t.dev.tbl = s.dev.tbl ∧ (∀ y : Fin 32, y ≠ xx → t.dev.hp y = s.dev.hp y) ∧
      (j.inTime p = true → t.dev.out = .latch xx j.course j.codes p.lead p.trail p.high :: s.dev.out ∧ (t.dev.hp xx).jobs = { j with led := true } :: r ∧
        (t.dev.hp xx).last = some (p.nom + p.defer) ∧ t.dev.regs = s.dev.regs) ∧
      (j.inTime p = false → t.dev.out = s.dev.out ∧ (t.dev.hp xx).jobs.length = r.length ∧ (t.dev.hp xx).late = true ∧
        t.dev.fld .HP_CNT_BLANK xx = (if j.codes.all (· == 0) then s.dev.fld .HP_CNT_BLANK xx else min (s.dev.fld .HP_CNT_BLANK xx + 1) 65535) ∧
        ((s.dev.hp xx).late = true → ∃ g ∈ t.dev.fc.sigs, g.source = srcScOverrun ∧ g.unit = xx.val ∧ g.stamp = s.dev.tb) ∧
        s.dev.regsBut [RegName.off .HP_CNT xx 0, RegName.off .SN_CNT xx 0, RegName.off .SC_CNT xx 0] t.dev)) ∧
  (∀ (xx : Fin 32) (j : Job) (p : LatchP) (r : List Job) (s : State), s.dev.trailDue xx = true → (s.dev.hp xx).jobs = j :: r → j.latch = some p →
    ∃ t, exec (.latchTrailingEdge xx) s = .next t ∧ t.nv = s.nv ∧ t.dev.tbl = s.dev.tbl ∧ (t.dev.hp xx).jobs.length = r.length ∧
      (∀ (y : Fin 32) (n : Fin 4096), y ≠ xx → t.dev.wearCnt y n = s.dev.wearCnt y n) ∧
      (s.dev.fld .PT_ECC_COUNT = 0 → j.codes.length ≤ 4096 →
        (∀ n : Fin 4096, t.dev.wearCnt xx n = (if j.codes.getD n 0 = 0 then s.dev.wearCnt xx n
          else if s.dev.wearCnt xx n + 1 < 2 ^ 48 then s.dev.wearCnt xx n + 1 else s.dev.wearCnt xx n)) ∧
        (s.dev.hpFenced xx = false → s.dev.thermalHold xx = false →
          .play xx j.course (p.slot0 (s.dev.hp xx).grid) (p.ts / p.tf) (s.dev.playFrames xx j.course p)
            (wvPolarity p.wvInv (sampleFrame false false 0 0 p.restA p.restB)) ∈ t.dev.out) ∧
        (s.dev.hpFenced xx = true ∨ s.dev.thermalHold xx = true → t.dev.fld .HP_CNT_BLANK xx =
          (if j.codes.all (· == 0) then s.dev.fld .HP_CNT_BLANK xx else min (s.dev.fld .HP_CNT_BLANK xx + 1) 65535)))) ∧
  (∀ (xx : Fin 32) (s : State), s.dev.cfgRepeatDue xx = true →
    ∃ t, exec (.configRepeatDue xx) s = .next t ∧ t.nv = s.nv ∧ t.dev.regs = s.dev.regs ∧ t.dev.out = s.dev.out ∧
      (t.dev.hp xx).cfgDue = true ∧ (t.dev.hp xx).jobs = (s.dev.hp xx).jobs ∧ t.dev.cfgRepeatDue xx = false)

/-- The ends of the settle time, of a power-down step and of an island wake. When the settle time has passed the lane clock
starts, rest frames run, READY reads 1, the frame grid starts anew, and a loopback that does not match signals the link source of
the port. The first power-down step lowers PEN and READY and raises HP_POWER, the second puts the link pins in the unused-port
state and ends the power-down. An island whose wake time has passed is on, its bit in GL_ISLAND set, and a port of its cluster
that waited for it and still may has PEN raised. Cites R32, R196, R197, R200, R291. -/
def Obligations.HeadPowerSteps : Prop :=
  (∀ (xx : Fin 32) (loopback : Bool) (s : State), s.dev.settleDue xx = true →
    ∃ t, exec (.headSettleDone xx loopback) s = .next t ∧ t.nv = s.nv ∧ t.dev.tbl = s.dev.tbl ∧ t.dev.on .HP_PWR_READY xx = true ∧
      t.dev.on .HP_PWR_PEN xx = s.dev.on .HP_PWR_PEN xx ∧ (t.dev.hp xx).settleAt = none ∧ (t.dev.hp xx).grid = s.dev.nowPs ∧
      (loopback = true → t.dev.fc.sigs = s.dev.fc.sigs) ∧ (∃ mhz inverted, .laneClock xx mhz inverted ∈ t.dev.out) ∧
      (∃ at_ fr, .rest xx at_ fr ∈ t.dev.out) ∧
      (loopback = false → ∃ g ∈ t.dev.fc.sigs, g.source = srcHpLink ∧ g.unit = xx.val ∧ g.stamp = s.dev.tb) ∧
      s.dev.regsBut [RegName.off .HP_PWR xx 0, RegName.off .HP_CNT xx 0] t.dev ∧ (∀ y : Fin 32, y ≠ xx → t.dev.hp y = s.dev.hp y)) ∧
  (∀ (xx : Fin 32) (x cause : Nat) (s : State), (s.dev.hp xx).downAt = some (1, x, cause) → x ≤ s.dev.now →
    ∃ t, exec (.headPowerDownTimer xx) s = .next t ∧ t.nv = s.nv ∧ t.dev.tbl = s.dev.tbl ∧ t.dev.on .HP_PWR_PEN xx = false ∧
      t.dev.on .HP_PWR_READY xx = false ∧ (t.dev.hp xx).downAt = some (2, s.dev.now + us 10, cause) ∧
      (∃ d : Dev, t.dev = d.unitEvent (s.dev.portBay xx) 1 0x0A02 xx 0 cause) ∧
      s.dev.regsBut [RegName.off .HP_PWR xx 0] t.dev ∧ (∀ y : Fin 32, y ≠ xx → t.dev.hp y = s.dev.hp y)) ∧
  (∀ (xx : Fin 32) (x cause : Nat) (s : State), (s.dev.hp xx).downAt = some (2, x, cause) → x ≤ s.dev.now → s.dev.penWant xx = false →
    s.dev.on .HP_PWR_PEN xx = false →
    ∃ t, exec (.headPowerDownTimer xx) s = .next t ∧ t.nv = s.nv ∧ t.dev.tbl = s.dev.tbl ∧ (t.dev.hp xx).downAt = none ∧
      (t.dev.hp xx).penWait = none ∧ .linkOff xx ∈ t.dev.out ∧ s.dev.regsBut [RegName.off .GL_ISLAND 0 0] t.dev ∧ (∀ y : Fin 32, y ≠ xx → t.dev.hp y = s.dev.hp y)) ∧
  (∀ (i : Fin 13) (x : Nat) (s : State), s.dev.wakeAt i = some x → x ≤ s.dev.now →
    ∃ t, exec (.islandWakeComplete i) s = .next t ∧ t.nv = s.nv ∧ t.dev.tbl = s.dev.tbl ∧ t.dev.islandOn i = true ∧ t.dev.wakeAt i = none ∧ (∀ cam : Fin 4, i.val = 4 + cam.val → (t.dev.cam cam).woke = true) ∧
      (∀ k : Fin 13, k ≠ i → t.dev.islandOn k = s.dev.islandOn k) ∧
      s.dev.regsBut (RegName.off .GL_ISLAND 0 0 :: (List.finRange 32).map fun xx => RegName.off .HP_PWR xx 0) t.dev ∧
      (∀ xx : Fin 32, cluster xx ≠ i.val → t.dev.hp xx = s.dev.hp xx ∧ t.dev.on .HP_PWR_PEN xx = s.dev.on .HP_PWR_PEN xx) ∧
      (∀ (xx : Fin 32) (cause : Nat), cluster xx = i.val → (s.dev.hp xx).penWait = some cause → s.dev.penWant xx = true →
        s.dev.fld .TR_STAT_STATE xx ≠ 1 → t.dev.on .HP_PWR_PEN xx = true ∧ (t.dev.hp xx).penAt = some s.dev.now ∧ (t.dev.hp xx).penWait = none))

/-- A capture that is discarded, one that is classified and merged, and the aging pass. A capture ends with its 256 samples in the
capture buffer. With more than 8 codes at 0 or 4,095 it is discarded and counted in ABORT, the sixteenth in a row signals the
collector, and the map stays. Otherwise, with no injected error and outside learning, it is counted and recorded in SN_LAST with
its class, one with a1 below OPENA or fewer than three crossings as OPEN; with a class the entry of its nozzle takes the state and
confidence of R214 with age 0 and the stamp of its course, unless it is DECLARED, and no other entry changes: a SOUND entry whose
confidence is below FAILSTEP then reads the class, confidence 0; in learning it joins the captures of its nozzle. The aging pass
writes the AGE that the stamp gives and leaves STATE and CONF; AGE 7 stays. Cites R209, R210, R211, R213, R214, R215, R226. -/
def Obligations.SoundingAndAging : Prop :=
  (∀ (xx : Fin 32) (c : Capture) (samples : List Nat) (q : Features) (s : State), (s.dev.sn xx).capt = some c → c.endPs ≤ s.dev.nowPs → samples.length = 256 →
    (∀ v ∈ samples, v < 4096) → c.nozzle < 4096 →
    q = features ((s.dev.asSounded c.regs).fld .SN_THR1_ZHYS xx) (samples.map fun v => (v : Int) - 2048) →
    (8 < (samples.filter fun v => v == 0 || v == 4095).length →
      ∃ t, exec (.soundingCaptureDone xx samples) s = .next t ∧ t.nv = s.nv ∧ t.pending = s.pending ∧ (t.dev.sn xx).capt = none ∧
        t.dev.fld .SN_CNT_ABORT xx = min (s.dev.fld .SN_CNT_ABORT xx + 1) 15 ∧ s.dev.regsBut [RegName.off .SN_CNT xx 0] t.dev ∧
        (∀ i : Fin 256, t.dev.tb16 (captAt xx + 2 * i.val) = enc 16 (samples.getD i.val 0 - 2048)) ∧
        (∀ a, (a < captAt xx ∨ captAt xx + 512 ≤ a) → t.dev.tb8 a = s.dev.tb8 a) ∧
        ((s.dev.sn xx).aborts = 15 → ∃ g ∈ t.dev.fc.sigs, g.source = srcSnSense ∧ g.unit = xx.val ∧ g.stamp = s.dev.tb)) ∧
    ((samples.filter fun v => v == 0 || v == 4095).length ≤ 8 → c.learning = false → s.dev.fld .PT_ECC_COUNT = 0 →
      ∃ t, exec (.soundingCaptureDone xx samples) s = .next t ∧ t.nv = s.nv ∧ t.pending = s.pending ∧ (t.dev.sn xx).capt = none ∧ (t.dev.sn xx).aborts = 0 ∧
        t.dev.fld .SN_CNT_SOUNDED xx = min (s.dev.fld .SN_CNT_SOUNDED xx + 1) 65535 ∧ t.dev.fld .SN_LAST0_NOZ xx = c.nozzle ∧
        t.dev.fld .SN_LAST0_RES xx = s.dev.classify (s.dev.asSounded c.regs) xx c.nozzle q ∧
        ((s.dev.asSounded c.regs).openCond xx q = true → t.dev.fld .SN_LAST0_RES xx = 4) ∧
        (∀ i : Fin 256, t.dev.tb16 (captAt xx + 2 * i.val) = enc 16 (samples.getD i.val 0 - 2048)) ∧
        (∀ m : Fin 4096, m.val ≠ c.nozzle → t.dev.tb8 (mapAt xx + m.val) = s.dev.tb8 (mapAt xx + m.val)) ∧
        (t.dev.fld .SN_LAST0_RES xx ≠ 7 → t.dev.tb16 (stampAt xx + 2 * c.nozzle) = c.course / 256 % 65536) ∧
        (t.dev.fld .SN_LAST0_RES xx = 7 ∨ s.dev.hmState xx c.nozzle = stDeclared →
          t.dev.tb8 (mapAt xx + c.nozzle) = s.dev.tb8 (mapAt xx + c.nozzle)) ∧
        (t.dev.fld .SN_LAST0_RES xx ≠ 7 → s.dev.hmState xx c.nozzle ≠ stDeclared → t.dev.hmAge xx c.nozzle = 0 ∧
          (t.dev.hmState xx c.nozzle, t.dev.hmConf xx c.nozzle) =
            (if t.dev.fld .SN_LAST0_RES xx = stSound ∧ s.dev.hmState xx c.nozzle = stUnknown then
              (if s.dev.hmConf xx c.nozzle = 3 then (stSound, 3) else (stUnknown, s.dev.hmConf xx c.nozzle + 1))
            else if t.dev.fld .SN_LAST0_RES xx = s.dev.hmState xx c.nozzle then
              (s.dev.hmState xx c.nozzle, min (s.dev.hmConf xx c.nozzle + 1) 3)
            else if (if usableState (s.dev.hmState xx c.nozzle) then s.dev.fld .HM_CFG_FAILSTEP xx else 1) ≤ s.dev.hmConf xx c.nozzle then
              (s.dev.hmState xx c.nozzle, s.dev.hmConf xx c.nozzle -
                (if usableState (s.dev.hmState xx c.nozzle) then s.dev.fld .HM_CFG_FAILSTEP xx else 1))
            else (t.dev.fld .SN_LAST0_RES xx, 0))) ∧
        ((s.dev.asSounded c.regs).openCond xx q = true → s.dev.hmState xx c.nozzle = 0 → s.dev.hmConf xx c.nozzle < s.dev.fld .HM_CFG_FAILSTEP xx →
          t.dev.tb8 (mapAt xx + c.nozzle) = 4 ∧ t.dev.usable xx c.nozzle = false ∧
          t.dev.fld .HM_CNT_DOWN xx = min (s.dev.fld .HM_CNT_DOWN xx + 1) 65535)) ∧
    (∀ l, (samples.filter fun v => v == 0 || v == 4095).length ≤ 8 → c.learning = true → (s.dev.sn xx).learn = some l → l.noz = c.nozzle →
      l.got.length + 1 < 2 ^ s.dev.fld .SN_LEARN_LN xx →
      ∃ t, exec (.soundingCaptureDone xx samples) s = .next t ∧ t.nv = s.nv ∧ t.pending = s.pending ∧ (t.dev.sn xx).capt = none ∧
        (t.dev.sn xx).learn = some { l with got := (q.f, q.a1, q.r) :: l.got, opn := l.opn || (s.dev.asSounded c.regs).openCond xx q })) ∧
  (∀ (xx : Fin 32) (n : Fin 4096) (s : State), s.dev.running = true →
    (∃ t, exec (.agingPass xx n) s = .next t ∧ t.nv = s.nv ∧ t.dev.fs = s.dev.fs) ∧
    (s.dev.fld .PT_ECC_COUNT = 0 → s.dev.hmAge xx n = 7 → exec (.agingPass xx n) s = .next s) ∧
    (∀ b : Fin 4, s.dev.fld .PT_ECC_COUNT = 0 → s.dev.hmAge xx n ≠ 7 → s.dev.portBay xx = some b.val →
      ∃ t, exec (.agingPass xx n) s = .next t ∧ t.nv = s.nv ∧ t.dev.regs = s.dev.regs ∧ t.dev.hmState xx n = s.dev.hmState xx n ∧
        t.dev.hmConf xx n = s.dev.hmConf xx n ∧
        t.dev.hmAge xx n = ageOf (((s.dev.bay b).cc / 256 % 65536 + 65536 - s.dev.tb16 (stampAt xx + 2 * n.val)) % 65536 * 256) ∧
        ∀ a, a ≠ mapAt xx + n.val → t.dev.tb8 a = s.dev.tb8 a))

/-- Frame starts, rows, frame ends and frame timeouts of a camera port. At a live camera port: a packet of another virtual channel
only counts DT. A Frame Start with a frame open closes it as SHORT and PARTIAL first; then it opens a frame with the next number
and the sensor's, tagged in MODE 0 with the bay's course and in the others with that of the last trigger pulse, with NOTRIG where
no pulse came and PERT under a perturbation, and starts a pending write sequence of the sensor. A row of the open frame with the
right length and CRC is kept, cut to the width and depth of the frame; one with a bad length counts WC, with a bad CRC CRC, is
flagged BADROW and repeats the row before; one that does not fit the FIFO is discarded, flags OVF and PARTIAL and signals the
collector; a row beyond ROWS is discarded. A header with an error counts HDR and flags BADROW. A frame that ends with its declared
rows closes with no flag of its own, with fewer SHORT and PARTIAL, with more LONG; a frame whose time has run out closes SHORT and
PARTIAL; beside that it has the flags it had, UNSURE where its sensor set is not known, and PERT under a perturbation; each is
counted, shown in CM_FRAME, and taken by the armed nozzle-check jobs it is new enough for. Cites R232, R233, R234, R235, R236,
R239, R246, R259. -/
def Obligations.FramesReceived : Prop :=
  (∀ (n vc : Fin 4) (sfn : Nat) (s : State), s.dev.camLive n = true → vc.val ≠ s.dev.fld .CM_CFG_VC n →
    exec (.frameStart n vc sfn) s = .next { s with dev := s.dev.bump .CM_ERRCNT_DT n 0 } ∧
    exec (.frameEnd n vc) s = .next { s with dev := s.dev.bump .CM_ERRCNT_DT n 0 } ∧
    ∀ dt wc crcOk px, exec (.rowPacket n vc dt false wc crcOk px) s = .next { s with dev := s.dev.bump .CM_ERRCNT_DT n 0 }) ∧
  (∀ (n vc : Fin 4) (sfn : Nat) (f : CamFrame) (s : State), s.dev.camLive n = true → vc.val = s.dev.fld .CM_CFG_VC n →
    (s.dev.cam n).openFrame = some f →
    (∀ g ∈ (s.dev.cam n).frames, g.closed = false → g.fn = f.fn) →
    exec (.frameStart n vc sfn) s = exec (.frameStart n vc sfn) { s with dev := s.dev.closeFrame n [0, 6] } ∧
    (∀ g ∈ ((s.dev.closeFrame n [0, 6]).cam n).frames, g.fn = f.fn → g.closed = true)) ∧
  (∀ (n vc : Fin 4) (b : Fin 4) (sfn : Nat) (s : State), s.dev.camLive n = true → vc.val = s.dev.fld .CM_CFG_VC n → (s.dev.cam n).openFrame = none →
    s.dev.camBay n = some b.val → (∀ g ∈ (s.dev.cam n).frames, g.fn ≠ (s.dev.cam n).next) →
    ∃ t g, exec (.frameStart n vc sfn) s = .next t ∧ t.nv = s.nv ∧ t.pending = s.pending ∧ s.dev.regsBut [RegName.off .CM_STAT n 0] t.dev ∧ t.dev.tbl = s.dev.tbl ∧
      (t.dev.cam n).frames = (s.dev.cam n).frames ++ [g] ∧ (t.dev.cam n).next = ((s.dev.cam n).next + 1) % 65536 ∧
      g.fn = (s.dev.cam n).next ∧ g.sensorFn = sfn % 65536 ∧ g.tbFs = s.dev.tb ∧ g.closed = false ∧ g.rows = [] ∧
      (s.dev.fld .CM_TRIG_MODE n = 0 → g.tag = (s.dev.bay b).cc ∧ (t.dev.cam n).watch = some s.dev.now) ∧
      (∀ cc, s.dev.fld .CM_TRIG_MODE n ≠ 0 → (s.dev.cam n).pulseTag = some cc → g.tag = cc) ∧
      g.flags = (if s.dev.fld .CM_TRIG_MODE n ≠ 0 ∧ (s.dev.cam n).pulsed = false then 32 else 0) + (if s.dev.ptActive ≠ 0 then 128 else 0) ∧
      ((s.dev.cam n).want = true → (s.dev.cam n).seqRun = false → s.dev.sensorSeq n ≠ [] → (t.dev.cam n).want = false ∧ (t.dev.cam n).seqRun = true ∧
        ((s.dev.cam n).txn = none → ∀ x r, s.dev.sensorSeq n = x :: r → (t.dev.cam n).txn = some x ∧ (t.dev.cam n).seq = r)) ∧
      (∀ m : Fin 4, m ≠ n → t.dev.cam m = s.dev.cam m)) ∧
  (∀ (n vc : Fin 4) (wc : Nat) (f : CamFrame) (crcOk good : Bool) (px : List Nat) (s : State), s.dev.camLive n = true → vc.val = s.dev.fld .CM_CFG_VC n →
    (s.dev.cam n).frames = [f] → f.closed = false → good = (wc == s.dev.rowBytes n && crcOk) →
    ∃ t g, exec (.rowPacket n vc (0x2A + s.dev.fld .CM_CFG_DT n) false wc crcOk px) s = .next t ∧ t.nv = s.nv ∧ t.pending = s.pending ∧
      t.dev.tbl = s.dev.tbl ∧ t.dev.fs = s.dev.fs ∧ (t.dev.cam n).frames = [g] ∧ g.recv = f.recv + 1 ∧ g.closed = false ∧
      s.dev.regsBut [RegName.off .CM_FIFO n 0, RegName.off .CM_ERRCNT n 0, RegName.off .CM_STAT n 0] t.dev ∧
      t.dev.fld .CM_ERRCNT_WC n = (if wc = s.dev.rowBytes n then s.dev.fld .CM_ERRCNT_WC n else min (s.dev.fld .CM_ERRCNT_WC n + 1) 255) ∧
      t.dev.fld .CM_ERRCNT_CRC n = (if crcOk then s.dev.fld .CM_ERRCNT_CRC n else min (s.dev.fld .CM_ERRCNT_CRC n + 1) 255) ∧
      (good = false → Nat.testBit g.flags 3 = true) ∧
      ((s.dev.asOf f).fld .CM_GEOM_ROWS n ≤ f.recv ∨ f.overrun = true → g.rows = f.rows) ∧
      (f.recv < (s.dev.asOf f).fld .CM_GEOM_ROWS n → f.overrun = false → s.dev.fifoUsed n + (s.dev.asOf f).rowBytes n ≤ 262144 →
        (good = true → g.flags = f.flags ∧ g.rows = f.rows ++
          [(List.range ((s.dev.asOf f).fld .CM_GEOM_WIDTH n)).map fun i => px.getD i 0 % 2 ^ dtBits ((s.dev.asOf f).fld .CM_CFG_DT n)]) ∧
        (good = false → g.rows = f.rows ++ [f.rows.getLast?.getD (List.replicate ((s.dev.asOf f).fld .CM_GEOM_WIDTH n) 0)])) ∧
      (f.recv < (s.dev.asOf f).fld .CM_GEOM_ROWS n → f.overrun = false → 262144 < s.dev.fifoUsed n + (s.dev.asOf f).rowBytes n →
        g.overrun = true ∧ g.rows = f.rows ∧ Nat.testBit g.flags 2 = true ∧ Nat.testBit g.flags 6 = true ∧
        ∃ x ∈ t.dev.fc.sigs, x.source = srcCamOvf ∧ x.unit = n.val ∧ x.stamp = s.dev.tb)) ∧
  (∀ (n vc : Fin 4) (dt wc : Nat) (f : CamFrame) (crcOk : Bool) (px : List Nat) (s : State), s.dev.camLive n = true → (s.dev.cam n).frames = [f] → f.closed = false →
    ∃ t g, exec (.rowPacket n vc dt true wc crcOk px) s = .next t ∧ t.nv = s.nv ∧ t.pending = s.pending ∧ (t.dev.cam n).frames = [g] ∧
      Nat.testBit g.flags 3 = true ∧ g.rows = f.rows ∧ g.recv = f.recv ∧
      t.dev.fld .CM_ERRCNT_HDR n = min (s.dev.fld .CM_ERRCNT_HDR n + 1) 255 ∧
      s.dev.regsBut [RegName.off .CM_ERRCNT n 0, RegName.off .CM_STAT n 0] t.dev) ∧
  (∀ (n vc : Fin 4) (f : CamFrame) (i : Instr) (fl : Nat) (s : State), (s.dev.cam n).frames = [f] → f.closed = false → f.fn < 65536 → f.flags < 512 →
    (i = .frameEnd n vc ∧ s.dev.camLive n = true ∧ vc.val = s.dev.fld .CM_CFG_VC n ∧
        (f.recv < (s.dev.asOf f).fld .CM_GEOM_ROWS n ∧ fl = 65 ∨ f.recv = (s.dev.asOf f).fld .CM_GEOM_ROWS n ∧ fl = 0 ∨
          (s.dev.asOf f).fld .CM_GEOM_ROWS n < f.recv ∧ fl = 2)) ∨
      (i = .frameTimeout n ∧ s.dev.running = true ∧ s.dev.frameLate n = true ∧ fl = 65) →
    ∃ t g, exec i s = .next t ∧ t.nv = s.nv ∧ t.pending = s.pending ∧ t.dev.tbl = s.dev.tbl ∧ t.dev.fs = s.dev.fs ∧
      (t.dev.cam n).frames = [g] ∧ g.fn = f.fn ∧ g.closed = true ∧ g.rows = f.rows ∧ g.tbClose = s.dev.tb ∧
      (∀ k : Fin 16, Nat.testBit g.flags k = (Nat.testBit f.flags k || Nat.testBit fl k || (k.val == 4 && (s.dev.cam n).unsure f.fn) ||
        (k.val == 7 && s.dev.ptActive != 0))) ∧
      t.dev.fld .CM_FRAME_FN n = f.fn ∧ t.dev.fld .CM_FRAME_FLAGS n = g.flags ∧
      t.dev.fld .CM_CNT_FRAMES n = min (s.dev.fld .CM_CNT_FRAMES n + 1) 65535 ∧
      t.dev.fld .CM_CNT_FLAGGED n = (if g.flags % 64 = 0 then s.dev.fld .CM_CNT_FLAGGED n else min (s.dev.fld .CM_CNT_FLAGGED n + 1) 65535) ∧
      (∀ k : Fin 2, t.dev.fld .IN_NCRES_STATE n k = (if s.dev.fld .IN_NCRES_STATE n k = 1 ∧ before48 f.tag (s.dev.ncTag n k) = false then 2
        else s.dev.fld .IN_NCRES_STATE n k)) ∧
      s.dev.regsBut [RegName.off .CM_FRAME n 0, RegName.off .CM_CNT n 0, RegName.off .CM_STAT n 0, RegName.off .IN_NCRES n 0, RegName.off .IN_NCRES n 1] t.dev)

/-- Clock lanes, trigger pulses, I2C transactions, missing frame starts and ended stalls. A clock lane that starts or stops is
shown in CM_STAT.CLK and raises CM_CLOCK. A due MODE 3 trigger is due again PER × 10 µs later and, unless the previous pulse runs,
takes the pin to its active level for WIDTH × 100 ns and records the bay's course; a pulse that has run out takes the pin back.
The host's I2C transaction that ends clears BUSY, with the byte read on a read, and on a third NACK sets NACK and I2CERR, raises
CM_I2C and signals the collector; the next transaction of a running sequence goes out after an acknowledged one, and a third NACK
ends the sequence, sets I2CERR and signals the collector. A frame start that does not come signals the collector. A tile stall
that ends clears its bit of PT_CAMSTALL. Cites R237, R238, R239, R240, R258, R266, R404, R408. -/
def Obligations.CameraTimers : Prop :=
  (∀ (n : Fin 4) (started : Bool) (s : State), s.dev.running = true → s.dev.on .CM_STAT_CLK n ≠ started →
    ∃ t, exec (.cmClock n started) s = .next t ∧ t.nv = s.nv ∧ t.dev.cams = s.dev.cams ∧ t.dev.on .CM_STAT_CLK n = started ∧
      (∃ d : Dev, t.dev = d.unitEvent (s.dev.camBay n) 1 0x0E02 n (bit started) (s.dev.fld .CM_FRAME_FN n)) ∧
      t.dev.fld .CM_STAT_FLAGS n = s.dev.fld .CM_STAT_FLAGS n ∧ s.dev.regsBut [RegName.off .CM_STAT n 0] t.dev) ∧
  (∀ (n b : Fin 4) (at_ : Nat) (s : State), s.dev.camTimerDue n = true → s.dev.camBay n = some b.val → at_ = (s.dev.cam n).trigNext.getD s.dev.now →
    ∃ t, exec (.cameraTriggerTimer n) s = .next t ∧ t.nv = s.nv ∧ t.dev.regs = s.dev.regs ∧
      (t.dev.cam n).trigNext = some (at_ + us (10 * s.dev.fld .CM_TRIGP_PER n)) ∧
      ((s.dev.cam n).pulseEnd = none → t.dev.out = .camTrig n (!s.dev.on .CM_TRIG_POL n) at_ :: s.dev.out ∧
        (t.dev.cam n).pulseTag = some (s.dev.bay b).cc ∧ (t.dev.cam n).pulseEnd = some (at_ + 20 * s.dev.fld .CM_TRIG_WIDTH n)) ∧
      (∀ e, (s.dev.cam n).pulseEnd = some e → at_ < e → t.dev.out = s.dev.out ∧ (t.dev.cam n).pulseEnd = some e ∧
        (t.dev.cam n).pulseTag = (s.dev.cam n).pulseTag)) ∧
  (∀ (n : Fin 4) (e : Nat) (s : State), s.dev.running = true → (s.dev.cam n).pulseEnd = some e → e ≤ s.dev.now →
    ∃ t, exec (.cameraTrigPulseEnd n) s = .next t ∧ t.nv = s.nv ∧ t.dev.regs = s.dev.regs ∧ (t.dev.cam n).pulseEnd = none ∧
      t.dev.out = .camTrig n (s.dev.on .CM_TRIG_POL n) e :: s.dev.out ∧ (t.dev.cam n).frames = (s.dev.cam n).frames) ∧
  (∀ (n : Fin 4) (x : I2cTxn) (ack : Option (Fin 3)) (data : Fin 256) (s : State), s.dev.running = true → (s.dev.cam n).txn = some x → x.host = true →
    ∃ t, exec (.i2cTransactionDone n ack data) s = .next t ∧ t.nv = s.nv ∧
      t.dev.on .CM_I2CCMD_BUSY n = false ∧ t.dev.on .CM_I2CCMD_NACK n = ack.isNone ∧
      t.dev.fld .CM_I2CCMD_DATA n = (if ack.isSome && x.rd then data.val else s.dev.fld .CM_I2CCMD_DATA n) ∧
      t.dev.on .CM_STAT_I2CERR n = (s.dev.on .CM_STAT_I2CERR n || ack.isNone) ∧
      ((s.dev.cam n).seqRun = false → (s.dev.cam n).hostWaits = false → (t.dev.cam n).txn = none) ∧
      (ack = none → ∃ g ∈ t.dev.fc.sigs, g.source = srcCamI2c ∧ g.unit = n.val ∧ g.stamp = s.dev.tb) ∧
      s.dev.regsBut [RegName.off .CM_I2CCMD n 0, RegName.off .CM_STAT n 0] t.dev) ∧
  (∀ (n : Fin 4) (x y : I2cTxn) (r : List I2cTxn) (k : Fin 3) (data : Fin 256) (s : State), s.dev.running = true → (s.dev.cam n).txn = some x → x.host = false →
    (s.dev.cam n).seqRun = true → s.dev.islandOn (4 + n.val) = true → (s.dev.cam n).seq = y :: r →
    ∃ t, exec (.i2cTransactionDone n (some k) data) s = .next t ∧ t.nv = s.nv ∧ t.dev.regs = s.dev.regs ∧ (t.dev.cam n).txn = some y ∧
      (t.dev.cam n).seq = r ∧ t.dev.out.head? = some (s.dev.i2cOut n y)) ∧
  (∀ (n : Fin 4) (x : I2cTxn) (data : Fin 256) (s : State), s.dev.running = true → (s.dev.cam n).txn = some x → x.host = false →
    ∃ t, exec (.i2cTransactionDone n none data) s = .next t ∧ t.nv = s.nv ∧ (t.dev.cam n).seqRun = false ∧ (t.dev.cam n).seq = [] ∧
      (t.dev.cam n).unsureFrom = some (((s.dev.cam n).seqFrame + (s.dev.cam n).seqLat) % 65536) ∧ t.dev.on .CM_STAT_I2CERR n = true ∧
      (∃ g ∈ t.dev.fc.sigs, g.source = srcCamI2c ∧ g.unit = n.val ∧ g.stamp = s.dev.tb) ∧
      s.dev.regsBut [RegName.off .CM_STAT n 0] t.dev) ∧
  (∀ (n : Fin 4) (s : State), s.dev.fsLate n = true →
    ∃ t, exec (.cameraFsTimeout n) s = .next t ∧ t.nv = s.nv ∧ t.dev.regs = s.dev.regs ∧ (t.dev.cam n).watch = none ∧
      (∃ g ∈ t.dev.fc.sigs, g.source = srcCamPort ∧ g.unit = n.val ∧ g.stamp = s.dev.tb) ∧ t.dev.fsLate n = false) ∧
  (∀ (n : Fin 4) (x : Nat) (s : State), (s.dev.cam n).stallTill = some x → x ≤ s.dev.now →
    ∃ t, exec (.camstallEnd n) s = .next t ∧ t.nv = s.nv ∧ (t.dev.cam n).stallTill = none ∧ t.dev.fbit .PT_CAMSTALL_GO 0 0 n = false ∧
      t.dev.fld .PT_CAMSTALL_US = s.dev.fld .PT_CAMSTALL_US ∧ s.dev.regsBut [RegName.off .PT_CAMSTALL 0 0] t.dev)

/-- Tiles, statistics and nozzle-check results. The free pipeline takes a tile of the port it serves next, for R243's time; with
no eligible port nothing changes. A tile that ends leaves the pipeline, and its rows are processed. The oldest frame of a port,
closed and processed, leaves the list when its statistics complete: in an unlocked window buffer, with the frame's number and
FLAGS and NEWEST naming it, raising IP_STATS_READY with STEV 1, or with both locked NOWIN counts and no table byte changes; a
fenced port leaves all registers, tables and the frame store. A nozzle-check job whose frame was fenced or flagged is DONE with
reason 3 or 1 and merges nothing, any other is DONE with reason 0, the number of missing nozzles, and its results merged in nozzle
order as camera results; IN_NC_DONE is raised. Cites R243, R245, R247, R254, R255, R258, R259, R260. -/
def Obligations.InspectionWork : Prop :=
  (∀ (n : Nat) (s : State), s.dev.running = true → s.dev.islandOn 8 = true → s.dev.tile = none → s.dev.tileNext = some n →
    ∃ t f, exec .tileGrant s = .next t ∧ t.nv = s.nv ∧ t.dev.regs = s.dev.regs ∧ t.dev.cams = s.dev.cams ∧ t.dev.lastServed = n ∧
      f ∈ (s.dev.cam n).frames ∧ f.done < f.rows.length ∧
      t.dev.tile = some ⟨n, s.dev.tileRows n, s.dev.now + (ttile (s.dev.tileRows n) ((s.dev.asOf f).fld .CM_GEOM_WIDTH n) + 4) / 5⟩) ∧
  (∀ s : State, s.dev.tileNext = none → exec .tileGrant s = .next s) ∧
  (∀ (n : Fin 4) (rows till : Nat) (f : CamFrame) (s : State), s.dev.running = true → s.dev.tile = some ⟨n, rows, till⟩ → till ≤ s.dev.now →
    s.dev.fld .PT_ECC_COUNT = 0 → (s.dev.cam n).frames = [f] → f.done < f.rows.length →
    ∃ t, exec .tileDone s = .next t ∧ t.nv = s.nv ∧ t.dev.regs = s.dev.regs ∧ t.dev.tile = none ∧
      (t.dev.cam n).frames = [{ f with done := f.done + rows }]) ∧
  (∀ (n : Fin 4) (f : CamFrame) (rest : List CamFrame) (s : State), s.dev.running = true → (s.dev.cam n).frames = f :: rest →
    (∀ g ∈ rest, g.fn ≠ f.fn) → f.closed = true → f.rows.length ≤ f.done → f.fn < 65536 → f.flags < 65536 → s.dev.fld .PT_ECC_COUNT = 0 →
    ∃ t, exec (.statsComplete n) s = .next t ∧ t.nv = s.nv ∧ t.pending = s.pending ∧ (t.dev.cam n).frames.map (·.fn) = rest.map (·.fn) ∧
      (f.fenced = true → t.dev.regs = s.dev.regs ∧ t.dev.tbl = s.dev.tbl ∧ t.dev.fs = s.dev.fs) ∧
      (∀ k, f.fenced = false → s.dev.statsBuffer n = some k → t.dev.tb16 (statsAt n k) = f.fn ∧ t.dev.tb16 (statsAt n k + 2) = f.flags ∧
        t.dev.fld .IP_STLOCK_NEWEST n = k ∧ t.dev.fld .IP_STLOCK_NOWIN n = s.dev.fld .IP_STLOCK_NOWIN n ∧
        ((s.dev.asOf f).on .IP_CFG_STEV n = true → ∃ (d : Dev) (g : CamFrame) (marks : List (Option MarkRes)) (c : Cam),
          t.dev = (((d.unitEvent (s.dev.camBay n) 3 0x0F00 n (f.fn + 65536 * k) f.flags).writeRing n f (s.dev.process n f)).registration n g marks).setCam n c)) ∧
      (f.fenced = false → s.dev.statsBuffer n = none → t.dev.tbl = s.dev.tbl ∧
        t.dev.fld .IP_STLOCK_NOWIN n = min (s.dev.fld .IP_STLOCK_NOWIN n + 1) 65535)) ∧
  (∀ (n : Fin 4) (k : Fin 2) (pic : NcPic) (s : State), s.dev.running = true → Store.get (fun _ => none) (s.dev.cam n).pics k = some pic →
    ∃ t, exec (.inNcDone n k) s = .next t ∧ t.nv = s.nv ∧ t.pending = s.pending ∧ Store.get (fun _ => none) (t.dev.cam n).pics k = none ∧
      t.dev.fld .IN_NCRES_STATE n k = 3 ∧
      t.dev.fld .IN_NCRES_REASON n k = (if pic.fenced then 3 else if pic.flags % 64 ≠ 0 then 1 else 0) ∧
      (pic.fenced = true ∨ pic.flags % 64 ≠ 0 → t.dev.fld .IN_NCRES_MISSING n k = 0 ∧ t.dev.tbl = s.dev.tbl ∧
        s.dev.regsBut [RegName.off .IN_NCRES n k] t.dev) ∧
      (pic.fenced = false → pic.flags % 64 = 0 → ∃ d miss, t.dev = Dev.ncEnd d n k 0 miss ∧ t.dev.fld .IN_NCRES_MISSING n k = miss % 2 ^ Fld.IN_NCRES_MISSING.width ∧
        (d, miss) = (List.range (s.dev.fld .HP_PROF_NOZZLES (s.dev.fld .IN_NCCFG_HEAD n k))).foldl (fun (acc : Dev × Nat) q =>
          match s.dev.ncNozzle n k pic ((List.range (s.dev.fld .IN_NCCFG_S n k)).map fun j =>
              rungProf pic (s.dev.fld .IN_NCROW_ROW0 n k) (s.dev.fld .IN_NCCFG_RH n k) j) q with
          | none => acc
          | some p => (acc.1.hmCamera (s.dev.fld .IN_NCCFG_HEAD n k) q p pic.tag, if p then acc.2 else acc.2 + 1)) (s.dev, 0)) ∧
      (∃ d : Dev, t.dev = d.unitEvent (s.dev.camBay n) 1 0x1000 n (k.val + 65536 * (if pic.fenced = true ∨ pic.flags % 64 ≠ 0 then 0 else t.dev.fld .IN_NCRES_MISSING n k))
        (t.dev.reg .IN_NCRES n k).toNat)) ∧
  (∀ (n : Fin 4) (k : Fin 2) (s : State), Store.get (fun _ => none) (s.dev.cam n).pics k = none → exec (.inNcDone n k) s = .next s)

/-- A conversion stores its reading, judges its channel and follows its levels. The due conversion of a channel stores the reading
in MEAS, OPEN and SHORT, notes the slot, and makes the channel due again after the period of its new band, which its distance from
the nearest threshold gives. The cross-check of R277, run with the median of its valid neighbours, its offset, its value in use
and its counts so far, gives the value in use, the offset, SUSPECT, SUBST and HELD. An open, shorted or out-of-range reading
leaves the channel SUSPECT. With no cross-check and no suspicion before, a reading in range is the value in use, neither
substituted nor held. Unless it is held, SHUT, THROT and WARN each set at their threshold or with the level above, clear below
their clear point and stay in between; a change of suspicion counts and signals the collector. MEAS, USED and the offsets of every
other channel, the tables and the frame store stay. Cites R272, R274, R277, R280. -/
def Obligations.ThermalConverted : Prop :=
  ∀ (c : Fin 74) (r : Reading) (j : Judged) (valid : List Nat) (med : Int) (s : State), s.dev.convDue c r = true →
    valid = (s.dev.nbs c).filter s.dev.chValid → med = (if valid = [] then s.dev.sfld .TM_OFF_MED c else median (valid.map s.dev.meas)) →
    j = judge ((s.dev.readCh c r).2.1 || (s.dev.readCh c r).2.2 || decide ((s.dev.readCh c r).1 < -720) || decide (2160 < (s.dev.readCh c r).1))
      (s.dev.on .TM_CH_XCHK c && decide (s.dev.fld .TM_NB_NBMIN c ≤ valid.length) && !s.dev.warming c) (s.dev.on .TM_STAT_SUSPECT c) (s.dev.chFenced c)
      (s.dev.readCh c r).1 med (s.dev.sfld .TM_OFF_OFF c) (s.dev.sfld .TM_VAL_USED c) valid.length (s.dev.fld .TM_NB_NBMIN c)
      (8 * s.dev.fld .TM_CH_TOL c) (s.dev.tc c).bad (s.dev.tc c).good (s.dev.fld .TM_CFG_OFFLIM)
      (if s.dev.chValid (s.dev.fld .TM_NB_NB0 c) then some (s.dev.meas (s.dev.fld .TM_NB_NB0 c)) else none) →
    ∃ t, exec (.thermalConversion c r) s = .next t ∧ t.nv = s.nv ∧ t.pending = s.pending ∧ t.dev.tbl = s.dev.tbl ∧ t.dev.fs = s.dev.fs ∧
      t.dev.tSlot = some s.dev.now ∧ (t.dev.tc c).last = some s.dev.now ∧
      (t.dev.tc c).due = some (s.dev.now + bandPeriod (t.dev.fld .TM_STAT_BAND c)) ∧
      t.dev.fld .TM_STAT_BAND c = (match t.dev.nearPoint c j.v with | some n => if n ≤ 32 then 2 else if n ≤ 80 then 1 else 0 | none => 0) ∧
      t.dev.fld .TM_VAL_MEAS c = put16 (s.dev.readCh c r).1 ∧ t.dev.on .TM_STAT_OPEN c = (s.dev.readCh c r).2.1 ∧
      t.dev.on .TM_STAT_SHORT c = (s.dev.readCh c r).2.2 ∧
      t.dev.fld .TM_VAL_USED c = put16 j.v ∧ t.dev.fld .TM_OFF_OFF c = put16 j.off ∧ t.dev.on .TM_STAT_SUSPECT c = j.suspect ∧
      t.dev.on .TM_STAT_SUBST c = j.subst ∧ t.dev.on .TM_STAT_HELD c = j.held ∧ (t.dev.tc c).bad = j.bad ∧ (t.dev.tc c).good = j.good ∧
      (∀ m : Fin 74, m ≠ c → t.dev.reg .TM_VAL m = s.dev.reg .TM_VAL m ∧ t.dev.reg .TM_OFF m = s.dev.reg .TM_OFF m) ∧
      (j.suspect = true → s.dev.on .TM_STAT_SUSPECT c = false → ∃ g ∈ t.dev.fc.sigs, g.source = srcTmSensor ∧ g.unit = c.val ∧ g.stamp = s.dev.tb) ∧
      ((s.dev.readCh c r).1 < -720 ∨ 2160 < (s.dev.readCh c r).1 ∨ (s.dev.readCh c r).2.1 = true ∨ (s.dev.readCh c r).2.2 = true →
        t.dev.on .TM_STAT_SUSPECT c = true) ∧
      (-720 ≤ (s.dev.readCh c r).1 → (s.dev.readCh c r).1 ≤ 2160 → (s.dev.readCh c r).2 = (false, false) → s.dev.on .TM_CH_XCHK c = false →
        s.dev.on .TM_STAT_SUSPECT c = false →
        t.dev.sfld .TM_VAL_USED c = (s.dev.readCh c r).1 ∧ t.dev.on .TM_STAT_SUSPECT c = false ∧ t.dev.on .TM_STAT_SUBST c = false ∧
        t.dev.on .TM_STAT_HELD c = false) ∧
      (j.held = true → t.dev.on .TM_STAT_SHUT c = s.dev.on .TM_STAT_SHUT c ∧ t.dev.on .TM_STAT_THROT c = s.dev.on .TM_STAT_THROT c ∧
        t.dev.on .TM_STAT_WARN c = s.dev.on .TM_STAT_WARN c) ∧
      (j.held = false →
        t.dev.on .TM_STAT_SHUT c = (decide (s.dev.thrOf c 2 ≤ j.v) || (s.dev.on .TM_STAT_SHUT c && !decide (j.v < s.dev.clearOf c 2))) ∧
        t.dev.on .TM_STAT_THROT c = (decide (s.dev.thrOf c 1 ≤ j.v) || t.dev.on .TM_STAT_SHUT c ||
          (s.dev.on .TM_STAT_THROT c && !decide (j.v < s.dev.clearOf c 1))) ∧
        t.dev.on .TM_STAT_WARN c = (decide (s.dev.thrOf c 0 ≤ j.v) || t.dev.on .TM_STAT_THROT c ||
          (s.dev.on .TM_STAT_WARN c && !decide (j.v < s.dev.clearOf c 0)))) ∧
      s.dev.thrOf c 2 = s.dev.sfld .TM_THR1_SHUT c ∧ s.dev.clearOf c 2 = s.dev.sfld .TM_THR1_SHUT c - 8 * s.dev.fld .TM_THR1_HS c

/-- An error signal sets its Spall bit, is counted, captured and opens or joins its record. A signal of a source of R291 that
reaches the collector sets its bit of the Spall word and counts in FC_SRC.CNT; with EN 0 nothing else changes. Enabled, it is the
first capture when none is valid, and sets OVF otherwise. With class INFO no record changes, and where its bit was 0 FC_INFO is
raised. A higher class opens the idle record of its bay, or of the device, in QUIET or for class HALT in HALTED, with its class,
its reactions, its source bit alone and MERGED 1; into a record that is not idle it merges: the class is the higher one, the
reactions the union, MERGED counts, a rise to HALT leads to HALTED, and in QUIET the timer restarts; FC_FAULT is raised where the
record opens or its class or reactions grow; a reaction that fences a head port sets its fence bit. The oldest signal on its way
is latched where none is given; one of no source changes nothing, and one of MQ_PARITY discards the trigger message that failed. A
supply trip of more than 10 µs and a lost PLL lock send their signals to the collector of a running device, and during the start-
up wait for the completion of LOAD; a shorter trip changes nothing. Cites R16, R291, R293, R295, R296, R297, R298, R416. -/
def Obligations.FaultsLatched : Prop :=
  (∀ (g : FaultSig) (k : Nat) (s : State), s.dev.running = true → knownSource g.source = true → g.forced = false → g.lost = none →
    k = (s.dev.sigBay g).getD 4 → k < 5 →
    ∃ t, exec (.faultLatch [g]) s = .next t ∧ t.nv = s.nv ∧ t.pending = s.pending ∧ t.dev.tbl = s.dev.tbl ∧ t.dev.fs = s.dev.fs ∧
      t.dev.spall g.source = true ∧ t.dev.fld .FC_SRC_CNT g.source = min (s.dev.fld .FC_SRC_CNT g.source + 1) 65535 ∧
      (s.dev.on .FC_SRC_EN g.source = false →
        s.dev.regsBut [RegName.off .FC_SPALLLO 0 0, RegName.off .FC_SPALLHI 0 0, RegName.off .FC_SRC g.source 0] t.dev) ∧
      (s.dev.on .FC_SRC_EN g.source = true → s.dev.on .FC_FIRST_VALID = false → t.dev.on .FC_FIRST_VALID = true ∧
        t.dev.fld .FC_FIRST_SRC = g.source ∧ t.dev.pair .FC_FTBLO_TB .FC_FTBHI_TB = g.stamp % 2 ^ 64 ∧ t.dev.fld .FC_FIRST_UNIT = g.unit % 256) ∧
      (s.dev.on .FC_SRC_EN g.source = true → s.dev.on .FC_FIRST_VALID = true → t.dev.on .FC_FIRST_OVF = true ∧
        t.dev.fld .FC_FIRST_SRC = s.dev.fld .FC_FIRST_SRC ∧ t.dev.fld .FC_FIRST_UNIT = s.dev.fld .FC_FIRST_UNIT) ∧
      (s.dev.fld .FC_SRC_CLASS g.source = 0 → ∀ m : Fin 5, t.dev.reg .FC_REC m = s.dev.reg .FC_REC m ∧ t.dev.reg .FC_RCNT m = s.dev.reg .FC_RCNT m) ∧
      (s.dev.on .FC_SRC_EN g.source = true → s.dev.fld .FC_SRC_CLASS g.source = 0 → s.dev.spall g.source = false →
        ∃ d : Dev, t.dev = d.unitEvent (s.dev.sigBay g) 0 0x1204 g.unit g.source (t.dev.fld .FC_SRC_CNT g.source)) ∧
      (s.dev.on .FC_SRC_EN g.source = true → s.dev.fld .FC_SRC_CLASS g.source ≠ 0 →
        (s.dev.fld .FC_REC_STATE k = 0 →
          t.dev.fld .FC_REC_STATE k = (if s.dev.fld .FC_SRC_CLASS g.source = 3 then 2 else 1) ∧
          t.dev.fld .FC_REC_CLASS k = s.dev.fld .FC_SRC_CLASS g.source ∧ t.dev.fld .FC_REC_REACT k = s.dev.fld .FC_SRC_REACT g.source ∧
          t.dev.fld .FC_RCNT_MERGED k = 1 ∧ t.dev.pair .FC_RSRCLO_SRC .FC_RSRCHI_SRC k = 2 ^ g.source ∧ t.dev.quietAt k = s.dev.now) ∧
        (s.dev.fld .FC_REC_STATE k ≠ 0 →
          t.dev.fld .FC_REC_CLASS k = max (s.dev.fld .FC_REC_CLASS k) (s.dev.fld .FC_SRC_CLASS g.source) ∧
          t.dev.fld .FC_REC_REACT k = Nat.lor (s.dev.fld .FC_REC_REACT k) (s.dev.fld .FC_SRC_REACT g.source) ∧
          t.dev.fld .FC_RCNT_MERGED k = min (s.dev.fld .FC_RCNT_MERGED k + 1) 255 ∧
          t.dev.fld .FC_REC_STATE k = (if s.dev.fld .FC_REC_CLASS k < 3 ∧ s.dev.fld .FC_SRC_CLASS g.source = 3 then 2 else s.dev.fld .FC_REC_STATE k) ∧
          (t.dev.fld .FC_REC_STATE k = 1 → t.dev.quietAt k = s.dev.now)) ∧
        (s.dev.fld .FC_REC_STATE k = 0 ∨ s.dev.fld .FC_REC_CLASS k < s.dev.fld .FC_SRC_CLASS g.source ∨
            Nat.lor (s.dev.fld .FC_REC_REACT k) (s.dev.fld .FC_SRC_REACT g.source) ≠ s.dev.fld .FC_REC_REACT k →
          ∃ (d : Dev) (w0 w1 : Nat), t.dev = d.recEvent k 0x1200 g.unit w0 w1) ∧
        (∀ m : Fin 5, m.val ≠ k → t.dev.reg .FC_REC m = s.dev.reg .FC_REC m) ∧
        (∀ xx : Fin 32, s.dev.fld .FC_SRC_REACT g.source % 2 = 1 → s.dev.fld .FC_REC_STATE k = 0 ∨ .port xx.val ∉ s.dev.recUnits k →
          unitOf g.source g.unit = some (.port xx.val) → t.dev.fbit .FC_FENCE0_HP 0 0 xx = true))) ∧
  (∀ (g : FaultSig) (r : List FaultSig) (s : State), s.dev.running = true → s.dev.fc.sigs = g :: r → g ∉ r → g.lost = none →
    exec (.faultLatch []) s = exec (.faultLatch [g]) { s with dev := { s.dev with fc := { s.dev.fc with sigs := r } } }) ∧
  (∀ (g : FaultSig) (s : State), s.dev.running = true → knownSource g.source = false → g.lost = none → g ∉ s.dev.fc.sigs →
    exec (.faultLatch [g]) s = .next s) ∧
  (∀ (g : FaultSig) (b : Fin 4) (x : Trig) (rest : List Trig) (s : State), s.dev.running = true → g.source = 0 → g.forced = false → g.lost = some (.trigger b) →
    (s.dev.pc b).trigs = x :: rest → s.dev.on .FC_SRC_EN 0 = false →
    ∃ t, exec (.faultLatch [g]) s = .next t ∧ t.nv = s.nv ∧ t.pending = s.pending ∧ (t.dev.pc b).trigs = rest ∧
      (t.dev.bay b).cc = add48 (s.dev.bay b).cc 1 ∧ (t.dev.bay b).mode = (s.dev.bay b).mode ∧ t.dev.spall 0 = true) ∧
  (∀ (rail us : Nat) (i : Instr) (src : Nat) (s : State),
    (i = .supplyTrip rail us ∧ src = srcSupply ∧ 10 < us) ∨ (i = .pllLockLoss ∧ src = srcPllLock ∧ s.dev.tbStart.isSome = true) →
    (s.dev.running = true → ∃ t, exec i s = .next t ∧ t.nv = s.nv ∧ t.dev.regs = s.dev.regs ∧
      t.dev.fc.sigs = s.dev.fc.sigs ++ [⟨src, 0xFF, none, s.dev.tb, 0, false, none⟩]) ∧
    (s.dev.running = false → s.dev.hears = true → ∃ t, exec i s = .next t ∧ t.nv = s.nv ∧ t.dev.regs = s.dev.regs ∧
      t.dev.boot.loadFaults = s.dev.boot.loadFaults ++ [⟨src, 0xFF, none, s.dev.tb, 0, false, none⟩])) ∧
  (∀ (rail us : Nat) (s : State), us ≤ 10 → exec (.supplyTrip rail us) s = .next s)

/-- Quiet periods, self-checks, lockout windows, repeated requests and the nERR pulse. When the quiet timer of a record in QUIET
runs out with every test judged: a failed test restarts it; with the lockout count reached the record is LOCKED; otherwise it
recovers: state, class, reactions and sources 0, MERGED 0, RECOV and WCOUNT counted, FC_RECOVERED raised, its units released and
the fence bits of head ports that no other record fences cleared. A self-check that ends is noted for its unit. A lockout window
that passes clears WCOUNT. A repetition that falls due asks for the DEGRADED commit of a bay that a record holds in PRINT, and for
the way back of one in DEGRADED that none holds any more. The nERR pulse that ends clears PULSE. Cites R298, R300, R301, R302,
R303. -/
def Obligations.FaultTimers : Prop :=
  (∀ (k : Fin 5) (s : State), s.dev.running = true → s.dev.quietDue k = true →
    ∃ t, exec (.quietExpiry k) s = .next t ∧ t.nv = s.nv ∧ t.pending = s.pending ∧ t.dev.tbl = s.dev.tbl ∧ t.dev.fs = s.dev.fs ∧
      (((s.dev.recUnits k).any fun u => unitTested u && s.dev.testOf k u == some false) = true ∨ s.dev.camsGood k = false →
        t.dev.regs = s.dev.regs ∧ t.dev.quietAt k = s.dev.now ∧ t.dev.recUnits k = s.dev.recUnits k) ∧
      (((s.dev.recUnits k).any fun u => unitTested u && s.dev.testOf k u == some false) = false → s.dev.camsGood k = true →
        (s.dev.fld .FC_CFG_LOCKN ≠ 0 ∧ s.dev.fld .FC_RCNT_WCOUNT k = s.dev.fld .FC_CFG_LOCKN →
          t.dev.fld .FC_REC_STATE k = 3 ∧ t.dev.fld .FC_REC_REACT k = s.dev.fld .FC_REC_REACT k ∧ t.dev.fld .FC_REC_CLASS k = s.dev.fld .FC_REC_CLASS k ∧
          t.dev.ot.queue = (if s.dev.on .FC_LOCK_OTPLOG then s.dev.ot.queue ++ [⟨2, [], none⟩] else s.dev.ot.queue) ∧
          s.dev.regsBut [RegName.off .FC_REC k 0] t.dev) ∧
        (s.dev.fld .FC_CFG_LOCKN = 0 ∨ s.dev.fld .FC_RCNT_WCOUNT k ≠ s.dev.fld .FC_CFG_LOCKN →
          t.dev.fld .FC_REC_STATE k = 0 ∧ t.dev.fld .FC_REC_CLASS k = 0 ∧ t.dev.fld .FC_REC_REACT k = 0 ∧
          t.dev.pair .FC_RSRCLO_SRC .FC_RSRCHI_SRC k = 0 ∧ t.dev.fld .FC_RCNT_MERGED k = 0 ∧ t.dev.recUnits k = [] ∧
          t.dev.fld .FC_RCNT_RECOV k = min (s.dev.fld .FC_RCNT_RECOV k + 1) 65535 ∧
          t.dev.fld .FC_RCNT_WCOUNT k = min (s.dev.fld .FC_RCNT_WCOUNT k + 1) 255 ∧
          (∃ d e : Dev, e = d.recEvent k 0x1201 0xFF (d.reg .FC_RCNT k).toNat k ∧ t.dev = (e.recBays k).foldl (fun d b => d.fcEval b) e) ∧
          ∀ xx : Fin 32, .port xx.val ∈ s.dev.recUnits k → (∀ m : Fin 5, m ≠ k → .port xx.val ∉ s.dev.recUnits m) →
            t.dev.fbit .FC_FENCE0_HP 0 0 xx = false))) ∧
  (∀ (k : Fin 5) (u : FUnit) (pass : Bool) (s : State), s.dev.running = true → s.dev.testDue k u = true →
    (∀ xx, u = .port xx → xx < 32) →
    ∃ t, exec (.selfCheckTest k u pass) s = .next t ∧ t.nv = s.nv ∧ (u, pass, s.dev.now) ∈ t.dev.recTests k ∧
      (u ∈ t.dev.recFail k ↔ pass = false) ∧ (∀ w, w ≠ u → (w ∈ t.dev.recFail k ↔ w ∈ s.dev.recFail k)) ∧
      s.dev.regsBut ((List.finRange 32).map fun xx => RegName.off .HP_CNT xx 0) t.dev) ∧
  (∀ (k : Fin 5) (s : State), s.dev.running = true → s.dev.windowDue k = true →
    ∃ t, exec (.lockWindowExpiry k) s = .next t ∧ t.nv = s.nv ∧ t.dev.fld .FC_RCNT_WCOUNT k = 0 ∧
      t.dev.fld .FC_RCNT_RECOV k = s.dev.fld .FC_RCNT_RECOV k ∧ t.dev.windowDue k = false ∧ s.dev.regsBut [RegName.off .FC_RCNT k 0] t.dev) ∧
  (∀ (b : Fin 4) (s : State), s.dev.bayModes = true → s.dev.retryDue b = true → s.dev.present b = true → s.dev.fcPending b = false →
    s.dev.heldDegraded b = true → (s.dev.bay b).mode = .print →
    ∃ t, exec (.degradeRequestRetry b) s = .next t ∧ t.nv = s.nv ∧ t.dev.regs = s.dev.regs ∧ t.dev.retryAt b = none ∧
      (⟨.fault, [], .degrade, false⟩ : IntReq) ∈ (t.dev.kset b).waiting) ∧
  (∀ (b : Fin 4) (s : State), s.dev.bayModes = true → s.dev.retryDue b = true → s.dev.heldDegraded b = false →
    ∃ t, exec (.degradeRequestRetry b) s = .next t ∧ t.nv = s.nv ∧ t.dev.regs = s.dev.regs ∧ t.dev.retryAt b = none ∧
      ((s.dev.bay b).mode = .degraded → s.dev.present b = true → s.dev.fcPending b = false → s.dev.fld .TM_BSTAT_STATE b ≠ 2 →
        (⟨.fault, [], .back, false⟩ : IntReq) ∈ (t.dev.kset b).waiting) ∧
      ((s.dev.bay b).mode ≠ .degraded → t.dev.kset b = s.dev.kset b)) ∧
  (∀ s : State, s.dev.nerrDue = true →
    ∃ t, exec .nerrPulseEnd s = .next t ∧ t.nv = s.nv ∧ t.dev.on .FC_NERR_PULSE = false ∧ t.dev.fc.pulseEnd = none ∧
      t.dev.nerrLow = (!s.dev.running || s.dev.on .FC_NERR_HOLD) ∧ s.dev.regsBut [RegName.off .FC_NERR 0 0] t.dev)

/-- Contone pixels expand by bit replication. A contone pixel v of 8 bits becomes (v << 4) | (v >> 4), one of 10 bits (v << 2) |
(v >> 8); 0 stays 0 and the greatest value becomes 4,095. A pixel outside the course is 0 with EDGE 0 and the pixel at the nearer
end with EDGE 1; one inside is itself. Cites R114, R116. -/
def Obligations.PixelExpansion : Prop :=
  (∀ v : Fin 256, expand12 0 v = (v.val <<< 4) ||| (v.val >>> 4)) ∧ (∀ v : Fin 1024, expand12 1 v = (v.val <<< 2) ||| (v.val >>> 8)) ∧
  expand12 0 0 = 0 ∧ expand12 0 255 = 4095 ∧ expand12 1 0 = 0 ∧ expand12 1 1023 = 4095 ∧
  (∀ (px : List Nat) (edge : Bool) (j : Nat) (v : Nat), px[j]? = some v → pxAt edge px j = v) ∧
  (∀ (px : List Nat) (j : Int), (j < 0 ∨ (px.length : Int) ≤ j) → pxAt false px j = 0) ∧
  (∀ (px : List Nat) (j : Int) (v : Nat), j < 0 → px.head? = some v → pxAt true px j = v) ∧
  (∀ (px : List Nat) (j : Int) (v : Nat), (px.length : Int) ≤ j → px.getLast? = some v → pxAt true px j = v)

/-- The reset, and the steps of the start-up up to LOAD. nRESET low for 1 µs or more, and the AON power-on reset, bring the device
to its reset state but for what has left it, with the outputs that were driven passing to their reset state, the instant and the
pins; low for less than 100 ns changes nothing, and between 100 ns and 1 µs it is open whether the device resets. With nRESET high
and no power-on reset the start-up counts; then AON is up, the OTP integrity check decides between SEALED with the code and word
of the first failing condition and the wait for the PLLs, the PLLs start the time base, a SEALED device sends its line once per
second, and the end of the SRAM clear starts LOAD with cleared tables, frame store and blocks and the factory registers. OTP and
the tally do not change. Cites R308, R309, R315, R355, R356, R357, R416, R17. -/
def Obligations.StartUpSteps : Prop :=
  (∀ (ns : Nat) (s : State), 1000 ≤ ns → exec (.resetAssert ns) s =
    .next { s with dev := { now := s.dev.now, out := s.dev.pinsOff.out, free := s.dev.free, nstop := s.dev.nstop, boot := { pins := s.dev.boot.pins, por := s.dev.boot.por } } }) ∧
  (∀ (ns : Nat) (s : State), ns < 100 → exec (.resetAssert ns) s = .next s) ∧
  (∀ (ns : Nat) (s : State), 100 ≤ ns → ns < 1000 → exec (.resetAssert ns) s = .next (if Config.shortReset s.dev.free then
      { s with dev := { now := s.dev.now, out := s.dev.pinsOff.out, free := s.dev.free + 1, nstop := s.dev.nstop, boot := { nReset := s.dev.boot.nReset, pins := s.dev.boot.pins, por := s.dev.boot.por, phase := if s.dev.boot.nReset && !s.dev.boot.por then .counting else .inReset } } }
      else { s with dev := { s.dev with free := s.dev.free + 1 } })) ∧
  (∀ s : State, exec .aonPowerOnReset s =
    .next { s with dev := { now := s.dev.now, out := s.dev.pinsOff.out, free := s.dev.free, nstop := s.dev.nstop, boot := { nReset := s.dev.boot.nReset, pins := s.dev.boot.pins, por := true } } }) ∧
  (∀ s : State, s.dev.boot.por = true → s.dev.boot.phase = .inReset → exec .powerOnResetRelease s =
    .next { s with dev := { s.dev with boot := { s.dev.boot with por := false, phase := if s.dev.boot.nReset then .counting else .inReset } } }) ∧
  (∀ s : State, s.dev.boot.nReset = false → s.dev.boot.phase = .inReset → exec .resetRelease s =
    .next { s with dev := { s.dev with boot := { s.dev.boot with nReset := true, phase := if s.dev.boot.por then .inReset else .counting } } }) ∧
  (∀ s : State, s.dev.boot.phase = .counting → exec .aonStable s = .next { s with dev := { s.dev with boot := { s.dev.boot with phase := .otpCheck } } }) ∧
  (∀ (reads selfTest : Bool) (s : State), s.dev.boot.phase = .otpCheck →
    ∃ t, exec (.otpIntegrityCheckDone reads selfTest) s = .next t ∧ t.nv = s.nv ∧ t.pending = s.pending ∧
      ((reads && selfTest) = false → t.dev.boot.phase = .isSealed ∧ t.dev.boot.sealedCode = 7 ∧ t.dev.boot.sealedWord = 0xFFFF)) ∧
  (∀ (w : Nat) (s : State), s.dev.boot.phase = .otpCheck → w < 0x300 → (otpDecide (s.nv.cell w)).ue = true →
    (∀ w' < w, (otpDecide (s.nv.cell w')).ue = false) →
    ∃ t, exec (.otpIntegrityCheckDone true true) s = .next t ∧ t.nv = s.nv ∧ t.dev.boot.phase = .isSealed ∧
      t.dev.boot.sealedCode = (if w < 0x100 then 5 else 6) ∧ t.dev.boot.sealedWord = w) ∧
  (∀ s : State, s.dev.boot.phase = .otpCheck → (∀ w < 0x300, (otpDecide (s.nv.cell w)).ue = false) →
    ((otpDecide (s.nv.cell 0xFF)).blank = true ∨ (otpDecide (s.nv.cell 0xFF)).data ≠ 0x5EA10001) →
    ∃ t, exec (.otpIntegrityCheckDone true true) s = .next t ∧ t.dev.boot.phase = .isSealed ∧ t.dev.boot.sealedCode = 7 ∧ t.dev.boot.sealedWord = 0xFF) ∧
  (∀ s : State, s.dev.boot.phase = .otpCheck → (∀ w < 0x300, (otpDecide (s.nv.cell w)).ue = false) →
    (otpDecide (s.nv.cell 0xFF)).blank = false → (otpDecide (s.nv.cell 0xFF)).data = 0x5EA10001 →
    (otpDecide (s.nv.cell 0xFE)).data = crc32 ((List.range 0xFE).flatMap fun w => le 4 (otpDecide (s.nv.cell w)).data.toNat) →
    ∃ t, exec (.otpIntegrityCheckDone true true) s = .next t ∧ t.nv = s.nv ∧ t.dev.boot.phase = .pllWait ∧ t.dev.tbl = s.dev.tbl ∧
      (∀ k : Fin 6, (t.dev.tc (68 + k)).due = some s.dev.now)) ∧
  (∀ s : State, s.dev.boot.phase = .pllWait →
    exec .pllLocked s = .next { s with dev := { s.dev with tbStart := some s.dev.now, boot := { s.dev.boot with phase := .sramClear } } }) ∧
  (∀ s : State, s.dev.boot.phase = .sramClear → ∃ t, exec .sramClearDone s = .next t ∧ t.nv = s.nv ∧ t.pending = s.pending ∧
    t.dev.boot.phase = .loadHeaders ∧ t.dev.boot.warm = false ∧ t.dev.boot.sel = 0 ∧ t.dev.tbl = [] ∧ t.dev.fs = [] ∧ t.dev.bays = [] ∧ t.dev.tbStart = s.dev.tbStart ∧
    (∀ o, (∀ k : Fin 4, o ≠ RegName.off .HS_LINK k 0) → t.dev.word o = Store.get regDflt s.dev.factoryRegs o)) ∧
  (∀ s : State, s.dev.boot.phase = .isSealed → s.dev.boot.lineAt ≤ s.dev.now →
    exec .sealedStatusLine s = .next { s with dev := { s.dev with out := .line s.dev.sealedLine :: s.dev.out, boot := { s.dev.boot with lineAt := s.dev.now + sec 1 } } }) ∧
  (∀ s : State, s.dev.now < s.dev.boot.lineAt → exec .sealedStatusLine s = .next s)

/-- LOAD: the choice of a copy, its body, training, completion, and the abandoned write-backs. With no valid header, and with SEL
3, LOAD goes on with the factory defaults; a copy whose header alone is valid and passes its checks is read; of two valid copies
that both pass, the one with the newer GEN is. A body that passes puts its values aside for the completion of LOAD, with reason 0;
one that fails leaves its reason, and the other copy is read if its header is valid and passes and it has not been tried; the
defaults load when it cannot be tried. Failed training leaves no capacity and the training fault. The completion puts the image's
tables and registers in force, shows the capacity, hands the faults noted to the collector, leaves every bay in STANDBY and a
disabled Ethernet seat's link down. Write-backs that have run for 100 ms are abandoned and LOAD begins. OTP and the tally do not
change. Cites R83, R311, R312, R323, R324, R326, R330, R331, R341, R346, R358. -/
def Obligations.LoadSteps : Prop :=
  (∀ (f : FlashHeads) (s : State), s.dev.boot.phase = .loadHeaders → s.dev.boot.sel = 3 →
    ∃ t, exec (.imageHeadersRead f) s = .next t ∧ t.nv = s.nv ∧ t.dev.boot.phase = .loadTrain ∧ t.dev.boot.inUse = 2 ∧
      t.dev.boot.loadFaults = s.dev.boot.loadFaults ∧ t.dev.regs = s.dev.regs) ∧
  (∀ (f : FlashHeads) (s : State), s.dev.boot.phase = .loadHeaders → s.dev.boot.sel < 3 →
    (flashDensity f = none ∨ (headerValid (f.a.take 256) = false ∧ headerValid (f.b.take 256) = false)) →
    ∃ t, exec (.imageHeadersRead f) s = .next t ∧ t.nv = s.nv ∧ t.dev.boot.phase = .loadTrain ∧ t.dev.boot.inUse = 2 ∧
      t.dev.boot.copyA.reason = 1 ∧ t.dev.boot.copyB.reason = 1 ∧ t.dev.regs = s.dev.regs ∧
      t.dev.boot.loadFaults.map (·.source) = s.dev.boot.loadFaults.map (·.source) ++ [srcImgCopy, srcImgCopy, srcImgDefault]) ∧
  (∀ (f : FlashHeads) (s : State), s.dev.boot.phase = .loadHeaders → s.dev.boot.sel < 3 → (flashDensity f).isSome = true →
    headerValid (f.a.take 256) = true → headerValid (f.b.take 256) = false → s.dev.headerChecks s.nv (f.a.take 256) = 0 → s.dev.boot.tried = [] →
    ∃ t, exec (.imageHeadersRead f) s = .next t ∧ t.nv = s.nv ∧ t.dev.boot.phase = .loadBody ∧ t.dev.boot.reading = 0 ∧ t.dev.boot.density = flashDensity f ∧ t.dev.boot.caps = f.caps ∧
      t.dev.boot.copyB.reason = 1 ∧ t.dev.boot.loadFaults.map (·.source) = s.dev.boot.loadFaults.map (·.source) ++ [srcImgCopy]) ∧
  (∀ (f : FlashHeads) (s : State), s.dev.boot.phase = .loadHeaders → s.dev.boot.sel = 0 → (flashDensity f).isSome = true →
    headerValid (f.a.take 256) = true → headerValid (f.b.take 256) = true →
    s.dev.headerChecks s.nv (f.a.take 256) = 0 → s.dev.headerChecks s.nv (f.b.take 256) = 0 →
    ∃ t, exec (.imageHeadersRead f) s = .next t ∧ t.nv = s.nv ∧ t.dev.boot.phase = .loadBody ∧
      t.dev.boot.reading = (if 0 < (BitVec.ofNat 32 (hdrNat (f.b.take 256) 8 4) - BitVec.ofNat 32 (hdrNat (f.a.take 256) 8 4)).toInt then 1 else 0)) ∧
  (∀ (body : List Byte) (k : Fin 2) (x : Draft) (s : State), s.dev.boot.phase = .loadBody → s.dev.boot.reading = k.val →
    s.dev.bodyChecks (s.dev.boot.copy k).header body = .inl x →
    ∃ t, exec (.imageBodyRead body) s = .next t ∧ t.nv = s.nv ∧ t.dev.boot.phase = .loadTrain ∧ t.dev.boot.inUse = k.val ∧
      t.dev.boot.imgRegs = x.dev.regs ∧ t.dev.boot.imgTbl = x.dev.tbl ∧ t.dev.boot.imgIdent = x.ident ∧ (t.dev.boot.copy k).reason = 0 ∧
      t.dev.regs = s.dev.regs ∧ t.dev.tbl = s.dev.tbl) ∧
  (∀ (body : List Byte) (k : Fin 2) (r at_ : Nat) (s : State), s.dev.boot.phase = .loadBody → s.dev.boot.reading = k.val →
    s.dev.bodyChecks (s.dev.boot.copy k).header body = .inr (r, at_) →
    ((s.dev.boot.copy (1 - k.val)).state ≠ 0 ∨ 1 - k.val ∈ s.dev.boot.tried) →
    ∃ t, exec (.imageBodyRead body) s = .next t ∧ t.nv = s.nv ∧ t.dev.boot.phase = .loadTrain ∧ t.dev.boot.inUse = 2 ∧
      (t.dev.boot.copy k).reason = r ∧ t.dev.regs = s.dev.regs ∧ t.dev.tbl = s.dev.tbl) ∧
  (∀ (body : List Byte) (k : Fin 2) (r at_ : Nat) (s : State), s.dev.boot.phase = .loadBody → s.dev.boot.reading = k.val →
    s.dev.bodyChecks (s.dev.boot.copy k).header body = .inr (r, at_) → (s.dev.boot.copy (1 - k.val)).state = 0 → 1 - k.val ∉ s.dev.boot.tried →
    s.dev.headerChecks s.nv (s.dev.boot.copy (1 - k.val)).header = 0 →
    ∃ t, exec (.imageBodyRead body) s = .next t ∧ t.nv = s.nv ∧ t.dev.boot.phase = .loadBody ∧ t.dev.boot.reading = 1 - k.val ∧
      (t.dev.boot.copy k).reason = r ∧ t.dev.regs = s.dev.regs ∧ t.dev.tbl = s.dev.tbl ∧
      t.dev.boot.loadFaults.map (·.source) = s.dev.boot.loadFaults.map (·.source) ++ [srcImgCopy]) ∧
  (∀ (ok0 ok1 : Bool) (mr8 : Fin 5) (s : State), s.dev.boot.phase = .loadTrain →
    ∃ t, exec (.frameStoreTrained ok0 ok1 mr8) s = .next t ∧ t.nv = s.nv ∧ t.dev.boot.phase = .loadApply ∧ t.dev.regs = s.dev.regs ∧
      ((ok0 && (({ regs := s.dev.boot.imgRegs } : Dev).fld .RI_FSCFG_CHANS != 3 || ok1)) = false →
        t.dev.boot.capMib = 0 ∧ ∃ g, t.dev.boot.loadFaults = s.dev.boot.loadFaults ++ [g] ∧ g.source = srcFsTrain ∧ g.unit = 0xFF) ∧
      ((ok0 && (({ regs := s.dev.boot.imgRegs } : Dev).fld .RI_FSCFG_CHANS != 3 || ok1)) = true → t.dev.boot.loadFaults = s.dev.boot.loadFaults ∧
        (({ regs := s.dev.boot.imgRegs } : Dev).fld .RI_FSCFG_DENSITY = 7 →
          t.dev.boot.capMib = capOf (({ regs := s.dev.boot.imgRegs } : Dev).installed (densityGb mr8))))) ∧
  (∀ (ue : List Nat) (s : State), s.dev.boot.phase = .loadApply →
    ∃ t, exec (.loadComplete ue) s = .next t ∧ t.nv = s.nv ∧ t.pending = s.pending ∧ t.dev.boot.phase = .running ∧ t.dev.tbl = s.dev.boot.imgTbl ∧ t.dev.fs = [] ∧
      t.dev.fld .RI_FSSTAT_CAPMIB = s.dev.boot.capMib % 2 ^ Fld.RI_FSSTAT_CAPMIB.width ∧ t.dev.boot.loadFaults = [] ∧
      t.dev.boot.ident = s.dev.boot.imgIdent ∧ (∀ b, (t.dev.bay b).mode = .standby) ∧
      (∀ n ∈ [RegName.RI_FSCFG, .RI_DELAY, .PC_CTL], ∀ k : Fin 4, t.dev.word (n.off k 0) = Store.get regDflt s.dev.boot.imgRegs (n.off k 0)) ∧
      (∀ g ∈ s.dev.boot.loadFaults, ∃ g' ∈ t.dev.fc.sigs, g'.source = g.source ∧ g'.unit = g.unit) ∧
      (∀ k : Fin 4, (s.dev.seat k).up = false → (t.dev.seat k).loaded =
        some (s.dev.boot.inUse + (if s.dev.boot.warm then 4 else 0), if s.dev.boot.inUse = 2 then 0 else (s.dev.boot.copy s.dev.boot.inUse).gen)) ∧
      (∀ k : Fin 2, Fld.of .HS_CTL_EN (Store.get regDflt s.dev.boot.imgRegs (RegName.off .HS_CTL (2 + k) 0)) = 0 → (t.dev.seat (2 + k)).up = false)) ∧
  (∀ s : State, s.dev.abandonDue = true → ∃ t, exec .writebackAbandon s = .next t ∧ t.nv = s.nv ∧ t.dev.boot.phase = .loadHeaders ∧
    t.dev.boot.warm = true ∧ t.dev.boot.sel = s.dev.boot.sel ∧ t.dev.tbl = [] ∧ t.dev.tbStart = s.dev.tbStart)

/-- A SEALED device leaves SEALED by a reset only. Whatever command comes, but a reset of 100 ns or more and the AON power-on
reset, a SEALED device stays SEALED with its code and word; frames of hosts and of the console, accesses of a PCIe function,
console lines and bytes change nothing at all. Cites R313, R314, R315, R320. -/
def Obligations.SealedStays : Prop :=
  (∀ (i : Instr) (s t : State), s.dev.boot.phase = .isSealed → (∀ ns, i = .resetAssert ns → ns < 100) → i ≠ .aonPowerOnReset → exec i s = .next t →
    t.dev.boot.phase = .isSealed ∧ t.dev.boot.sealedCode = s.dev.boot.sealedCode ∧ t.dev.boot.sealedWord = s.dev.boot.sealedWord) ∧
  (∀ (i : Instr) (s : State), s.dev.boot.phase = .isSealed →
    ((frameOf i).isSome = true ∨ (∃ fn addr size en v, i = .registerWrite fn addr size en v) ∨ (∃ fn addr size en, i = .registerRead fn addr size en) ∨
      i = .consoleStat ∨ (∃ a n, i = .consoleRd a n) ∨ (∃ a x, i = .consoleWr a x) ∨ (∃ f, i = .consoleF f) ∨ (∃ b, i = .consoleStop b) ∨
      i = .consoleService ∨ i = .consoleRun ∨ (∃ b f, i = .consoleByteReceived b f) ∨ (∃ r, i = .consoleLineRejected r)) →
    exec i s = .next s)

/-- Every step keeps the non-volatile stores sound, and OTP only grows. Whatever command waits, a step that answers a next state
keeps the canonical form of OTP and of the tally store, keeps every word of OTP in order (a bit that reads 1 at the strict
reference reads 1 at the lenient one), and loses no bit of OTP. Cites R349, R355, R359, R378, R381. -/
def Obligations.StoresKept : Prop :=
  ∀ s t : State, step s = .next t →
    (s.nv.canonical → t.nv.canonical) ∧ (s.nv.otpOrdered → t.nv.otpOrdered) ∧ s.nv.otpGrows t.nv

/-- A queued word of OTP is programmed, or refused by supply, temperature or verification. With a request of the console at the
front, VDD_OTP within 1,750 to 1,850 mV and the die within 0 to 85 °C: a first pulse after which the strict read equals the
codeword leaves that word so, every other word as it was, RESULT 0 and WORD when it was the last word and the request with its
other words when it was not; no pulse on a word that does not hold its codeword leaves every word and RESULT 9. A queued lockout
record programs the next lockout word, and gives RESULT 7 when none is left. Outside those bounds nothing of what survives reset
changes, RESULT is 2 or 3, and the programming fault is signalled. Cites R349, R354, R359, R373. -/
def Obligations.OtpProgramming : Prop :=
  (∀ (w mv : Nat) (data : Word) (more : List (Nat × Word)) (o : Option Origin) (rest : List OtpReq) (s : State), (s.dev.running = true ∨ s.dev.inLoad = true) →
    s.dev.ot.queue = ⟨0, (w, data) :: more, o⟩ :: rest → s.dev.noneWithheld → s.dev.boot.reloadWaits = none →
    (1750 ≤ mv → mv ≤ 1850 → 0 ≤ s.dev.dieTemp → s.dev.dieTemp ≤ 85 * 16 →
      (∀ (x l : BitVec 39) (r : List (BitVec 39 × BitVec 39)), (s.nv.cell w).strict ||| (x &&& otpEncode data) = otpEncode data →
        ∃ t, exec (.otpWordProgrammed mv ((x, l) :: r)) s = .next t ∧ (t.nv.cell w).strict = otpEncode data ∧
          (∀ w' ≠ w, t.nv.cell w' = s.nv.cell w') ∧ t.nv.port = s.nv.port ∧ t.nv.cnt = s.nv.cnt ∧ t.nv.trend = s.nv.trend ∧
          (more = [] → t.dev.ot.queue = rest ∧ t.dev.fld .OT_PRES_RESULT = 0) ∧
          (more ≠ [] → t.dev.ot.queue = ⟨0, more, o⟩ :: rest ∧ t.dev.fld .OT_PRES_RESULT = s.dev.fld .OT_PRES_RESULT) ∧
          t.dev.fld .OT_PRES_WORD = w % 2 ^ 11 ∧ t.dev.fld .OT_PENV_VOTP = mv ∧ t.dev.tbl = s.dev.tbl) ∧
      ((s.nv.cell w).strict ≠ otpEncode data →
        ∃ t, exec (.otpWordProgrammed mv []) s = .next t ∧ (∀ w', t.nv.cell w' = s.nv.cell w') ∧ t.dev.ot.queue = rest ∧ t.dev.fld .OT_PRES_RESULT = 9 ∧
          ∃ g ∈ t.dev.fc.sigs, g.source = srcOtpProg ∧ g.stamp = s.dev.tb)) ∧
    (∀ pulses, (mv < 1750 ∨ 1850 < mv ∨ s.dev.dieTemp < 0 ∨ 85 * 16 < s.dev.dieTemp) →
      ∃ t, exec (.otpWordProgrammed mv pulses) s = .next t ∧ t.nv = s.nv ∧ t.dev.ot.queue = rest ∧
        t.dev.fld .OT_PRES_RESULT = (if mv < 1750 ∨ 1850 < mv then 2 else 3) ∧ t.dev.tbl = s.dev.tbl ∧
        ∃ g ∈ t.dev.fc.sigs, g.source = srcOtpProg ∧ g.stamp = s.dev.tb)) ∧
  (∀ (mv : Nat) (ws : List (Nat × Word)) (o : Option Origin) (rest : List OtpReq) (s : State), (s.dev.running = true ∨ s.dev.inLoad = true) →
    s.dev.ot.queue = ⟨2, ws, none⟩ :: rest → s.dev.noneWithheld → s.dev.boot.reloadWaits = none →
    (∀ (x l : BitVec 39) (r : List (BitVec 39 × BitVec 39)), s.nv.lockouts < 512 → 1750 ≤ mv → mv ≤ 1850 → 0 ≤ s.dev.dieTemp → s.dev.dieTemp ≤ 85 * 16 →
      (s.nv.cell (0x500 + s.nv.lockouts)).strict ||| (x &&& otpEncode 0xFFFFFFFF) = otpEncode 0xFFFFFFFF →
      ∃ t, exec (.otpWordProgrammed mv ((x, l) :: r)) s = .next t ∧ (t.nv.cell (0x500 + s.nv.lockouts)).strict = otpEncode 0xFFFFFFFF ∧
        (∀ w' ≠ 0x500 + s.nv.lockouts, t.nv.cell w' = s.nv.cell w') ∧ t.dev.ot.queue = rest ∧ t.dev.fld .OT_PRES_RESULT = 0 ∧ t.dev.fld .OT_PRES_SRC = 2) ∧
    (∀ pulses, 512 ≤ s.nv.lockouts → ∃ t, exec (.otpWordProgrammed mv pulses) s = .next t ∧ t.nv = s.nv ∧ t.dev.ot.queue = rest ∧ t.dev.fld .OT_PRES_RESULT = 7))

/-- Polls, reads and write-backs of the heads. A due poll sends the presence request and notes the answer; an acknowledgement of a
head not present before starts a read, with the head's power not wanted; a missing one takes a head that has been read to GONE. Of
the two attempts of a transaction of a read, the first without failure counts. The end of a read leaves STATE 6 when READ_ID or
READ_USE failed twice, 3 for a blank record, 5 without a key, 2 when the MAC is that of the record and 4 otherwise, REFUSED where
the owner policy does not let the head run, the fault HP_TRUST where the head is not trusted, and the identity read; a new serial
sets the head count, every actuation counter of the port and the tally record, and a larger count of a head that runs is taken
over. A write-back sends the count and its MAC; one that reads back the record sent leaves the head count as the one written back
and the head no longer due; one that fails sets WBFAIL, raises its event and leaves the head due. OTP does not change. Cites R363,
R364, R366, R367, R368, R369, R370, R376, R377, R380. -/
def Obligations.HeadTrust : Prop :=
  (∀ (xx : Fin 32) (ack : Bool) (s : State), s.dev.pollDue xx = true →
    ∃ t, exec (.idPoll xx ack) s = .next t ∧ t.nv = s.nv ∧ t.dev.tbl = s.dev.tbl ∧ Out.ident xx 0 [] ∈ t.dev.out ∧
      (t.dev.trHead xx).present = ack ∧ (t.dev.trHead xx).pollAt = (s.dev.trHead xx).pollAt + ms (s.dev.fld .TR_CFG_POLL) ∧
      t.dev.trState xx = (if ack then (if (s.dev.trHead xx).present then s.dev.trState xx else 1)
        else if 2 ≤ s.dev.trState xx ∧ s.dev.trState xx ≤ 5 then 7 else s.dev.trState xx) ∧
      (t.dev.trState xx = 1 ∨ t.dev.trState xx = 7 → t.dev.penWant xx = false) ∧
      (ack = true → (s.dev.trHead xx).present = true → ∀ o, t.dev.word o = s.dev.word o)) ∧
  (∀ (xx : Fin 32) (r : HeadReply) (s : State), s.dev.running = true → s.dev.trOn xx = true → s.dev.trState xx = 1 →
    ∃ t st, exec (.headRead xx r) s = .next t ∧ t.nv.otp = s.nv.otp ∧ t.dev.tbl = s.dev.tbl ∧ t.dev.trState xx = st ∧ Out.ident xx 0x91 [] ∈ t.dev.out ∧
      t.dev.on .HP_PWR_REFUSED xx = !(st == 2 || (st == 3 && s.dev.enrols) || !s.dev.unauth) ∧
      (¬ (st = 2 ∨ (st = 3 ∧ s.dev.enrols = true)) → ∃ g ∈ t.dev.fc.sigs, g.source = srcHpTrust ∧ g.unit = xx.val ∧ g.stamp = s.dev.tb) ∧
      ((r.id.take 2).findSome? (fun x => idData x 0x91 12) = none ∨ (r.use.take 2).findSome? (fun x => idData x 0x93 24) = none →
        st = 6 ∧ t.nv = s.nv ∧ t.dev.wear.cnt = s.dev.wear.cnt) ∧
      (∀ a, (r.id.take 2).findSome? (fun x => idData x 0x91 12) = some a → Out.ident xx 0x93 [] ∈ t.dev.out ∧
        t.dev.pair .TR_SERLO_SERIAL .TR_SERHI_SERIAL xx = ofLe (a.take 8) % 2 ^ 64 ∧ t.dev.fld .TR_TYPE_TYPE xx = ofLe ((a.drop 8).take 2) % 2 ^ 16 ∧
        ∀ u, (r.use.take 2).findSome? (fun x => idData x 0x93 24) = some u →
          (ofLe (u.take 8) = 2 ^ 64 - 1 → (u.drop 8).all (· == 0xFF) = true → st = 3) ∧
          (¬ (ofLe (u.take 8) = 2 ^ 64 - 1 ∧ (u.drop 8).all (· == 0xFF) = true) → (s.dev.ot.km = none → st = 5) ∧
            ∀ km, s.dev.ot.km = some km → st = if headMac km (ofLe (a.take 8)) (ofLe ((a.drop 8).take 2)) (ofLe (u.take 8)) = u.drop 8 then 2 else 4) ∧
          t.dev.pair .TR_USELO_COUNT .TR_USEHI_COUNT xx = ofLe (u.take 8) % 2 ^ 64 ∧
          (r.failed = [] → ofLe (a.take 8) ≠ s.dev.serialOf xx →
            (t.nv.tally xx).serial = ofLe (a.take 8) ∧ t.dev.serialOf xx = ofLe (a.take 8) ∧ t.dev.headCount xx = (if st = 3 then 0 else ofLe (u.take 8)) % 2 ^ 64 ∧
            t.dev.on .WR_HSTAT_HEADCHG xx = true ∧
            ∀ n, n < 4096 → t.dev.wearCnt xx n = min ((if st = 3 then 0 else ofLe (u.take 8)) / max 1 (s.dev.fld .HP_PROF_NOZZLES xx)) (2 ^ 48 - 1)) ∧
          (ofLe (a.take 8) = s.dev.serialOf xx → t.nv = s.nv ∧ t.dev.wear.cnt = s.dev.wear.cnt ∧
            ((st = 2 ∨ s.dev.unauth = false) → t.dev.headCount xx = (if st = 3 then s.dev.headCount xx else max (s.dev.headCount xx) (ofLe (u.take 8)) % 2 ^ 64)))) ∧
      (∀ yy : Fin 32, yy ≠ xx → (r.failed = [] → t.nv.tally yy = s.nv.tally yy) ∧ ∀ n, n < 4096 → t.dev.wearCnt yy n = s.dev.wearCnt yy n)) ∧
  (∀ (xx : Fin 32) (wr rd : List IdTry) (km : List Byte) (s : State), s.dev.boot.phase = .running → s.dev.wbWaits xx = true → s.dev.ot.km = some km →
    ∃ t, exec (.writeBack xx wr rd) s = .next t ∧ t.nv = s.nv ∧ t.dev.tbl = s.dev.tbl ∧ t.dev.headCount xx = s.dev.headCount xx ∧
      ∃ record : List Byte, record = le 8 (s.dev.headCount xx) ++
          headMac km (s.dev.pair .TR_SERLO_SERIAL .TR_SERHI_SERIAL xx) (s.dev.fld .TR_TYPE_TYPE xx) (s.dev.headCount xx) ∧
        Out.ident xx 0xD3 (record ++ crcBytes (0xD3 :: record)) ∈ t.dev.out ∧
        ((wr.take 2).any idAnswered = true → (rd.take 2).findSome? (fun x => idData x 0x93 24) = some record →
          t.dev.writtenBack xx = s.dev.headCount xx ∧ t.dev.wbDue xx = false ∧ t.dev.trState xx = (if s.dev.trState xx = 3 then 1 else s.dev.trState xx)) ∧
        ((wr.take 2).any idAnswered = false ∨ (rd.take 2).findSome? (fun x => idData x 0x93 24) ≠ some record →
          t.dev.writtenBack xx = s.dev.writtenBack xx ∧ t.dev.wbDue xx = true ∧ t.dev.on .TR_STAT_WBFAIL xx = true ∧ t.dev.trState xx = s.dev.trState xx ∧
          ∃ d : Dev, t.dev = d.unitEvent (d.portBay xx) 1 0x1401 xx (s.dev.headCount xx % 2 ^ 32) 0))

/-- Counters, checkpoints and trends. A write of WR_HSTAT.RESET that may reach it clears the head count and every actuation
counter of the port while PEN is low, and changes none while PEN is high. A due periodic or orderly checkpoint starts one with its
cause when none runs. The end of a checkpoint leaves the tally store with the counters that changed, the head counts and the hours
of the device, and STATE 2, DONE and the time base, or STATE 3, the failures counted, the tally fault and its event when words did
not verify. The hourly sample adds an hour and its samples to the trends. OTP does not change. Cites R325, R376, R377, R378, R379,
R380, R381, R385. -/
def Obligations.WearAndTally : Prop :=
  (∀ (w : Writer) (xx : Fin 32) (s : State), s.dev.mayWriteFields w .WR_HSTAT xx 0 [(.WR_HSTAT_RESET, 1)] →
    (s.dev.on .HP_PWR_PEN xx = false → ∃ t, exec (.wearReset w xx) s = .next t ∧ t.nv.otp = s.nv.otp ∧ t.dev.headCount xx = 0 ∧ (∀ n, n < 4096 → t.dev.wearCnt xx n = 0) ∧
      t.dev.on .WR_HSTAT_EST xx = true ∧ (t.nv.tally xx).count = 0 ∧ (t.nv.tally xx).serial = s.dev.serialOf xx ∧
      (∀ yy : Fin 32, yy ≠ xx → t.nv.tally yy = s.nv.tally yy ∧ t.dev.headCount yy = s.dev.headCount yy ∧ ∀ n, n < 4096 → t.dev.wearCnt yy n = s.dev.wearCnt yy n)) ∧
    (s.dev.on .HP_PWR_PEN xx = true → ∃ t, exec (.wearReset w xx) s = .next t ∧ t.nv = s.nv ∧ t.dev.wear = s.dev.wear ∧ t.dev.headCount xx = s.dev.headCount xx)) ∧
  (∀ s : State, s.dev.periodicDue = true → ∃ t, exec .periodicCheckpoint s = .next t ∧ t.nv = s.nv ∧ s.dev.regsBut [RegName.off .WR_CKPT 0 0] t.dev ∧
    t.dev.wear.nextPeriodic = s.dev.wear.nextPeriodic + sec 60 ∧ t.dev.wear.cnt = s.dev.wear.cnt ∧
    (s.dev.wear.ckpt = none → t.dev.wear.ckpt = some (0, s.dev.now) ∧ t.dev.fld .WR_CKPT_STATE = 1 ∧ t.dev.fld .WR_CKPT_CAUSE = 0) ∧
    (∀ c, s.dev.wear.ckpt = some c → t.dev.wear.ckpt = some c ∧ t.dev.regs = s.dev.regs)) ∧
  (∀ s : State, s.dev.orderlyDue = true → ∃ t, exec .orderlyCheckpoint s = .next t ∧ t.nv = s.nv ∧ s.dev.regsBut [RegName.off .WR_CKPT 0 0] t.dev ∧
    t.dev.wear.orderlyHeld = true ∧ t.dev.wear.cnt = s.dev.wear.cnt ∧
    (s.dev.wear.ckpt = none → t.dev.wear.ckpt = some (1, s.dev.now) ∧ t.dev.fld .WR_CKPT_STATE = 1 ∧ t.dev.fld .WR_CKPT_CAUSE = 1) ∧
    (∀ xx : Fin 32, s.dev.headCount xx ≠ s.dev.writtenBack xx → Store.get (fun _ => false) t.dev.wear.wbRun xx = true)) ∧
  (∀ s : State, s.dev.boot.phase = .running → s.dev.wear.ckpt.isSome = true → ∃ t, exec (.checkpointDone []) s = .next t ∧ t.nv.otp = s.nv.otp ∧ t.nv.trend = s.nv.trend ∧
    (∀ e, Store.get (fun _ => 0) t.nv.cnt e =
      if e ∈ s.dev.wear.changed.map (·.1) then Store.get (fun _ => 0) s.dev.wear.cnt e % 2 ^ 48 else Store.get (fun _ => 0) s.nv.cnt e) ∧
    t.dev.wear.changed = [] ∧ t.dev.wear.cnt = s.dev.wear.cnt ∧ t.nv.hours = s.dev.fld .WR_HOURS_HOURS ∧
    (∀ xx : Fin 32, t.nv.tally xx = ⟨s.dev.serialOf xx, s.dev.headCount xx, s.dev.writtenBack xx,
      s.dev.fld .WR_HRATE_RATE xx, s.dev.on .WR_HSTAT_EST xx⟩) ∧
    t.dev.wear.ckpt = none ∧ t.dev.fld .WR_CKPT_STATE = 2 ∧ t.dev.fld .WR_CKPT_DONE = min (s.dev.fld .WR_CKPT_DONE + 1) 65535 ∧
    t.dev.pair .WR_CKTBLO_TB .WR_CKTBHI_TB = s.dev.tb % 2 ^ 64 ∧
    ∀ o, o ∉ [RegName.off .WR_CKPT 0 0, RegName.off .WR_CKTBLO 0 0, RegName.off .WR_CKTBHI 0 0] → t.dev.word o = s.dev.word o) ∧
  (∀ (f : Nat × Nat) (r : List (Nat × Nat)) (s : State), s.dev.boot.phase = .running → s.dev.wear.ckpt.isSome = true →
    (∀ x ∈ f :: r, 131072 ≤ x.1 ∨ Store.get (fun _ => false) s.dev.wear.changed x.1 = true) →
    ∃ t, exec (.checkpointDone (f :: r)) s = .next t ∧ t.nv.otp = s.nv.otp ∧ t.dev.wear.ckpt = none ∧ t.dev.fld .WR_CKPT_STATE = 3 ∧
      t.dev.fld .WR_TSTAT_WFAIL = min (s.dev.fld .WR_TSTAT_WFAIL + (r.length + 1)) 65535 ∧ (∃ g ∈ t.dev.fc.sigs, g.source = srcTally ∧ g.stamp = s.dev.tb) ∧
      (∃ (d : Dev) (x : Nat × Nat), x ∈ f :: r ∧ t.dev = d.devEvent d.steward 1 0x1502 0xFF x.1 0) ∧
      (f.1 < 131072 → Store.get (fun _ => 0) t.nv.cnt f.1 = f.2 % 2 ^ 48) ∧ t.dev.wear.cnt = s.dev.wear.cnt ∧
      s.dev.regsBut [RegName.off .WR_CKPT 0 0, RegName.off .WR_TSTAT 0 0] t.dev) ∧
  (∀ (o : TrendObs) (s : State), s.dev.trendDue = true → o.failed = [] → ∃ t, exec (.trendSample o) s = .next t ∧ t.nv.otp = s.nv.otp ∧ t.nv.cnt = s.nv.cnt ∧ t.nv.port = s.nv.port ∧
    t.dev.fld .WR_HOURS_HOURS = (s.dev.fld .WR_HOURS_HOURS + 1) % 2 ^ 32 ∧ t.nv.hours = t.dev.fld .WR_HOURS_HOURS ∧
    t.dev.wear.nextTrend = s.dev.wear.nextTrend + 3600 * sec 1 ∧ t.dev.wear.cnt = s.dev.wear.cnt ∧ t.dev.tbl = s.dev.tbl ∧
    (∀ xx : Fin 32, t.nv.trendOf (68 + xx) = ((s.dev.headCount xx : Int) :: s.nv.trendOf (68 + xx)).take (s.dev.fld .WR_CFG_TREND) ∧
      t.nv.trendOf (2 * xx + 1) = ((min 65535 (s.dev.fpDrift xx) : Int) :: s.nv.trendOf (2 * xx + 1)).take (s.dev.fld .WR_CFG_TREND)) ∧
    t.nv.trendOf 64 = (o.ring :: s.nv.trendOf 64).take (s.dev.fld .WR_CFG_TREND) ∧
    t.nv.trendOf 65 = (if o.ddr = 0xFF then s.nv.trendOf 65 else ((o.ddr : Int) :: s.nv.trendOf 65).take (s.dev.fld .WR_CFG_TREND)) ∧
    t.dev.fld .WR_MARG_DDR = o.ddr % 256 ∧ t.dev.fld .WR_MARG_PCIE = o.pcie % 256 ∧ t.dev.fld .WR_MARG_ETH = o.eth % 256)

/-- What the console answers to its lines and bytes. At the prompt STAT answers GL_MODE, BOOTST and three words of the fault
collector; RD answers the words read, RD of GL_ID 0x3200_1001, and a count outside 1 to 256 ERR 0x0080; an accepted WR writes;
STOP of a present bay registers a stop of source 2, the first being kept, of an absent one answers ERR 0x0001, and in SERVICE
clears SV_PEN; a NOP frame by F answers its completion; SHOW PS answers the state of the channel, and with W watches; BAUD takes a
rate up to 10. Before LOAD has completed a command is answered ERR 0x0083, while another runs ERR 0x0082. A byte joins the line, a
line end clears it, a framing error is counted. Cites R386, R387, R388, R389, R396, R61. -/
def Obligations.ConsoleLines : Prop :=
  (∀ s : State, s.dev.hears = true → s.dev.con.wait = none → s.dev.con.watch = none → s.dev.con.dropped = false →
    exec .consoleStat s = .next (s.answers (okLine [(s.dev.peekReg s.nv .GL_MODE 0 0).toNat, s.dev.bootst, (s.dev.reg .FC_SPALLLO).toNat,
      (s.dev.reg .FC_SPALLHI).toNat, (s.dev.reg .FC_FIRST).toNat]))) ∧
  (∀ (a n : Nat) (s : State), s.dev.prompt → (n = 0 ∨ 256 < n) → exec (.consoleRd a n) s = .next (s.answers "ERR 0x0080")) ∧
  (∀ s : State, s.dev.prompt → exec (.consoleRd 0 1) s = .next (s.answers "OK 0x3200_1001")) ∧
  (∀ (a n : Nat) (s : State), s.dev.prompt → 1 ≤ n → n ≤ 256 → ∃ t text, exec (.consoleRd a n) s = .next t ∧ t.nv = s.nv ∧ t.dev.out.head? = some (.line text)) ∧
  (∀ (a n : Nat) (d : Dev) (ws : List Word) (s : State), s.dev.prompt → 1 ≤ n → n ≤ 256 →
    s.dev.readAll s.nv .console ((List.range n).map fun i => (a + 4 * i) % 2 ^ 32) = (d, ws, .ok) →
    exec (.consoleRd a n) s = .next { s with dev := d.emit (.line (okLine (ws.map (·.toNat)))) }) ∧
  (∀ (a : Nat) (x : Word) (s : State), s.dev.accepts s.nv .console a x → (s.dev.written s.nv .console a x).1.noneWithheld →
    exec (.consoleWr a x) s = .next { s with dev := (s.dev.written s.nv .console a x).1, nv := (s.dev.written s.nv .console a x).2 }) ∧
  (∀ (b : Fin 4) (s : State), s.dev.running = true → s.dev.con.watch = none → s.dev.con.dropped = false → s.dev.inService = false →
    exec (.consoleStop (some b)) s = .next (if s.dev.present b = false then s.answers "ERR 0x0001"
      else if (s.dev.pc b).stop.isSome then s.answers "OK" else { s with dev := (s.dev.setPc b { s.dev.pc b with stop := some 2 }).emit (.line "OK") })) ∧
  (∀ s : State, s.dev.running = true → s.dev.con.watch = none → s.dev.con.dropped = false → s.dev.inService = false →
    ∃ t, exec (.consoleStop none) s = .next t ∧ t.nv = s.nv ∧ t.dev.regs = s.dev.regs ∧ t.dev.out = .line "OK" :: s.dev.out ∧
      ∀ b : Fin 4, (t.dev.pc b).stop = if s.dev.present b = true ∧ (s.dev.pc b).stop = none then some 2 else (s.dev.pc b).stop) ∧
  (∀ (b : Option (Fin 4)) (s : State), s.dev.inService = true → s.dev.con.watch = none → s.dev.con.dropped = false → ∃ t, exec (.consoleStop b) s = .next t ∧ t.nv = s.nv ∧ t.dev.bays = s.dev.bays ∧
    t.dev.reg .SV_PEN = 0 ∧ t.dev.out.head? = some (.line "OK")) ∧
  (∀ (f : List Byte) (s : State), s.dev.prompt → s.dev.inService = true → s.dev.noneWithheld → f.length = 16 → (parseHdr f).magic = 0x4E44 → (parseHdr f).seat = 0x0F →
    (parseHdr f).version = 1 → (parseHdr f).queue = 1 → (parseHdr f).op = 0 → (parseHdr f).len = 0 → ∃ c : Frame, c.opcode = 0x8000 ∧ c.status = 0 ∧ c.seat = 0x0F ∧
      c.seq = (parseHdr f).seq ∧ c.payload = [] ∧ exec (.consoleF f) s = .next (s.answers (String.ofList ('R' :: ' ' :: c.bytes.flatMap hexByte)))) ∧
  (∀ (f : List Byte) (s : State), s.dev.prompt → s.dev.inService = true → s.dev.noneWithheld → 16 ≤ f.length → (parseHdr f).magic ≠ 0x4E44 → ∃ c : Frame,
    c.opcode = (parseHdr f).op % 2 ^ 15 + 2 ^ 15 ∧ c.status = 4 ∧ c.seat = 0x0F ∧ c.seq = (parseHdr f).seq ∧ c.payload = [] ∧
    ∃ t, exec (.consoleF f) s = .next t ∧ t.nv = s.nv ∧ t.dev.out = .line (String.ofList ('R' :: ' ' :: c.bytes.flatMap hexByte)) :: s.dev.out) ∧
  (∀ (f : List Byte) (s : State), s.dev.prompt → s.dev.noneWithheld → f.length < 16 → exec (.consoleF f) s = .next (s.answers "ERR 0x0080")) ∧
  (∀ (n : Fin 8) (w : Bool) (s : State), s.dev.prompt → ∃ t, exec (.consoleShow (.ps n) w) s = .next t ∧ t.nv = s.nv ∧ t.dev.regs = s.dev.regs ∧
    t.dev.out = .line (s.dev.showPs n) :: s.dev.out ∧ t.dev.con.watch = if w then some (0, n.val) else none) ∧
  (∀ (n : Fin 4) (lanes : List (Fin 5)) (w : Bool) (s : State), s.dev.prompt → ∃ t, exec (.consoleShow (.cam n lanes) w) s = .next t ∧ t.nv = s.nv ∧
    t.dev.regs = s.dev.regs ∧ t.dev.out = .line (showCam lanes) :: s.dev.out ∧ t.dev.con.watch = if w then some (1, n.val) else none) ∧
  (∀ (xx : Fin 32) (samples : List Nat) (w : Bool) (s : State), s.dev.prompt →
    exec (.consoleShow (.sn xx samples) w) s = .next (s.answers (if s.dev.inService then showSn samples else "ERR 0x000D"))) ∧
  (∀ (lanes : List (Fin 5)) (k n : Nat) (s : State), s.dev.running = true → s.dev.con.watch = some (k, n) →
    (s.dev.now < s.dev.con.watchAt + ms 10 → exec (.showWatchUpdate lanes) s = .next s) ∧
    ((if k = 0 then s.dev.showPs n else showCam lanes) = s.dev.con.watchText → exec (.showWatchUpdate lanes) s = .next s) ∧
    (s.dev.con.watchAt + ms 10 ≤ s.dev.now → (if k = 0 then s.dev.showPs n else showCam lanes) ≠ s.dev.con.watchText → ∃ t, exec (.showWatchUpdate lanes) s = .next t ∧ t.nv = s.nv ∧ t.dev.regs = s.dev.regs ∧ t.dev.con.watchAt = s.dev.now ∧
      t.dev.out = .line (if k = 0 then s.dev.showPs n else showCam lanes) :: s.dev.out)) ∧
  (∀ (r : Nat) (s : State), s.dev.prompt → (10 < r → exec (.consoleBaud r) s = .next (s.answers "ERR 0x0003")) ∧
    (r ≤ 10 → ∃ t, exec (.consoleBaud r) s = .next t ∧ t.nv = s.nv ∧ t.dev.fld .SV_STAT_BAUD = r ∧ t.dev.out = .line "OK" :: s.dev.out ∧
      ∀ o, o ≠ RegName.off .SV_STAT 0 0 → t.dev.word o = s.dev.word o)) ∧
  (∀ (r : LineReject) (s : State), s.dev.hears = true → s.dev.con.dropped = true →
    exec (.consoleLineRejected r) s = .next { s with dev := { s.dev with con := { s.dev.con with dropped := false } } }) ∧
  (∀ s : State, s.dev.hears = true → s.dev.con.watch = none → s.dev.con.dropped = false →
    (s.dev.running = true → s.dev.con.wait.isSome = true → exec (.consoleLineRejected .busy) s = .next (s.answers "ERR 0x0082")) ∧
    (s.dev.running = false → exec (.consoleLineRejected .notYet) s = .next (s.answers "ERR 0x0083"))) ∧
  (∀ s : State, s.dev.hears = true → s.dev.con.watch = none → s.dev.con.dropped = false → exec (.consoleLineRejected .long) s = .next (s.answers "ERR 0x0081") ∧
    exec (.consoleLineRejected .syntaxError) s = .next (s.answers (if s.dev.running = false then "ERR 0x0083" else if s.dev.con.wait.isSome then "ERR 0x0082" else "ERR 0x0080"))) ∧
  (∀ s : State, s.dev.hears = true → s.dev.con.watch = none → s.dev.con.dropped = false →
    ∀ i ∈ [Instr.consoleRd 0 1, .consoleWr 0 0, .consoleService, .consoleRun, .consoleReload 0, .consoleBaud 4], s.dev.noneWithheld →
    (s.dev.running = false → exec i s = .next (s.answers "ERR 0x0083")) ∧
    (s.dev.running = true → s.dev.con.wait.isSome = true → exec i s = .next (s.answers "ERR 0x0082"))) ∧
  (∀ (b : Byte) (s : State), s.dev.hears = true → s.dev.con.watch = none →
    (∃ t, exec (.consoleByteReceived b true) s = .next t ∧ t.nv = s.nv ∧ t.dev.con = s.dev.con ∧ t.dev.fld .SV_STAT_RXERR = min (s.dev.fld .SV_STAT_RXERR + 1) 65535) ∧
    ((b = 13 ∨ b = 10) → ∃ t, exec (.consoleByteReceived b false) s = .next t ∧ t.nv = s.nv ∧ t.dev.con.line = [] ∧ t.dev.regs = s.dev.regs ∧
      t.dev.out = (if s.dev.con.overlong then [Out.line "ERR 0x0081"] else []) ++ s.dev.out ∧ t.dev.con.dropped = (s.dev.con.overlong || s.dev.con.dropped)) ∧
    (((b.toNat < 0x20 ∧ b ≠ 13 ∧ b ≠ 10) ∨ 0x7E < b.toNat) → ∃ t, exec (.consoleByteReceived b false) s = .next t ∧ t.nv = s.nv ∧ t.dev.con = s.dev.con ∧
      t.dev.fld .SV_STAT_RXERR = min (s.dev.fld .SV_STAT_RXERR + 1) 65535) ∧
    (0x20 ≤ b.toNat → b.toNat ≤ 0x7E → 8400 ≤ s.dev.con.line.length → ∃ t, exec (.consoleByteReceived b false) s = .next t ∧ t.nv = s.nv ∧
      t.dev.con.line = s.dev.con.line ∧ t.dev.con.overlong = true ∧ t.dev.regs = s.dev.regs) ∧
    (0x20 ≤ b.toNat → b.toNat ≤ 0x7E → s.dev.con.line.length < 8400 → ∃ t, exec (.consoleByteReceived b false) s = .next t ∧ t.nv = s.nv ∧
      t.dev.con.line = s.dev.con.line ++ [b] ∧ t.dev.regs = s.dev.regs ∧
      t.dev.out = (if s.dev.on .SV_CFG_ECHO then [Out.echo (if b ≠ 0x20 ∧ secretNext s.dev.con.line = true then 0x2A else b)] else []) ++ s.dev.out))

/-- The service commands of the console. SERVICE in bay modes at rest with no commit under way enters SERVICE with every bay in
STANDBY, and otherwise answers ERR 0x000D; RUN leaves it with the meter settings at reset. In SERVICE, accepted writes of PARK,
ID, TEMP, OUT, PEN and PLUMB leave their fields as named and answer OK, and arguments out of range answer ERR 0x0003; OTP PROG,
LOCK and SEAL queue their words, or leave the refusing RESULT; RELOAD starts the warm reload; TEST starts the test. Out of SERVICE
each of them is answered ERR 0x000D. OTP and the tally do not change yet. Cites R321, R322, R346, R360, R389, R390, R392, R393,
R395, R397, R398, R400. -/
def Obligations.ConsoleService : Prop :=
  (∀ s : State, s.dev.prompt → s.dev.boot.phase = .running → s.dev.boot.service = false → s.dev.quietForService.2 = true →
    ∃ t, exec .consoleService s = .next t ∧ t.nv = s.nv ∧ t.dev.boot.service = true ∧ t.dev.boot.phase = .running ∧ t.dev.reg .SV_PEN = 0 ∧ t.dev.wear.ckpt.isSome = true ∧
      (∀ b : Fin 4, (t.dev.bay b).mode = .standby ∧ (t.dev.bay b).mark = false ∧ (t.dev.pc b).trigs = []) ∧ t.dev.out.head? = some (.line "OK") ∧
      ((∀ b : Fin 4, (s.dev.pc b).trigs = []) → t.dev.tbl = s.dev.tbl)) ∧
  (∀ s : State, s.dev.prompt → s.dev.boot.phase = .running → s.dev.boot.service = false → s.dev.atRest = false →
    exec .consoleService s = .next (s.answers "ERR 0x000D")) ∧
  (∀ s : State, s.dev.prompt → s.dev.boot.phase = .running → s.dev.boot.service = true → s.dev.noneWithheld →
    ∃ t, exec .consoleRun s = .next t ∧ t.nv = s.nv ∧ t.dev.boot.service = false ∧ t.dev.out.head? = some (.line "OK") ∧ t.dev.tbl = s.dev.tbl ∧
      (∀ xx : Fin 32, t.dev.reg .SV_PARK xx = 0) ∧ (∀ j : Fin 4, t.dev.reg .SV_FORCE j = 0) ∧ t.dev.reg .SV_MTEMP = 0 ∧ t.dev.reg .SV_PEN = 0 ∧ t.dev.reg .SV_PLUMB = 0) ∧
  (∀ (xx : Fin 32) (pin : Fin 7) (code : Fin 3) (s : State), s.dev.prompt → s.dev.inService = true →
    s.dev.conAccepts s.nv .SV_PARK xx (wput (s.dev.reg .SV_PARK xx) (2 * pin) 2 code) →
    ∃ t, exec (.consolePark xx pin code) s = .next t ∧ t.nv = s.nv ∧ t.dev.out.head? = some (.line "OK") ∧ t.dev.reg .SV_PARK xx = wput (s.dev.reg .SV_PARK xx) (2 * pin) 2 code) ∧
  (∀ (xx : Fin 32) (low : Bool) (s : State), s.dev.prompt → s.dev.inService = true → s.dev.conAccepts s.nv .SV_PARK xx (putAll (s.dev.reg .SV_PARK xx) [(.SV_PARK_IDLOW, bit low)]) →
    ∃ t, exec (.consoleId xx low) s = .next t ∧ t.nv = s.nv ∧ t.dev.out.head? = some (.line "OK") ∧ t.dev.on .SV_PARK_IDLOW xx = low ∧
      t.dev.fld .SV_PARK_PARK xx = s.dev.fld .SV_PARK_PARK xx) ∧
  (∀ (c : Fin 128) (on : Bool) (s : State), s.dev.prompt → s.dev.inService = true →
    s.dev.conAccepts s.nv .SV_MTEMP 0 (putAll (s.dev.reg .SV_MTEMP) [(.SV_MTEMP_CH, c.val), (.SV_MTEMP_EN, bit on)]) →
    ∃ t, exec (.consoleTemp c on) s = .next t ∧ t.nv = s.nv ∧ t.dev.out.head? = some (.line "OK") ∧ t.dev.fld .SV_MTEMP_CH = c.val ∧ t.dev.on .SV_MTEMP_EN = on) ∧
  (∀ (p : Nat) (code : Fin 4) (s : State), s.dev.prompt → s.dev.inService = true →
    (51 < p → exec (.consoleOut p code) s = .next (s.answers "ERR 0x0003")) ∧
    (p ≤ 51 → s.dev.conAccepts s.nv .SV_FORCE (p / 16) (wput (s.dev.reg .SV_FORCE (p / 16)) (2 * (p % 16)) 2 code) →
      ∃ t, exec (.consoleOut p code) s = .next t ∧ t.nv = s.nv ∧ t.dev.out.head? = some (.line "OK") ∧
        t.dev.reg .SV_FORCE (p / 16) = wput (s.dev.reg .SV_FORCE (p / 16)) (2 * (p % 16)) 2 code)) ∧
  (∀ (xx : Fin 32) (on : Bool) (s : State), s.dev.prompt → s.dev.inService = true → s.dev.conAccepts s.nv .SV_PEN 0 (wput (s.dev.reg .SV_PEN) xx 1 (bit on)) →
    ∃ t, exec (.consolePen xx on) s = .next t ∧ t.nv = s.nv ∧ t.dev.out.head? = some (.line "OK") ∧ t.dev.reg .SV_PEN = wput (s.dev.reg .SV_PEN) xx 1 (bit on)) ∧
  (∀ (sel : Nat) (arg : Fin 256) (level : BitVec 16) (s : State), s.dev.prompt → s.dev.inService = true →
    (32 ≤ sel → exec (.consolePlumb sel arg level) s = .next (s.answers "ERR 0x0003")) ∧
    (sel < 32 → s.dev.conAccepts s.nv .SV_PLUMB 0 (putAll (s.dev.reg .SV_PLUMB) [(.SV_PLUMB_SEL, sel), (.SV_PLUMB_ARG, arg.val), (.SV_PLUMB_LEVEL, level.toNat)]) →
      ∃ t, exec (.consolePlumb sel arg level) s = .next t ∧ t.nv = s.nv ∧ t.dev.out.head? = some (.line "OK") ∧ t.dev.fld .SV_PLUMB_SEL = sel ∧
        t.dev.fld .SV_PLUMB_ARG = arg.val ∧ t.dev.fld .SV_PLUMB_LEVEL = level.toNat)) ∧
  (∀ (w : Fin 2048) (data : Word) (s : State), s.dev.prompt → s.dev.inService = true → s.dev.ot.queue = [] → s.dev.nextRec < 16 →
    recAt s.dev.nextRec ≤ w.val → w.val ≤ recAt s.dev.nextRec + 0x11 → otpStored w data ≠ 0 →
    ∃ t, exec (.consoleOtpProg w data) s = .next t ∧ t.nv = s.nv ∧
      (s.nv.programmed w = false → t.dev.con.wait = some .otp ∧ t.dev.ot.queue = [⟨0, [(w.val, otpStored w data)], none⟩] ∧ t.dev.out = s.dev.out) ∧
      (s.nv.programmed w = true → t.dev.con.wait = none ∧ t.dev.ot.queue = [] ∧ t.dev.fld .OT_PRES_RESULT = 4 ∧ t.dev.out.head? = some (.line "OK 0x4"))) ∧
  (∀ (k : Fin 16) (s : State), s.dev.prompt → s.dev.inService = true → s.dev.ot.queue = [] → s.dev.nextRec = k.val →
    (∃ t, exec (.consoleOtpLock k) s = .next t ∧ t.nv = s.nv ∧
      ((otpItems.all fun i => s.dev.complete0 (recAt k + i.1) i.2) = false → t.dev.fld .OT_PRES_RESULT = 6 ∧ t.dev.ot.queue = [] ∧ t.dev.con.wait = none) ∧
      ((otpItems.all fun i => s.dev.complete0 (recAt k + i.1) i.2) = true → s.nv.xfer < 16 → t.dev.con.wait = some .otp ∧
        t.dev.ot.queue = [⟨0, [(0x300 + s.nv.xfer, 0xFFFFFFFF), (recAt k + 0x1F, 0x5EA10001)], none⟩])) ∧
    (s.nv.xfer < 16 → ∃ t, exec (.consoleOtpSeal k) s = .next t ∧ t.nv = s.nv ∧ t.dev.con.wait = some .otp ∧
      t.dev.ot.queue = [⟨0, [(0x300 + s.nv.xfer, 0xFFFFFFFF), (recAt k + 0x1F, 0x5EA10002)], none⟩])) ∧
  (∀ (sel : Nat) (s : State), s.dev.prompt → s.dev.boot.phase = .running → s.dev.boot.service = true → s.dev.boot.reloadWaits = none →
    (4 ≤ sel → exec (.consoleReload sel) s = .next (s.answers "ERR 0x0004")) ∧
    (sel < 4 → ∃ t, exec (.consoleReload sel) s = .next t ∧ t.nv = s.nv ∧ t.dev.tbl = s.dev.tbl ∧ Out.line "OK" ∈ t.dev.out ∧
      (s.dev.staging = false → t.dev.boot.phase = .reloadWait ∧ t.dev.boot.sel = sel) ∧
      (s.dev.staging = true → t.dev.boot.phase = .running ∧ t.dev.boot.reloadWaits = some (none, sel)))) ∧
  (∀ (test : Fin 10) (arg : Fin 256) (s : State), s.dev.prompt → s.dev.inService = true →
    (s.dev.con.test.isSome = true → exec (.consoleTest test arg) s = .next (s.answers "ERR 0x000B")) ∧
    (s.dev.conAccepts s.nv .SV_TEST 0 (putAll 0 [(.SV_TEST_TEST, test.val), (.SV_TEST_ARG, arg.val), (.SV_TEST_GO, 1)]) →
      ∃ t, exec (.consoleTest test arg) s = .next t ∧ t.nv = s.nv ∧ t.dev.con.wait = some .test ∧ t.dev.con.test = some ⟨test.val, arg.val, [], none⟩ ∧
        t.dev.fld .SV_TEST_STATE = 1 ∧ t.dev.on .SV_TEST_GO = true)) ∧
  (∀ s : State, s.dev.prompt → s.dev.inService = false → s.dev.noneWithheld →
    ∀ i ∈ [Instr.consoleRun, .consolePark 0 0 1, .consoleId 0 true, .consoleTemp 0 true, .consoleOut 0 1, .consolePen 0 true, .consolePlumb 0 0 0, .consoleOtpProg 0x100 1,
      .consoleOtpLock 0, .consoleOtpSeal 0, .consoleReload 0, .consoleTest 1 0], exec i s = .next (s.answers "ERR 0x000D"))

/-- The self-tests end with their results. A test that may end keeps its result: passed with detail 0, or failed with its detail;
in TEST ALL a pass goes on to the next test or, at the last, passes, and a failure ends ALL with the number of the test in the top
byte of the detail. TEST ALL lists tests 1 to 4, then 5 and 6 on the ready ports and 7 on the enabled channels. The test of the
array fails with condition 1 when the array does not read. The frame-store test leaves every byte outside its range and, inside
it, the free values of log 3. The end of a test sets SV_TEST and SV_TESTD and answers the line that waits. Cites R357, R390, R391.
-/
def Obligations.SelfTests : Prop :=
  (∀ (a : Nat) (s : State), s.dev.con.test = some ⟨0, a, [], none⟩ →
    exec .testAll s = .next { s with dev := { s.dev with con := { s.dev.con with test := some ⟨0, a, s.dev.allTests, none⟩ } } } ∧
    s.dev.allTests.take 4 = [(1, 0), (2, 0), (3, 0), (4, 0)] ∧
    ∀ xx : Fin 32, ((5, xx.val) ∈ s.dev.allTests ↔ s.dev.on .HP_PWR_READY xx = true) ∧ ((6, xx.val) ∈ s.dev.allTests ↔ s.dev.on .HP_PWR_READY xx = true)) ∧
  (∀ (bad : Option Nat) (lost : Fin 512) (ue : Nat) (lk : Fin 128) (short step first second : Nat) (cam : Bool) (crc : Word) (s : State) (x : Instr × Nat × Bool × Nat),
    x ∈ [(Instr.testSram bad, 1, bad.isNone, bad.getD 0), (.testPll lost, 2, lost == 0, lost.val), (.testTally ue, 4, ue == 0, ue), (.testLink lk, 5, lk == 0, lk.val),
      (.testSnadc short step, 6, decide (2040 ≤ short ∧ short ≤ 2056 ∧ 3052 ≤ step ∧ step ≤ 3092), short % 4096 + 65536 * (step % 4096)),
      (.testTemp first second, 7, decide (16351 ≤ first ∧ first ≤ 16417 ∧ 16351 ≤ second ∧ second ≤ 16417), first % 65536 + 65536 * (second % 65536)),
      (.testCam cam crc, 9, cam, crc.toNat)] → s.dev.subDue x.2.1 = true →
    ∃ t r, exec x.1 s = .next t ∧ t.nv = s.nv ∧ t.dev.con.test = some r ∧ { t.dev with con := s.dev.con } = s.dev ∧
      (∀ a todo, s.dev.con.test = some ⟨x.2.1, a, todo, none⟩ → r.result = some (x.2.2.1, if x.2.2.1 then 0 else x.2.2.2 % 2 ^ 32)) ∧
      (∀ a b rest, s.dev.con.test = some ⟨0, a, (x.2.1, b) :: rest, none⟩ →
        (x.2.2.1 = true → r.todo = rest ∧ r.result = if rest = [] then some (true, 0) else none) ∧
        (x.2.2.1 = false → r.result = some (false, x.2.1 * 2 ^ 24 + x.2.2.2 % 2 ^ 24)))) ∧
  (∀ (selfTest : Bool) (a : Nat) (s : State), s.dev.subDue 3 = true → s.dev.con.test = some ⟨3, a, [], none⟩ → s.dev.fld .PT_ECC_TARGET ≠ 2 →
    (∃ t x, exec (.testOtp false selfTest) s = .next t ∧ t.nv = s.nv ∧ t.dev.con.test = some ⟨3, a, [], some (false, x)⟩ ∧ x / 4096 = 1 ∧ t.dev.ot = s.dev.ot) ∧
    ((∀ w < 0x800, (otpDecide (s.nv.cell w)).ue = false ∧ (otpDecide (s.nv.cell w)).marginal = false) → (otpDecide (s.nv.cell 0xFF)).blank = false →
      (otpDecide (s.nv.cell 0xFF)).data = 0x5EA10001 →
      (otpDecide (s.nv.cell 0xFE)).data = crc32 ((List.range 0xFE).flatMap fun w => le 4 (otpDecide (s.nv.cell w)).data.toNat) →
      ∃ t, exec (.testOtp true true) s = .next t ∧ t.nv = s.nv ∧ t.dev.con.test = some ⟨3, a, [], some (true, 0)⟩ ∧ t.dev.ot = s.dev.ot)) ∧
  (∀ (failing : Option Nat) (a : Nat) (s : State), s.dev.subDue 8 = true → s.dev.con.test = some ⟨8, a, [], none⟩ →
    ∃ t, exec (.testFsmem failing) s = .next t ∧ t.nv = s.nv ∧ t.dev.regs = s.dev.regs ∧ t.dev.tbl = s.dev.tbl ∧
      t.dev.con.test = some ⟨8, a, [], some (failing.isNone, failing.getD 0 % 2 ^ 32)⟩ ∧
      ∀ m, if s.dev.fld .SV_TARG_BASE * 2 ^ 20 ≤ m ∧ m < (s.dev.fld .SV_TARG_BASE + s.dev.fld .SV_TARG_SIZE) * 2 ^ 20
        then t.dev.fsByte m = Config.testPattern s.dev.free m else t.dev.fsByte m = s.dev.fsByte m) ∧
  (∀ (test a detail : Nat) (todo : List (Nat × Nat)) (pass : Bool) (s : State), s.dev.running = true → s.dev.con.test = some ⟨test, a, todo, some (pass, detail)⟩ →
    ∃ t, exec .svTestDone s = .next t ∧ t.nv = s.nv ∧ t.dev.tbl = s.dev.tbl ∧ t.dev.con.test = none ∧ t.dev.on .SV_TEST_GO = false ∧
      t.dev.fld .SV_TEST_STATE = (if pass then 2 else 3) ∧ t.dev.fld .SV_TESTD_DETAIL = detail % 2 ^ 32 ∧
      (s.dev.con.wait = some .test → t.dev.con.wait = none ∧ t.dev.out.head? = some (.line ((if pass then "OK PASS " else "OK FAIL ") ++ hex32 detail))) ∧
      (s.dev.con.wait ≠ some .test → t.dev.con.wait = s.dev.con.wait ∧
        ∃ d : Dev, t.dev = d.devEvent d.steward 1 0x1600 0xFF (t.dev.reg .SV_TEST).toNat detail))
end

