-- ==== Sys2Proof/Laws/PerInstr.lean ====
section
/-! SUPPORT. What holds of every command as syntax, one lemma per constructor. -/

namespace Sys2Proof.Laws.Unmapped

/-- No word of the opcode table spells the command: its rows give no bits. -/
def Statement (i : Instr) : Prop := ∀ nbits w : Nat, decodeTableWord nbits w ≠ some i

theorem registerWrite fn addr size enables value : Statement (.registerWrite fn addr size enables value) := fun _ _ h => nomatch h
theorem powerEstimateUpdate mw : Statement (.powerEstimateUpdate mw) := fun _ _ h => nomatch h
theorem ethFrameReceived port dstMac f : Statement (.ethFrameReceived port dstMac f) := fun _ _ h => nomatch h
theorem linkUp seat speed width : Statement (.linkUp seat speed width) := fun _ _ h => nomatch h
theorem linkDown seat : Statement (.linkDown seat) := fun _ _ h => nomatch h
theorem linkLossTimeout seat : Statement (.linkLossTimeout seat) := fun _ _ h => nomatch h
theorem functionLevelReset fn : Statement (.functionLevelReset fn) := fun _ _ h => nomatch h
theorem perstAssert : Statement .perstAssert := fun _ _ h => nomatch h
theorem pcieConfigRequest fn write dword : Statement (.pcieConfigRequest fn write dword) := fun _ _ h => nomatch h
theorem cqDoorbell w fn q value : Statement (.cqDoorbell w fn q value) := fun _ _ h => nomatch h
theorem descriptorFetch fn feed desc : Statement (.descriptorFetch fn feed desc) := fun _ _ h => nomatch h
theorem eqHeadWrite w fn q value : Statement (.eqHeadWrite w fn q value) := fun _ _ h => nomatch h
theorem heldEventDelivery seat : Statement (.heldEventDelivery seat) := fun _ _ h => nomatch h
theorem ringEnableWrite w fn event q value : Statement (.ringEnableWrite w fn event q value) := fun _ _ h => nomatch h
theorem nop h : Statement (.nop h) := fun _ _ h => nomatch h
theorem rd32 h offs : Statement (.rd32 h offs) := fun _ _ h => nomatch h
theorem wr32 h pairs : Statement (.wr32 h pairs) := fun _ _ h => nomatch h
theorem rdblk h off len : Statement (.rdblk h off len) := fun _ _ h => nomatch h
theorem wrblk h off data : Statement (.wrblk h off data) := fun _ _ h => nomatch h
theorem commit h rec : Statement (.commit h rec) := fun _ _ h => nomatch h
theorem commitArmed slot : Statement (.commitArmed slot) := fun _ _ h => nomatch h
theorem prepareTimeout slot : Statement (.prepareTimeout slot) := fun _ _ h => nomatch h
theorem cancel h bay : Statement (.cancel h bay) := fun _ _ h => nomatch h
theorem internalCommitStart b : Statement (.internalCommitStart b) := fun _ _ h => nomatch h
theorem snap h bay flags target : Statement (.snap h bay flags target) := fun _ _ h => nomatch h
theorem snaprd h bay buffer off len : Statement (.snaprd h bay buffer off len) := fun _ _ h => nomatch h
theorem snaprel h bay buffer : Statement (.snaprel h bay buffer) := fun _ _ h => nomatch h
theorem stop h bay : Statement (.stop h bay) := fun _ _ h => nomatch h
theorem nstopFall b lowFor : Statement (.nstopFall b lowFor) := fun _ _ h => nomatch h
theorem cdata h raster count offset pixels format reserved value data : Statement (.cdata h raster count offset pixels format reserved value data) := fun _ _ h => nomatch h
theorem cfill h raster count offset pixels format reserved value len : Statement (.cfill h raster count offset pixels format reserved value len) := fun _ _ h => nomatch h
theorem fflush h raster len reserved : Statement (.fflush h raster len reserved) := fun _ _ h => nomatch h
theorem fqDoorbell w xx value : Statement (.fqDoorbell w xx value) := fun _ _ h => nomatch h
theorem feedFrameResume xx : Statement (.feedFrameResume xx) := fun _ _ h => nomatch h
theorem slotComplete xx raster : Statement (.slotComplete xx raster) := fun _ _ h => nomatch h
theorem apertureWrite fn bar2 off : Statement (.apertureWrite fn bar2 off) := fun _ _ h => nomatch h
theorem bar2Read fn off len : Statement (.bar2Read fn off len) := fun _ _ h => nomatch h
theorem patrolScrub addr err : Statement (.patrolScrub addr err) := fun _ _ h => nomatch h
theorem dqsTracking channel : Statement (.dqsTracking channel) := fun _ _ h => nomatch h
theorem curveHeadWrite w b head : Statement (.curveHeadWrite w b head) := fun _ _ h => nomatch h
theorem curveClaim w b : Statement (.curveClaim w b) := fun _ _ h => nomatch h
theorem curveCopyDone b : Statement (.curveCopyDone b) := fun _ _ h => nomatch h
theorem curveArm w b : Statement (.curveArm w b) := fun _ _ h => nomatch h
theorem tableWrite w off value : Statement (.tableWrite w off value) := fun _ _ h => nomatch h
theorem positionEdge n raw pins : Statement (.positionEdge n raw pins) := fun _ _ h => nomatch h
theorem zEdge n : Statement (.zEdge n) := fun _ _ h => nomatch h
theorem overrateSubwindow n : Statement (.overrateSubwindow n) := fun _ _ h => nomatch h
theorem ssiFrameStart n idleLow : Statement (.ssiFrameStart n idleLow) := fun _ _ h => nomatch h
theorem ssiWordDecoded n raw : Statement (.ssiWordDecoded n raw) := fun _ _ h => nomatch h
theorem speedWindowEnd n : Statement (.speedWindowEnd n) := fun _ _ h => nomatch h
theorem stallTimeout n : Statement (.stallTimeout n) := fun _ _ h => nomatch h
theorem preload w n : Statement (.preload w n) := fun _ _ h => nomatch h
theorem move w n v : Statement (.move w n v) := fun _ _ h => nomatch h
theorem interpolatedTrigger b : Statement (.interpolatedTrigger b) := fun _ _ h => nomatch h
theorem generatorTrigger b : Statement (.generatorTrigger b) := fun _ _ h => nomatch h
theorem pacerRateUpdate b : Statement (.pacerRateUpdate b) := fun _ _ h => nomatch h
theorem delayedTriggerIssue b : Statement (.delayedTriggerIssue b) := fun _ _ h => nomatch h
theorem courseBoundary b : Statement (.courseBoundary b) := fun _ _ h => nomatch h
theorem compareMatch e : Statement (.compareMatch e) := fun _ _ h => nomatch h
theorem comparePulseEnd e o : Statement (.comparePulseEnd e o) := fun _ _ h => nomatch h
theorem emulationEdge n : Statement (.emulationEdge n) := fun _ _ h => nomatch h
theorem codeLoad xx : Statement (.codeLoad xx) := fun _ _ h => nomatch h
theorem latch xx : Statement (.latch xx) := fun _ _ h => nomatch h
theorem latchTrailingEdge xx : Statement (.latchTrailingEdge xx) := fun _ _ h => nomatch h
theorem configRepeatDue xx : Statement (.configRepeatDue xx) := fun _ _ h => nomatch h
theorem headPowerRequest w xx req : Statement (.headPowerRequest w xx req) := fun _ _ h => nomatch h
theorem headSettleDone xx loopback : Statement (.headSettleDone xx loopback) := fun _ _ h => nomatch h
theorem headPowerDownTimer xx : Statement (.headPowerDownTimer xx) := fun _ _ h => nomatch h
theorem waveformBankWrite w off value : Statement (.waveformBankWrite w off value) := fun _ _ h => nomatch h
theorem soundingCaptureDone xx samples : Statement (.soundingCaptureDone xx samples) := fun _ _ h => nomatch h
theorem hmDeclare w b head noz : Statement (.hmDeclare w b head noz) := fun _ _ h => nomatch h
theorem hmClear w b head noz : Statement (.hmClear w b head noz) := fun _ _ h => nomatch h
theorem hmForceGood w b head noz : Statement (.hmForceGood w b head noz) := fun _ _ h => nomatch h
theorem agingPass xx noz : Statement (.agingPass xx noz) := fun _ _ h => nomatch h
theorem footprintWrite w off value : Statement (.footprintWrite w off value) := fun _ _ h => nomatch h
theorem learnStart w xx : Statement (.learnStart w xx) := fun _ _ h => nomatch h
theorem frameStart cam vc sensorFn : Statement (.frameStart cam vc sensorFn) := fun _ _ h => nomatch h
theorem frameEnd cam vc : Statement (.frameEnd cam vc) := fun _ _ h => nomatch h
theorem rowPacket cam vc dt hdrBad wc crcOk pixels : Statement (.rowPacket cam vc dt hdrBad wc crcOk pixels) := fun _ _ h => nomatch h
theorem frameTimeout cam : Statement (.frameTimeout cam) := fun _ _ h => nomatch h
theorem cmClock cam started : Statement (.cmClock cam started) := fun _ _ h => nomatch h
theorem cameraTriggerTimer cam : Statement (.cameraTriggerTimer cam) := fun _ _ h => nomatch h
theorem cameraTrigPulseEnd cam : Statement (.cameraTrigPulseEnd cam) := fun _ _ h => nomatch h
theorem i2cTransactionDone cam ack data : Statement (.i2cTransactionDone cam ack data) := fun _ _ h => nomatch h
theorem i2cHostTransaction w cam rd reg data : Statement (.i2cHostTransaction w cam rd reg data) := fun _ _ h => nomatch h
theorem tileGrant : Statement .tileGrant := fun _ _ h => nomatch h
theorem tileDone : Statement .tileDone := fun _ _ h => nomatch h
theorem statsComplete cam : Statement (.statsComplete cam) := fun _ _ h => nomatch h
theorem cameraFsTimeout cam : Statement (.cameraFsTimeout cam) := fun _ _ h => nomatch h
theorem cameraTableWrite w off value : Statement (.cameraTableWrite w off value) := fun _ _ h => nomatch h
theorem ncJobGo w cam k head rungs rh : Statement (.ncJobGo w cam k head rungs rh) := fun _ _ h => nomatch h
theorem ncJobCancel w cam k : Statement (.ncJobCancel w cam k) := fun _ _ h => nomatch h
theorem inNcDone cam k : Statement (.inNcDone cam k) := fun _ _ h => nomatch h
theorem registrationReset w b : Statement (.registrationReset w b) := fun _ _ h => nomatch h
theorem thermalConversion c r : Statement (.thermalConversion c r) := fun _ _ h => nomatch h
theorem shutRelease w mask : Statement (.shutRelease w mask) := fun _ _ h => nomatch h
theorem faultLatch sigs : Statement (.faultLatch sigs) := fun _ _ h => nomatch h
theorem degradeRequestRetry b : Statement (.degradeRequestRetry b) := fun _ _ h => nomatch h
theorem fcRearm w : Statement (.fcRearm w) := fun _ _ h => nomatch h
theorem fcRelease w mask : Statement (.fcRelease w mask) := fun _ _ h => nomatch h
theorem quietExpiry k : Statement (.quietExpiry k) := fun _ _ h => nomatch h
theorem selfCheckTest k unit pass : Statement (.selfCheckTest k unit pass) := fun _ _ h => nomatch h
theorem lockWindowExpiry k : Statement (.lockWindowExpiry k) := fun _ _ h => nomatch h
theorem nerrPulseEnd : Statement .nerrPulseEnd := fun _ _ h => nomatch h
theorem nerrHoldWrite w hold : Statement (.nerrHoldWrite w hold) := fun _ _ h => nomatch h
theorem resetAssert ns : Statement (.resetAssert ns) := fun _ _ h => nomatch h
theorem resetRelease : Statement .resetRelease := fun _ _ h => nomatch h
theorem aonStable : Statement .aonStable := fun _ _ h => nomatch h
theorem otpIntegrityCheckDone arrayReads selfTest : Statement (.otpIntegrityCheckDone arrayReads selfTest) := fun _ _ h => nomatch h
theorem pllLocked : Statement .pllLocked := fun _ _ h => nomatch h
theorem sramClearDone : Statement .sramClearDone := fun _ _ h => nomatch h
theorem imageHeadersRead f : Statement (.imageHeadersRead f) := fun _ _ h => nomatch h
theorem imageBodyRead body : Statement (.imageBodyRead body) := fun _ _ h => nomatch h
theorem frameStoreTrained ok0 ok1 mr8 : Statement (.frameStoreTrained ok0 ok1 mr8) := fun _ _ h => nomatch h
theorem loadComplete tallyUe : Statement (.loadComplete tallyUe) := fun _ _ h => nomatch h
theorem supplyTrip rail us : Statement (.supplyTrip rail us) := fun _ _ h => nomatch h
theorem aonPowerOnReset : Statement .aonPowerOnReset := fun _ _ h => nomatch h
theorem sealedStatusLine : Statement .sealedStatusLine := fun _ _ h => nomatch h
theorem imgreload h sel : Statement (.imgreload h sel) := fun _ _ h => nomatch h
theorem writebackAbandon : Statement .writebackAbandon := fun _ _ h => nomatch h
theorem orderlyCheckpoint : Statement .orderlyCheckpoint := fun _ _ h => nomatch h
theorem periodicCheckpoint : Statement .periodicCheckpoint := fun _ _ h => nomatch h
theorem checkpointDone failed : Statement (.checkpointDone failed) := fun _ _ h => nomatch h
theorem imgstageErase h copy : Statement (.imgstageErase h copy) := fun _ _ h => nomatch h
theorem imgstageWrite h copy off data : Statement (.imgstageWrite h copy off data) := fun _ _ h => nomatch h
theorem imgstageVerify h copy : Statement (.imgstageVerify h copy) := fun _ _ h => nomatch h
theorem imgstageQuery h : Statement (.imgstageQuery h) := fun _ _ h => nomatch h
theorem imgstageAdvance h : Statement (.imgstageAdvance h) := fun _ _ h => nomatch h
theorem flashOperationDone ok body : Statement (.flashOperationDone ok body) := fun _ _ h => nomatch h
theorem otpProgramWord w rec : Statement (.otpProgramWord w rec) := fun _ _ h => nomatch h
theorem otpLockFull w rec : Statement (.otpLockFull w rec) := fun _ _ h => nomatch h
theorem otpSealAsIs w rec : Statement (.otpSealAsIs w rec) := fun _ _ h => nomatch h
theorem otpWordProgrammed mv pulses : Statement (.otpWordProgrammed mv pulses) := fun _ _ h => nomatch h
theorem otpRawRead w word : Statement (.otpRawRead w word) := fun _ _ h => nomatch h
theorem idPoll xx ack : Statement (.idPoll xx ack) := fun _ _ h => nomatch h
theorem headRead xx r : Statement (.headRead xx r) := fun _ _ h => nomatch h
theorem writeBack xx wr rd : Statement (.writeBack xx wr rd) := fun _ _ h => nomatch h
theorem wearReset w xx : Statement (.wearReset w xx) := fun _ _ h => nomatch h
theorem trendSample o : Statement (.trendSample o) := fun _ _ h => nomatch h
theorem consoleStat : Statement .consoleStat := fun _ _ h => nomatch h
theorem consoleRd a n : Statement (.consoleRd a n) := fun _ _ h => nomatch h
theorem consoleWr a v : Statement (.consoleWr a v) := fun _ _ h => nomatch h
theorem consoleF frame : Statement (.consoleF frame) := fun _ _ h => nomatch h
theorem consoleStop bay : Statement (.consoleStop bay) := fun _ _ h => nomatch h
theorem consoleService : Statement .consoleService := fun _ _ h => nomatch h
theorem consoleRun : Statement .consoleRun := fun _ _ h => nomatch h
theorem consolePark xx pin code : Statement (.consolePark xx pin code) := fun _ _ h => nomatch h
theorem consoleId xx low : Statement (.consoleId xx low) := fun _ _ h => nomatch h
theorem consoleTemp c on : Statement (.consoleTemp c on) := fun _ _ h => nomatch h
theorem consoleOut p code : Statement (.consoleOut p code) := fun _ _ h => nomatch h
theorem consoleShow what watch : Statement (.consoleShow what watch) := fun _ _ h => nomatch h
theorem showWatchUpdate lanes : Statement (.showWatchUpdate lanes) := fun _ _ h => nomatch h
theorem consolePen xx on : Statement (.consolePen xx on) := fun _ _ h => nomatch h
theorem consolePlumb sel arg level : Statement (.consolePlumb sel arg level) := fun _ _ h => nomatch h
theorem consoleOtpProg word data : Statement (.consoleOtpProg word data) := fun _ _ h => nomatch h
theorem consoleOtpLock rec : Statement (.consoleOtpLock rec) := fun _ _ h => nomatch h
theorem consoleOtpSeal rec : Statement (.consoleOtpSeal rec) := fun _ _ h => nomatch h
theorem consoleReload sel : Statement (.consoleReload sel) := fun _ _ h => nomatch h
theorem consoleBaud r : Statement (.consoleBaud r) := fun _ _ h => nomatch h
theorem consoleTest test arg : Statement (.consoleTest test arg) := fun _ _ h => nomatch h
theorem consoleLineRejected r : Statement (.consoleLineRejected r) := fun _ _ h => nomatch h
theorem testAll : Statement .testAll := fun _ _ h => nomatch h
theorem testSram bad : Statement (.testSram bad) := fun _ _ h => nomatch h
theorem testPll lost : Statement (.testPll lost) := fun _ _ h => nomatch h
theorem testOtp arrayReads selfTest : Statement (.testOtp arrayReads selfTest) := fun _ _ h => nomatch h
theorem testTally ue : Statement (.testTally ue) := fun _ _ h => nomatch h
theorem testLink bad : Statement (.testLink bad) := fun _ _ h => nomatch h
theorem testSnadc short step : Statement (.testSnadc short step) := fun _ _ h => nomatch h
theorem testTemp first second : Statement (.testTemp first second) := fun _ _ h => nomatch h
theorem testFsmem failing : Statement (.testFsmem failing) := fun _ _ h => nomatch h
theorem testCam pass crc : Statement (.testCam pass crc) := fun _ _ h => nomatch h
theorem svTestDone : Statement .svTestDone := fun _ _ h => nomatch h
theorem ptClear w : Statement (.ptClear w) := fun _ _ h => nomatch h
theorem ptCreditWrite w seat q feed : Statement (.ptCreditWrite w seat q feed) := fun _ _ h => nomatch h
theorem ptCamstall w mask us : Statement (.ptCamstall w mask us) := fun _ _ h => nomatch h
theorem camstallEnd cam : Statement (.camstallEnd cam) := fun _ _ h => nomatch h
theorem ptForce w src unit : Statement (.ptForce w src unit) := fun _ _ h => nomatch h
theorem pllLockLoss : Statement .pllLockLoss := fun _ _ h => nomatch h
theorem seatFetchTimeout seat : Statement (.seatFetchTimeout seat) := fun _ _ h => nomatch h
theorem pcieFatalError fn : Statement (.pcieFatalError fn) := fun _ _ h => nomatch h
theorem consoleByteReceived b framing : Statement (.consoleByteReceived b framing) := fun _ _ h => nomatch h
theorem islandWakeComplete island : Statement (.islandWakeComplete island) := fun _ _ h => nomatch h
theorem emulationPulseEnd n : Statement (.emulationPulseEnd n) := fun _ _ h => nomatch h
theorem powerOnResetRelease : Statement .powerOnResetRelease := fun _ _ h => nomatch h
theorem registerRead fn addr size enables : Statement (.registerRead fn addr size enables) := fun _ _ h => nomatch h

end Sys2Proof.Laws.Unmapped
end

