-- ==== Sys2Proof/Laws/Store.lean ====
section
/-! SUPPORT. Reading after writing a sparse store, and that every write keeps its canonical form. -/

namespace Sys2Proof.Machine

variable {α : Type}

theorem Store.get_erase_self (d : Nat → α) (m : Store α) (x : Nat) : Store.get d (Store.erase m x) x = d x := by
  induction m with
  | nil => rfl
  | cons p r ih =>
    obtain ⟨k, v⟩ := p
    simp only [Store.erase]
    split
    · exact ih
    · simp only [Store.get]; split
      · contradiction
      · exact ih

theorem Store.get_erase_other (d : Nat → α) (m : Store α) {x y : Nat} (h : y ≠ x) :
    Store.get d (Store.erase m x) y = Store.get d m y := by
  induction m with
  | nil => rfl
  | cons p r ih =>
    obtain ⟨k, v⟩ := p
    simp only [Store.erase]
    split
    · simp only [Store.get]; split
      · omega
      · exact ih
    · simp only [Store.get]; split
      · rfl
      · exact ih

theorem Store.get_insert_self (d : Nat → α) (m : Store α) (x : Nat) (v : α) :
    Store.get d (Store.insert (Store.erase m x) x v) x = v := by
  induction m with
  | nil => simp [Store.erase, Store.insert, Store.get]
  | cons p r ih =>
    obtain ⟨k, w⟩ := p
    simp only [Store.erase]
    split
    · exact ih
    · simp only [Store.insert]; split
      · simp [Store.get]
      · simp only [Store.get]; split
        · contradiction
        · exact ih

theorem Store.get_insert_other (d : Nat → α) (m : Store α) {x y : Nat} (v : α) (h : y ≠ x) :
    Store.get d (Store.insert m x v) y = Store.get d m y := by
  induction m with
  | nil => simp [Store.insert, Store.get, Ne.symm h]
  | cons p r ih =>
    obtain ⟨k, w⟩ := p
    simp only [Store.insert]; split
    · simp [Store.get, Ne.symm h]
    · simp only [Store.get]; split
      · rfl
      · exact ih

/-- A key reads as what was written to it. -/
@[simp] theorem Store.get_set_self [DecidableEq α] (d : Nat → α) (m : Store α) (x : Nat) (v : α) :
    Store.get d (Store.set d m x v) x = v := by
  simp only [Store.set]; split
  · rename_i h; rw [Store.get_erase_self, h]
  · exact Store.get_insert_self d m x v

/-- Every other key reads as before. -/
theorem Store.get_set_other [DecidableEq α] (d : Nat → α) (m : Store α) {x y : Nat} (v : α) (h : y ≠ x) :
    Store.get d (Store.set d m x v) y = Store.get d m y := by
  simp only [Store.set]; split
  · exact Store.get_erase_other d m h
  · rw [Store.get_insert_other d _ v h, Store.get_erase_other d m h]

/-- Reading after writing, in one equation. -/
theorem Store.get_set [DecidableEq α] (d : Nat → α) (m : Store α) (x y : Nat) (v : α) :
    Store.get d (Store.set d m x v) y = if y = x then v else Store.get d m y := by
  split
  · rename_i h; rw [h, Store.get_set_self]
  · rename_i h; exact Store.get_set_other d m v h

/-- A run of keys outside the one read leaves it. -/
theorem Store.get_setRun_outside [DecidableEq α] (d : Nat → α) (m : Store α) (x y : Nat) (l : List α)
    (h : y < x ∨ x + l.length ≤ y) : Store.get d (Store.setRun d m x l) y = Store.get d m y := by
  induction l generalizing m x with
  | nil => rfl
  | cons v r ih =>
    simp only [List.length_cons] at h
    rw [Store.setRun, ih _ _ (by omega), Store.get_set_other d m v (by omega)]

/-! ## The canonical form -/

theorem Store.wfFrom_weaken [DecidableEq α] (d : Nat → α) {b : Option Nat} {m : Store α} {k : Nat}
    (h : Store.wfFrom d (some k) m = true) (hb : ∀ c, b = some c → c < k) : Store.wfFrom d b m = true := by
  cases m with
  | nil => rfl
  | cons p r =>
    obtain ⟨j, v⟩ := p
    simp only [Store.wfFrom, Bool.and_eq_true, decide_eq_true_eq] at h ⊢
    refine ⟨⟨?_, h.1.2⟩, h.2⟩
    cases b with
    | none => rfl
    | some c => simpa using Nat.lt_trans (hb c rfl) h.1.1

theorem Store.wfFrom_erase [DecidableEq α] (d : Nat → α) (b : Option Nat) (m : Store α) (x : Nat)
    (h : Store.wfFrom d b m = true) : Store.wfFrom d b (Store.erase m x) = true := by
  induction m generalizing b with
  | nil => rfl
  | cons p r ih =>
    obtain ⟨k, v⟩ := p
    simp only [Store.wfFrom, Bool.and_eq_true, decide_eq_true_eq] at h
    simp only [Store.erase]; split
    · refine ih b (Store.wfFrom_weaken d h.2 ?_)
      intro c hc; subst hc; simpa using h.1.1
    · simp only [Store.wfFrom, Bool.and_eq_true, decide_eq_true_eq]
      exact ⟨h.1, ih (some k) h.2⟩

theorem Store.wfFrom_insert [DecidableEq α] (d : Nat → α) (b : Option Nat) (m : Store α) (x : Nat) (v : α)
    (hv : v ≠ d x) (hb : ∀ c, b = some c → c < x) (h : Store.wfFrom d b (Store.erase m x) = true) :
    Store.wfFrom d b (Store.insert (Store.erase m x) x v) = true := by
  induction m generalizing b with
  | nil =>
    simp only [Store.erase, Store.insert, Store.wfFrom, Bool.and_eq_true, decide_eq_true_eq, and_true]
    exact ⟨by cases b with
      | none => rfl
      | some c => simpa using hb c rfl, hv⟩
  | cons p r ih =>
    obtain ⟨k, w⟩ := p
    simp only [Store.erase] at h ⊢
    split at h
    · simp only [*] ; exact ih b hb h
    · rename_i hk
      simp only [hk, if_false]
      simp only [Store.wfFrom, Bool.and_eq_true, decide_eq_true_eq] at h
      simp only [Store.insert]; split
      · rename_i hx
        simp only [Store.wfFrom, Bool.and_eq_true, decide_eq_true_eq]
        refine ⟨⟨?_, hv⟩, ⟨hx, h.1.2⟩, h.2⟩
        cases b with
        | none => rfl
        | some c => simpa using hb c rfl
      · rename_i hx
        simp only [Store.wfFrom, Bool.and_eq_true, decide_eq_true_eq]
        refine ⟨h.1, ih (some k) ?_ h.2⟩
        intro c hc; injection hc with hc; subst hc; omega

/-- Writing a key keeps the canonical form. -/
theorem Store.wf_set [DecidableEq α] (d : Nat → α) (m : Store α) (x : Nat) (v : α) (h : Store.wf d m = true) :
    Store.wf d (Store.set d m x v) = true := by
  simp only [Store.set]; split
  · exact Store.wfFrom_erase d none m x h
  · rename_i hv
    exact Store.wfFrom_insert d none m x v hv (fun c hc => nomatch hc) (Store.wfFrom_erase d none m x h)

/-- Writing a run of keys keeps it. -/
theorem Store.wf_setRun [DecidableEq α] (d : Nat → α) (m : Store α) (x : Nat) (l : List α) (h : Store.wf d m = true) :
    Store.wf d (Store.setRun d m x l) = true := by
  induction l generalizing m x with
  | nil => exact h
  | cons v r ih => exact ih _ _ (Store.wf_set d m x v h)

end Sys2Proof.Machine
end

