-- ==== Sys2Proof/Laws/State.lean ====
section
/-! SUPPORT. What each update of the device leaves unchanged, field by field, and what the updated unit reads as. -/

namespace Sys2Proof.Machine

variable (d : Dev)

@[simp] theorem Dev.setWord_keeps (o : Nat) (w : Word) :
  (d.setWord o w).tbl = d.tbl ∧ (d.setWord o w).fs = d.fs ∧ (d.setWord o w).msix = d.msix ∧ (d.setWord o w).now = d.now ∧
  (d.setWord o w).tbStart = d.tbStart ∧ (d.setWord o w).latch = d.latch ∧ (d.setWord o w).out = d.out ∧
  (d.setWord o w).free = d.free ∧ (d.setWord o w).gradeE = d.gradeE ∧ (d.setWord o w).boot = d.boot ∧
  (d.setWord o w).seats = d.seats ∧ (d.setWord o w).ks = d.ks ∧ (d.setWord o w).snaps = d.snaps ∧ (d.setWord o w).bays = d.bays ∧
  (d.setWord o w).nstop = d.nstop ∧ (d.setWord o w).fc = d.fc ∧ (d.setWord o w).ot = d.ot ∧ (d.setWord o w).tr = d.tr ∧
  (d.setWord o w).wear = d.wear ∧ (d.setWord o w).con = d.con ∧ (d.setWord o w).intake = d.intake ∧
  (d.setWord o w).fsBad = d.fsBad ∧ (d.setWord o w).fsLost = d.fsLost ∧ (d.setWord o w).engines = d.engines ∧
  (d.setWord o w).cvBank = d.cvBank ∧ (d.setWord o w).ps = d.ps ∧ (d.setWord o w).cpe = d.cpe ∧ (d.setWord o w).cmpT = d.cmpT ∧
  (d.setWord o w).ems = d.ems ∧ (d.setWord o w).hps = d.hps ∧ (d.setWord o w).osRun = d.osRun ∧ (d.setWord o w).snd = d.snd ∧
  (d.setWord o w).isl = d.isl ∧ (d.setWord o w).tch = d.tch ∧ (d.setWord o w).thr = d.thr ∧ (d.setWord o w).tSlot = d.tSlot ∧
  (d.setWord o w).cams = d.cams ∧ (d.setWord o w).tile = d.tile ∧ (d.setWord o w).lastServed = d.lastServed ∧
  (d.setWord o w).regTgt = d.regTgt := by
  refine ⟨?_, ?_, ?_, ?_, ?_, ?_, ?_, ?_, ?_, ?_, ?_, ?_, ?_, ?_, ?_, ?_, ?_, ?_, ?_, ?_, ?_, ?_, ?_, ?_, ?_, ?_, ?_, ?_, ?_, ?_, ?_, ?_, ?_, ?_, ?_, ?_, ?_, ?_, ?_, ?_⟩ <;> rfl

@[simp] theorem Dev.setFld_keeps (f : Fld) (i j v : Nat) :
  (d.setFld f i j v).tbl = d.tbl ∧ (d.setFld f i j v).fs = d.fs ∧ (d.setFld f i j v).msix = d.msix ∧
  (d.setFld f i j v).now = d.now ∧ (d.setFld f i j v).tbStart = d.tbStart ∧ (d.setFld f i j v).latch = d.latch ∧
  (d.setFld f i j v).out = d.out ∧ (d.setFld f i j v).free = d.free ∧ (d.setFld f i j v).gradeE = d.gradeE ∧
  (d.setFld f i j v).boot = d.boot ∧ (d.setFld f i j v).seats = d.seats ∧ (d.setFld f i j v).ks = d.ks ∧
  (d.setFld f i j v).snaps = d.snaps ∧ (d.setFld f i j v).bays = d.bays ∧ (d.setFld f i j v).nstop = d.nstop ∧
  (d.setFld f i j v).fc = d.fc ∧ (d.setFld f i j v).ot = d.ot ∧ (d.setFld f i j v).tr = d.tr ∧ (d.setFld f i j v).wear = d.wear ∧
  (d.setFld f i j v).con = d.con ∧ (d.setFld f i j v).intake = d.intake ∧ (d.setFld f i j v).fsBad = d.fsBad ∧
  (d.setFld f i j v).fsLost = d.fsLost ∧ (d.setFld f i j v).engines = d.engines ∧ (d.setFld f i j v).cvBank = d.cvBank ∧
  (d.setFld f i j v).ps = d.ps ∧ (d.setFld f i j v).cpe = d.cpe ∧ (d.setFld f i j v).cmpT = d.cmpT ∧
  (d.setFld f i j v).ems = d.ems ∧ (d.setFld f i j v).hps = d.hps ∧ (d.setFld f i j v).osRun = d.osRun ∧
  (d.setFld f i j v).snd = d.snd ∧ (d.setFld f i j v).isl = d.isl ∧ (d.setFld f i j v).tch = d.tch ∧
  (d.setFld f i j v).thr = d.thr ∧ (d.setFld f i j v).tSlot = d.tSlot ∧ (d.setFld f i j v).cams = d.cams ∧
  (d.setFld f i j v).tile = d.tile ∧ (d.setFld f i j v).lastServed = d.lastServed ∧ (d.setFld f i j v).regTgt = d.regTgt := by
  refine ⟨?_, ?_, ?_, ?_, ?_, ?_, ?_, ?_, ?_, ?_, ?_, ?_, ?_, ?_, ?_, ?_, ?_, ?_, ?_, ?_, ?_, ?_, ?_, ?_, ?_, ?_, ?_, ?_, ?_, ?_, ?_, ?_, ?_, ?_, ?_, ?_, ?_, ?_, ?_, ?_⟩ <;> rfl

@[simp] theorem Dev.setOn_keeps (f : Fld) (i j : Nat) (b : Bool) :
  (d.setOn f i j b).tbl = d.tbl ∧ (d.setOn f i j b).fs = d.fs ∧ (d.setOn f i j b).msix = d.msix ∧ (d.setOn f i j b).now = d.now ∧
  (d.setOn f i j b).tbStart = d.tbStart ∧ (d.setOn f i j b).latch = d.latch ∧ (d.setOn f i j b).out = d.out ∧
  (d.setOn f i j b).free = d.free ∧ (d.setOn f i j b).gradeE = d.gradeE ∧ (d.setOn f i j b).boot = d.boot ∧
  (d.setOn f i j b).seats = d.seats ∧ (d.setOn f i j b).ks = d.ks ∧ (d.setOn f i j b).snaps = d.snaps ∧
  (d.setOn f i j b).bays = d.bays ∧ (d.setOn f i j b).nstop = d.nstop ∧ (d.setOn f i j b).fc = d.fc ∧
  (d.setOn f i j b).ot = d.ot ∧ (d.setOn f i j b).tr = d.tr ∧ (d.setOn f i j b).wear = d.wear ∧ (d.setOn f i j b).con = d.con ∧
  (d.setOn f i j b).intake = d.intake ∧ (d.setOn f i j b).fsBad = d.fsBad ∧ (d.setOn f i j b).fsLost = d.fsLost ∧
  (d.setOn f i j b).engines = d.engines ∧ (d.setOn f i j b).cvBank = d.cvBank ∧ (d.setOn f i j b).ps = d.ps ∧
  (d.setOn f i j b).cpe = d.cpe ∧ (d.setOn f i j b).cmpT = d.cmpT ∧ (d.setOn f i j b).ems = d.ems ∧
  (d.setOn f i j b).hps = d.hps ∧ (d.setOn f i j b).osRun = d.osRun ∧ (d.setOn f i j b).snd = d.snd ∧
  (d.setOn f i j b).isl = d.isl ∧ (d.setOn f i j b).tch = d.tch ∧ (d.setOn f i j b).thr = d.thr ∧
  (d.setOn f i j b).tSlot = d.tSlot ∧ (d.setOn f i j b).cams = d.cams ∧ (d.setOn f i j b).tile = d.tile ∧
  (d.setOn f i j b).lastServed = d.lastServed ∧ (d.setOn f i j b).regTgt = d.regTgt := by
  refine ⟨?_, ?_, ?_, ?_, ?_, ?_, ?_, ?_, ?_, ?_, ?_, ?_, ?_, ?_, ?_, ?_, ?_, ?_, ?_, ?_, ?_, ?_, ?_, ?_, ?_, ?_, ?_, ?_, ?_, ?_, ?_, ?_, ?_, ?_, ?_, ?_, ?_, ?_, ?_, ?_⟩ <;> rfl

@[simp] theorem Dev.setFbit_keeps (f : Fld) (i j n : Nat) (b : Bool) :
  (d.setFbit f i j n b).tbl = d.tbl ∧ (d.setFbit f i j n b).fs = d.fs ∧ (d.setFbit f i j n b).msix = d.msix ∧
  (d.setFbit f i j n b).now = d.now ∧ (d.setFbit f i j n b).tbStart = d.tbStart ∧ (d.setFbit f i j n b).latch = d.latch ∧
  (d.setFbit f i j n b).out = d.out ∧ (d.setFbit f i j n b).free = d.free ∧ (d.setFbit f i j n b).gradeE = d.gradeE ∧
  (d.setFbit f i j n b).boot = d.boot ∧ (d.setFbit f i j n b).seats = d.seats ∧ (d.setFbit f i j n b).ks = d.ks ∧
  (d.setFbit f i j n b).snaps = d.snaps ∧ (d.setFbit f i j n b).bays = d.bays ∧ (d.setFbit f i j n b).nstop = d.nstop ∧
  (d.setFbit f i j n b).fc = d.fc ∧ (d.setFbit f i j n b).ot = d.ot ∧ (d.setFbit f i j n b).tr = d.tr ∧
  (d.setFbit f i j n b).wear = d.wear ∧ (d.setFbit f i j n b).con = d.con ∧ (d.setFbit f i j n b).intake = d.intake ∧
  (d.setFbit f i j n b).fsBad = d.fsBad ∧ (d.setFbit f i j n b).fsLost = d.fsLost ∧ (d.setFbit f i j n b).engines = d.engines ∧
  (d.setFbit f i j n b).cvBank = d.cvBank ∧ (d.setFbit f i j n b).ps = d.ps ∧ (d.setFbit f i j n b).cpe = d.cpe ∧
  (d.setFbit f i j n b).cmpT = d.cmpT ∧ (d.setFbit f i j n b).ems = d.ems ∧ (d.setFbit f i j n b).hps = d.hps ∧
  (d.setFbit f i j n b).osRun = d.osRun ∧ (d.setFbit f i j n b).snd = d.snd ∧ (d.setFbit f i j n b).isl = d.isl ∧
  (d.setFbit f i j n b).tch = d.tch ∧ (d.setFbit f i j n b).thr = d.thr ∧ (d.setFbit f i j n b).tSlot = d.tSlot ∧
  (d.setFbit f i j n b).cams = d.cams ∧ (d.setFbit f i j n b).tile = d.tile ∧ (d.setFbit f i j n b).lastServed = d.lastServed ∧
  (d.setFbit f i j n b).regTgt = d.regTgt := by
  refine ⟨?_, ?_, ?_, ?_, ?_, ?_, ?_, ?_, ?_, ?_, ?_, ?_, ?_, ?_, ?_, ?_, ?_, ?_, ?_, ?_, ?_, ?_, ?_, ?_, ?_, ?_, ?_, ?_, ?_, ?_, ?_, ?_, ?_, ?_, ?_, ?_, ?_, ?_, ?_, ?_⟩ <;> rfl

@[simp] theorem Dev.bump_keeps (f : Fld) (i j n : Nat) :
  (d.bump f i j n).tbl = d.tbl ∧ (d.bump f i j n).fs = d.fs ∧ (d.bump f i j n).msix = d.msix ∧ (d.bump f i j n).now = d.now ∧
  (d.bump f i j n).tbStart = d.tbStart ∧ (d.bump f i j n).latch = d.latch ∧ (d.bump f i j n).out = d.out ∧
  (d.bump f i j n).free = d.free ∧ (d.bump f i j n).gradeE = d.gradeE ∧ (d.bump f i j n).boot = d.boot ∧
  (d.bump f i j n).seats = d.seats ∧ (d.bump f i j n).ks = d.ks ∧ (d.bump f i j n).snaps = d.snaps ∧
  (d.bump f i j n).bays = d.bays ∧ (d.bump f i j n).nstop = d.nstop ∧ (d.bump f i j n).fc = d.fc ∧ (d.bump f i j n).ot = d.ot ∧
  (d.bump f i j n).tr = d.tr ∧ (d.bump f i j n).wear = d.wear ∧ (d.bump f i j n).con = d.con ∧
  (d.bump f i j n).intake = d.intake ∧ (d.bump f i j n).fsBad = d.fsBad ∧ (d.bump f i j n).fsLost = d.fsLost ∧
  (d.bump f i j n).engines = d.engines ∧ (d.bump f i j n).cvBank = d.cvBank ∧ (d.bump f i j n).ps = d.ps ∧
  (d.bump f i j n).cpe = d.cpe ∧ (d.bump f i j n).cmpT = d.cmpT ∧ (d.bump f i j n).ems = d.ems ∧ (d.bump f i j n).hps = d.hps ∧
  (d.bump f i j n).osRun = d.osRun ∧ (d.bump f i j n).snd = d.snd ∧ (d.bump f i j n).isl = d.isl ∧ (d.bump f i j n).tch = d.tch ∧
  (d.bump f i j n).thr = d.thr ∧ (d.bump f i j n).tSlot = d.tSlot ∧ (d.bump f i j n).cams = d.cams ∧
  (d.bump f i j n).tile = d.tile ∧ (d.bump f i j n).lastServed = d.lastServed ∧ (d.bump f i j n).regTgt = d.regTgt := by
  refine ⟨?_, ?_, ?_, ?_, ?_, ?_, ?_, ?_, ?_, ?_, ?_, ?_, ?_, ?_, ?_, ?_, ?_, ?_, ?_, ?_, ?_, ?_, ?_, ?_, ?_, ?_, ?_, ?_, ?_, ?_, ?_, ?_, ?_, ?_, ?_, ?_, ?_, ?_, ?_, ?_⟩ <;> rfl

@[simp] theorem Dev.setPair_keeps (lo hi : Fld) (i j v : Nat) :
  (d.setPair lo hi i j v).tbl = d.tbl ∧ (d.setPair lo hi i j v).fs = d.fs ∧ (d.setPair lo hi i j v).msix = d.msix ∧
  (d.setPair lo hi i j v).now = d.now ∧ (d.setPair lo hi i j v).tbStart = d.tbStart ∧ (d.setPair lo hi i j v).latch = d.latch ∧
  (d.setPair lo hi i j v).out = d.out ∧ (d.setPair lo hi i j v).free = d.free ∧ (d.setPair lo hi i j v).gradeE = d.gradeE ∧
  (d.setPair lo hi i j v).boot = d.boot ∧ (d.setPair lo hi i j v).seats = d.seats ∧ (d.setPair lo hi i j v).ks = d.ks ∧
  (d.setPair lo hi i j v).snaps = d.snaps ∧ (d.setPair lo hi i j v).bays = d.bays ∧ (d.setPair lo hi i j v).nstop = d.nstop ∧
  (d.setPair lo hi i j v).fc = d.fc ∧ (d.setPair lo hi i j v).ot = d.ot ∧ (d.setPair lo hi i j v).tr = d.tr ∧
  (d.setPair lo hi i j v).wear = d.wear ∧ (d.setPair lo hi i j v).con = d.con ∧ (d.setPair lo hi i j v).intake = d.intake ∧
  (d.setPair lo hi i j v).fsBad = d.fsBad ∧ (d.setPair lo hi i j v).fsLost = d.fsLost ∧
  (d.setPair lo hi i j v).engines = d.engines ∧ (d.setPair lo hi i j v).cvBank = d.cvBank ∧ (d.setPair lo hi i j v).ps = d.ps ∧
  (d.setPair lo hi i j v).cpe = d.cpe ∧ (d.setPair lo hi i j v).cmpT = d.cmpT ∧ (d.setPair lo hi i j v).ems = d.ems ∧
  (d.setPair lo hi i j v).hps = d.hps ∧ (d.setPair lo hi i j v).osRun = d.osRun ∧ (d.setPair lo hi i j v).snd = d.snd ∧
  (d.setPair lo hi i j v).isl = d.isl ∧ (d.setPair lo hi i j v).tch = d.tch ∧ (d.setPair lo hi i j v).thr = d.thr ∧
  (d.setPair lo hi i j v).tSlot = d.tSlot ∧ (d.setPair lo hi i j v).cams = d.cams ∧ (d.setPair lo hi i j v).tile = d.tile ∧
  (d.setPair lo hi i j v).lastServed = d.lastServed ∧ (d.setPair lo hi i j v).regTgt = d.regTgt := by
  refine ⟨?_, ?_, ?_, ?_, ?_, ?_, ?_, ?_, ?_, ?_, ?_, ?_, ?_, ?_, ?_, ?_, ?_, ?_, ?_, ?_, ?_, ?_, ?_, ?_, ?_, ?_, ?_, ?_, ?_, ?_, ?_, ?_, ?_, ?_, ?_, ?_, ?_, ?_, ?_, ?_⟩ <;> rfl

@[simp] theorem Dev.setSeat_keeps (s : Nat) (x : Seat) :
  (d.setSeat s x).regs = d.regs ∧ (d.setSeat s x).tbl = d.tbl ∧ (d.setSeat s x).fs = d.fs ∧ (d.setSeat s x).msix = d.msix ∧
  (d.setSeat s x).now = d.now ∧ (d.setSeat s x).tbStart = d.tbStart ∧ (d.setSeat s x).latch = d.latch ∧
  (d.setSeat s x).out = d.out ∧ (d.setSeat s x).free = d.free ∧ (d.setSeat s x).gradeE = d.gradeE ∧
  (d.setSeat s x).boot = d.boot ∧ (d.setSeat s x).ks = d.ks ∧ (d.setSeat s x).snaps = d.snaps ∧ (d.setSeat s x).bays = d.bays ∧
  (d.setSeat s x).nstop = d.nstop ∧ (d.setSeat s x).fc = d.fc ∧ (d.setSeat s x).ot = d.ot ∧ (d.setSeat s x).tr = d.tr ∧
  (d.setSeat s x).wear = d.wear ∧ (d.setSeat s x).con = d.con ∧ (d.setSeat s x).intake = d.intake ∧
  (d.setSeat s x).fsBad = d.fsBad ∧ (d.setSeat s x).fsLost = d.fsLost ∧ (d.setSeat s x).engines = d.engines ∧
  (d.setSeat s x).cvBank = d.cvBank ∧ (d.setSeat s x).ps = d.ps ∧ (d.setSeat s x).cpe = d.cpe ∧ (d.setSeat s x).cmpT = d.cmpT ∧
  (d.setSeat s x).ems = d.ems ∧ (d.setSeat s x).hps = d.hps ∧ (d.setSeat s x).osRun = d.osRun ∧ (d.setSeat s x).snd = d.snd ∧
  (d.setSeat s x).isl = d.isl ∧ (d.setSeat s x).tch = d.tch ∧ (d.setSeat s x).thr = d.thr ∧ (d.setSeat s x).tSlot = d.tSlot ∧
  (d.setSeat s x).cams = d.cams ∧ (d.setSeat s x).tile = d.tile ∧ (d.setSeat s x).lastServed = d.lastServed ∧
  (d.setSeat s x).regTgt = d.regTgt := by
  refine ⟨?_, ?_, ?_, ?_, ?_, ?_, ?_, ?_, ?_, ?_, ?_, ?_, ?_, ?_, ?_, ?_, ?_, ?_, ?_, ?_, ?_, ?_, ?_, ?_, ?_, ?_, ?_, ?_, ?_, ?_, ?_, ?_, ?_, ?_, ?_, ?_, ?_, ?_, ?_, ?_⟩ <;> rfl

@[simp] theorem Dev.setBay_keeps (b : Nat) (x : Bay) :
  (d.setBay b x).regs = d.regs ∧ (d.setBay b x).tbl = d.tbl ∧ (d.setBay b x).fs = d.fs ∧ (d.setBay b x).msix = d.msix ∧
  (d.setBay b x).now = d.now ∧ (d.setBay b x).tbStart = d.tbStart ∧ (d.setBay b x).latch = d.latch ∧ (d.setBay b x).out = d.out ∧
  (d.setBay b x).free = d.free ∧ (d.setBay b x).gradeE = d.gradeE ∧ (d.setBay b x).boot = d.boot ∧
  (d.setBay b x).seats = d.seats ∧ (d.setBay b x).ks = d.ks ∧ (d.setBay b x).snaps = d.snaps ∧ (d.setBay b x).nstop = d.nstop ∧
  (d.setBay b x).fc = d.fc ∧ (d.setBay b x).ot = d.ot ∧ (d.setBay b x).tr = d.tr ∧ (d.setBay b x).wear = d.wear ∧
  (d.setBay b x).con = d.con ∧ (d.setBay b x).intake = d.intake ∧ (d.setBay b x).fsBad = d.fsBad ∧
  (d.setBay b x).fsLost = d.fsLost ∧ (d.setBay b x).engines = d.engines ∧ (d.setBay b x).cvBank = d.cvBank ∧
  (d.setBay b x).ps = d.ps ∧ (d.setBay b x).cpe = d.cpe ∧ (d.setBay b x).cmpT = d.cmpT ∧ (d.setBay b x).ems = d.ems ∧
  (d.setBay b x).hps = d.hps ∧ (d.setBay b x).osRun = d.osRun ∧ (d.setBay b x).snd = d.snd ∧ (d.setBay b x).isl = d.isl ∧
  (d.setBay b x).tch = d.tch ∧ (d.setBay b x).thr = d.thr ∧ (d.setBay b x).tSlot = d.tSlot ∧ (d.setBay b x).cams = d.cams ∧
  (d.setBay b x).tile = d.tile ∧ (d.setBay b x).lastServed = d.lastServed ∧ (d.setBay b x).regTgt = d.regTgt := by
  refine ⟨?_, ?_, ?_, ?_, ?_, ?_, ?_, ?_, ?_, ?_, ?_, ?_, ?_, ?_, ?_, ?_, ?_, ?_, ?_, ?_, ?_, ?_, ?_, ?_, ?_, ?_, ?_, ?_, ?_, ?_, ?_, ?_, ?_, ?_, ?_, ?_, ?_, ?_, ?_, ?_⟩ <;> rfl

@[simp] theorem Dev.setPc_keeps (b : Nat) (x : Pacer) :
  (d.setPc b x).regs = d.regs ∧ (d.setPc b x).tbl = d.tbl ∧ (d.setPc b x).fs = d.fs ∧ (d.setPc b x).msix = d.msix ∧
  (d.setPc b x).now = d.now ∧ (d.setPc b x).tbStart = d.tbStart ∧ (d.setPc b x).latch = d.latch ∧ (d.setPc b x).out = d.out ∧
  (d.setPc b x).free = d.free ∧ (d.setPc b x).gradeE = d.gradeE ∧ (d.setPc b x).boot = d.boot ∧ (d.setPc b x).seats = d.seats ∧
  (d.setPc b x).ks = d.ks ∧ (d.setPc b x).snaps = d.snaps ∧ (d.setPc b x).nstop = d.nstop ∧ (d.setPc b x).fc = d.fc ∧
  (d.setPc b x).ot = d.ot ∧ (d.setPc b x).tr = d.tr ∧ (d.setPc b x).wear = d.wear ∧ (d.setPc b x).con = d.con ∧
  (d.setPc b x).intake = d.intake ∧ (d.setPc b x).fsBad = d.fsBad ∧ (d.setPc b x).fsLost = d.fsLost ∧
  (d.setPc b x).engines = d.engines ∧ (d.setPc b x).cvBank = d.cvBank ∧ (d.setPc b x).ps = d.ps ∧ (d.setPc b x).cpe = d.cpe ∧
  (d.setPc b x).cmpT = d.cmpT ∧ (d.setPc b x).ems = d.ems ∧ (d.setPc b x).hps = d.hps ∧ (d.setPc b x).osRun = d.osRun ∧
  (d.setPc b x).snd = d.snd ∧ (d.setPc b x).isl = d.isl ∧ (d.setPc b x).tch = d.tch ∧ (d.setPc b x).thr = d.thr ∧
  (d.setPc b x).tSlot = d.tSlot ∧ (d.setPc b x).cams = d.cams ∧ (d.setPc b x).tile = d.tile ∧
  (d.setPc b x).lastServed = d.lastServed ∧ (d.setPc b x).regTgt = d.regTgt := by
  refine ⟨?_, ?_, ?_, ?_, ?_, ?_, ?_, ?_, ?_, ?_, ?_, ?_, ?_, ?_, ?_, ?_, ?_, ?_, ?_, ?_, ?_, ?_, ?_, ?_, ?_, ?_, ?_, ?_, ?_, ?_, ?_, ?_, ?_, ?_, ?_, ?_, ?_, ?_, ?_, ?_⟩ <;> rfl

@[simp] theorem Dev.setKset_keeps (b : Nat) (x : Ks) :
  (d.setKset b x).regs = d.regs ∧ (d.setKset b x).tbl = d.tbl ∧ (d.setKset b x).fs = d.fs ∧ (d.setKset b x).msix = d.msix ∧
  (d.setKset b x).now = d.now ∧ (d.setKset b x).tbStart = d.tbStart ∧ (d.setKset b x).latch = d.latch ∧
  (d.setKset b x).out = d.out ∧ (d.setKset b x).free = d.free ∧ (d.setKset b x).gradeE = d.gradeE ∧
  (d.setKset b x).boot = d.boot ∧ (d.setKset b x).seats = d.seats ∧ (d.setKset b x).snaps = d.snaps ∧
  (d.setKset b x).bays = d.bays ∧ (d.setKset b x).nstop = d.nstop ∧ (d.setKset b x).fc = d.fc ∧ (d.setKset b x).ot = d.ot ∧
  (d.setKset b x).tr = d.tr ∧ (d.setKset b x).wear = d.wear ∧ (d.setKset b x).con = d.con ∧ (d.setKset b x).intake = d.intake ∧
  (d.setKset b x).fsBad = d.fsBad ∧ (d.setKset b x).fsLost = d.fsLost ∧ (d.setKset b x).engines = d.engines ∧
  (d.setKset b x).cvBank = d.cvBank ∧ (d.setKset b x).ps = d.ps ∧ (d.setKset b x).cpe = d.cpe ∧ (d.setKset b x).cmpT = d.cmpT ∧
  (d.setKset b x).ems = d.ems ∧ (d.setKset b x).hps = d.hps ∧ (d.setKset b x).osRun = d.osRun ∧ (d.setKset b x).snd = d.snd ∧
  (d.setKset b x).isl = d.isl ∧ (d.setKset b x).tch = d.tch ∧ (d.setKset b x).thr = d.thr ∧ (d.setKset b x).tSlot = d.tSlot ∧
  (d.setKset b x).cams = d.cams ∧ (d.setKset b x).tile = d.tile ∧ (d.setKset b x).lastServed = d.lastServed ∧
  (d.setKset b x).regTgt = d.regTgt := by
  refine ⟨?_, ?_, ?_, ?_, ?_, ?_, ?_, ?_, ?_, ?_, ?_, ?_, ?_, ?_, ?_, ?_, ?_, ?_, ?_, ?_, ?_, ?_, ?_, ?_, ?_, ?_, ?_, ?_, ?_, ?_, ?_, ?_, ?_, ?_, ?_, ?_, ?_, ?_, ?_, ?_⟩ <;> rfl

@[simp] theorem Dev.setSnap_keeps (b k : Nat) (x : Snap) :
  (d.setSnap b k x).regs = d.regs ∧ (d.setSnap b k x).tbl = d.tbl ∧ (d.setSnap b k x).fs = d.fs ∧
  (d.setSnap b k x).msix = d.msix ∧ (d.setSnap b k x).now = d.now ∧ (d.setSnap b k x).tbStart = d.tbStart ∧
  (d.setSnap b k x).latch = d.latch ∧ (d.setSnap b k x).out = d.out ∧ (d.setSnap b k x).free = d.free ∧
  (d.setSnap b k x).gradeE = d.gradeE ∧ (d.setSnap b k x).boot = d.boot ∧ (d.setSnap b k x).seats = d.seats ∧
  (d.setSnap b k x).ks = d.ks ∧ (d.setSnap b k x).bays = d.bays ∧ (d.setSnap b k x).nstop = d.nstop ∧
  (d.setSnap b k x).fc = d.fc ∧ (d.setSnap b k x).ot = d.ot ∧ (d.setSnap b k x).tr = d.tr ∧ (d.setSnap b k x).wear = d.wear ∧
  (d.setSnap b k x).con = d.con ∧ (d.setSnap b k x).intake = d.intake ∧ (d.setSnap b k x).fsBad = d.fsBad ∧
  (d.setSnap b k x).fsLost = d.fsLost ∧ (d.setSnap b k x).engines = d.engines ∧ (d.setSnap b k x).cvBank = d.cvBank ∧
  (d.setSnap b k x).ps = d.ps ∧ (d.setSnap b k x).cpe = d.cpe ∧ (d.setSnap b k x).cmpT = d.cmpT ∧ (d.setSnap b k x).ems = d.ems ∧
  (d.setSnap b k x).hps = d.hps ∧ (d.setSnap b k x).osRun = d.osRun ∧ (d.setSnap b k x).snd = d.snd ∧
  (d.setSnap b k x).isl = d.isl ∧ (d.setSnap b k x).tch = d.tch ∧ (d.setSnap b k x).thr = d.thr ∧
  (d.setSnap b k x).tSlot = d.tSlot ∧ (d.setSnap b k x).cams = d.cams ∧ (d.setSnap b k x).tile = d.tile ∧
  (d.setSnap b k x).lastServed = d.lastServed ∧ (d.setSnap b k x).regTgt = d.regTgt := by
  refine ⟨?_, ?_, ?_, ?_, ?_, ?_, ?_, ?_, ?_, ?_, ?_, ?_, ?_, ?_, ?_, ?_, ?_, ?_, ?_, ?_, ?_, ?_, ?_, ?_, ?_, ?_, ?_, ?_, ?_, ?_, ?_, ?_, ?_, ?_, ?_, ?_, ?_, ?_, ?_, ?_⟩ <;> rfl

@[simp] theorem Dev.setItk_keeps (xx : Nat) (x : Intake) :
  (d.setItk xx x).regs = d.regs ∧ (d.setItk xx x).tbl = d.tbl ∧ (d.setItk xx x).fs = d.fs ∧ (d.setItk xx x).msix = d.msix ∧
  (d.setItk xx x).now = d.now ∧ (d.setItk xx x).tbStart = d.tbStart ∧ (d.setItk xx x).latch = d.latch ∧
  (d.setItk xx x).out = d.out ∧ (d.setItk xx x).free = d.free ∧ (d.setItk xx x).gradeE = d.gradeE ∧
  (d.setItk xx x).boot = d.boot ∧ (d.setItk xx x).seats = d.seats ∧ (d.setItk xx x).ks = d.ks ∧ (d.setItk xx x).snaps = d.snaps ∧
  (d.setItk xx x).bays = d.bays ∧ (d.setItk xx x).nstop = d.nstop ∧ (d.setItk xx x).fc = d.fc ∧ (d.setItk xx x).ot = d.ot ∧
  (d.setItk xx x).tr = d.tr ∧ (d.setItk xx x).wear = d.wear ∧ (d.setItk xx x).con = d.con ∧ (d.setItk xx x).fsBad = d.fsBad ∧
  (d.setItk xx x).fsLost = d.fsLost ∧ (d.setItk xx x).engines = d.engines ∧ (d.setItk xx x).cvBank = d.cvBank ∧
  (d.setItk xx x).ps = d.ps ∧ (d.setItk xx x).cpe = d.cpe ∧ (d.setItk xx x).cmpT = d.cmpT ∧ (d.setItk xx x).ems = d.ems ∧
  (d.setItk xx x).hps = d.hps ∧ (d.setItk xx x).osRun = d.osRun ∧ (d.setItk xx x).snd = d.snd ∧ (d.setItk xx x).isl = d.isl ∧
  (d.setItk xx x).tch = d.tch ∧ (d.setItk xx x).thr = d.thr ∧ (d.setItk xx x).tSlot = d.tSlot ∧ (d.setItk xx x).cams = d.cams ∧
  (d.setItk xx x).tile = d.tile ∧ (d.setItk xx x).lastServed = d.lastServed ∧ (d.setItk xx x).regTgt = d.regTgt := by
  refine ⟨?_, ?_, ?_, ?_, ?_, ?_, ?_, ?_, ?_, ?_, ?_, ?_, ?_, ?_, ?_, ?_, ?_, ?_, ?_, ?_, ?_, ?_, ?_, ?_, ?_, ?_, ?_, ?_, ?_, ?_, ?_, ?_, ?_, ?_, ?_, ?_, ?_, ?_, ?_, ?_⟩ <;> rfl

@[simp] theorem Dev.setEngine_keeps (xx : Nat) (x : Engine) :
  (d.setEngine xx x).regs = d.regs ∧ (d.setEngine xx x).tbl = d.tbl ∧ (d.setEngine xx x).fs = d.fs ∧
  (d.setEngine xx x).msix = d.msix ∧ (d.setEngine xx x).now = d.now ∧ (d.setEngine xx x).tbStart = d.tbStart ∧
  (d.setEngine xx x).latch = d.latch ∧ (d.setEngine xx x).out = d.out ∧ (d.setEngine xx x).free = d.free ∧
  (d.setEngine xx x).gradeE = d.gradeE ∧ (d.setEngine xx x).boot = d.boot ∧ (d.setEngine xx x).seats = d.seats ∧
  (d.setEngine xx x).ks = d.ks ∧ (d.setEngine xx x).snaps = d.snaps ∧ (d.setEngine xx x).bays = d.bays ∧
  (d.setEngine xx x).nstop = d.nstop ∧ (d.setEngine xx x).fc = d.fc ∧ (d.setEngine xx x).ot = d.ot ∧
  (d.setEngine xx x).tr = d.tr ∧ (d.setEngine xx x).wear = d.wear ∧ (d.setEngine xx x).con = d.con ∧
  (d.setEngine xx x).intake = d.intake ∧ (d.setEngine xx x).fsBad = d.fsBad ∧ (d.setEngine xx x).fsLost = d.fsLost ∧
  (d.setEngine xx x).cvBank = d.cvBank ∧ (d.setEngine xx x).ps = d.ps ∧ (d.setEngine xx x).cpe = d.cpe ∧
  (d.setEngine xx x).cmpT = d.cmpT ∧ (d.setEngine xx x).ems = d.ems ∧ (d.setEngine xx x).hps = d.hps ∧
  (d.setEngine xx x).osRun = d.osRun ∧ (d.setEngine xx x).snd = d.snd ∧ (d.setEngine xx x).isl = d.isl ∧
  (d.setEngine xx x).tch = d.tch ∧ (d.setEngine xx x).thr = d.thr ∧ (d.setEngine xx x).tSlot = d.tSlot ∧
  (d.setEngine xx x).cams = d.cams ∧ (d.setEngine xx x).tile = d.tile ∧ (d.setEngine xx x).lastServed = d.lastServed ∧
  (d.setEngine xx x).regTgt = d.regTgt := by
  refine ⟨?_, ?_, ?_, ?_, ?_, ?_, ?_, ?_, ?_, ?_, ?_, ?_, ?_, ?_, ?_, ?_, ?_, ?_, ?_, ?_, ?_, ?_, ?_, ?_, ?_, ?_, ?_, ?_, ?_, ?_, ?_, ?_, ?_, ?_, ?_, ?_, ?_, ?_, ?_, ?_⟩ <;> rfl

@[simp] theorem Dev.setPsc_keeps (n : Nat) (x : PsChan) :
  (d.setPsc n x).regs = d.regs ∧ (d.setPsc n x).tbl = d.tbl ∧ (d.setPsc n x).fs = d.fs ∧ (d.setPsc n x).msix = d.msix ∧
  (d.setPsc n x).now = d.now ∧ (d.setPsc n x).tbStart = d.tbStart ∧ (d.setPsc n x).latch = d.latch ∧ (d.setPsc n x).out = d.out ∧
  (d.setPsc n x).free = d.free ∧ (d.setPsc n x).gradeE = d.gradeE ∧ (d.setPsc n x).boot = d.boot ∧
  (d.setPsc n x).seats = d.seats ∧ (d.setPsc n x).ks = d.ks ∧ (d.setPsc n x).snaps = d.snaps ∧ (d.setPsc n x).bays = d.bays ∧
  (d.setPsc n x).nstop = d.nstop ∧ (d.setPsc n x).fc = d.fc ∧ (d.setPsc n x).ot = d.ot ∧ (d.setPsc n x).tr = d.tr ∧
  (d.setPsc n x).wear = d.wear ∧ (d.setPsc n x).con = d.con ∧ (d.setPsc n x).intake = d.intake ∧ (d.setPsc n x).fsBad = d.fsBad ∧
  (d.setPsc n x).fsLost = d.fsLost ∧ (d.setPsc n x).engines = d.engines ∧ (d.setPsc n x).cvBank = d.cvBank ∧
  (d.setPsc n x).cpe = d.cpe ∧ (d.setPsc n x).cmpT = d.cmpT ∧ (d.setPsc n x).ems = d.ems ∧ (d.setPsc n x).hps = d.hps ∧
  (d.setPsc n x).osRun = d.osRun ∧ (d.setPsc n x).snd = d.snd ∧ (d.setPsc n x).isl = d.isl ∧ (d.setPsc n x).tch = d.tch ∧
  (d.setPsc n x).thr = d.thr ∧ (d.setPsc n x).tSlot = d.tSlot ∧ (d.setPsc n x).cams = d.cams ∧ (d.setPsc n x).tile = d.tile ∧
  (d.setPsc n x).lastServed = d.lastServed ∧ (d.setPsc n x).regTgt = d.regTgt := by
  refine ⟨?_, ?_, ?_, ?_, ?_, ?_, ?_, ?_, ?_, ?_, ?_, ?_, ?_, ?_, ?_, ?_, ?_, ?_, ?_, ?_, ?_, ?_, ?_, ?_, ?_, ?_, ?_, ?_, ?_, ?_, ?_, ?_, ?_, ?_, ?_, ?_, ?_, ?_, ?_, ?_⟩ <;> rfl

@[simp] theorem Dev.setCp_keeps (e : Nat) (x : CpEngine) :
  (d.setCp e x).regs = d.regs ∧ (d.setCp e x).tbl = d.tbl ∧ (d.setCp e x).fs = d.fs ∧ (d.setCp e x).msix = d.msix ∧
  (d.setCp e x).now = d.now ∧ (d.setCp e x).tbStart = d.tbStart ∧ (d.setCp e x).latch = d.latch ∧ (d.setCp e x).out = d.out ∧
  (d.setCp e x).free = d.free ∧ (d.setCp e x).gradeE = d.gradeE ∧ (d.setCp e x).boot = d.boot ∧ (d.setCp e x).seats = d.seats ∧
  (d.setCp e x).ks = d.ks ∧ (d.setCp e x).snaps = d.snaps ∧ (d.setCp e x).bays = d.bays ∧ (d.setCp e x).nstop = d.nstop ∧
  (d.setCp e x).fc = d.fc ∧ (d.setCp e x).ot = d.ot ∧ (d.setCp e x).tr = d.tr ∧ (d.setCp e x).wear = d.wear ∧
  (d.setCp e x).con = d.con ∧ (d.setCp e x).intake = d.intake ∧ (d.setCp e x).fsBad = d.fsBad ∧ (d.setCp e x).fsLost = d.fsLost ∧
  (d.setCp e x).engines = d.engines ∧ (d.setCp e x).cvBank = d.cvBank ∧ (d.setCp e x).ps = d.ps ∧ (d.setCp e x).cmpT = d.cmpT ∧
  (d.setCp e x).ems = d.ems ∧ (d.setCp e x).hps = d.hps ∧ (d.setCp e x).osRun = d.osRun ∧ (d.setCp e x).snd = d.snd ∧
  (d.setCp e x).isl = d.isl ∧ (d.setCp e x).tch = d.tch ∧ (d.setCp e x).thr = d.thr ∧ (d.setCp e x).tSlot = d.tSlot ∧
  (d.setCp e x).cams = d.cams ∧ (d.setCp e x).tile = d.tile ∧ (d.setCp e x).lastServed = d.lastServed ∧
  (d.setCp e x).regTgt = d.regTgt := by
  refine ⟨?_, ?_, ?_, ?_, ?_, ?_, ?_, ?_, ?_, ?_, ?_, ?_, ?_, ?_, ?_, ?_, ?_, ?_, ?_, ?_, ?_, ?_, ?_, ?_, ?_, ?_, ?_, ?_, ?_, ?_, ?_, ?_, ?_, ?_, ?_, ?_, ?_, ?_, ?_, ?_⟩ <;> rfl

@[simp] theorem Dev.setEm_keeps (n : Nat) (x : Emul) :
  (d.setEm n x).regs = d.regs ∧ (d.setEm n x).tbl = d.tbl ∧ (d.setEm n x).fs = d.fs ∧ (d.setEm n x).msix = d.msix ∧
  (d.setEm n x).now = d.now ∧ (d.setEm n x).tbStart = d.tbStart ∧ (d.setEm n x).latch = d.latch ∧ (d.setEm n x).out = d.out ∧
  (d.setEm n x).free = d.free ∧ (d.setEm n x).gradeE = d.gradeE ∧ (d.setEm n x).boot = d.boot ∧ (d.setEm n x).seats = d.seats ∧
  (d.setEm n x).ks = d.ks ∧ (d.setEm n x).snaps = d.snaps ∧ (d.setEm n x).bays = d.bays ∧ (d.setEm n x).nstop = d.nstop ∧
  (d.setEm n x).fc = d.fc ∧ (d.setEm n x).ot = d.ot ∧ (d.setEm n x).tr = d.tr ∧ (d.setEm n x).wear = d.wear ∧
  (d.setEm n x).con = d.con ∧ (d.setEm n x).intake = d.intake ∧ (d.setEm n x).fsBad = d.fsBad ∧ (d.setEm n x).fsLost = d.fsLost ∧
  (d.setEm n x).engines = d.engines ∧ (d.setEm n x).cvBank = d.cvBank ∧ (d.setEm n x).ps = d.ps ∧ (d.setEm n x).cpe = d.cpe ∧
  (d.setEm n x).cmpT = d.cmpT ∧ (d.setEm n x).hps = d.hps ∧ (d.setEm n x).osRun = d.osRun ∧ (d.setEm n x).snd = d.snd ∧
  (d.setEm n x).isl = d.isl ∧ (d.setEm n x).tch = d.tch ∧ (d.setEm n x).thr = d.thr ∧ (d.setEm n x).tSlot = d.tSlot ∧
  (d.setEm n x).cams = d.cams ∧ (d.setEm n x).tile = d.tile ∧ (d.setEm n x).lastServed = d.lastServed ∧
  (d.setEm n x).regTgt = d.regTgt := by
  refine ⟨?_, ?_, ?_, ?_, ?_, ?_, ?_, ?_, ?_, ?_, ?_, ?_, ?_, ?_, ?_, ?_, ?_, ?_, ?_, ?_, ?_, ?_, ?_, ?_, ?_, ?_, ?_, ?_, ?_, ?_, ?_, ?_, ?_, ?_, ?_, ?_, ?_, ?_, ?_, ?_⟩ <;> rfl

@[simp] theorem Dev.setHp_keeps (xx : Nat) (x : HPort) :
  (d.setHp xx x).regs = d.regs ∧ (d.setHp xx x).tbl = d.tbl ∧ (d.setHp xx x).fs = d.fs ∧ (d.setHp xx x).msix = d.msix ∧
  (d.setHp xx x).now = d.now ∧ (d.setHp xx x).tbStart = d.tbStart ∧ (d.setHp xx x).latch = d.latch ∧ (d.setHp xx x).out = d.out ∧
  (d.setHp xx x).free = d.free ∧ (d.setHp xx x).gradeE = d.gradeE ∧ (d.setHp xx x).boot = d.boot ∧
  (d.setHp xx x).seats = d.seats ∧ (d.setHp xx x).ks = d.ks ∧ (d.setHp xx x).snaps = d.snaps ∧ (d.setHp xx x).bays = d.bays ∧
  (d.setHp xx x).nstop = d.nstop ∧ (d.setHp xx x).fc = d.fc ∧ (d.setHp xx x).ot = d.ot ∧ (d.setHp xx x).tr = d.tr ∧
  (d.setHp xx x).wear = d.wear ∧ (d.setHp xx x).con = d.con ∧ (d.setHp xx x).intake = d.intake ∧ (d.setHp xx x).fsBad = d.fsBad ∧
  (d.setHp xx x).fsLost = d.fsLost ∧ (d.setHp xx x).engines = d.engines ∧ (d.setHp xx x).cvBank = d.cvBank ∧
  (d.setHp xx x).ps = d.ps ∧ (d.setHp xx x).cpe = d.cpe ∧ (d.setHp xx x).cmpT = d.cmpT ∧ (d.setHp xx x).ems = d.ems ∧
  (d.setHp xx x).osRun = d.osRun ∧ (d.setHp xx x).snd = d.snd ∧ (d.setHp xx x).isl = d.isl ∧ (d.setHp xx x).tch = d.tch ∧
  (d.setHp xx x).thr = d.thr ∧ (d.setHp xx x).tSlot = d.tSlot ∧ (d.setHp xx x).cams = d.cams ∧ (d.setHp xx x).tile = d.tile ∧
  (d.setHp xx x).lastServed = d.lastServed ∧ (d.setHp xx x).regTgt = d.regTgt := by
  refine ⟨?_, ?_, ?_, ?_, ?_, ?_, ?_, ?_, ?_, ?_, ?_, ?_, ?_, ?_, ?_, ?_, ?_, ?_, ?_, ?_, ?_, ?_, ?_, ?_, ?_, ?_, ?_, ?_, ?_, ?_, ?_, ?_, ?_, ?_, ?_, ?_, ?_, ?_, ?_, ?_⟩ <;> rfl

@[simp] theorem Dev.setSn_keeps (xx : Nat) (x : Snd) :
  (d.setSn xx x).regs = d.regs ∧ (d.setSn xx x).tbl = d.tbl ∧ (d.setSn xx x).fs = d.fs ∧ (d.setSn xx x).msix = d.msix ∧
  (d.setSn xx x).now = d.now ∧ (d.setSn xx x).tbStart = d.tbStart ∧ (d.setSn xx x).latch = d.latch ∧ (d.setSn xx x).out = d.out ∧
  (d.setSn xx x).free = d.free ∧ (d.setSn xx x).gradeE = d.gradeE ∧ (d.setSn xx x).boot = d.boot ∧
  (d.setSn xx x).seats = d.seats ∧ (d.setSn xx x).ks = d.ks ∧ (d.setSn xx x).snaps = d.snaps ∧ (d.setSn xx x).bays = d.bays ∧
  (d.setSn xx x).nstop = d.nstop ∧ (d.setSn xx x).fc = d.fc ∧ (d.setSn xx x).ot = d.ot ∧ (d.setSn xx x).tr = d.tr ∧
  (d.setSn xx x).wear = d.wear ∧ (d.setSn xx x).con = d.con ∧ (d.setSn xx x).intake = d.intake ∧ (d.setSn xx x).fsBad = d.fsBad ∧
  (d.setSn xx x).fsLost = d.fsLost ∧ (d.setSn xx x).engines = d.engines ∧ (d.setSn xx x).cvBank = d.cvBank ∧
  (d.setSn xx x).ps = d.ps ∧ (d.setSn xx x).cpe = d.cpe ∧ (d.setSn xx x).cmpT = d.cmpT ∧ (d.setSn xx x).ems = d.ems ∧
  (d.setSn xx x).hps = d.hps ∧ (d.setSn xx x).osRun = d.osRun ∧ (d.setSn xx x).isl = d.isl ∧ (d.setSn xx x).tch = d.tch ∧
  (d.setSn xx x).thr = d.thr ∧ (d.setSn xx x).tSlot = d.tSlot ∧ (d.setSn xx x).cams = d.cams ∧ (d.setSn xx x).tile = d.tile ∧
  (d.setSn xx x).lastServed = d.lastServed ∧ (d.setSn xx x).regTgt = d.regTgt := by
  refine ⟨?_, ?_, ?_, ?_, ?_, ?_, ?_, ?_, ?_, ?_, ?_, ?_, ?_, ?_, ?_, ?_, ?_, ?_, ?_, ?_, ?_, ?_, ?_, ?_, ?_, ?_, ?_, ?_, ?_, ?_, ?_, ?_, ?_, ?_, ?_, ?_, ?_, ?_, ?_, ?_⟩ <;> rfl

@[simp] theorem Dev.setCam_keeps (n : Nat) (x : Cam) :
  (d.setCam n x).regs = d.regs ∧ (d.setCam n x).tbl = d.tbl ∧ (d.setCam n x).fs = d.fs ∧ (d.setCam n x).msix = d.msix ∧
  (d.setCam n x).now = d.now ∧ (d.setCam n x).tbStart = d.tbStart ∧ (d.setCam n x).latch = d.latch ∧ (d.setCam n x).out = d.out ∧
  (d.setCam n x).free = d.free ∧ (d.setCam n x).gradeE = d.gradeE ∧ (d.setCam n x).boot = d.boot ∧
  (d.setCam n x).seats = d.seats ∧ (d.setCam n x).ks = d.ks ∧ (d.setCam n x).snaps = d.snaps ∧ (d.setCam n x).bays = d.bays ∧
  (d.setCam n x).nstop = d.nstop ∧ (d.setCam n x).fc = d.fc ∧ (d.setCam n x).ot = d.ot ∧ (d.setCam n x).tr = d.tr ∧
  (d.setCam n x).wear = d.wear ∧ (d.setCam n x).con = d.con ∧ (d.setCam n x).intake = d.intake ∧ (d.setCam n x).fsBad = d.fsBad ∧
  (d.setCam n x).fsLost = d.fsLost ∧ (d.setCam n x).engines = d.engines ∧ (d.setCam n x).cvBank = d.cvBank ∧
  (d.setCam n x).ps = d.ps ∧ (d.setCam n x).cpe = d.cpe ∧ (d.setCam n x).cmpT = d.cmpT ∧ (d.setCam n x).ems = d.ems ∧
  (d.setCam n x).hps = d.hps ∧ (d.setCam n x).osRun = d.osRun ∧ (d.setCam n x).snd = d.snd ∧ (d.setCam n x).isl = d.isl ∧
  (d.setCam n x).tch = d.tch ∧ (d.setCam n x).thr = d.thr ∧ (d.setCam n x).tSlot = d.tSlot ∧ (d.setCam n x).tile = d.tile ∧
  (d.setCam n x).lastServed = d.lastServed ∧ (d.setCam n x).regTgt = d.regTgt := by
  refine ⟨?_, ?_, ?_, ?_, ?_, ?_, ?_, ?_, ?_, ?_, ?_, ?_, ?_, ?_, ?_, ?_, ?_, ?_, ?_, ?_, ?_, ?_, ?_, ?_, ?_, ?_, ?_, ?_, ?_, ?_, ?_, ?_, ?_, ?_, ?_, ?_, ?_, ?_, ?_, ?_⟩ <;> rfl

@[simp] theorem Dev.setTc_keeps (c : Nat) (x : TherCh) :
  (d.setTc c x).regs = d.regs ∧ (d.setTc c x).tbl = d.tbl ∧ (d.setTc c x).fs = d.fs ∧ (d.setTc c x).msix = d.msix ∧
  (d.setTc c x).now = d.now ∧ (d.setTc c x).tbStart = d.tbStart ∧ (d.setTc c x).latch = d.latch ∧ (d.setTc c x).out = d.out ∧
  (d.setTc c x).free = d.free ∧ (d.setTc c x).gradeE = d.gradeE ∧ (d.setTc c x).boot = d.boot ∧ (d.setTc c x).seats = d.seats ∧
  (d.setTc c x).ks = d.ks ∧ (d.setTc c x).snaps = d.snaps ∧ (d.setTc c x).bays = d.bays ∧ (d.setTc c x).nstop = d.nstop ∧
  (d.setTc c x).fc = d.fc ∧ (d.setTc c x).ot = d.ot ∧ (d.setTc c x).tr = d.tr ∧ (d.setTc c x).wear = d.wear ∧
  (d.setTc c x).con = d.con ∧ (d.setTc c x).intake = d.intake ∧ (d.setTc c x).fsBad = d.fsBad ∧ (d.setTc c x).fsLost = d.fsLost ∧
  (d.setTc c x).engines = d.engines ∧ (d.setTc c x).cvBank = d.cvBank ∧ (d.setTc c x).ps = d.ps ∧ (d.setTc c x).cpe = d.cpe ∧
  (d.setTc c x).cmpT = d.cmpT ∧ (d.setTc c x).ems = d.ems ∧ (d.setTc c x).hps = d.hps ∧ (d.setTc c x).osRun = d.osRun ∧
  (d.setTc c x).snd = d.snd ∧ (d.setTc c x).isl = d.isl ∧ (d.setTc c x).thr = d.thr ∧ (d.setTc c x).tSlot = d.tSlot ∧
  (d.setTc c x).cams = d.cams ∧ (d.setTc c x).tile = d.tile ∧ (d.setTc c x).lastServed = d.lastServed ∧
  (d.setTc c x).regTgt = d.regTgt := by
  refine ⟨?_, ?_, ?_, ?_, ?_, ?_, ?_, ?_, ?_, ?_, ?_, ?_, ?_, ?_, ?_, ?_, ?_, ?_, ?_, ?_, ?_, ?_, ?_, ?_, ?_, ?_, ?_, ?_, ?_, ?_, ?_, ?_, ?_, ?_, ?_, ?_, ?_, ?_, ?_, ?_⟩ <;> rfl

@[simp] theorem Dev.setThro_keeps (b : Nat) (x : Throttle) :
  (d.setThro b x).regs = d.regs ∧ (d.setThro b x).tbl = d.tbl ∧ (d.setThro b x).fs = d.fs ∧ (d.setThro b x).msix = d.msix ∧
  (d.setThro b x).now = d.now ∧ (d.setThro b x).tbStart = d.tbStart ∧ (d.setThro b x).latch = d.latch ∧
  (d.setThro b x).out = d.out ∧ (d.setThro b x).free = d.free ∧ (d.setThro b x).gradeE = d.gradeE ∧
  (d.setThro b x).boot = d.boot ∧ (d.setThro b x).seats = d.seats ∧ (d.setThro b x).ks = d.ks ∧ (d.setThro b x).snaps = d.snaps ∧
  (d.setThro b x).bays = d.bays ∧ (d.setThro b x).nstop = d.nstop ∧ (d.setThro b x).fc = d.fc ∧ (d.setThro b x).ot = d.ot ∧
  (d.setThro b x).tr = d.tr ∧ (d.setThro b x).wear = d.wear ∧ (d.setThro b x).con = d.con ∧ (d.setThro b x).intake = d.intake ∧
  (d.setThro b x).fsBad = d.fsBad ∧ (d.setThro b x).fsLost = d.fsLost ∧ (d.setThro b x).engines = d.engines ∧
  (d.setThro b x).cvBank = d.cvBank ∧ (d.setThro b x).ps = d.ps ∧ (d.setThro b x).cpe = d.cpe ∧ (d.setThro b x).cmpT = d.cmpT ∧
  (d.setThro b x).ems = d.ems ∧ (d.setThro b x).hps = d.hps ∧ (d.setThro b x).osRun = d.osRun ∧ (d.setThro b x).snd = d.snd ∧
  (d.setThro b x).isl = d.isl ∧ (d.setThro b x).tch = d.tch ∧ (d.setThro b x).tSlot = d.tSlot ∧ (d.setThro b x).cams = d.cams ∧
  (d.setThro b x).tile = d.tile ∧ (d.setThro b x).lastServed = d.lastServed ∧ (d.setThro b x).regTgt = d.regTgt := by
  refine ⟨?_, ?_, ?_, ?_, ?_, ?_, ?_, ?_, ?_, ?_, ?_, ?_, ?_, ?_, ?_, ?_, ?_, ?_, ?_, ?_, ?_, ?_, ?_, ?_, ?_, ?_, ?_, ?_, ?_, ?_, ?_, ?_, ?_, ?_, ?_, ?_, ?_, ?_, ?_, ?_⟩ <;> rfl

@[simp] theorem Dev.setTrHead_keeps (xx : Nat) (x : TrHead) :
  (d.setTrHead xx x).regs = d.regs ∧ (d.setTrHead xx x).tbl = d.tbl ∧ (d.setTrHead xx x).fs = d.fs ∧
  (d.setTrHead xx x).msix = d.msix ∧ (d.setTrHead xx x).now = d.now ∧ (d.setTrHead xx x).tbStart = d.tbStart ∧
  (d.setTrHead xx x).latch = d.latch ∧ (d.setTrHead xx x).out = d.out ∧ (d.setTrHead xx x).free = d.free ∧
  (d.setTrHead xx x).gradeE = d.gradeE ∧ (d.setTrHead xx x).boot = d.boot ∧ (d.setTrHead xx x).seats = d.seats ∧
  (d.setTrHead xx x).ks = d.ks ∧ (d.setTrHead xx x).snaps = d.snaps ∧ (d.setTrHead xx x).bays = d.bays ∧
  (d.setTrHead xx x).nstop = d.nstop ∧ (d.setTrHead xx x).fc = d.fc ∧ (d.setTrHead xx x).ot = d.ot ∧
  (d.setTrHead xx x).wear = d.wear ∧ (d.setTrHead xx x).con = d.con ∧ (d.setTrHead xx x).intake = d.intake ∧
  (d.setTrHead xx x).fsBad = d.fsBad ∧ (d.setTrHead xx x).fsLost = d.fsLost ∧ (d.setTrHead xx x).engines = d.engines ∧
  (d.setTrHead xx x).cvBank = d.cvBank ∧ (d.setTrHead xx x).ps = d.ps ∧ (d.setTrHead xx x).cpe = d.cpe ∧
  (d.setTrHead xx x).cmpT = d.cmpT ∧ (d.setTrHead xx x).ems = d.ems ∧ (d.setTrHead xx x).hps = d.hps ∧
  (d.setTrHead xx x).osRun = d.osRun ∧ (d.setTrHead xx x).snd = d.snd ∧ (d.setTrHead xx x).isl = d.isl ∧
  (d.setTrHead xx x).tch = d.tch ∧ (d.setTrHead xx x).thr = d.thr ∧ (d.setTrHead xx x).tSlot = d.tSlot ∧
  (d.setTrHead xx x).cams = d.cams ∧ (d.setTrHead xx x).tile = d.tile ∧ (d.setTrHead xx x).lastServed = d.lastServed ∧
  (d.setTrHead xx x).regTgt = d.regTgt := by
  refine ⟨?_, ?_, ?_, ?_, ?_, ?_, ?_, ?_, ?_, ?_, ?_, ?_, ?_, ?_, ?_, ?_, ?_, ?_, ?_, ?_, ?_, ?_, ?_, ?_, ?_, ?_, ?_, ?_, ?_, ?_, ?_, ?_, ?_, ?_, ?_, ?_, ?_, ?_, ?_, ?_⟩ <;> rfl

@[simp] theorem Dev.setTbl_keeps (a : Nat) (bs : List Byte) :
  (d.setTbl a bs).regs = d.regs ∧ (d.setTbl a bs).fs = d.fs ∧ (d.setTbl a bs).msix = d.msix ∧ (d.setTbl a bs).now = d.now ∧
  (d.setTbl a bs).tbStart = d.tbStart ∧ (d.setTbl a bs).latch = d.latch ∧ (d.setTbl a bs).out = d.out ∧
  (d.setTbl a bs).free = d.free ∧ (d.setTbl a bs).gradeE = d.gradeE ∧ (d.setTbl a bs).boot = d.boot ∧
  (d.setTbl a bs).seats = d.seats ∧ (d.setTbl a bs).ks = d.ks ∧ (d.setTbl a bs).snaps = d.snaps ∧ (d.setTbl a bs).bays = d.bays ∧
  (d.setTbl a bs).nstop = d.nstop ∧ (d.setTbl a bs).fc = d.fc ∧ (d.setTbl a bs).ot = d.ot ∧ (d.setTbl a bs).tr = d.tr ∧
  (d.setTbl a bs).wear = d.wear ∧ (d.setTbl a bs).con = d.con ∧ (d.setTbl a bs).intake = d.intake ∧
  (d.setTbl a bs).fsBad = d.fsBad ∧ (d.setTbl a bs).fsLost = d.fsLost ∧ (d.setTbl a bs).engines = d.engines ∧
  (d.setTbl a bs).cvBank = d.cvBank ∧ (d.setTbl a bs).ps = d.ps ∧ (d.setTbl a bs).cpe = d.cpe ∧ (d.setTbl a bs).cmpT = d.cmpT ∧
  (d.setTbl a bs).ems = d.ems ∧ (d.setTbl a bs).hps = d.hps ∧ (d.setTbl a bs).osRun = d.osRun ∧ (d.setTbl a bs).snd = d.snd ∧
  (d.setTbl a bs).isl = d.isl ∧ (d.setTbl a bs).tch = d.tch ∧ (d.setTbl a bs).thr = d.thr ∧ (d.setTbl a bs).tSlot = d.tSlot ∧
  (d.setTbl a bs).cams = d.cams ∧ (d.setTbl a bs).tile = d.tile ∧ (d.setTbl a bs).lastServed = d.lastServed ∧
  (d.setTbl a bs).regTgt = d.regTgt := by
  refine ⟨?_, ?_, ?_, ?_, ?_, ?_, ?_, ?_, ?_, ?_, ?_, ?_, ?_, ?_, ?_, ?_, ?_, ?_, ?_, ?_, ?_, ?_, ?_, ?_, ?_, ?_, ?_, ?_, ?_, ?_, ?_, ?_, ?_, ?_, ?_, ?_, ?_, ?_, ?_, ?_⟩ <;> rfl

@[simp] theorem Dev.setWake_keeps (i : Nat) (t : Option Nat) :
  (d.setWake i t).regs = d.regs ∧ (d.setWake i t).tbl = d.tbl ∧ (d.setWake i t).fs = d.fs ∧ (d.setWake i t).msix = d.msix ∧
  (d.setWake i t).now = d.now ∧ (d.setWake i t).tbStart = d.tbStart ∧ (d.setWake i t).latch = d.latch ∧
  (d.setWake i t).out = d.out ∧ (d.setWake i t).free = d.free ∧ (d.setWake i t).gradeE = d.gradeE ∧
  (d.setWake i t).boot = d.boot ∧ (d.setWake i t).seats = d.seats ∧ (d.setWake i t).ks = d.ks ∧ (d.setWake i t).snaps = d.snaps ∧
  (d.setWake i t).bays = d.bays ∧ (d.setWake i t).nstop = d.nstop ∧ (d.setWake i t).fc = d.fc ∧ (d.setWake i t).ot = d.ot ∧
  (d.setWake i t).tr = d.tr ∧ (d.setWake i t).wear = d.wear ∧ (d.setWake i t).con = d.con ∧ (d.setWake i t).intake = d.intake ∧
  (d.setWake i t).fsBad = d.fsBad ∧ (d.setWake i t).fsLost = d.fsLost ∧ (d.setWake i t).engines = d.engines ∧
  (d.setWake i t).cvBank = d.cvBank ∧ (d.setWake i t).ps = d.ps ∧ (d.setWake i t).cpe = d.cpe ∧ (d.setWake i t).cmpT = d.cmpT ∧
  (d.setWake i t).ems = d.ems ∧ (d.setWake i t).hps = d.hps ∧ (d.setWake i t).osRun = d.osRun ∧ (d.setWake i t).snd = d.snd ∧
  (d.setWake i t).tch = d.tch ∧ (d.setWake i t).thr = d.thr ∧ (d.setWake i t).tSlot = d.tSlot ∧ (d.setWake i t).cams = d.cams ∧
  (d.setWake i t).tile = d.tile ∧ (d.setWake i t).lastServed = d.lastServed ∧ (d.setWake i t).regTgt = d.regTgt := by
  refine ⟨?_, ?_, ?_, ?_, ?_, ?_, ?_, ?_, ?_, ?_, ?_, ?_, ?_, ?_, ?_, ?_, ?_, ?_, ?_, ?_, ?_, ?_, ?_, ?_, ?_, ?_, ?_, ?_, ?_, ?_, ?_, ?_, ?_, ?_, ?_, ?_, ?_, ?_, ?_, ?_⟩ <;> rfl

@[simp] theorem Dev.emit_keeps (o : Out) :
  (d.emit o).regs = d.regs ∧ (d.emit o).tbl = d.tbl ∧ (d.emit o).fs = d.fs ∧ (d.emit o).msix = d.msix ∧ (d.emit o).now = d.now ∧
  (d.emit o).tbStart = d.tbStart ∧ (d.emit o).latch = d.latch ∧ (d.emit o).free = d.free ∧ (d.emit o).gradeE = d.gradeE ∧
  (d.emit o).boot = d.boot ∧ (d.emit o).seats = d.seats ∧ (d.emit o).ks = d.ks ∧ (d.emit o).snaps = d.snaps ∧
  (d.emit o).bays = d.bays ∧ (d.emit o).nstop = d.nstop ∧ (d.emit o).fc = d.fc ∧ (d.emit o).ot = d.ot ∧ (d.emit o).tr = d.tr ∧
  (d.emit o).wear = d.wear ∧ (d.emit o).con = d.con ∧ (d.emit o).intake = d.intake ∧ (d.emit o).fsBad = d.fsBad ∧
  (d.emit o).fsLost = d.fsLost ∧ (d.emit o).engines = d.engines ∧ (d.emit o).cvBank = d.cvBank ∧ (d.emit o).ps = d.ps ∧
  (d.emit o).cpe = d.cpe ∧ (d.emit o).cmpT = d.cmpT ∧ (d.emit o).ems = d.ems ∧ (d.emit o).hps = d.hps ∧
  (d.emit o).osRun = d.osRun ∧ (d.emit o).snd = d.snd ∧ (d.emit o).isl = d.isl ∧ (d.emit o).tch = d.tch ∧
  (d.emit o).thr = d.thr ∧ (d.emit o).tSlot = d.tSlot ∧ (d.emit o).cams = d.cams ∧ (d.emit o).tile = d.tile ∧
  (d.emit o).lastServed = d.lastServed ∧ (d.emit o).regTgt = d.regTgt := by
  refine ⟨?_, ?_, ?_, ?_, ?_, ?_, ?_, ?_, ?_, ?_, ?_, ?_, ?_, ?_, ?_, ?_, ?_, ?_, ?_, ?_, ?_, ?_, ?_, ?_, ?_, ?_, ?_, ?_, ?_, ?_, ?_, ?_, ?_, ?_, ?_, ?_, ?_, ?_, ?_, ?_⟩ <;> rfl

@[simp] theorem Dev.signalAs_keeps (source unit : Nat) (bay : Option (Fin 4)) (course : Nat) (forced : Bool) :
  (d.signalAs source unit bay course forced).regs = d.regs ∧ (d.signalAs source unit bay course forced).tbl = d.tbl ∧
  (d.signalAs source unit bay course forced).fs = d.fs ∧ (d.signalAs source unit bay course forced).msix = d.msix ∧
  (d.signalAs source unit bay course forced).now = d.now ∧ (d.signalAs source unit bay course forced).tbStart = d.tbStart ∧
  (d.signalAs source unit bay course forced).latch = d.latch ∧ (d.signalAs source unit bay course forced).out = d.out ∧
  (d.signalAs source unit bay course forced).free = d.free ∧ (d.signalAs source unit bay course forced).gradeE = d.gradeE ∧
  (d.signalAs source unit bay course forced).boot = d.boot ∧ (d.signalAs source unit bay course forced).seats = d.seats ∧
  (d.signalAs source unit bay course forced).ks = d.ks ∧ (d.signalAs source unit bay course forced).snaps = d.snaps ∧
  (d.signalAs source unit bay course forced).bays = d.bays ∧ (d.signalAs source unit bay course forced).nstop = d.nstop ∧
  (d.signalAs source unit bay course forced).ot = d.ot ∧ (d.signalAs source unit bay course forced).tr = d.tr ∧
  (d.signalAs source unit bay course forced).wear = d.wear ∧ (d.signalAs source unit bay course forced).con = d.con ∧
  (d.signalAs source unit bay course forced).intake = d.intake ∧ (d.signalAs source unit bay course forced).fsBad = d.fsBad ∧
  (d.signalAs source unit bay course forced).fsLost = d.fsLost ∧ (d.signalAs source unit bay course forced).engines = d.engines ∧
  (d.signalAs source unit bay course forced).cvBank = d.cvBank ∧ (d.signalAs source unit bay course forced).ps = d.ps ∧
  (d.signalAs source unit bay course forced).cpe = d.cpe ∧ (d.signalAs source unit bay course forced).cmpT = d.cmpT ∧
  (d.signalAs source unit bay course forced).ems = d.ems ∧ (d.signalAs source unit bay course forced).hps = d.hps ∧
  (d.signalAs source unit bay course forced).osRun = d.osRun ∧ (d.signalAs source unit bay course forced).snd = d.snd ∧
  (d.signalAs source unit bay course forced).isl = d.isl ∧ (d.signalAs source unit bay course forced).tch = d.tch ∧
  (d.signalAs source unit bay course forced).thr = d.thr ∧ (d.signalAs source unit bay course forced).tSlot = d.tSlot ∧
  (d.signalAs source unit bay course forced).cams = d.cams ∧ (d.signalAs source unit bay course forced).tile = d.tile ∧
  (d.signalAs source unit bay course forced).lastServed = d.lastServed ∧
  (d.signalAs source unit bay course forced).regTgt = d.regTgt := by
  refine ⟨?_, ?_, ?_, ?_, ?_, ?_, ?_, ?_, ?_, ?_, ?_, ?_, ?_, ?_, ?_, ?_, ?_, ?_, ?_, ?_, ?_, ?_, ?_, ?_, ?_, ?_, ?_, ?_, ?_, ?_, ?_, ?_, ?_, ?_, ?_, ?_, ?_, ?_, ?_, ?_⟩ <;> rfl

@[simp] theorem Dev.signal_keeps (source unit : Nat) :
  (d.signal source unit).regs = d.regs ∧ (d.signal source unit).tbl = d.tbl ∧ (d.signal source unit).fs = d.fs ∧
  (d.signal source unit).msix = d.msix ∧ (d.signal source unit).now = d.now ∧ (d.signal source unit).tbStart = d.tbStart ∧
  (d.signal source unit).latch = d.latch ∧ (d.signal source unit).out = d.out ∧ (d.signal source unit).free = d.free ∧
  (d.signal source unit).gradeE = d.gradeE ∧ (d.signal source unit).boot = d.boot ∧ (d.signal source unit).seats = d.seats ∧
  (d.signal source unit).ks = d.ks ∧ (d.signal source unit).snaps = d.snaps ∧ (d.signal source unit).bays = d.bays ∧
  (d.signal source unit).nstop = d.nstop ∧ (d.signal source unit).ot = d.ot ∧ (d.signal source unit).tr = d.tr ∧
  (d.signal source unit).wear = d.wear ∧ (d.signal source unit).con = d.con ∧ (d.signal source unit).intake = d.intake ∧
  (d.signal source unit).fsBad = d.fsBad ∧ (d.signal source unit).fsLost = d.fsLost ∧
  (d.signal source unit).engines = d.engines ∧ (d.signal source unit).cvBank = d.cvBank ∧ (d.signal source unit).ps = d.ps ∧
  (d.signal source unit).cpe = d.cpe ∧ (d.signal source unit).cmpT = d.cmpT ∧ (d.signal source unit).ems = d.ems ∧
  (d.signal source unit).hps = d.hps ∧ (d.signal source unit).osRun = d.osRun ∧ (d.signal source unit).snd = d.snd ∧
  (d.signal source unit).isl = d.isl ∧ (d.signal source unit).tch = d.tch ∧ (d.signal source unit).thr = d.thr ∧
  (d.signal source unit).tSlot = d.tSlot ∧ (d.signal source unit).cams = d.cams ∧ (d.signal source unit).tile = d.tile ∧
  (d.signal source unit).lastServed = d.lastServed ∧ (d.signal source unit).regTgt = d.regTgt := by
  refine ⟨?_, ?_, ?_, ?_, ?_, ?_, ?_, ?_, ?_, ?_, ?_, ?_, ?_, ?_, ?_, ?_, ?_, ?_, ?_, ?_, ?_, ?_, ?_, ?_, ?_, ?_, ?_, ?_, ?_, ?_, ?_, ?_, ?_, ?_, ?_, ?_, ?_, ?_, ?_, ?_⟩ <;> rfl

@[simp] theorem Dev.nextFree_keeps :
  (d.nextFree).regs = d.regs ∧ (d.nextFree).tbl = d.tbl ∧ (d.nextFree).fs = d.fs ∧ (d.nextFree).msix = d.msix ∧
  (d.nextFree).now = d.now ∧ (d.nextFree).tbStart = d.tbStart ∧ (d.nextFree).latch = d.latch ∧ (d.nextFree).out = d.out ∧
  (d.nextFree).gradeE = d.gradeE ∧ (d.nextFree).boot = d.boot ∧ (d.nextFree).seats = d.seats ∧ (d.nextFree).ks = d.ks ∧
  (d.nextFree).snaps = d.snaps ∧ (d.nextFree).bays = d.bays ∧ (d.nextFree).nstop = d.nstop ∧ (d.nextFree).fc = d.fc ∧
  (d.nextFree).ot = d.ot ∧ (d.nextFree).tr = d.tr ∧ (d.nextFree).wear = d.wear ∧ (d.nextFree).con = d.con ∧
  (d.nextFree).intake = d.intake ∧ (d.nextFree).fsBad = d.fsBad ∧ (d.nextFree).fsLost = d.fsLost ∧
  (d.nextFree).engines = d.engines ∧ (d.nextFree).cvBank = d.cvBank ∧ (d.nextFree).ps = d.ps ∧ (d.nextFree).cpe = d.cpe ∧
  (d.nextFree).cmpT = d.cmpT ∧ (d.nextFree).ems = d.ems ∧ (d.nextFree).hps = d.hps ∧ (d.nextFree).osRun = d.osRun ∧
  (d.nextFree).snd = d.snd ∧ (d.nextFree).isl = d.isl ∧ (d.nextFree).tch = d.tch ∧ (d.nextFree).thr = d.thr ∧
  (d.nextFree).tSlot = d.tSlot ∧ (d.nextFree).cams = d.cams ∧ (d.nextFree).tile = d.tile ∧
  (d.nextFree).lastServed = d.lastServed ∧ (d.nextFree).regTgt = d.regTgt := by
  refine ⟨?_, ?_, ?_, ?_, ?_, ?_, ?_, ?_, ?_, ?_, ?_, ?_, ?_, ?_, ?_, ?_, ?_, ?_, ?_, ?_, ?_, ?_, ?_, ?_, ?_, ?_, ?_, ?_, ?_, ?_, ?_, ?_, ?_, ?_, ?_, ?_, ?_, ?_, ?_, ?_⟩ <;> rfl

/-! ## Units read back -/

@[simp] theorem Dev.seat_setSeat (n : Nat) (x : Seat) : (d.setSeat n x).seat n = x := Store.get_set_self _ _ _ _
theorem Dev.seat_setSeat_other {n k : Nat} (x : Seat) (h : k ≠ n) : (d.setSeat n x).seat k = d.seat k := Store.get_set_other _ _ _ h
@[simp] theorem Dev.bay_setBay (n : Nat) (x : Bay) : (d.setBay n x).bay n = x := Store.get_set_self _ _ _ _
theorem Dev.bay_setBay_other {n k : Nat} (x : Bay) (h : k ≠ n) : (d.setBay n x).bay k = d.bay k := Store.get_set_other _ _ _ h
@[simp] theorem Dev.kset_setKset (n : Nat) (x : Ks) : (d.setKset n x).kset n = x := Store.get_set_self _ _ _ _
theorem Dev.kset_setKset_other {n k : Nat} (x : Ks) (h : k ≠ n) : (d.setKset n x).kset k = d.kset k := Store.get_set_other _ _ _ h
@[simp] theorem Dev.itk_setItk (n : Nat) (x : Intake) : (d.setItk n x).itk n = x := Store.get_set_self _ _ _ _
theorem Dev.itk_setItk_other {n k : Nat} (x : Intake) (h : k ≠ n) : (d.setItk n x).itk k = d.itk k := Store.get_set_other _ _ _ h
@[simp] theorem Dev.engine_setEngine (n : Nat) (x : Engine) : (d.setEngine n x).engine n = x := Store.get_set_self _ _ _ _
theorem Dev.engine_setEngine_other {n k : Nat} (x : Engine) (h : k ≠ n) : (d.setEngine n x).engine k = d.engine k := Store.get_set_other _ _ _ h
@[simp] theorem Dev.psc_setPsc (n : Nat) (x : PsChan) : (d.setPsc n x).psc n = x := Store.get_set_self _ _ _ _
theorem Dev.psc_setPsc_other {n k : Nat} (x : PsChan) (h : k ≠ n) : (d.setPsc n x).psc k = d.psc k := Store.get_set_other _ _ _ h
@[simp] theorem Dev.cp_setCp (n : Nat) (x : CpEngine) : (d.setCp n x).cp n = x := Store.get_set_self _ _ _ _
theorem Dev.cp_setCp_other {n k : Nat} (x : CpEngine) (h : k ≠ n) : (d.setCp n x).cp k = d.cp k := Store.get_set_other _ _ _ h
@[simp] theorem Dev.em_setEm (n : Nat) (x : Emul) : (d.setEm n x).em n = x := Store.get_set_self _ _ _ _
theorem Dev.em_setEm_other {n k : Nat} (x : Emul) (h : k ≠ n) : (d.setEm n x).em k = d.em k := Store.get_set_other _ _ _ h
@[simp] theorem Dev.hp_setHp (n : Nat) (x : HPort) : (d.setHp n x).hp n = x := Store.get_set_self _ _ _ _
theorem Dev.hp_setHp_other {n k : Nat} (x : HPort) (h : k ≠ n) : (d.setHp n x).hp k = d.hp k := Store.get_set_other _ _ _ h
@[simp] theorem Dev.sn_setSn (n : Nat) (x : Snd) : (d.setSn n x).sn n = x := Store.get_set_self _ _ _ _
theorem Dev.sn_setSn_other {n k : Nat} (x : Snd) (h : k ≠ n) : (d.setSn n x).sn k = d.sn k := Store.get_set_other _ _ _ h
@[simp] theorem Dev.cam_setCam (n : Nat) (x : Cam) : (d.setCam n x).cam n = x := Store.get_set_self _ _ _ _
theorem Dev.cam_setCam_other {n k : Nat} (x : Cam) (h : k ≠ n) : (d.setCam n x).cam k = d.cam k := Store.get_set_other _ _ _ h
@[simp] theorem Dev.tc_setTc (n : Nat) (x : TherCh) : (d.setTc n x).tc n = x := Store.get_set_self _ _ _ _
theorem Dev.tc_setTc_other {n k : Nat} (x : TherCh) (h : k ≠ n) : (d.setTc n x).tc k = d.tc k := Store.get_set_other _ _ _ h
@[simp] theorem Dev.thro_setThro (n : Nat) (x : Throttle) : (d.setThro n x).thro n = x := Store.get_set_self _ _ _ _
theorem Dev.thro_setThro_other {n k : Nat} (x : Throttle) (h : k ≠ n) : (d.setThro n x).thro k = d.thro k := Store.get_set_other _ _ _ h
@[simp] theorem Dev.trHead_setTrHead (n : Nat) (x : TrHead) : (d.setTrHead n x).trHead n = x := Store.get_set_self _ _ _ _
theorem Dev.trHead_setTrHead_other {n k : Nat} (x : TrHead) (h : k ≠ n) : (d.setTrHead n x).trHead k = d.trHead k := Store.get_set_other _ _ _ h

@[simp] theorem Dev.pc_setPc (b : Nat) (x : Pacer) : (d.setPc b x).pc b = x := by simp [Dev.pc, Dev.setPc]

/-! ## Queues of a seat -/

@[simp] theorem Seat.cmdq_setCmdq (x : Seat) (q : Nat) (c : CmdQ) : (x.setCmdq q c).cmdq q = c := Store.get_set_self _ _ _ _
theorem Seat.cmdq_setCmdq_other (x : Seat) {q k : Nat} (c : CmdQ) (h : k ≠ q) : (x.setCmdq q c).cmdq k = x.cmdq k :=
  Store.get_set_other _ _ _ h
@[simp] theorem Seat.evq_setEvq (x : Seat) (q : Nat) (e : EvQ) : (x.setEvq q e).evq q = e := Store.get_set_self _ _ _ _
theorem Seat.evq_setEvq_other (x : Seat) {q k : Nat} (e : EvQ) (h : k ≠ q) : (x.setEvq q e).evq k = x.evq k :=
  Store.get_set_other _ _ _ h

/-! ## Register words -/

@[simp] theorem Dev.word_setWord (o : Nat) (w : Word) : (d.setWord o w).word o = w := Store.get_set_self _ _ _ _
theorem Dev.word_setWord_other {o p : Nat} (w : Word) (h : p ≠ o) : (d.setWord o w).word p = d.word p := Store.get_set_other _ _ _ h
theorem Dev.word_setFld_other (f : Fld) (i j v : Nat) {o : Nat} (h : o ≠ f.reg.off i j) : (d.setFld f i j v).word o = d.word o :=
  Store.get_set_other _ _ _ h
theorem Dev.word_setOn_other (f : Fld) (i j : Nat) (b : Bool) {o : Nat} (h : o ≠ f.reg.off i j) : (d.setOn f i j b).word o = d.word o :=
  Store.get_set_other _ _ _ h
theorem Dev.word_bump_other (f : Fld) (i j n : Nat) {o : Nat} (h : o ≠ f.reg.off i j) : (d.bump f i j n).word o = d.word o :=
  Store.get_set_other _ _ _ h

/-- A word depends on the register store alone. -/
theorem Dev.word_congr {d e : Dev} (h : d.regs = e.regs) (o : Nat) : d.word o = e.word o := by unfold Dev.word; rw [h]

end Sys2Proof.Machine
end

