-- ==== Sys2Proof/Laws/Word.lean ====
section
/-! SUPPORT. Fields of a word: reading back what was written, and that a write leaves the fields beside it. -/

namespace Sys2Proof

theorem wmask_bit (lo wd i : Nat) (hi : i < 32) :
    (wmask lo wd).getLsbD i = decide (lo ≤ i ∧ i < lo + wd) := by
  simp only [wmask, BitVec.getLsbD_shiftLeft, BitVec.getLsbD_ofNat, Nat.testBit_two_pow_sub_one]
  by_cases h1 : lo ≤ i
  · by_cases h2 : i < lo + wd
    · have : i - lo < 32 := by omega
      have : i - lo < wd := by omega
      simp [*]
    · have : ¬ (i - lo < wd) := by omega
      simp [*]
  · simp [h1]

theorem wput_bit (w : Word) (lo wd v i : Nat) (hi : i < 32) (h : lo + wd ≤ 32) :
    (wput w lo wd v).getLsbD i = if lo ≤ i ∧ i < lo + wd then v.testBit (i - lo) else w.getLsbD i := by
  simp only [wput, BitVec.getLsbD_or, BitVec.getLsbD_and, BitVec.getLsbD_not, wmask_bit lo wd i hi,
    BitVec.getLsbD_shiftLeft, BitVec.getLsbD_ofNat, Nat.testBit_mod_two_pow]
  by_cases h1 : lo ≤ i
  · by_cases h2 : i < lo + wd
    · have : i - lo < wd := by omega
      have : i - lo < 32 := by omega
      simp [*]
    · have : ¬ (i - lo < wd) := by omega
      simp [*]
  · simp [hi, h1]

theorem wget_bit (w : Word) (lo wd i : Nat) : (wget w lo wd).testBit i = (decide (i < wd) && w.getLsbD (lo + i)) := by
  simp [wget, BitVec.testBit_toNat]

/-- A field reads as what was written to it. -/
theorem wget_wput_self (w : Word) (lo wd v : Nat) (h : lo + wd ≤ 32) : wget (wput w lo wd v) lo wd = v % 2 ^ wd := by
  apply Nat.eq_of_testBit_eq
  intro i
  rw [wget_bit, Nat.testBit_mod_two_pow]
  by_cases hi : i < wd
  · rw [wput_bit w lo wd v (lo + i) (by omega) h]; simp [hi]
  · simp [hi]

/-- A field beside it reads as before. -/
theorem wget_wput_other (w : Word) (lo wd lo' wd' v : Nat) (h : lo + wd ≤ 32) (h' : lo' + wd' ≤ 32)
    (hd : lo + wd ≤ lo' ∨ lo' + wd' ≤ lo) : wget (wput w lo wd v) lo' wd' = wget w lo' wd' := by
  apply Nat.eq_of_testBit_eq
  intro i
  rw [wget_bit, wget_bit]
  by_cases hi : i < wd'
  · rw [wput_bit w lo wd v (lo' + i) (by omega) h, if_neg (by omega)]
  · simp [hi]

theorem wget_lt (w : Word) (lo wd : Nat) : wget w lo wd < 2 ^ wd := by unfold wget; exact BitVec.isLt _

end Sys2Proof

namespace Sys2Proof.Machine

variable (d : Dev)

/-- A field of a register reads as what was written to it. -/
theorem Dev.fld_setFld (f : Fld) (i j v : Nat) (h : f.lo + f.width ≤ 32) : (d.setFld f i j v).fld f i j = v % 2 ^ f.width := by
  unfold Dev.fld Dev.setFld
  rw [Dev.word_setWord, wget_wput_self _ _ _ _ h]

/-- A field of another register, or another instance, reads as before. -/
theorem Dev.fld_setFld_reg (f g : Fld) (i j i' j' v : Nat) (h : g.reg.off i' j' ≠ f.reg.off i j) :
    (d.setFld f i j v).fld g i' j' = d.fld g i' j' := by
  unfold Dev.fld; rw [Dev.word_setFld_other d f i j v h]

/-- A field beside it in the same word reads as before. -/
theorem Dev.fld_setFld_beside (f g : Fld) (i j v : Nat) (hr : g.reg = f.reg) (h : f.lo + f.width ≤ 32) (h' : g.lo + g.width ≤ 32)
    (hd : f.lo + f.width ≤ g.lo ∨ g.lo + g.width ≤ f.lo) : (d.setFld f i j v).fld g i j = d.fld g i j := by
  unfold Dev.fld Dev.setFld
  rw [hr, Dev.word_setWord, wget_wput_other _ _ _ _ _ _ h h' hd]

/-- A one-bit field reads as what was written to it. -/
theorem Dev.on_setOn (f : Fld) (i j : Nat) (b : Bool) (h : f.lo + f.width ≤ 32) (hw : 0 < f.width) : (d.setOn f i j b).on f i j = b := by
  unfold Dev.on Dev.setOn
  rw [Dev.fld_setFld d f i j _ h]
  have : 1 < 2 ^ f.width := Nat.one_lt_two_pow (by omega)
  cases b <;> simp [Nat.mod_eq_of_lt this]

theorem Dev.fld_lt (f : Fld) (i j : Nat) : d.fld f i j < 2 ^ f.width := wget_lt _ _ _

/-- A saturating counter after a count. -/
theorem Dev.fld_bump (f : Fld) (i j n : Nat) (h : f.lo + f.width ≤ 32) :
    (d.bump f i j n).fld f i j = min (d.fld f i j + n) (2 ^ f.width - 1) := by
  unfold Dev.bump
  rw [Dev.fld_setFld d f i j _ h, Nat.mod_eq_of_lt]
  have : 0 < 2 ^ f.width := Nat.two_pow_pos _
  omega

/-- A field depends on the register store alone. -/
theorem Dev.fld_congr {d e : Dev} (h : d.regs = e.regs) (f : Fld) (i j : Nat) : d.fld f i j = e.fld f i j := by
  unfold Dev.fld; rw [Dev.word_congr h]

theorem Dev.on_congr {d e : Dev} (h : d.regs = e.regs) (f : Fld) (i j : Nat) : d.on f i j = e.on f i j := by
  unfold Dev.on; rw [Dev.fld_congr h]

end Sys2Proof.Machine
end

