-- ==== Sys2Proof/Laws/Report.lean ====
section
/-! SUPPORT. What completions and events may change: nothing but the seats' queues, the MSI-X tables, what leaves the device, the
error signals, and the registers of `reports`. -/

namespace Sys2Proof.Machine

/-- `e` is `d` after some reporting. -/
def Dev.Reported (d e : Dev) : Prop := e.quiet = d.quiet ∧ ∀ o, o ∉ reports → e.word o = d.word o

theorem Dev.Reported.refl (d : Dev) : d.Reported d := ⟨rfl, fun _ _ => rfl⟩

theorem Dev.Reported.trans {d e f : Dev} (h : d.Reported e) (k : e.Reported f) : d.Reported f :=
  ⟨k.1.trans h.1, fun o ho => (k.2 o ho).trans (h.2 o ho)⟩

theorem Dev.reported_setSeat (d : Dev) (s : Nat) (x : Seat) : d.Reported (d.setSeat s x) := ⟨rfl, fun _ _ => rfl⟩
theorem Dev.reported_emit (d : Dev) (o : Out) : d.Reported (d.emit o) := ⟨rfl, fun _ _ => rfl⟩
theorem Dev.reported_signalAs (d : Dev) (source unit : Nat) (bay : Option (Fin 4)) (course : Nat) (forced : Bool) :
    d.Reported (d.signalAs source unit bay course forced) := ⟨rfl, fun _ _ => rfl⟩
theorem Dev.reported_signal (d : Dev) (source unit : Nat) : d.Reported (d.signal source unit) := ⟨rfl, fun _ _ => rfl⟩
theorem Dev.reported_msix (d : Dev) (m : Store Word) : d.Reported { d with msix := m } := ⟨rfl, fun _ _ => rfl⟩
theorem Dev.reported_wait (d : Dev) (w : Option ConWait) : d.Reported { d with con := { d.con with wait := w } } := ⟨rfl, fun _ _ => rfl⟩

/-- A write of a register of `reports`. -/
theorem Dev.reported_setFld (d : Dev) (f : Fld) (i j v : Nat) (h : f.reg.off i j ∈ reports) : d.Reported (d.setFld f i j v) :=
  ⟨rfl, fun _ ho => Dev.word_setFld_other d f i j v fun e => ho (e ▸ h)⟩
theorem Dev.reported_bump (d : Dev) (f : Fld) (i j n : Nat) (h : f.reg.off i j ∈ reports) : d.Reported (d.bump f i j n) :=
  ⟨rfl, fun _ ho => Dev.word_bump_other d f i j n fun e => ho (e ▸ h)⟩

theorem report_offs (s : Nat) (h : s < 4) : RegName.off .HS_EVLOST s 0 ∈ reports ∧ RegName.off .HS_ERRCNT s 0 ∈ reports ∧
    RegName.off .HS_ERRLAST s 0 ∈ reports := by
  have : s = 0 ∨ s = 1 ∨ s = 2 ∨ s = 3 := by omega
  obtain rfl | rfl | rfl | rfl := this <;> decide

theorem Dev.reported_raiseMsix (d : Dev) (fn v : Nat) : d.Reported (d.raiseMsix fn v) := by
  unfold Dev.raiseMsix; split
  · exact d.reported_msix _
  · exact d.reported_emit _

theorem Dev.reported_writeEq (d : Dev) (s q : Nat) (f : Frame) : d.Reported (d.writeEq s q f) := by
  unfold Dev.writeEq; dsimp only
  split
  · exact ((d.reported_setSeat _ _).trans (Dev.reported_emit _ _)).trans (Dev.reported_raiseMsix _ _ _)
  · exact (d.reported_setSeat _ _).trans (Dev.reported_emit _ _)

theorem Dev.reported_sendDatagram (d : Dev) (s q : Nat) (f : Frame) : d.Reported (d.sendDatagram s q f) := by
  unfold Dev.sendDatagram; dsimp only
  split
  · exact (d.reported_setSeat _ _).trans (Dev.reported_emit _ _)
  · exact .refl d

theorem Dev.reported_post (d : Dev) (s q : Nat) (e : Bool) (f : Frame) : d.Reported (d.post s q e f) := by
  unfold Dev.post; dsimp only
  split
  · rename_i h
    split
    · exact d.reported_writeEq _ _ _
    · split
      · exact d.reported_setSeat _ _
      · split
        · exact d.reported_setSeat _ _
        · exact ((d.reported_setSeat _ _).trans (Dev.reported_bump _ _ _ _ _ (report_offs s (by omega)).1)).trans (Dev.reported_signal _ _ _)
  · exact d.reported_sendDatagram _ _ _

theorem Dev.reported_bayEvent (d : Dev) (b q code unit d0 d1 : Nat) : d.Reported (d.bayEvent b q code unit d0 d1) := by
  unfold Dev.bayEvent; split
  · exact d.reported_post _ _ _ _
  · exact .refl d

theorem Dev.reported_bayEventAt (d : Dev) (b q code unit course d0 d1 : Nat) : d.Reported (d.bayEventAt b q code unit course d0 d1) := by
  unfold Dev.bayEventAt; split
  · exact d.reported_post _ _ _ _
  · exact .refl d

theorem Dev.reported_devEvent (d : Dev) (s q code unit d0 d1 : Nat) : d.Reported (d.devEvent s q code unit d0 d1) := by
  unfold Dev.devEvent; split
  · exact d.reported_post _ _ _ _
  · exact .refl d

theorem Dev.reported_unitEvent (d : Dev) (bay : Option Nat) (q code unit d0 d1 : Nat) :
    d.Reported (d.unitEvent bay q code unit d0 d1) := by
  unfold Dev.unitEvent; split
  · exact d.reported_bayEvent _ _ _ _ _ _
  · exact d.reported_devEvent _ _ _ _ _ _

theorem Dev.reported_seatEvent (d : Dev) (s q code d0 d1 : Nat) : d.Reported (d.seatEvent s q code d0 d1) := by
  unfold Dev.seatEvent; split
  · exact d.reported_bayEvent _ _ _ _ _ _
  · exact d.reported_devEvent _ _ _ _ _ _

theorem Dev.reported_noteStatus (d : Dev) (s queue : Nat) (st sent : Status) (h : s < 4) : d.Reported (d.noteStatus s queue st sent) := by
  have hs := report_offs s h
  unfold Dev.noteStatus; split
  · exact .refl d
  · have h2 := (d.reported_setFld .HS_ERRLAST_STATUS s 0 sent.code hs.2.2).trans (Dev.reported_setFld _ .HS_ERRLAST_QUEUE s 0 queue hs.2.2)
    dsimp only; split
    · exact h2.trans (Dev.reported_bump _ .HS_ERRCNT_SEQ s 0 _ hs.2.1)
    · split
      · exact h2.trans (Dev.reported_bump _ .HS_ERRCNT_REFUSED s 0 _ hs.2.1)
      · exact h2

theorem Dev.reported_completeAs (d : Dev) (h : CmdHdr) (opcode : Nat) (st : Status) (p : List Byte) :
    d.Reported (d.completeAs h opcode st p) := by
  unfold Dev.completeAs; split
  · dsimp only; split
    · exact (d.reported_wait _).trans (Dev.reported_emit _ _)
    · exact d.reported_emit _
  · rename_i s _
    have h1 (sent : Status) := d.reported_noteStatus s.val (4 * s.val + h.q.val) st sent s.isLt
    dsimp only
    split
    · exact h1 _
    · split
      · exact ((h1 _).trans (Dev.reported_emit _ _)).trans (Dev.reported_post _ _ _ _ _)
      · exact (h1 _).trans (Dev.reported_post _ _ _ _ _)

theorem Dev.reported_complete (d : Dev) (h : CmdHdr) (opcode : Nat) (st : Status) (p : List Byte) :
    d.Reported (d.complete h opcode st p) := by
  unfold Dev.complete; split
  · exact d.reported_completeAs _ _ _ _
  · exact (d.reported_setSeat _ _).trans (Dev.reported_completeAs _ _ _ _ _)

/-- A field outside `reports` reads as before. -/
theorem Dev.Reported.fld {d e : Dev} (h : d.Reported e) (f : Fld) (i j : Nat) (ho : f.reg.off i j ∉ reports) : e.fld f i j = d.fld f i j := by
  unfold Dev.fld; rw [h.2 _ ho]

end Sys2Proof.Machine
end

