-- ==== Sys2Proof/Laws/Write.lean ====
section
/-! SUPPORT. What an accepted write leaves, whichever way it came. -/

namespace Sys2Proof.Machine

/-- A character ends a watch, and nothing else. -/
theorem Dev.endWatch_keeps (d : Dev) : d.endWatch.boot = d.boot ∧ d.endWatch.regs = d.regs ∧ d.endWatch.con.wait = d.con.wait ∧
    d.endWatch.seats = d.seats := by
  unfold Dev.endWatch; split <;> exact ⟨rfl, rfl, rfl, rfl⟩

/-- An accepted write is the write of the bus, and its answer. -/
theorem writeBy_accepted (d : Dev) (v : Nv) (w : Writer) (o : Nat) (x : Word) (h : d.accepts v w o x) :
    writeBy d v w o x = d.written v w o x := by
  obtain ⟨ho, hs⟩ := h
  cases w with
  | mmio fn =>
    simp only [Dev.opens, Bool.and_eq_true, Bool.not_eq_true', beq_iff_eq] at ho
    obtain ⟨⟨⟨hr, hm⟩, hx⟩, ha⟩ := ho
    have hm' : d.mmioOpen (pcieSeat fn).val = true := hm
    simp only [Dev.atWrite, whoWrites] at hs
    simp only [writeBy, mmioWrite, hm', hx, hr, ha, Dev.written, Dev.atWrite, whoWrites, Dev.acked]
    simp [hs]
  | frame h =>
    simp only [Dev.opens, Dev.admits, Bool.and_eq_true] at ho
    obtain ⟨⟨ht, hq⟩, hn⟩ := ho
    simp only [Dev.atWrite, whoWrites, Dev.heard] at hs
    simp only [writeBy, ht, command, hq, Dev.written, Dev.atWrite, whoWrites, Dev.acked, Dev.heard]
    rw [Option.isNone_iff_eq_none] at hn
    simp [hn, wr32, writeAll, hs, Dev.noteFrameMode, Dev.noteMode]
    split <;> rfl
  | console =>
    simp only [Dev.opens, Bool.and_eq_true, Option.isNone_iff_eq_none, Bool.not_eq_true'] at ho
    obtain ⟨⟨⟨⟨hh, hr⟩, hw⟩, hd⟩, hp⟩ := ho
    simp only [Dev.atWrite, whoWrites] at hs
    have hk := d.endWatch_keeps
    have hr' : d.endWatch.running = true := by simpa only [Dev.running, hk.1] using hr
    have hp' : (d.endWatch.inService || (ptOffset o && d.endWatch.on .PT_CFG_BENCH)) = true := by
      simpa only [Dev.inService, Dev.running, hk.1, Dev.on_congr hk.2.1] using hp
    have hw' : d.endWatch.con.wait = none := hk.2.2.1.trans hw
    simp only [writeBy, console, hh, hr', hw', hd, Dev.conModeOk, conWr, Dev.written, Dev.atWrite, whoWrites, Dev.acked]
    simp [hp', conWrite, Dev.sayStatus, hs]

end Sys2Proof.Machine
end

