-- ==== Sys2Proof/Tests/Slice0.lean ====
section
/-! SUPPORT. Tests: what WellFormed refuses, single steps with results that the specification gives, and for each statement the states and
operands that meet its hypotheses. -/

namespace Sys2Proof.Tests

set_option Elab.async false

open Sys2Proof Sys2Proof.Machine

/-- A running device in bay modes: heads 0 to 7, position channels 0 to 3, camera port 0 and compare engine 0 in bay 0, heads 8 to 15 in bay 1,
every seat's link up, the threshold arrays owned by bay 0, a frame store of 8 GiB and the rings of seat 0 enabled. -/
def live : Dev :=
  let d : Dev := { tbStart := some 0, now := 1000000, boot := { phase := .running, inUse := 2, density := some 128 } }
  let d := ((d.setFld .GL_BAYPORT_HP 0 0 0xFF).setFld .GL_BAYPORT_HP 1 0 0xFF00).setFld .GL_BAYRES_PS 0 0 0x0F
  let d := (d.setFld .GL_BAYRES_CAM 0 0 1).setFld .GL_BAYRES_CPE 0 0 1
  let d := (d.setFld .SC_ARROWN0_OWN 0 0 0).setFld .SC_ARROWN1_OWN 0 0 0
  let d := d.setFld .RI_FSSTAT_CAPMIB 0 0 8192
  let d := forN 4 (fun k d => d.setSeat k { d.seat k with up := true }) d
  forN 4 (fun q d => (((d.setOn .HS_CQSIZE_EN 0 q true).setFld .HS_CQSIZE_LOG2 0 q 4).setOn .HS_EQSIZE_EN 0 q true).setFld .HS_EQSIZE_LOG2 0 q 4) d

/-- The same device in SERVICE. -/
def served : Dev := { live with boot := { live.boot with service := true } }

/-- A device in a phase of the start-up. -/
def inPhase (p : Phase) : Dev := { boot := { phase := p } }

def nv0 : Nv := {}


/-- The device after a command: the one before it where the command does not answer a next state. -/
def after (i : Instr) (d : Dev) : Dev := match exec i ⟨d, {}, []⟩ with | .next t => t.dev | _ => d
/-! ## Witnesses: the queue, reads, links and PCIe -/

theorem witness_StepRunsFront : (⟨live, nv0, [.consoleStat]⟩ : State).pending = .consoleStat :: [] ∧ State.reset.pending = [] := by decide +kernel

theorem witness_GlIdReads : live.mmioOpen 0 = true ∧ (inPhase .running).mmioOpen 0 = false := by decide +kernel

/-- The link of seat 2 is down. -/
def noLink (k : Nat) : Dev := live.setSeat k { live.seat k with up := false }
theorem witness_LinkShown_up : (noLink 0).running = true ∧ (noLink 0).tbStart.isSome = true ∧ ((noLink 0).seat 0).up = false ∧
    (noLink 0).boot.phase ≠ .inReset ∧ (noLink 0).boot.phase ≠ .isSealed := by decide +kernel
theorem witness_LinkShown_up_eth : (noLink 3).running = true ∧ ((noLink 3).seat 3).up = false ∧ (noLink 3).on .HS_CTL_EN 3 = true ∧
    (noLink 3).islandOn (9 + 3) = true := by decide +kernel
theorem witness_LinkShown_down : (live.seat 0).up = true ∧ (live.seat 3).up = true := by decide +kernel

def lost2 : Dev := { (noLink 2).setSeat 2 { (noLink 2).seat 2 with downAt := some 0 } with now := 2000000000 }
theorem witness_HostLossResets : lost2.lossDue 2 = true ∧ live.pcieUp 1 = true := by decide +kernel

def retry0 : Dev := { live with boot := { live.boot with phase := .loadBody } }
theorem witness_PcieAccesses_config : retry0.pcieUp 0 = true ∧ retry0.running = false ∧ live.pcieUp 1 = true ∧ live.running = true := by decide +kernel
theorem witness_PcieAccesses_aperture : live.running = true ∧ live.mmioOpen 1 = true ∧ live.on .HS_CTL_EN 1 = true ∧ live.fld .PT_ECC_COUNT = 0 := by decide +kernel
theorem witness_PcieAccesses_write : live.accepts nv0 (.mmio 0) (RegName.off .HS_CQTAIL 0 3) 15 ∧
    (live.written nv0 (.mmio 0) (RegName.off .HS_CQTAIL 0 3) 15).1.noneWithheld := by decide +kernel
theorem witness_PcieAccesses_refused : live.running = true ∧ live.mmioOpen 0 = true ∧ inMsix 2 = false ∧ 2 % 4 ≠ 0 ∧ live.noneWithheld ∧
    (busWrite live nv0 (.seat (pcieSeat 0)) (RegName.off .HS_CQTAIL 0 3) (BitVec.ofNat 32 16)).2.2 ≠ .ok := by decide +kernel

theorem witness_PowerEstimates : live.running = true ∧ (inPhase .loadBody).inLoad = true ∧ live.boot.powerAt ≤ live.now := by decide +kernel

def oneHeld : Dev := live.setSeat 0 { live.seat 0 with held := [(1, true, ⟨0, 1, 1, 0, 0x0104, 0, 0, []⟩)] }
theorem witness_HeldEvents : oneHeld.pcieUp 0 = true ∧ (oneHeld.seat 0).held = (1, true, ⟨0, 1, 1, 0, 0x0104, 0, 0, []⟩) :: [] ∧
    oneHeld.eqRoom 0 1 = true ∧ (oneHeld.seat 0).lost = false := by decide +kernel
/-- The holding buffer of seat 0 has no space. -/
def noRoom : Dev := live.setSeat 0 { live.seat 0 with held := List.replicate 64 (0, true, ⟨0, 0, 1, 0, 0x0104, 0, 0, []⟩) }
theorem witness_HeldEvents_post : live.pcieUp 0 = true ∧ live.eqRoom 0 1 = true ∧ (live.seat 0).held = [] ∧ (noLink 0).pcieUp 0 = false ∧
    ((noLink 0).seat 0).held = [] ∧ ¬ ((noRoom.seat 0).held.filter fun h => h.2.1).length < 64 ∧ (∃ h ∈ (noRoom.seat 0).held, h.1 = 0) := by decide +kernel

/-! ## Witnesses: writes -/

def cqs0 : Word := BitVec.ofNat 32 (2 ^ 31 + 4)
theorem witness_RingWrites : live.mayWrite (.mmio 0) .HS_CQTAIL 0 0 15 = true ∧ live.mayWrite (.mmio 0) .HS_CQTAIL 0 0 16 = true ∧ live.fld .HS_CQSIZE_LOG2 0 0 = 4 ∧
    live.mayWrite (.mmio 0) .HS_EQHEAD 0 3 15 = true ∧ live.mayWrite (.mmio 0) .HS_EQHEAD 0 3 16 = true ∧ live.fld .HS_EQSIZE_LOG2 0 3 = 4 ∧
    live.mayWrite (.mmio 0) .RI_FQTAIL 7 0 0 = true ∧ live.mayWrite (.mmio 0) .RI_FQTAIL 7 0 4095 = true ∧ live.fld .RI_FQSIZE_LOG2 7 < 12 ∧
    live.mayWrite (.mmio 0) .HS_CQSIZE 0 2 cqs0 = true ∧ wget cqs0 0 4 = live.fld .HS_CQSIZE_LOG2 0 2 ∧
    live.mayWrite (.mmio 0) .HS_EQSIZE 0 2 cqs0 = true ∧ wget cqs0 0 4 = live.fld .HS_EQSIZE_LOG2 0 2 ∧ live.on .HS_EQSIZE_EN 0 2 = true := by decide +kernel
/-- Bay 0 in a mode. -/
def moded (m : Mode) : Dev := live.setBay 0 { live.bay 0 with mode := m }
theorem witness_TableWrites : winAt (lutAt 8 + 4) = some (.lut 8, 4) ∧ live.mayStore (.mmio 1) (lutAt 8 + 4) (.lut 8) = true ∧
    live.winRefuses (.seat (pcieSeat 1)) (.lut 8) 4 0x123 = none ∧ (moded .print).winRefuses (.seat (pcieSeat 0)) (.lut 7) 4 0x123 ≠ none ∧ (lutAt 8 + 4) % 4 = 0 ∧
   
    (Win.lut 8).mask 4 ≠ 0 := by decide +kernel
theorem witness_TableWrites_word : winAt (waveAt 0 1) = some (.wave 0 1, 0) ∧ live.mayStore (.mmio 0) (waveAt 0 1) (.wave 0 1) = true ∧ live.winRefuses (.seat (pcieSeat 0)) (.wave 0 1) 0 0x7F = none ∧
    winAt (footAt 0) = some (.foot 0, 0) ∧ live.mayStore (.mmio 0) (footAt 0) (.foot 0) = true ∧ live.winRefuses (.seat (pcieSeat 0)) (.foot 0) 0 0xFFFFFFFF = none ∧
    winAt (toneAt 0) = some (.tone 0, 0) ∧ live.mayStore (.mmio 0) (toneAt 0) (.tone 0) = true ∧ live.winRefuses (.seat (pcieSeat 0)) (.tone 0) 0 1 = none := by decide +kernel

/-- The staging bank of bay 0 belongs to head 3 and holds its curves. -/
def staged3 : Dev := { (live.setFld .SC_CVSTG_HEAD 0 0 3).setOn .SC_CVSTG_VALID 0 0 true with cvBank := [(0, some [])] }
def claimed3 : Dev := staged3.setOn .SC_CVSTG_CLAIM 0 0 true
theorem witness_TableWrites_staging : winAt 0x1500004 = some (.staging 0, 4) ∧ staged3.mayStore (.mmio 0) 0x1500004 (.staging 0) = true ∧
    staged3.winRefuses (.seat (pcieSeat 0)) (.staging 0) 4 0x01020304 = none ∧
    (Win.staging 0).mask 4 ≠ 0 := by decide +kernel
theorem witness_CurveStaging : live.mayWriteFields (.mmio 0) .SC_CVSTG 0 0 [(.SC_CVSTG_HEAD, 7)] ∧
    staged3.mayWriteFields (.mmio 0) .SC_CVSTG 0 0 [(.SC_CVSTG_HEAD, 7)] ∧ staged3.fld .SC_CVSTG_HEAD 0 ≠ 7 ∧
    live.mayWriteFields (.mmio 0) .SC_CVSTG 0 0 [(.SC_CVSTG_CLAIM, 1)] ∧ staged3.mayWriteFields (.mmio 0) .SC_CVSTG 0 0 [(.SC_CVSTG_ARM, 1)] ∧
    claimed3.running = true ∧ claimed3.on .SC_CVSTG_CLAIM 0 = true ∧ staged3.portBay 7 = some 0 ∧ staged3.portBay (staged3.fld .SC_CVSTG_HEAD 0) = some 0 ∧
    staged3.on .SC_CVSTG_ARM 0 = false ∧ staged3.on .SC_CVSTG_PEND 0 = false ∧ staged3.on .SC_CVSTG_VALID 0 = true ∧ staged3.on .SC_CVSTG_CLAIM 0 = false ∧
    (staged3.setOn .SC_CVSTG_ARM 0 0 true).mayWriteFields (.mmio 0) .SC_CVSTG 0 0 [(.SC_CVSTG_HEAD, 7)] ∧
    live.portBay (live.fld .SC_CVSTG_HEAD 0) = some 0 ∧ live.on .SC_CVSTG_ARM 0 = false ∧ live.on .SC_CVSTG_PEND 0 = false := by decide +kernel

theorem witness_PositionWrites : live.mayWriteFields (.mmio 0) .PS_CMD 3 0 [(.PS_CMD_MOVE, bit true)] ∧
    live.mayWriteFields (.mmio 0) .PS_CMD 3 0 [(.PS_CMD_PRELOAD, 1)] ∧ (live.psc 3).cyc.2 = 0 := by decide +kernel

/-- Head 7 is powered and ready, in STANDBY, and asked for. -/
def powered7 : Dev := ((live.setOn .HP_PWR_REQ 7 0 true).setOn .HP_PWR_PEN 7 0 true).setOn .HP_PWR_READY 7 0 true
theorem witness_HeadRequests : powered7.mayWriteFields (.mmio 0) .HP_PWR 7 0 [(.HP_PWR_REQ, bit false)] ∧ powered7.bayModes = true ∧
    powered7.portBay 7 = some 0 ∧ powered7.present 0 = true ∧ (powered7.bay 0).mode = .standby ∧ powered7.on .HP_PWR_PEN 7 = true ∧
    (powered7.hp 7).downAt = none ∧ (moded .calibrate).mayWriteFields (.mmio 0) .SN_LEARN 7 0 [(.SN_LEARN_START, 1)] ∧
    (moded .calibrate).on .SN_LEARN_BUSY 7 = false ∧
    (moded .calibrate).portBay 7 = some 0 ∧ ((moded .calibrate).bay 0).mode = .calibrate ∧ powered7.boot.phase = .running := by decide +kernel
/-- The write that asks for the power of head 0, unpowered, allowed and refused. -/
theorem witness_HeadRequests_rise : live.mayWriteFields (.mmio 0) .HP_PWR 0 0 [(.HP_PWR_REQ, bit true)] ∧ live.bayModes = true ∧ live.on .HP_PWR_PEN 0 = false ∧
    (live.hp 0).downAt = none ∧ live.on .HP_STAT_SHUT 0 = false ∧ live.on .HP_PWR_REFUSED 0 = false ∧ live.fld .TR_STAT_STATE 0 ≠ 7 ∧ live.fld .TR_STAT_STATE 0 ≠ 1 ∧
    (live.setOn .HP_PWR_REFUSED 0 0 true).mayWriteFields (.mmio 0) .HP_PWR 0 0 [(.HP_PWR_REQ, bit true)] := by decide +kernel

theorem witness_HostDeclarations : live.mayWriteFields (.mmio 0) .HM_DECL 0 0 [(.HM_DECL_HEAD, 7), (.HM_DECL_NOZ, 4095), (.HM_DECL_ACT, 0), (.HM_DECL_GO, 1)] ∧
    live.mayWriteFields (.mmio 0) .HM_DECL 0 0 [(.HM_DECL_HEAD, 7), (.HM_DECL_NOZ, 4095), (.HM_DECL_ACT, 1), (.HM_DECL_GO, 1)] ∧
    live.mayWriteFields (.mmio 0) .HM_DECL 0 0 [(.HM_DECL_HEAD, 7), (.HM_DECL_NOZ, 0), (.HM_DECL_ACT, 2), (.HM_DECL_GO, 1)] ∧
    live.portBay 7 = some 0 ∧ 4095 < live.fld .HP_PROF_NOZZLES 7 := by decide +kernel

def jobArmed : Dev := live.setFld .IN_NCRES_STATE 0 1 1
theorem witness_CameraRequests : live.mayWriteFields (.mmio 0) .CM_I2CCMD 0 0
      [(.CM_I2CCMD_REG, 65535), (.CM_I2CCMD_DATA, 255), (.CM_I2CCMD_RD, bit true), (.CM_I2CCMD_GO, 1)] ∧ live.on .CM_I2CCMD_BUSY 0 = false ∧
    live.mayWriteFields (.mmio 0) .IN_NCCFG 0 1 [(.IN_NCCFG_HEAD, 7), (.IN_NCCFG_S, 8), (.IN_NCCFG_RH, 2), (.IN_NCCFG_GO, 1)] ∧
    live.fld .IN_NCRES_STATE 0 1 ≠ 1 ∧ live.fld .IN_NCRES_STATE 0 1 ≠ 2 ∧
    jobArmed.mayWriteFields (.mmio 0) .IN_NCCFG 0 1 [(.IN_NCCFG_CANCEL, 1)] ∧ jobArmed.fld .IN_NCRES_STATE 0 1 = 1 ∧
    live.mayWriteFields (.mmio 0) .IN_RCTL 0 0 [(.IN_RCTL_RESET, 1)] ∧ live.portsOf 0 ≠ [] ∧
    live.regResets 0 = false ∧ live.camBay 0 = some 0 ∧ live.portBay 7 = some 0 ∧ live.fld .IN_NCROW_ROW0 0 1 + 8 * 2 ≤ live.fld .CM_GEOM_ROWS 0 ∧
    (live.cam 0).txn = none ∧ (live.cam 0).seqRun = false := by decide +kernel

def locked4 : Dev := live.setFld .FC_REC_STATE 4 0 3
theorem witness_FaultWrites : live.mayWrite (.mmio 0) .TM_SHUTST 0 0 0x80000000 = true ∧ live.shutHeld 31 = false ∧ wbit 0x80000000 31 = true ∧
    live.mayWriteFields (.mmio 0) .FC_CMD 0 0 [(.FC_CMD_REARM, 1)] ∧ locked4.mayWriteFields (.mmio 0) .FC_CMD 0 0 [(.FC_CMD_RELEASE, 16)] ∧
    2 ≤ locked4.fld .FC_REC_STATE 4 ∧ locked4.fld .FC_REC_STATE 0 ≤ 1 ∧ live.mayWriteFields (.mmio 0) .FC_NERR 0 0 [(.FC_NERR_HOLD, bit true)] := by decide +kernel

/-- The next owner record is 0; OT_PADDR names its last word but the lock, with data. -/
def otpAsked : Dev := (served.setFld .OT_PADDR_WORD 0 0 0x111).setFld .OT_PDATA_DATA 0 0 3
/-- Record 0 is complete. -/
def recFull : Dev := forN 18 (fun i d => d.setSh (0x100 + i) { data := 1, blank := false }) served
theorem witness_OtpRequests : otpAsked.mayWriteFields .console .OT_PCMD 0 0 [(.OT_PCMD_OP, 0), (.OT_PCMD_REC, 0), (.OT_PCMD_GO, 1)] ∧ otpAsked.inService = true ∧
    (otpAsked.ot.queue.any fun q => q.src == 0) = false ∧ 0 = otpAsked.nextRec ∧ recAt 0 ≤ otpAsked.fld .OT_PADDR_WORD ∧
    otpAsked.fld .OT_PADDR_WORD ≤ recAt 0 + 0x11 ∧ nv0.programmed (otpAsked.fld .OT_PADDR_WORD) = false ∧
    otpStored (otpAsked.fld .OT_PADDR_WORD) (otpAsked.reg .OT_PDATA) ≠ 0 := by decide +kernel
theorem witness_OtpRequests_lock : recFull.mayWriteFields .console .OT_PCMD 0 0 [(.OT_PCMD_OP, 1), (.OT_PCMD_REC, 0), (.OT_PCMD_GO, 1)] ∧
    (otpItems.all fun i => recFull.complete0 (recAt 0 + i.1) i.2) = true ∧ nv0.xfer ≠ 16 ∧ 0 = recFull.nextRec ∧ 0 = served.nextRec ∧ (otpItems.all fun i => served.complete0 (recAt 0 + i.1) i.2) = false ∧
    served.mayWriteFields .console .OT_PCMD 0 0 [(.OT_PCMD_OP, 1), (.OT_PCMD_REC, 0), (.OT_PCMD_GO, 1)] ∧
    served.mayWriteFields .console .OT_PCMD 0 0 [(.OT_PCMD_OP, 2), (.OT_PCMD_REC, 0), (.OT_PCMD_GO, 1)] ∧
    served.mayWriteFields .console .OT_RAWSEL 0 0 [(.OT_RAWSEL_WORD, 2047)] ∧ served.fld .PT_ECC_TARGET ≠ 2 := by decide +kernel

def bench : Dev := live.setOn .PT_CFG_BENCH 0 0 true
theorem witness_PerturbationWrites : bench.noneWithheld ∧ bench.mayWriteFields (.mmio 0) .PT_CREDIT 3 0 [(.PT_CREDIT_Q, 7), (.PT_CREDIT_FEED, bit true)] ∧
    bench.mayWriteFields (.mmio 0) .PT_CAMSTALL 0 0 [(.PT_CAMSTALL_GO, 1), (.PT_CAMSTALL_US, 1000)] ∧ bench.fbit .PT_CAMSTALL_GO 0 0 0 = false ∧
    bench.on .PT_FORCE_GO = false ∧ knownSource 8 = true ∧ 3 < unitCount 8 ∧ bench.mayWriteFields (.mmio 0) .PT_FORCE 0 0 [(.PT_FORCE_SRC, 8), (.PT_FORCE_UNIT, 3), (.PT_FORCE_GO, 1)] ∧
    bench.mayWriteFields (.mmio 0) .PT_CFG 0 0 [(.PT_CFG_CLEAR, 1)] ∧ bench.serves 2 = true ∧
    (bench.setSeat 2 { bench.seat 2 with withheld := [[]] }).blockedAt 2 (parseHdr []).queue = false := by decide +kernel
/-! ## Witnesses: command frames and commits -/

/-- The header of a frame of a seat in a queue, in sequence. -/
def hdr (k q : Fin 4) : CmdHdr := ⟨.seat k, q, 0, false, false, 64⟩
def conHdr (q : Fin 4) : CmdHdr := ⟨.console, q, 0, false, false, 0⟩
def early (k q : Fin 4) : CmdHdr := { hdr k q with seq := 65535 }

theorem witness_FrameOutOfOrder : frameOf (.stop (early 0 0) 0) = some (early 0 0, 0x0020) ∧ (early 0 0).src = .seat 0 ∧ live.takes (early 0 0) = true ∧
    live.noneWithheld ∧ seqDist ((live.seat 0).cmdq 0) (early 0 0).seq ≠ 0 := by decide +kernel
theorem witness_PlainFrames : live.admits (hdr 0 3) 0 false = true ∧ live.admits (hdr 0 0) 1 ([0, 4].all glOffset) = true ∧
    live.admits (conHdr 1) 1 ([0x80000].all glOffset) = true ∧ live.admits (hdr 2 2) 3 false = true ∧ blockOk 0x80000 8 = true ∧ 8 ≤ frameMax (hdr 2 2) ∧
    live.admits (hdr 0 0) 1 ((List.replicate 17 0).all glOffset) = true ∧ blockOk 2 8 = false := by decide +kernel
theorem witness_WriteFrames : live.accepts nv0 (.frame (hdr 0 1)) (RegName.off .HS_CQTAIL 0 3) 15 ∧ live.admits (hdr 0 1) 2 false = true ∧ live.noneWithheld ∧
    live.admits (hdr 1 2) 4 false = true ∧ blockOk (lutAt 8) 4 = true ∧ (busWrite (live.heard (hdr 1 2) 4) nv0 (hdr 1 2).src (lutAt 8) 7).2.2 = .ok ∧ blockOk 2 4 = false := by decide +kernel
theorem witness_BayAccess : live.running = true ∧ RegName.off .SC_CTL 8 0 % 4 = 0 ∧ winAt (RegName.off .SC_CTL 8 0) = none ∧
    decodeOff (RegName.off .SC_CTL 8 0) = some (.SC_CTL, 8, 0) ∧ RegName.SC_CTL.info.owner ∉ [.dev, .shared, .ksdev, .ownseat, .seat] ∧
    live.regBay .SC_CTL 8 ≠ some 0 ∧ live.inService = false := by decide +kernel
theorem witness_BayAccess_steward : decodeOff (RegName.off .FC_CMD 0 0) = some (.FC_CMD, 0, 0) ∧ winAt (RegName.off .FC_CMD 0 0) = none ∧
    RegName.FC_CMD.info.owner = .dev ∧ live.steward ≠ 1 ∧ winAt (lutAt 8) = some (.lut 8, 0) ∧ (Win.lut 8).shared = false ∧
    live.winBay (.lut 8) ≠ some 0 := by decide +kernel

def armedHost : Dev := live.setKset 0 { live.kset 0 with host := { st := .armed, origin := none, target := 9 } }
def nextRec0 : CommitRec := ⟨0, true, false, false, 0, 0⟩
def staleRec0 : CommitRec := ⟨0, true, true, false, 5, 0⟩
def prepared (d : Dev) (rec : CommitRec) : Dev :=
  ((d.heard (hdr 0 1) 0x0010).formPending 0).setHost 0 { st := .preparing, cmd := rec, origin := some (hdr 0 1), prepAt := d.now }
theorem witness_CommitPrepares : live.admits (hdr 0 1) 0x0010 false = true ∧ nextRec0.bay = (0 : Fin 4).val ∧ (hdr 0 1).src = .seat 0 ∧ live.present 0 = true ∧
    (live.kset 0).host.st = .idle ∧ (prepared live nextRec0).commitChecks 0 nextRec0 (live.kset 0).staging = none ∧
    (prepared live staleRec0).commitChecks 0 staleRec0 (live.kset 0).staging = some (.stale, noField) := by decide +kernel
def devRec : CommitRec := ⟨4, true, false, false, 0, 0⟩
theorem witness_CommitPrepares_device : live.admits (hdr 0 1) 0x0010 false = true ∧ (0 : Fin 4).val = live.steward ∧
    (live.kset 4).host.st = .idle ∧ (((live.heard (hdr 0 1) 0x0010).formPending 4).setHost 4 { st := .preparing, cmd := devRec, origin := some (hdr 0 1), prepAt := live.now }).deviceChecks
      (live.kset 4).staging = none ∧ armedHost.admits (hdr 0 1) 0x0010 false = true ∧ (armedHost.kset 0).host.st ≠ .idle := by decide +kernel

/-- The host slot of a bay, or of the device, with a commit that is PREPARING. -/
def preparing (b : Nat) (rec : CommitRec) : Dev := live.setKset b { live.kset b with host := { st := .preparing, cmd := rec, origin := some (hdr 0 1), prepAt := 0 } }
def targetRec (n : Nat) : CommitRec := ⟨0, false, false, false, 0, n⟩
def preparingInt : Dev := live.setKset 0 { live.kset 0 with int := { st := .preparing }, intReq := some ⟨.thermal, [], .keep, false⟩ }
theorem witness_CommitArms : (preparing 0 nextRec0).bayModes = true ∧ ((preparing 0 nextRec0).kset 0).host.st = .preparing ∧
    ((preparing 0 nextRec0).kset 0).host.cmd.now = false ∧ ((preparing 0 nextRec0).kset 0).host.cmd.next = true ∧
    ((preparing 0 (targetRec 2)).kset 0).host.cmd.next = false ∧ (preparing 0 (targetRec 2)).reachBad 0 2 = none ∧
    (preparing 0 (targetRec 1)).reachBad 0 1 ≠ none ∧ preparingInt.bayModes = true ∧ (preparingInt.kset 0).int.st = .preparing ∧
    ((preparing 4 nextRec0).kset 4).host.st = .preparing ∧ ((preparing 4 nextRec0).kset 4).pending = [] ∧ (preparing 0 nextRec0).prepLate (.host 0) = true ∧
    preparingInt.prepLate (.internal 0) = true ∧ (preparing 4 nextRec0).prepLate .device = true ∧
    ((preparing 0 ⟨0, false, false, true, 0, 0⟩).kset 0).host.cmd.now = true := by decide +kernel

def armed0 : Dev := live.setKset 0 { live.kset 0 with host := { st := .armed, cmd := targetRec 9, origin := none, target := 9 } }
def waiting0 : Dev := live.setKset 0 { live.kset 0 with waiting := [⟨.registration, [], .keep, false⟩, ⟨.thermal, [], .keep, false⟩, ⟨.fault, [], .degrade, false⟩] }
theorem witness_CommitEnds : armed0.admits (hdr 0 1) 0x0011 false = true ∧ (hdr 0 1).src = .seat 0 ∧ (armed0.kset 0).host.st = .armed ∧
    (armed0.kset 0).host.carried = false ∧ 3 ≤ sub48 (armed0.kset 0).host.target (armed0.ccPacer 0) ∧ (preparing 0 nextRec0).admits (hdr 0 1) 0x0011 false = true ∧
    ((preparing 0 nextRec0).kset 0).host.st = .preparing ∧ (preparing 4 nextRec0).admits (hdr 0 1) 0x0011 false = true ∧ live.admits (hdr 0 1) 0x0011 false = true ∧
    (live.kset 0).host.st = .idle ∧ waiting0.bayModes = true ∧ (waiting0.kset 0).int.st = .idle ∧ (waiting0.kset 0).nextReq = some ⟨.fault, [], .degrade, false⟩ ∧
    (∃ x ∈ (waiting0.kset 0).waiting, x.src = .fault) ∧ (waiting0.kset 0).waiting ≠ [] := by decide +kernel

def snapped : Dev := live.setSnap 0 0 { taken := true }
theorem witness_Snapshots : live.admits (hdr 0 3) 0x0012 false = true ∧ (hdr 0 3).src = .seat 0 ∧ live.present 0 = true ∧ live.inService = false ∧
    ((List.range 2).find? fun k => !(live.snap 0 k).taken) = some 0 ∧ ((List.range 2).find? fun k => !(snapped.snap 0 k).taken) = some 1 ∧
    snapped.admits (hdr 0 3) 0x0012 false = true ∧ live.reachBad 0 2 = none ∧ live.pacerQuiet 0 = true ∧ snapped.admits (hdr 0 3) 0x0013 false = true ∧
    snapped.admits (hdr 0 3) 0x0014 false = true ∧ (snapped.snap 0 0).taken = true ∧
    ((List.range 2).find? fun k => !((snapped.setSnap 0 1 { taken := true }).snap 0 k).taken) = none ∧
    (snapped.setSnap 0 1 { taken := true }).admits (hdr 0 3) 0x0012 false = true ∧ served.admits (hdr 0 3) 0x0012 false = true ∧ served.bayModes = false ∧
    4096 ≤ frameMax (hdr 0 3) := by decide +kernel

theorem witness_Stops : live.admits (hdr 0 0) 0x0020 false = true ∧ live.inService = false ∧ live.present 0 = true ∧
    (live.setOn .KS_BAYCTL_NSTOPEN 0 0 true).on .KS_BAYCTL_NSTOPEN 0 = true ∧ (live.setOn .KS_BAYCTL_NSTOPEN 0 0 true).present 0 = true ∧
    (live.setOn .KS_BAYCTL_NSTOPEN 0 0 true).bayModes = true ∧ served.inService = true ∧ served.admits (conHdr 0) 0x0020 false = true := by decide +kernel
/-! ## Witnesses: the image -/

/-- A header over a body that is one END record, signed with the private key 1 and the nonce 1; calculated outside the model. -/
def header1 : List Byte :=
  [0x44, 0x4E, 0x59, 0x4B, 0x01, 0x00, 0x00, 0x01, 0x01, 0x00, 0x00, 0x00, 0x01, 0x00, 0x00, 0x00, 0x08, 0x00, 0x00, 0x00, 0x01, 0x00, 0x00, 0x00, 0x00, 0x00, 0x00, 0x00, 0x00, 0x32, 0x01, 0x00,
  0xAF, 0x55, 0x70, 0xF5, 0xA1, 0x81, 0x0B, 0x7A, 0xF7, 0x8C, 0xAF, 0x4B, 0xC7, 0x0A, 0x66, 0x0F, 0x0D, 0xF5, 0x1E, 0x42, 0xBA, 0xF9, 0x1D, 0x4D, 0xE5, 0xB2, 0x32, 0x8D, 0xE0, 0xE8, 0x3D, 0xFC,
  0x6B, 0x17, 0xD1, 0xF2, 0xE1, 0x2C, 0x42, 0x47, 0xF8, 0xBC, 0xE6, 0xE5, 0x63, 0xA4, 0x40, 0xF2, 0x77, 0x03, 0x7D, 0x81, 0x2D, 0xEB, 0x33, 0xA0, 0xF4, 0xA1, 0x39, 0x45, 0xD8, 0x98, 0xC2, 0x96,
  0x4F, 0xE3, 0x42, 0xE2, 0xFE, 0x1A, 0x7F, 0x9B, 0x8E, 0xE7, 0xEB, 0x4A, 0x7C, 0x0F, 0x9E, 0x16, 0x2B, 0xCE, 0x33, 0x57, 0x6B, 0x31, 0x5E, 0xCE, 0xCB, 0xB6, 0x40, 0x68, 0x37, 0xBF, 0x51, 0xF5,
  0x6B, 0x17, 0xD1, 0xF2, 0xE1, 0x2C, 0x42, 0x47, 0xF8, 0xBC, 0xE6, 0xE5, 0x63, 0xA4, 0x40, 0xF2, 0x77, 0x03, 0x7D, 0x81, 0x2D, 0xEB, 0x33, 0xA0, 0xF4, 0xA1, 0x39, 0x45, 0xD8, 0x98, 0xC2, 0x96,
  0xC5, 0xA9, 0x74, 0x2F, 0x22, 0x6C, 0x68, 0x00, 0xA2, 0x2D, 0x30, 0xC8, 0x73, 0x58, 0xCB, 0xCD, 0x2F, 0x62, 0x4B, 0x73, 0x8F, 0x62, 0xCD, 0x22, 0xD9, 0x17, 0x62, 0xA0, 0x39, 0x64, 0x06, 0x35,
  0x00, 0x00, 0x00, 0x00, 0x00, 0x00, 0x00, 0x00, 0x00, 0x00, 0x00, 0x00, 0x00, 0x00, 0x00, 0x00, 0x00, 0x00, 0x00, 0x00, 0x00, 0x00, 0x00, 0x00, 0x00, 0x00, 0x00, 0x00, 0x00, 0x00, 0x00, 0x00,
  0x00, 0x00, 0x00, 0x00, 0x00, 0x00, 0x00, 0x00, 0x00, 0x00, 0x00, 0x00, 0x00, 0x00, 0x00, 0x00, 0x00, 0x00, 0x00, 0x00, 0x00, 0x00, 0x00, 0x00, 0x00, 0x00, 0x00, 0x00, 0xD2, 0xD5, 0xE1, 0x1A]
/-- The same with the GENERATION 2. -/
def header2 : List Byte :=
  [0x44, 0x4E, 0x59, 0x4B, 0x01, 0x00, 0x00, 0x01, 0x02, 0x00, 0x00, 0x00, 0x01, 0x00, 0x00, 0x00, 0x08, 0x00, 0x00, 0x00, 0x01, 0x00, 0x00, 0x00, 0x00, 0x00, 0x00, 0x00, 0x00, 0x32, 0x01, 0x00,
  0xAF, 0x55, 0x70, 0xF5, 0xA1, 0x81, 0x0B, 0x7A, 0xF7, 0x8C, 0xAF, 0x4B, 0xC7, 0x0A, 0x66, 0x0F, 0x0D, 0xF5, 0x1E, 0x42, 0xBA, 0xF9, 0x1D, 0x4D, 0xE5, 0xB2, 0x32, 0x8D, 0xE0, 0xE8, 0x3D, 0xFC,
  0x6B, 0x17, 0xD1, 0xF2, 0xE1, 0x2C, 0x42, 0x47, 0xF8, 0xBC, 0xE6, 0xE5, 0x63, 0xA4, 0x40, 0xF2, 0x77, 0x03, 0x7D, 0x81, 0x2D, 0xEB, 0x33, 0xA0, 0xF4, 0xA1, 0x39, 0x45, 0xD8, 0x98, 0xC2, 0x96,
  0x4F, 0xE3, 0x42, 0xE2, 0xFE, 0x1A, 0x7F, 0x9B, 0x8E, 0xE7, 0xEB, 0x4A, 0x7C, 0x0F, 0x9E, 0x16, 0x2B, 0xCE, 0x33, 0x57, 0x6B, 0x31, 0x5E, 0xCE, 0xCB, 0xB6, 0x40, 0x68, 0x37, 0xBF, 0x51, 0xF5,
  0x6B, 0x17, 0xD1, 0xF2, 0xE1, 0x2C, 0x42, 0x47, 0xF8, 0xBC, 0xE6, 0xE5, 0x63, 0xA4, 0x40, 0xF2, 0x77, 0x03, 0x7D, 0x81, 0x2D, 0xEB, 0x33, 0xA0, 0xF4, 0xA1, 0x39, 0x45, 0xD8, 0x98, 0xC2, 0x96,
  0xA6, 0xA3, 0xB0, 0xD9, 0xB5, 0xF6, 0xC1, 0x72, 0xC5, 0x14, 0x09, 0x13, 0xF2, 0xBA, 0x8F, 0x61, 0x35, 0xD2, 0x57, 0x22, 0x7E, 0x40, 0xC0, 0x53, 0xAA, 0xFD, 0xE4, 0x83, 0x5C, 0xB6, 0x5F, 0xCE,
  0x00, 0x00, 0x00, 0x00, 0x00, 0x00, 0x00, 0x00, 0x00, 0x00, 0x00, 0x00, 0x00, 0x00, 0x00, 0x00, 0x00, 0x00, 0x00, 0x00, 0x00, 0x00, 0x00, 0x00, 0x00, 0x00, 0x00, 0x00, 0x00, 0x00, 0x00, 0x00,
  0x00, 0x00, 0x00, 0x00, 0x00, 0x00, 0x00, 0x00, 0x00, 0x00, 0x00, 0x00, 0x00, 0x00, 0x00, 0x00, 0x00, 0x00, 0x00, 0x00, 0x00, 0x00, 0x00, 0x00, 0x00, 0x00, 0x00, 0x00, 0x8A, 0xB6, 0xDA, 0x87]
def endBody : List Byte := [0, 0, 0, 0, 0, 0, 0, 0]

/-- The factory root digest is that of the key of these headers. -/
def trusting (d : Dev) : Dev :=
  let g := sha256 (be 32 p256g.1 ++ be 32 p256g.2)
  forN 8 (fun j d => d.setSh (8 + j) { data := BitVec.ofNat 32 (ofLe ((g.drop (4 * j)).take 4)), blank := false }) d

/-- The first header stands in the buffer of copy A. -/
def buffered : Dev := (trusting live).setBuf 0 (((List.range 256).zip header1).filter fun x => x.2 != 0xFF)
def copyV1 : Dev := { live with boot := { live.boot with inUse := 0, copyA := { version := 1 } } }
def flashing (op : Nat) (d : Dev) : Dev := { d with boot := { d.boot with flashOp := some ⟨hdr 0 2, op, 0, 0⟩ } }

/-- Nothing is programmed from the rollback words on, and every word decodes. -/
theorem unprogrammed (w : Nat) (h : 0x400 ≤ w) : nv0.programmed w = false := by
  simp only [Nv.programmed, show nv0.cell w = otpDflt w from rfl]
  unfold otpDflt factoryWord
  split <;> first | omega | decide +kernel
theorem rollback0 : nv0.rollback = 0 := by
  simp [Nv.rollback, Nv.counter, unprogrammed]
theorem dflt_sound (w : Nat) : (otpDecide (otpDflt w)).ue = false := by
  unfold otpDflt factoryWord
  split <;> decide +kernel

theorem witness_ImageStaging : live.staging = false ∧ live.admits (hdr 0 2) 0x0030 false = true ∧ live.notSteward (hdr 0 2) = false ∧
    0 ≠ live.boot.inUse ∧ 252 % 4 = 0 ∧ 252 + 8 ≤ (live.boot.density.getD 0) * 524288 ∧ live.boot.reloadWaits = none ∧
    copyV1.staging = false ∧ copyV1.admits (hdr 0 2) 0x0030 false = true ∧ copyV1.notSteward (hdr 0 2) = false ∧
    copyV1.boot.inUse < 2 ∧ nv0.rollback < (copyV1.boot.copy copyV1.boot.inUse).version := by
  rw [rollback0]; decide +kernel
theorem witness_ImageStaging_refused : live.admits (hdr 1 2) 0x0030 false = true ∧ live.notSteward (hdr 1 2) = true ∧ (0 : Fin 2).val = copyV1.boot.inUse ∧
    live.boot.inUse = 2 ∧ (live.boot.density.getD 0) * 524288 < 2 ^ 26 + 4 ∧ ({ live with boot := { live.boot with inUse := 0 } } : Dev).boot.inUse < 2 ∧
    (({ live with boot := { live.boot with inUse := 0 } } : Dev).boot.copy 0).version ≤ nv0.rollback := by
  rw [rollback0]; decide +kernel
theorem buffered_header : buffered.bufHeader 0 = header1 := by decide +kernel
theorem witness_ImageStaging_verify : buffered.headerChecks nv0 (buffered.bufHeader 0) = 0 ∧ sizeBad (buffered.bufHeader 0) (buffered.boot.density.getD 0) = false ∧
    buffered.staging = false ∧ buffered.admits (hdr 0 2) 0x0030 false = true ∧ buffered.notSteward (hdr 0 2) = false ∧ live.headerChecks nv0 (live.bufHeader 0) ≠ 0 := by
  rw [buffered_header, Dev.headerChecks, Dev.headerChecks, rollback0]; decide +kernel

def servedFlash : Dev := flashing 0 served
theorem witness_ReloadAndFlash : servedFlash.admits (conHdr 1) 0x0031 false = true ∧ (conHdr 1).src = .console ∧ servedFlash.inService = true ∧
    servedFlash.boot.phase = .running ∧ servedFlash.boot.reloadWaits = none ∧ servedFlash.staging = true ∧ served.staging = false ∧
    served.admits (conHdr 1) 0x0031 false = true ∧ ∀ b : Fin 4, (served.pc b).trigs = [] := by decide +kernel
theorem witness_ReloadAndFlash_steward : live.admits (hdr 0 1) 0x0031 false = true ∧ live.admits (hdr 1 1) 0x0031 false = true ∧ live.notSteward (hdr 1 1) = true ∧
    live.notSteward (hdr 0 1) = false ∧ live.boot.service = false ∧ (live.heard (hdr 0 1) 0x0031).quietForService.2 = true ∧
    (moded .print).admits (hdr 0 1) 0x0031 false = true ∧ (moded .print).notSteward (hdr 0 1) = false ∧ ((moded .print).heard (hdr 0 1) 0x0031).quietForService.2 = false := by
  decide +kernel
theorem witness_ReloadAndFlash_done : (flashing 1 live).running = true ∧ (flashing 1 live).boot.flashOp = some ⟨hdr 0 2, 1, 0, 0⟩ ∧
    (flashing 1 live).noneWithheld ∧ (flashing 1 live).boot.reloadWaits = none := by decide +kernel
theorem witness_ReloadAndFlash_body : (match (flashing 2 buffered).bodyChecks ((flashing 2 buffered).bufHeader 0) endBody with | .inl _ => true | .inr _ => false) = true ∧
    (match (flashing 2 buffered).bodyChecks ((flashing 2 buffered).bufHeader 0) [] with | .inl _ => false | .inr _ => true) = true ∧
    (flashing 5 buffered).boot.flashOp = some ⟨hdr 0 2, 5, 0, 0⟩ := by decide +kernel

/-! ## Witnesses: feeding -/

def fhdr (k : Fin 4) (xx : Fin 32) : FeedHdr := ⟨k, xx, 0, false, false, 64⟩
/-- Head 0 with a ring of 64 slots of 4,096 pixels of 8 bits from 1 MiB, the window from raster 1. -/
def fed : Dev := live.setItk 0 { live.itk 0 with geo := (0, 4096, 1, 64), u := 1 }
def fedAt (u : Nat) : Dev := live.setItk 0 { live.itk 0 with geo := (0, 4096, 1, 64), u := u }

theorem witness_FeedStores : fed.feedOpen (fhdr 0 0) = true ∧ fed.bayModes = true ∧ fed.portBay 0 = some (0 : Fin 4).val ∧ (fed.itk 0).frames = [] ∧
    seqDist (fed.itk 0).fq (fhdr 0 0).seq = 0 ∧ (fed.itk 0).geo.2.2.2 ≠ 0 ∧ feedHeaderOk (fed.itk 0).geo true 1 0 8 0 0 0 (16 + 8) = true ∧
    feedHeaderOk (fed.itk 0).geo false 1 0 4096 0 0 255 16 = true ∧
    feedHeaderOk (fed.itk 0).geo false 1 0 4096 0 0 256 16 = false ∧ (live.itk 0).geo.2.2.2 = 0 ∧ live.feedOpen (fhdr 0 0) = true ∧ live.feedOpen (fhdr 0 8) = true ∧
    live.portBay 8 ≠ some (0 : Fin 4).val ∧ served.feedOpen (fhdr 0 0) = true ∧ served.bayModes = false ∧ (fed.itk 0).courseRes true 65 0 = .ahead ∧
    (fed.itk 0).courseRes false 64 8 = .gap ∧ ((fed.setItk 0 ((fed.itk 0).setSlot 3 (some ⟨3, 10, none⟩))).itk 0).courseRes false 3 10 = .extend ∧ (fed.itk 0).courseRes false 64 0 = .restart ∧
    (fed.itk 0).courseRes false 65 0 = .hold ∧ (fed.itk 0).courseRes false 0 0 = .late ∧ ((fedAt 5).itk 0).courseRes false 4 0 = .late := by decide +kernel

def slotted : Dev := fed.setItk 0 (((fed.itk 0).setSlot 1 (some ⟨1, 4096, none⟩)).setSlot 3 (some ⟨3, 10, none⟩))
/-- A CFILL held at the head of its feed queue beyond the window, and the same one within it. -/
def heldFill (raster : Nat) : Dev :=
  fed.setItk 0 { fed.itk 0 with frames := [{ hdr := fhdr 0 0, feed := .cfill raster 1 0 8 0 0 7 16, taken := true }] }
theorem witness_FeedFlushAndResume : slotted.feedOpen (fhdr 0 0) = true ∧ slotted.bayModes = true ∧ slotted.portBay 0 = some 0 ∧ (slotted.itk 0).frames = [] ∧
    seqDist (slotted.itk 0).fq 0 = 0 ∧ slotted.running = true ∧ slotted.slotAwaits 0 1 = true ∧ (slotted.itk 0).slot 1 = some ⟨1, 4096, none⟩ ∧
    (heldFill 65).bayModes = true ∧ (match ((heldFill 65).itk 0).frames with | [e] => e.taken && e.hdr.port == 0 && (match ((heldFill 65).feedExec e).2 with | .held _ => true | _ => false) | _ => false) = true ∧
    (match ((heldFill 64).itk 0).frames with | [e] => e.taken && e.hdr.port == 0 && (match ((heldFill 64).feedExec e).2 with | .done _ _ => true | _ => false) | _ => false) = true := by decide +kernel

def scrubbing : Dev := live.setOn .RI_SCRUB_EN 0 0 true
theorem witness_FrameStoreUpkeep : scrubbing.running = true ∧ scrubbing.on .RI_SCRUB_EN = true ∧ 0 < scrubbing.cap ∧ scrubbing.cap - 1 < scrubbing.cap ∧
    scrubbing.fld .PT_ECC_COUNT = 0 ∧ ((List.range 8).any fun i => scrubbing.fsWordBad (64 / 64 * 64 / 8 + i)) = false := by decide +kernel
/-- The next read of the frame store's first 256 MiB has an injected error of one bit, or of two. -/
def injected (two : Bool) : Dev := ((scrubbing.setFld .PT_ECC_COUNT 0 0 1).setFld .PT_ECC_TARGET 0 0 1).setOn .PT_ECC_TWO 0 0 two
theorem witness_FrameStoreUpkeep_ecc : ((List.range 8).any fun i => ({ scrubbing with fsBad := [(9, true)] } : Dev).fsWordBad (64 / 64 * 64 / 8 + i)) = true ∧
    (injected true).running = true ∧ (injected true).fld .PT_ECC_COUNT ≠ 0 ∧ (injected true).fld .PT_ECC_TARGET = 1 ∧ 64 / 64 * 64 / 2 ^ 28 = (injected true).fld .PT_ECC_ARG ∧
    (injected true).on .RI_SCRUB_EN = true ∧ 64 < (injected true).cap ∧ ((List.range 8).any fun i => (injected true).fsWordBad (64 / 64 * 64 / 8 + i)) = false ∧
    (injected true).on .PT_ECC_TWO = true ∧ (injected false).on .PT_ECC_TWO = false := by decide +kernel

/-- Function 0 with a descriptor in each ring of a set of queues, and in the feed ring of head 0. -/
def ringed (qs : List (Fin 4)) : Dev :=
  let d := live.setSeat 0 (qs.foldl (fun s q => s.setCmdq q { s.cmdq q with tail := 1 }) (live.seat 0))
  let d := (d.setOn .RI_FQSIZE_EN 0 0 true).setFld .RI_FQSIZE_LOG2 0 0 4
  d.setItk 0 { d.itk 0 with fq := { (d.itk 0).fq with tail := 1 } }
theorem witness_DescriptorsFetched : (ringed [0]).nextRing 0 = some 0 ∧ (ringed [3]).nextRing 0 = some 3 ∧ (ringed []).feedReady 0 0 = true ∧
    (ringed [0]).feedReady 0 0 = false ∧ live.nextRing 0 = none ∧ live.noneWithheld := by decide +kernel
/-- A NOP of seat 0 in a queue, with a version. -/
def nopOf (q ver : Byte) : List Byte := [0x44, 0x4E, ver, 0x00, q, 0x00, 0x00, 0x00, 0x00, 0x00, 0x00, 0x00, 0x00, 0x00, 0x00, 0x00]
theorem witness_DescriptorsFetched_frame : (parseHdr (nopOf 0 1)).queue = 0 ∧ (parseHdr (nopOf 0 1)).version = 1 ∧ headerBad (parseHdr (nopOf 0 1)) 0 (seatMaxLen 0) 0 = false ∧
    live.admits (hdr 0 0) 0 false = true ∧ (parseHdr (nopOf 1 1)).queue ≠ 0 ∧ (parseHdr (nopOf 0 2)).version ≠ 1 ∧ headerBad (parseHdr (nopOf 0 2)) 0 (seatMaxLen 0) 0 = false := by decide +kernel

theorem witness_EthernetAnswers : live.running = true ∧ (inPhase .loadTrain).inLoad = true ∧ live.on .HS_CTL_EN (ethSeat 1) = true ∧
    (live.seat (ethSeat 1)).up = true ∧ live.seatFenced (ethSeat 1) = false ∧ live.noneWithheld ∧ live.peerOk (ethSeat 1) 0x0A000001 = true ∧
    live.macOf (ethSeat 1) ≠ macBroadcast ∧ (live.setWord (RegName.off .HS_BOUNDIP (ethSeat 1) 0) 5 |>.setOn .HS_LINK_BOUND (ethSeat 1) 0 true).peerOk (ethSeat 1) 6 = false ∧
    ofLe (([0, 0, 0, 0, 0] : List Byte).drop 1) ≠ (crc32 (([0, 0, 0, 0, 0] : List Byte).take 1)).toNat ∧
    (live.setOn .HS_LINK_BOUND (ethSeat 1) 0 true).on .HS_LINK_BOUND (ethSeat 1) = true ∧ live.on .HS_LINK_BOUND (ethSeat 1) = false := by decide +kernel
/-- A NOP of the second Ethernet seat, and one with another magic. -/
def ethNop (m : Byte) : List Byte := [m, 0x4E, 0x01, 0x03, 0x0C, 0x00, 0x00, 0x00, 0x00, 0x00, 0x00, 0x00, 0x00, 0x00, 0x00, 0x00]
theorem witness_EthernetAnswers_frame : headerBad (parseHdr (ethNop 0x44)) (ethSeat 1).val 8952 ((ethNop 0x44).length - 16) = false ∧ (parseHdr (ethNop 0x44)).version = 1 ∧
    live.blockedAt (ethSeat 1) (parseHdr (ethNop 0x44)).queue = false ∧ headerBad (parseHdr (ethNop 0x45)) (ethSeat 1).val 8952 ((ethNop 0x45).length - 16) = true := by decide +kernel
theorem witness_FrameHeaderRead : (⟨0, 1, 0, 65535, 0x0010, 0, 2, [1, 2]⟩ : Frame).seq < 65536 ∧ (⟨0, 1, 0, 65535, 0x0010, 0, 2, [1, 2]⟩ : Frame).len < 2 ^ 32 := by decide
/-! ## Witnesses and steps: position, pacing -/

/-- Channel 0 of a type, without filter, wrapping, at a level of its inputs and a count, with the last valid Hall state. -/
def chan (type lvl hall : Nat) (count : Nat := 0) : Dev :=
  let d := (((((live.setFld .PS_CFG_TYPE 0 0 type).setFld .PS_CFG_FILT 0 0 0).setOn .PS_CFG_WRAP 0 0 true).setFld .PS_STAT_IN 0 0 lvl)).setFld .PS_POS_COUNT 0 0 count
  d.setPsc 0 { d.psc 0 with hallLast := hall }
theorem witness_EncoderCounts : (chan 0 0 0).running = true ∧ ((chan 0 0 0).psBay 0).isSome = true ∧ (chan 0 0 0).on .PS_CFG_WRAP 0 = true ∧ (chan 0 0 0).psFenced 0 = false ∧
    (chan 0 0 0).fld .PS_CFG_TYPE 0 = 0 ∧ (chan 0 0 0).fld .PS_CFG_QMODE 0 = 2 ∧
    (after (.positionEdge 0 1 1) (chan 0 0 0)).fld .PS_STAT_IN 0 % 4 = 1 ∧ (after (.positionEdge 0 2 2) (chan 0 0 0)).fld .PS_STAT_IN 0 % 4 = 2 ∧
    (after (.positionEdge 0 3 3) (chan 0 0 0)).fld .PS_STAT_IN 0 % 4 = 3 := by decide +kernel
theorem witness_EncoderCounts_step : (chan 1 2 0).fld .PS_CFG_TYPE 0 = 1 ∧ (chan 1 2 0).fbit .PS_STAT_IN 0 0 0 = false ∧
    (after (.positionEdge 0 3 3) (chan 1 2 0)).fbit .PS_STAT_IN 0 0 0 = true ∧ (chan 1 1 0).fbit .PS_STAT_IN 0 0 0 = true := by decide +kernel
theorem witness_EncoderCounts_hall : (chan 2 1 1).fld .PS_CFG_TYPE 0 = 2 ∧ ((chan 2 1 1).psc 0).hallLast = 1 ∧
    [3, 5, 2, 6, 0, 7].all (fun p => decide ((after (.positionEdge 0 ⟨p % 8, Nat.mod_lt _ (by decide)⟩ ⟨p % 8, Nat.mod_lt _ (by decide)⟩) (chan 2 1 1)).fld .PS_STAT_IN 0 = p)) = true := by decide +kernel
def zChan (mode : Nat) : Dev := (chan 0 0 0 7).setFld .PS_CFG_ZMODE 0 0 mode
theorem witness_EncoderCounts_z : (zChan 0).fld .PS_CFG_ZMODE 0 = 0 ∧ ((zChan 0).psBay 0).isSome = true ∧ (zChan 0).fld .PS_CFG_TYPE 0 < 2 ∧
    ((zChan 0).setWord (RegName.off .GL_BAYRES 0 0) 0).psBay 0 = none ∧ (zChan 2).fld .PS_CFG_ZMODE 0 = 2 ∧ (zChan 1).fld .PS_CFG_ZMODE 0 = 1 ∧
    (zChan 1).psFenced 0 = false ∧ (zChan 2).on .PS_CFG_WRAP 0 = true ∧ (zChan 1).running = true ∧
    ((zChan 2).psc 0).cyc.2 = 0 ∧ ((zChan 2).setPsc 0 { (zChan 2).psc 0 with cyc := (1000000, 1) }).tb = 1000000 ∧ (inPhase .loadBody).running = false := by decide +kernel
/-- R146: 00 to 01 counts down, from 0 to 0xFFFFFFFF; R148: Hall state 1 to 2 counts two and skips. -/
theorem test_position_wraps : (after (.positionEdge 0 2 2) (chan 0 0 0)).fld .PS_POS_COUNT 0 = 0xFFFFFFFF ∧
    (after (.positionEdge 0 2 2) (chan 2 1 1)).fld .PS_POS_COUNT 0 = 2 := by decide +kernel
/-- R152: ZMODE 2 loads PREVAL and latches the count. -/
theorem test_z_loads : (after (.zEdge 0) ((zChan 2).setFld .PS_PREVAL_VAL 0 0 5)).fld .PS_POS_COUNT 0 = 5 ∧
    (after (.zEdge 0) (zChan 2)).fld .PS_ZLAT_COUNT 0 = 7 := by decide +kernel

def subbed (bad : Bool) (run : Nat) : Dev := live.setPsc 0 { live.psc 0 with subBad := bad, badRun := run }
/-- Channel 3 is of type SSI, with plain words; a frame is under way from an instant. -/
def ssiChan (from_ : Option (Nat × Bool)) (prev : Option Nat) : Dev :=
  let d := (live.setFld .PS_CFG_TYPE 3 0 3).setOn .PS_SSI_GRAY 3 0 false
  d.setPsc 3 { d.psc 3 with ssi := from_, ssiPrev := prev }
def stalling : Dev := (live.setFld .PS_STALL_TIMEOUT 0 0 10).setOn .PS_CMD_MOVE 0 0 true
theorem witness_ChannelWindows : live.running = true ∧ (live.psc 0).subEnd ≤ live.tb ∧ ((subbed true 99).psc 0).subBad = true ∧
    ((subbed true 99).psc 0).badRun = 99 ∧ (ssiChan none none).ssiDue 3 = true ∧ (ssiChan (some (990000, false)) none).ssiEndDue 3 = true ∧
    ((ssiChan (some (990000, false)) none).psc 3).ssi = some (990000, false) ∧ ((ssiChan (some (990000, false)) none).psc 3).ssiPrev = none ∧
    ((ssiChan (some (990000, false)) (some 5)).psc 3).ssiPrev = some (5 % 2 ^ (ssiChan (some (990000, false)) (some 5)).fld .PS_SSI_BITS 3) ∧
    (ssiChan none none).on .PS_SSI_GRAY 3 = false ∧ (live.psc 0).spdEnd ≤ live.tb ∧ stalling.running = true ∧ stalling.stallDue 0 = true ∧
    stalling.on .PS_STAT_STALL 0 = false ∧ live.on .PS_STAT_CHATTER 0 = false ∧ ((subbed true 98).psc 0).badRun < 99 := by decide +kernel
/-- R154: the window's sum, signed, is stored. -/
theorem test_speed_window : (after (.speedWindowEnd 0) (live.setPsc 0 { live.psc 0 with spdSum := -2 })).fld .PS_SPEED_SUM 0 = 0xFFFFFFFE := by decide +kernel

/-- Bay 0 with a pacer. -/
def paced (f : Pacer → Pacer) : Dev := live.setPc 0 (f (live.pc 0))
def genPaced : Dev := paced fun x => { x with src := 2, genNext := 999990, stop := some 3 }
def interpPaced : Dev := paced fun x => { x with src := 1, p := 2 ^ 33, q := 2 ^ 32, cap := 2 ^ 33, rate := 2 ^ 20, qT := 999990 }
def delayedPaced : Dev := paced fun x => { x with delayed := [999980, 1000200] }
theorem witness_TriggersIssued : genPaced.bayModes = true ∧ genPaced.genDue 0 = true ∧ genPaced.fld .PT_TRIGDLY_MODE 0 = 0 ∧ (genPaced.pc 0).delayed = [] ∧
    interpPaced.interpDue 0 = true ∧ (interpPaced.pc 0).nextCross ≠ none ∧ interpPaced.fld .PT_TRIGDLY_MODE 0 = 0 ∧ (interpPaced.pc 0).delayed = [] ∧
    (delayedPaced.pc 0).delayed = 999980 :: [1000200] ∧ 999980 ≤ delayedPaced.tb ∧ live.present 0 = true ∧ (live.pc 0).rateNext ≤ live.tb ∧
    live.fld .TM_BSTAT_STATE 0 = 0 ∧ live.thrPorts 0 = [] ∧ (interpPaced.pc 0).nextCross.isSome = true := by decide +kernel
/-- The next trigger of bay 0 is delayed. -/
def delaying (d : Dev) : Dev := (d.setFld .PT_TRIGDLY_MODE 0 0 2).setFld .PT_TRIGDLY_CYC 0 0 200
/-- Bay 0 prints, throttled, with its grace at an end. -/
def pressed : Dev :=
  let d := ((moded .print).setFld .TM_BSTAT_STATE 0 0 1).setOn .TM_STAT_THROT 0 0 true
  let d := (d.setPc 0 { d.pc 0 with recent := List.replicate 200 999990 }).setFld .TM_TACT_RATE 0 0 100
  d.setThro 0 { d.thro 0 with graceEnd := some 5 }
theorem witness_TriggersIssued_delay : (delaying genPaced).genDue 0 = true ∧ (delaying genPaced).fld .PT_TRIGDLY_MODE 0 = 2 ∧ 0 < (delaying genPaced).fld .PT_TRIGDLY_CYC 0 ∧
    (delaying interpPaced).interpDue 0 = true ∧ (delaying interpPaced).fld .PT_TRIGDLY_MODE 0 = 2 := by decide +kernel
theorem witness_TriggersIssued_enforce : pressed.fld .TM_BSTAT_STATE 0 = 1 ∧ pressed.thrPorts 0 ≠ [] ∧ (pressed.thro 0).busy = none ∧ (pressed.thro 0).graceEnd = some 5 ∧
    5 ≤ pressed.now ∧ pressed.bayModes = true ∧ (pressed.bay 0).mode = .print ∧ pressed.fld .TM_TACT_RATE 0 < (after (.pacerRateUpdate 0) pressed).fld .PC_RATE_CNT 0 * 100 := by decide +kernel
/-- R162: the generator's trigger is stamped with its own instant. -/
theorem test_generator : ((after (.generatorTrigger 0) genPaced).pc 0).trigs = [⟨999990, some 3⟩] := by decide +kernel
/-! ## Witnesses and steps: course boundaries, compare, emulation, firing, sounding -/

/-- Bay 0 with a waiting trigger, asked for a mode. -/
def boundaryOf (m : Nat) (hold : Option Nat) : Dev :=
  (paced fun x => { x with trigs := [⟨999990, hold⟩] }).setFld .KS_BAYCTL_MODE 0 0 m
/-- Bay 0 with the ARMED commit of its next course, which its trigger carries, and a snapshot for it. -/
def applying : Dev :=
  let d := boundaryOf 2 none
  let d := d.setKset 0 { d.kset 0 with host := { st := .armed, target := 1, carried := true } }
  d.setSnap 0 1 { taken := true, pendingAt := some 1 }
theorem witness_CourseProcessed : (boundaryOf 1 none).bayModes = true ∧ ((boundaryOf 1 none).pc 0).trigs = ⟨999990, none⟩ :: [] ∧
    ((boundaryOf 1 none).kset 0).host.st ≠ .armed ∧ ((boundaryOf 1 none).kset 0).int.st ≠ .armed ∧
    (boundaryOf 1 none).reqMode 0 = .prime ∧ (boundaryOf 2 none).reqMode 0 = .print ∧
    (boundaryOf 0 none).reqMode 0 = .standby ∧ ((boundaryOf 2 (some 1)).pc 0).trigs = ⟨999990, some 1⟩ :: [] ∧ (boundaryOf 2 (some 1)).reqMode 0 ≠ .standby ∧
    ((boundaryOf 2 (some 1)).bay 0).pol = false ∧ (((boundaryOf 2 none).setBay 0 { (boundaryOf 2 none).bay 0 with adv := true }).bay 0).adv = true ∧
    ((boundaryOf 1 none).bay 0).adv = false := by decide +kernel
theorem witness_CourseProcessed_apply : (applying.pc 0).trigs = ⟨999990, none⟩ :: [] ∧ applying.bayModes = true ∧ ((applying.kset 0).host.st == .armed &&
    (applying.kset 0).host.carried && (applying.kset 0).host.target == add48 (applying.bay 0).cc 1) = true ∧ (applying.snap 0 1).taken = true ∧
    (applying.snap 0 1).pendingAt = some (add48 (applying.bay 0).cc 1) := by decide +kernel
/-- R61: a stop puts a printing bay in HOLD at the boundary, and CC advances. -/
theorem test_boundary_stop : ((after (.courseBoundary 0) (boundaryOf 2 (some 1))).bay 0).mode = .hold ∧
    ((after (.courseBoundary 0) (boundaryOf 2 (some 1))).bay 0).cc = 1 := by decide +kernel

/-- Engine 0 runs with entry `i` of its list armed, LAST 3, at the count of channel 0. -/
def comparing (i width : Nat) (cyclic : Bool) : Dev :=
  let d := (live.setFld .CP_CTL_LAST 0 0 3).setOn .CP_CTL_CYCLIC 0 0 cyclic
  let d := d.setFld .GL_BAYCMP_CMP 0 0 3
  d.setCp 0 { d.cp 0 with run := true, idx := i, width := width, mask := 5 }
def pulsing : Dev := live.setCp 0 { live.cp 0 with pulses := [(2, some 999999)] }
/-- Emulation output 0, owned by bay 0, with a backlog. -/
def emulating (step : Bool) (k : Int) : Dev :=
  let d := ((live.setFld .GL_BAYRES_EM 0 0 1).setOn .EM_CFG_EN 0 0 true).setOn .EM_CFG_STEPDIR 0 0 step
  d.setEm 0 { d.em 0 with k := k }
def emPulsing : Dev := (live.setOn .EM_CFG_EN 0 0 true).setEm 0 { live.em 0 with pulseEnd := some 999999, zEnd := some 999999, lvA := true }
theorem witness_CompareAndEmulation : (comparing 1 0 true).cmpDue 0 = true ∧ ((comparing 1 0 true).cp 0).mask / 2 ^ 0 % 2 = 1 ∧
    (comparing 1 0 true).cmpBay 0 = (comparing 1 0 true).cpeBay 0 ∧ (comparing 1 0 true).cmpBay 2 ≠ (comparing 1 0 true).cpeBay 0 ∧
    ((comparing 1 0 true).cp 0).mask / 2 ^ 1 % 2 = 0 ∧ (comparing 3 7 true).cmpDue 0 = true ∧
    ((comparing 3 7 true).cp 0).idx = (comparing 3 7 true).fld .CP_CTL_LAST 0 ∧ (comparing 3 7 false).on .CP_CTL_CYCLIC 0 = false ∧
    pulsing.running = true ∧ pulsing.pulseDue 0 2 = true := by decide +kernel
theorem witness_CompareAndEmulation_em : (emulating false 3).emDue 0 = true ∧ (emulating false (-3)).emDue 0 = true ∧ (emulating true 3).emDue 0 = true ∧
    ((emulating true 3).em 0).lvB ≠ decide (0 < ((emulating true 3).em 0).k) ∧ ((emulating true (-3)).em 0).lvB = decide (0 < ((emulating true (-3)).em 0).k) ∧
    (emPulsing.em 0).pulseEnd = some 999999 ∧ 999999 ≤ emPulsing.tb ∧ emPulsing.running = true ∧
    (emPulsing.em 0).zEnd = some 999999 ∧ emPulsing.on .EM_CFG_EN 0 = true ∧ emPulsing.emFenced 0 = false ∧ live.on .EM_CFG_EN 0 = false := by decide +kernel
/-- R166: the last entry of a list that is not cyclic ends the run with DONE. -/
theorem test_compare_done : (after (.compareMatch 0) (comparing 3 7 false)).on .CP_STAT_DONE 0 = true ∧
    (after (.compareMatch 0) (comparing 3 7 false)).fld .CP_CNT_FIRED 0 = 1 := by decide +kernel
/-- R168: quadrature counts run along 00, 10, 11, 01. -/
theorem test_emulation_quadrature : ((after (.emulationEdge 0) (emulating false 3)).em 0).lvA = true ∧ ((after (.emulationEdge 0) (emulating false 3)).em 0).lvB = false ∧
    ((after (.emulationEdge 0) (emulating false (-3))).em 0).lvB = true := by decide +kernel

/-- Head 0 powered and ready, with a course on its way. -/
def jobbed (j : Job) (f : HPort → HPort := id) : Dev :=
  let d := ((live.setOn .HP_PWR_REQ 0 0 true).setOn .HP_PWR_PEN 0 0 true).setOn .HP_PWR_READY 0 0 true
  d.setHp 0 (f { d.hp 0 with jobs := [j] })
def latchP0 (lead trail : Nat) : LatchP :=
  { nom := lead, defer := 0, lead := lead, trail := trail, high := true, tf := 10000000, ts := 2000000, spc := 1, gstep := 0, boff := 0, nch := false, rot := false, bank := 0,
    wa := 0, wb := 0, ampA := 1024, ampB := 1024, restA := 0, restB := 0, wvInv := false, sound := none }
def job0 (lend : Option Nat) (latch : Option LatchP) (led : Bool) : Job :=
  { course := 7, codes := [1, 0, 2], tf := 10000000, frames := 2, lanes := [], start := 4000000000, ready := true, lend := lend, latch := latch, led := led }
def loading : Dev := jobbed (job0 none none false)
def latching : Dev := jobbed (job0 (some 4020000000) (some (latchP0 4900000000 4950000000)) false)
def lateLoad : Dev := jobbed (job0 none (some (latchP0 4900000000 4950000000)) false) fun h => { h with late := true }
def trailing : Dev := jobbed (job0 (some 4020000000) (some (latchP0 4900000000 4950000000)) true)
theorem witness_HeadsFire : loading.loadDue 0 = true ∧ (loading.hp 0).jobs = job0 none none false :: [] ∧ latching.latchDue 0 = true ∧
    (job0 (some 4020000000) (some (latchP0 4900000000 4950000000)) false).inTime (latchP0 4900000000 4950000000) = true ∧ lateLoad.latchDue 0 = true ∧
    (job0 none (some (latchP0 4900000000 4950000000)) false).inTime (latchP0 4900000000 4950000000) = false ∧ (lateLoad.hp 0).late = true ∧
    trailing.trailDue 0 = true ∧ (job0 none none true).codes.length ≤ 4096 ∧ trailing.wearCnt 0 0 < 2 ^ 48 - 1 ∧ trailing.fld .PT_ECC_COUNT = 0 ∧
    trailing.hpFenced 0 = false ∧ trailing.thermalHold 0 = false ∧ (trailing.setOn .TM_STAT_HELD 1 0 true).thermalHold 0 = true := by decide +kernel
/-- Head 0 with a repeated configuration block that is due. -/
def repeating : Dev := { (loading.setOn .HP_PROF_CFGREP 0 0 true) with now := 30000000 }
theorem witness_HeadsFire_repeat : repeating.cfgRepeatDue 0 = true := by decide +kernel
/-- R375: the counter of a nozzle that fires counts one, that of a blank one none. -/
theorem test_actuations : (after (.latchTrailingEdge 0) trailing).wearCnt 0 2 = trailing.wearCnt 0 2 + 1 ∧
    (after (.latchTrailingEdge 0) trailing).wearCnt 0 1 = trailing.wearCnt 0 1 := by decide +kernel

def settling : Dev := let d := (live.setOn .HP_PWR_REQ 0 0 true).setOn .HP_PWR_PEN 0 0 true; d.setHp 0 { d.hp 0 with settleAt := some 999999 }
def lowering (k : Nat) : Dev := let d := live.setOn .HP_PWR_PEN 0 0 (k == 1); d.setHp 0 { d.hp 0 with downAt := some (k, 999999, 1) }
/-- The island of head 0 wakes, and head 0 waits for it. -/
def waking : Dev :=
  let d := live.setOn .HP_PWR_REQ 0 0 true
  let d := { d.setFbit .GL_ISLAND_HCI 0 0 (cluster 0) false with isl := [(cluster 0, some 999999)] }
  d.setHp 0 { d.hp 0 with penWait := some 2 }
theorem witness_HeadPowerSteps : settling.settleDue 0 = true ∧ ((lowering 1).hp 0).downAt = some (1, 999999, 1) ∧ 999999 ≤ (lowering 1).now ∧
    ((lowering 2).hp 0).downAt = some (2, 999999, 1) ∧ (lowering 2).penWant 0 = false ∧ (lowering 2).on .HP_PWR_PEN 0 = false ∧
    waking.wakeAt (cluster 0) = some 999999 ∧ (waking.hp 0).penWait = some 2 ∧ waking.penWant 0 = true ∧ waking.fld .TR_STAT_STATE 0 ≠ 1 ∧
    999999 ≤ waking.now := by decide +kernel

/-- Head 0 with a capture of course 9 and nozzle 5 that has ended, and a confidence of the nozzle. -/
def capturing : Dev := live.setSn 0 { live.sn 0 with capt := some ⟨9, 5, 4999000000, false, []⟩, aborts := 15 }
def silent : List Nat := List.replicate 256 2048
def railed : List Nat := List.replicate 9 4095 ++ List.replicate 247 2048
theorem witness_SoundingAndAging : (capturing.sn 0).capt = some ⟨9, 5, 4999000000, false, []⟩ ∧ 4999000000 ≤ capturing.nowPs ∧ silent.length = 256 ∧
    railed.length = 256 ∧ (∀ v ∈ silent, v < 4096) ∧ (∀ v ∈ railed, v < 4096) ∧ 8 < (railed.filter fun v => v == 0 || v == 4095).length ∧
    (silent.filter fun v => v == 0 || v == 4095).length ≤ 8 ∧ (capturing.sn 0).aborts = 15 ∧ capturing.fld .PT_ECC_COUNT = 0 ∧
    (capturing.asSounded []).openCond 0 (features ((capturing.asSounded []).fld .SN_THR1_ZHYS 0) (silent.map fun v => (v : Int) - 2048)) = true := by decide +kernel
def mapped (v : Byte) : Dev := capturing.setTbl (mapAt 0 + 5) [v]
theorem witness_SoundingAndAging_map : (mapped 0).hmState 0 5 = 0 ∧ (mapped 0).hmConf 0 5 < (mapped 0).fld .HM_CFG_FAILSTEP 0 ∧ (mapped 0).hmAge 0 5 ≠ 7 ∧
    (mapped 0xE0).hmAge 0 5 = 7 ∧ (mapped 0).portBay 0 = some (0 : Fin 4).val ∧ (mapped 0).running = true := by decide +kernel
/-- Head 0 learns, and the first capture of nozzle 5 has ended. -/
def learning : Dev := (live.setFld .SN_LEARN_LN 0 0 3).setSn 0 { live.sn 0 with capt := some ⟨9, 5, 4999000000, true, []⟩, learn := some ⟨5, [], false, 0, 0⟩ }
theorem witness_SoundingAndAging_learn : (learning.sn 0).capt = some ⟨9, 5, 4999000000, true, []⟩ ∧ (learning.sn 0).learn = some ⟨5, [], false, 0, 0⟩ ∧
    0 + 1 < 2 ^ learning.fld .SN_LEARN_LN 0 := by decide +kernel
/-! ## Witnesses and steps: cameras -/

/-- Camera port 0, enabled in bay 0, which prints: frames of 3 rows of 64 pixels. -/
def filming : Dev :=
  let d := ((live.setOn .CM_CFG_EN 0 0 true).setFld .CM_GEOM_WIDTH 0 0 64).setFld .CM_GEOM_ROWS 0 0 3
  d.setBay 0 { d.bay 0 with mode := .print }
/-- A frame of port 0 with number 9, some rows and what has been done of them. -/
def frame0 (rows : Nat) (closed : Bool) (done_ flags : Nat) (fenced : Bool := false) : CamFrame :=
  { fn := 9, sensorFn := 9, flags := flags, tag := 5, tbFs := 999000, at_ := 999000, regs := filming.regs, set := {}, modeFs := true, fenced := fenced,
    closed := closed, rows := List.replicate rows (List.replicate 64 100), recv := rows, done := done_ }
def framed (f : CamFrame) (g : Cam → Cam := id) : Dev := filming.setCam 0 (g { filming.cam 0 with frames := [f], next := 10 })
theorem witness_FramesReceived : filming.camLive 0 = true ∧ (3 : Fin 4).val ≠ filming.fld .CM_CFG_VC 0 ∧ (0 : Fin 4).val = filming.fld .CM_CFG_VC 0 ∧
    (filming.cam 0).openFrame = none ∧ filming.fld .CM_TRIG_MODE 0 = 0 ∧ (filming.cam 0).want = false ∧ filming.ptActive = 0 ∧
    filming.camBay 0 = some (0 : Fin 4).val ∧ (filming.cam 0).frames = [] ∧ ((framed (frame0 1 false 0 0)).cam 0).openFrame = some (frame0 1 false 0 0) ∧
    (∀ g ∈ ((framed (frame0 1 false 0 0)).cam 0).frames, g.closed = false → g.fn = (frame0 1 false 0 0).fn) ∧
    (filming.setFld .CM_TRIG_MODE 0 0 1).fld .CM_TRIG_MODE 0 ≠ 0 := by decide +kernel
theorem witness_FramesReceived_row : (framed (frame0 1 false 0 0)).camLive 0 = true ∧ ((framed (frame0 1 false 0 0)).cam 0).frames = [frame0 1 false 0 0] ∧
    (frame0 1 false 0 0).recv < ((framed (frame0 1 false 0 0)).asOf (frame0 1 false 0 0)).fld .CM_GEOM_ROWS 0 ∧
    (framed (frame0 1 false 0 0)).fifoUsed 0 + ((framed (frame0 1 false 0 0)).asOf (frame0 1 false 0 0)).rowBytes 0 ≤ 262144 := by decide +kernel
/-- Frames of many rows, and one whose rows fill the FIFO. -/
def fullFifo : Dev :=
  let d := filming.setFld .CM_GEOM_ROWS 0 0 8000
  d.setCam 0 { d.cam 0 with frames := [{ frame0 4000 false 0 0 with regs := d.regs }], next := 10 }
theorem witness_FramesReceived_full : (match (fullFifo.cam 0).frames with
    | [f] => !f.closed && !f.overrun && decide (f.recv < (fullFifo.asOf f).fld .CM_GEOM_ROWS 0) && decide (262144 < fullFifo.fifoUsed 0 + (fullFifo.asOf f).rowBytes 0)
    | _ => false) = true := by decide +kernel
def lateFrame : CamFrame := { frame0 1 false 0 0 with at_ := 0 }
def slow : Dev := { framed lateFrame with now := 2000000000 }
theorem witness_FramesReceived_end : ((framed (frame0 1 false 0 0)).cam 0).unsure 9 = false ∧ (framed (frame0 1 false 0 0)).ptActive = 0 ∧
    (∀ k : Fin 2, (framed (frame0 1 false 0 0)).fld .IN_NCRES_STATE 0 k ≠ 1) ∧ (frame0 3 false 0 0).recv = filming.fld .CM_GEOM_ROWS 0 ∧
    filming.fld .CM_GEOM_ROWS 0 < (frame0 4 false 0 0).recv ∧ slow.frameLate 0 = true ∧ slow.running = true := by decide +kernel
/-- R233, R235: a row with a bad CRC is flagged BADROW (8) and repeats the row before; a frame of too few rows closes SHORT and PARTIAL. -/
theorem test_row_and_end : ((after (.rowPacket 0 0 0x2B false 80 false []) (framed (frame0 1 false 0 0))).cam 0).frames.map (fun f => (f.flags, f.rows.length)) = [(8, 2)] ∧
    ((after (.frameEnd 0 0) (framed (frame0 2 false 0 0))).cam 0).frames.map (fun f => (f.flags, f.closed)) = [(65, true)] := by decide +kernel

def clocked : Dev := filming.setFld .CM_TRIG_MODE 0 0 3
def txn0 (host rd : Bool) : I2cTxn := ⟨host, rd, 0x3012, 1, 0x55⟩
def talking (f : Cam → Cam) : Dev := filming.setCam 0 (f (filming.cam 0))
def fsLate0 : Dev := { talking fun c => { c with watch := some 1 } with now := 2000000000 }
theorem witness_CameraTimers : filming.running = true ∧ filming.on .CM_STAT_CLK 0 ≠ true ∧ clocked.camTimerDue 0 = true ∧ (clocked.cam 0).pulseEnd = none ∧
    clocked.camBay 0 = some (0 : Fin 4).val ∧ (talking fun c => { c with pulseEnd := some 999999 }).camPulseDue 0 = true ∧
    ((talking fun c => { c with txn := some (txn0 true true) }).cam 0).txn = some (txn0 true true) ∧ (filming.cam 0).seqRun = false ∧
    (filming.cam 0).hostWaits = false ∧ ((talking fun c => { c with txn := some (txn0 false false), seqRun := true, seq := [txn0 false false] }).cam 0).seq = txn0 false false :: [] ∧
    fsLate0.fsLate 0 = true ∧ ((talking fun c => { c with stallTill := some 999999 }).cam 0).stallTill = some 999999 ∧ 999999 ≤ filming.now ∧
    ((talking fun c => { c with trigNext := some 999990, pulseEnd := some 999999 }).cam 0).pulseEnd = some 999999 ∧ filming.islandOn (4 + 0) = true := by decide +kernel
/-- R240: the byte read comes into DATA. -/
theorem test_i2c_read : (after (.i2cTransactionDone 0 (some 0) 0xA5) (talking fun c => { c with txn := some (txn0 true true) })).fld .CM_I2CCMD_DATA 0 = 0xA5 := by decide +kernel

def tiling (till : Nat) : Dev := { framed (frame0 3 true 0 0) with tile := some ⟨0, 3, till⟩ }
def allLocked : Dev := (framed (frame0 3 true 3 0)).setFld .IP_STLOCK_LOCK 0 0 3
def pic0 (flags : Nat) (fenced : Bool) : NcPic := ⟨flags, fenced, 5, 64, List.replicate 3 (List.replicate 64 100)⟩
def checked (p : NcPic) : Dev := filming.setCam 0 { filming.cam 0 with pics := [(1, some p)] }
theorem witness_InspectionWork : (framed (frame0 3 true 0 0)).running = true ∧ (framed (frame0 3 true 0 0)).islandOn 8 = true ∧ (framed (frame0 3 true 0 0)).tile = none ∧
    (framed (frame0 3 true 0 0)).tileNext = some 0 ∧ live.tileNext = none ∧ (tiling 999999).tile = some ⟨0, 3, 999999⟩ ∧ 999999 ≤ (tiling 999999).now ∧
    (tiling 999999).fld .PT_ECC_COUNT = 0 ∧ (frame0 3 true 0 0).done < (frame0 3 true 0 0).rows.length := by decide +kernel
theorem witness_InspectionWork_stats : ((framed (frame0 3 true 3 0)).cam 0).frames = frame0 3 true 3 0 :: [] ∧ (frame0 3 true 3 0).rows.length ≤ (frame0 3 true 3 0).done ∧
    (frame0 3 true 3 0 true).fenced = true ∧ (framed (frame0 3 true 3 0)).statsBuffer 0 = some 1 ∧ allLocked.statsBuffer 0 = none ∧
    Store.get (fun _ => none) ((checked (pic0 0 false)).cam 0).pics 1 = some (pic0 0 false) ∧ Store.get (fun _ => none) ((checked (pic0 1 true)).cam 0).pics 1 = some (pic0 1 true) ∧
    Store.get (fun _ => none) ((checked (pic0 0 false)).cam 0).pics 0 = none := by decide +kernel
/-- R259: the picture of a fenced port gives reason 3, a flagged one reason 1. -/
theorem test_nc_reasons : (after (.inNcDone 0 1) (checked (pic0 1 true))).fld .IN_NCRES_REASON 0 1 = 3 ∧
    (after (.inNcDone 0 1) (checked (pic0 1 false))).fld .IN_NCRES_REASON 0 1 = 1 := by decide +kernel
/-! ## Witnesses and steps: temperatures, faults -/

/-- Channel 68, a diode of the die, is due. -/
def converting : Dev := (live.setOn .TM_CH_XCHK 68 0 false).setTc 68 { live.tc 68 with due := some 999999 }
/-- V1, V2 and V3 of a diode near 25 °C, in µV. -/
def warm : Reading := .diode 600000 635900 671800
theorem witness_ThermalConverted : converting.convDue 68 warm = true ∧ converting.on .TM_CH_XCHK 68 = false ∧ converting.on .TM_STAT_SUSPECT 68 = false ∧
    -720 ≤ (converting.readCh 68 warm).1 ∧ (converting.readCh 68 warm).1 ≤ 2160 ∧ (converting.readCh 68 warm).2 = (false, false) ∧
    (converting.readCh 68 (.diode 0 0 960000)).2.1 = true ∧ converting.convDue 68 (.diode 0 0 960000) = true := by decide +kernel

/-- A signal of a source for a unit. -/
def sig (i u : Nat) : FaultSig := ⟨i, u, none, 999990, 0, false, none⟩
def classed (i cls react : Nat) : Dev := (live.setFld .FC_SRC_CLASS i 0 cls).setFld .FC_SRC_REACT i 0 react
def valid : Dev := live.setOn .FC_FIRST_VALID 0 0 true
theorem witness_FaultsLatched : live.running = true ∧ knownSource (sig 25 0).source = true ∧ knownSource 63 = false ∧ (sig 25 0).lost = none ∧ (sig 25 0).forced = false ∧ (live.sigBay (sig 25 0)).getD 4 = 0 ∧
    live.on .FC_SRC_EN 25 = true ∧ live.on .FC_FIRST_VALID = false ∧ valid.on .FC_FIRST_VALID = true ∧ (live.setOn .FC_SRC_EN 25 0 false).on .FC_SRC_EN 25 = false ∧
    (classed 25 0 0).fld .FC_SRC_CLASS 25 = 0 ∧ (classed 25 3 0).fld .FC_SRC_CLASS 25 ≠ 0 ∧ (classed 25 3 0).fld .FC_SRC_REACT 25 = 0 ∧
    (classed 25 3 0).fld .FC_REC_STATE 0 = 0 ∧ (classed 25 2 1).fld .FC_SRC_REACT 25 = 1 ∧ unitOf 25 0 = some (.port (0 : Fin 32).val) := by decide +kernel
/-- The record of bay 0 is ACTIVE, of class 2, and the quiet timer has run since an instant. -/
def active (us : List FUnit) (tests : List (FUnit × Bool × Nat)) (now : Nat) : Dev :=
  let d := (live.setFld .FC_REC_STATE 0 0 1).setFld .FC_REC_CLASS 0 0 2
  let d := us.foldl (fun d u => match u with | .port xx => d.setFbit .FC_FENCE0_HP 0 0 xx true | _ => d) d
  { d with now := now, fc := { d.fc with quietAt := [(0, some 1000000)], units := [(0, us)], tests := [(0, tests)] } }
theorem witness_FaultsLatched_join : ((active [] [] 1000000).setFld .FC_SRC_CLASS 25 0 1 |>.setFld .FC_SRC_REACT 25 0 0).fld .FC_REC_STATE 0 = 1 ∧
    ((active [] [] 1000000).setFld .FC_SRC_CLASS 25 0 1).fld .FC_SRC_CLASS 25 ≤ (active [] [] 1000000).fld .FC_REC_CLASS 0 ∧
    (active [] [] 1000000).fld .FC_REC_CLASS 0 ≠ 3 ∧ sig 25 0 ∉ [sig 27 0] ∧ live.tbStart.isSome = true ∧
    live.running = true ∧ (inPhase .loadBody).running = false ∧ (inPhase .loadBody).hears = true ∧ (classed 25 0 0).spall 25 = false := by decide +kernel
/-- A trigger message of bay 0 that fails its parity. -/
def parity : FaultSig := ⟨0, 0xFF, none, 999990, 0, false, some (.trigger 0)⟩
def losing : Dev := ((live.setOn .FC_SRC_EN 0 0 false).setPc 0 { live.pc 0 with trigs := [⟨999990, none⟩] })
theorem witness_FaultsLatched_lost : losing.running = true ∧ parity.lost = some (.trigger 0) ∧ (losing.pc 0).trigs = ⟨999990, none⟩ :: [] ∧ losing.on .FC_SRC_EN 0 = false := by decide +kernel
/-- R293, R298: a FAIL opens the record of its bay LATCHED with its source alone. -/
theorem test_fault_opens : (after (.faultLatch [sig 25 0]) (classed 25 3 0)).fld .FC_REC_STATE 0 = 2 ∧
    (after (.faultLatch [sig 25 0]) (classed 25 3 0)).fld .FC_RSRCLO_SRC 0 = 2 ^ 25 ∧ (after (.faultLatch [sig 25 0]) (classed 25 3 0)).fld .FC_RCNT_MERGED 0 = 1 := by decide +kernel

def later : Nat := 1000000 + 400000000000
theorem witness_FaultTimers : (active [] [] later).running = true ∧ (active [] [] later).quietDue 0 = true ∧
    (active [.port 0] [(.port 0, false, later)] later).quietDue 0 = true ∧
    ((active [.port 0] [(.port 0, false, later)] later).recUnits 0).any (fun u => unitTested u && (active [.port 0] [(.port 0, false, later)] later).testOf 0 u == some false) = true ∧
    (active [] [] later).camsGood 0 = true ∧ (active [.cam 0] [] later).camsGood 0 = false ∧ (active [.cam 0] [] later).quietDue 0 = true ∧
    ((active [] [] later).setFld .FC_CFG_LOCKN 0 0 0).fld .FC_CFG_LOCKN = 0 ∧
    (((active [] [] later).setFld .FC_CFG_LOCKN 0 0 3).setFld .FC_RCNT_WCOUNT 0 0 3).fld .FC_RCNT_WCOUNT 0 =
      (((active [] [] later).setFld .FC_CFG_LOCKN 0 0 3).setFld .FC_RCNT_WCOUNT 0 0 3).fld .FC_CFG_LOCKN ∧
    (active [.port 0] [] later).testDue 0 (.port 0) = true := by decide +kernel
def windowed : Dev :=
  { live.setFld .FC_RCNT_WCOUNT 0 0 2 with now := 200000000 * 100000, fc := { live.fc with windowAt := [(0, some 1)] } }
def retrying : Dev :=
  let d := live.setFld .FC_REC_REACT 0 0 2
  { d.setBay 0 { d.bay 0 with mode := .print } with fc := { d.fc with retryAt := [(0, some 999999)] } }
def pulsingErr : Dev := { live.setOn .FC_NERR_PULSE 0 0 true with fc := { live.fc with pulseEnd := some 999999 } }
theorem witness_FaultTimers_ends : windowed.windowDue 0 = true ∧ windowed.running = true ∧ retrying.bayModes = true ∧ retrying.retryDue 0 = true ∧
    retrying.present 0 = true ∧ retrying.fcPending 0 = false ∧ retrying.heldDegraded 0 = true ∧ (retrying.bay 0).mode = .print ∧ pulsingErr.nerrDue = true := by decide +kernel
/-- Bay 0 is DEGRADED, and no record holds it any more. -/
def regained : Dev := { live.setBay 0 { live.bay 0 with mode := .degraded } with fc := { live.fc with retryAt := [(0, some 999999)] } }
theorem witness_FaultTimers_back : regained.bayModes = true ∧ regained.retryDue 0 = true ∧ regained.heldDegraded 0 = false ∧ (regained.bay 0).mode = .degraded ∧
    regained.present 0 = true ∧ regained.fcPending 0 = false ∧ regained.fld .TM_BSTAT_STATE 0 ≠ 2 := by decide +kernel
/-- R300: a quiet period with every test passed recovers the record and releases its fences. -/
theorem test_recovers : (after (.quietExpiry 0) (active [.port 0] [(.port 0, true, later)] later)).fld .FC_REC_STATE 0 = 0 ∧
    (after (.quietExpiry 0) (active [.port 0] [(.port 0, true, later)] later)).fbit .FC_FENCE0_HP 0 0 0 = false ∧
    (after (.quietExpiry 0) (active [.port 0] [(.port 0, true, later)] later)).fld .FC_RCNT_RECOV 0 = 1 := by decide +kernel
/-! ## Witnesses and steps: start-up and LOAD -/

/-- OTP with one word replaced. -/
def nvWith (w : Nat) (x : OtpCell) : Nv := { otp := [(w, x)] }
/-- A word that the two references read with two bits of difference from any code word's neighbourhood: uncorrectable. -/
def ueCell : OtpCell := ⟨(otpEncode 0x12345678).xor 3, (otpEncode 0x12345678).xor 3⟩
theorem witness_PixelExpansion : ([5, 6, 7] : List Nat)[1]? = some 6 ∧ (-1 : Int) < 0 ∧ (([5, 6, 7] : List Nat).length : Int) ≤ 3 ∧
    ([5, 6, 7] : List Nat).head? = some 5 ∧ ([5, 6, 7] : List Nat).getLast? = some 7 := by decide
/-- R114: the values that the replication gives. -/
theorem test_expand : expand12 0 0x80 = 0x808 ∧ expand12 1 0x200 = 0x802 ∧ pxAt true [5, 6, 7] (-2) = 5 ∧ pxAt false [5, 6, 7] 3 = 0 := by decide

def porHeld : Dev := { boot := { por := true } }
theorem witness_StartUpSteps : porHeld.boot.por = true ∧ porHeld.boot.phase = .inReset ∧ (({} : Dev)).boot.nReset = false ∧ (inPhase .counting).boot.phase = .counting ∧
    (inPhase .otpCheck).boot.phase = .otpCheck ∧ (otpDecide ((nvWith 0x12 ueCell).cell 0x12)).ue = true ∧ 0x2FF < 0x300 ∧
    (otpDecide ((nvWith 0x2FF ueCell).cell 0x2FF)).ue = true := by decide +kernel
theorem witness_StartUpSteps_first : (∀ w' < 0x12, (otpDecide ((nvWith 0x12 ueCell).cell w')).ue = false) ∧
    (∀ w' < 0x2FF, (otpDecide ((nvWith 0x2FF ueCell).cell w')).ue = false) := by
  constructor <;> intro w' h <;> simp only [nvWith, Nv.cell, Store.get] <;> rw [if_neg (by omega)] <;> exact dflt_sound w'
theorem witness_StartUpSteps_sound : (∀ w < 0x300, (otpDecide (nv0.cell w)).ue = false) ∧ (otpDecide (nv0.cell 0xFF)).blank = false ∧
    (otpDecide (nv0.cell 0xFF)).data = 0x5EA10001 := ⟨fun w _ => dflt_sound w, by decide +kernel⟩
set_option maxRecDepth 100000 in
theorem witness_StartUpSteps_crc : (otpDecide (nv0.cell 0xFE)).data = crc32 ((List.range 0xFE).flatMap fun w => le 4 (otpDecide (nv0.cell w)).data.toNat) := by decide +kernel
/-- The Cornerstone without its mark. -/
def unmarked : Nv := nvWith 0xFF ⟨0, 0⟩
theorem witness_StartUpSteps_blank : (∀ w < 0x300, (otpDecide (unmarked.cell w)).ue = false) ∧ (otpDecide (unmarked.cell 0xFF)).blank = true := by
  refine ⟨fun w _ => ?_, by decide +kernel⟩
  simp only [unmarked, nvWith, Nv.cell, Store.get]
  split
  · decide +kernel
  · exact dflt_sound w
theorem witness_StartUpSteps_late : (inPhase .pllWait).boot.phase = .pllWait ∧ (inPhase .sramClear).boot.phase = .sramClear ∧ (inPhase .isSealed).boot.phase = .isSealed ∧
    (inPhase .isSealed).boot.lineAt ≤ (inPhase .isSealed).now ∧ (({ boot := { phase := .isSealed, lineAt := 5 } } : Dev)).now < 5 := by decide

/-- In LOAD with the headers awaited, the key digest of the factory root. -/
def heading (sel : Nat) : Dev := let d := trusting (inPhase .loadHeaders); { d with boot := { d.boot with sel := sel } }
def heads (a b : List Byte) : FlashHeads := ⟨some 128, a, b, {}⟩
def noHeader : List Byte := List.replicate 256 0xFF
theorem witness_LoadSteps : (heading 3).boot.phase = .loadHeaders ∧ (heading 3).boot.sel = 3 ∧ (heading 0).boot.sel < 3 ∧
    headerValid ((heads noHeader noHeader).a.take 256) = false ∧ (flashDensity (heads noHeader noHeader)).isSome = true ∧ flashDensity ⟨some 4, noHeader, noHeader, {}⟩ = none ∧ (heading 0).boot.tried = [] ∧
    (inPhase .loadTrain).boot.phase = .loadTrain ∧ (inPhase .loadApply).boot.phase = .loadApply ∧ ((inPhase .loadApply).seat 2).up = false ∧ Fld.of .HS_CTL_EN (Store.get regDflt [(RegName.off .HS_CTL 2 0, (0 : Word))] (RegName.off .HS_CTL 2 0)) = 0 := by decide +kernel
set_option maxRecDepth 100000 in
theorem witness_LoadSteps_headers : headerValid header1 = true ∧ headerValid header2 = true ∧ header1.take 256 = header1 ∧ header2.take 256 = header2 := by decide +kernel
theorem witness_LoadSteps_a : (heading 0).headerChecks nv0 header1 = 0 := by
  rw [Dev.headerChecks, rollback0]; decide +kernel
theorem witness_LoadSteps_b : (heading 0).headerChecks nv0 header2 = 0 := by
  rw [Dev.headerChecks, rollback0]; decide +kernel
/-- The body of copy A is awaited. -/
def bodying : Dev := { boot := { phase := .loadBody, reading := 0, density := some 128, copyA := copyInfo header1, copyB := { state := 1 } } }
theorem witness_LoadSteps_body : bodying.boot.phase = .loadBody ∧ bodying.boot.reading = (0 : Fin 2).val ∧ (bodying.boot.copy 1).state ≠ 0 ∧
    (match bodying.bodyChecks (bodying.boot.copy 0).header endBody with | .inl _ => true | .inr _ => false) = true ∧
    (match bodying.bodyChecks (bodying.boot.copy 0).header [] with | .inl _ => false | .inr (r, _) => r == 7) = true := by decide +kernel
/-- The body of copy A is awaited, and copy B has a valid header of the factory's key. -/
def bodying2 : Dev := let d := trusting bodying; { d with boot := { d.boot with copyB := copyInfo header2, tried := [0] } }
set_option maxRecDepth 100000 in
theorem witness_LoadSteps_other : bodying2.boot.phase = .loadBody ∧ (bodying2.boot.copy 1).state = 0 ∧ 1 ∉ bodying2.boot.tried ∧
    (match bodying2.bodyChecks (bodying2.boot.copy 0).header [] with | .inl _ => false | .inr (r, _) => r == 7) = true := by decide +kernel
theorem witness_LoadSteps_other_header : bodying2.headerChecks nv0 (bodying2.boot.copy 1).header = 0 := by
  rw [Dev.headerChecks, rollback0]; decide +kernel
theorem witness_LoadSteps_density : (({ regs := [(RegName.off .RI_FSCFG 0 0, 0xFFFFFFFF)] } : Dev)).fld .RI_FSCFG_DENSITY = 7 := by decide +kernel
def abandoning : Dev := { live with boot := { live.boot with phase := .reloadWait, reloadAt := 1 }, now := 30000000 }
theorem witness_LoadSteps_abandon : abandoning.abandonDue = true := by decide +kernel

theorem witness_SealedStays : (inPhase .isSealed).boot.phase = .isSealed ∧ (match exec (.nop (hdr 0 0)) ⟨inPhase .isSealed, nv0, []⟩ with | .next _ => true | _ => false) = true ∧
    (frameOf (.nop (hdr 0 0))).isSome = true := by decide +kernel
theorem witness_StoresKept : (match step ⟨live, nv0, [.linkDown 0]⟩ with | .next _ => true | _ => false) = true := by decide +kernel
/-! ## Witnesses and steps: OTP, heads, wear -/

/-- A request of the console for one word is at the front. -/
def programming (w : Nat) (x : Word) : Dev := { live with ot := { live.ot with queue := [⟨0, [(w, x)], none⟩] } }
def hot : Dev := (programming 0x100 7).setFld .TM_VAL_USED 70 0 1361
theorem witness_OtpProgramming : (programming 0x100 7).running = true ∧ (programming 0x100 7).ot.queue = ⟨0, [(0x100, 7)], none⟩ :: [] ∧
    (programming 0x100 7).noneWithheld ∧ (programming 0x100 7).boot.reloadWaits = none ∧ 0 ≤ (programming 0x100 7).dieTemp ∧ (programming 0x100 7).dieTemp ≤ 85 * 16 ∧
    (nv0.cell 0x100).strict ||| ((BitVec.allOnes 39) &&& otpEncode 7) = otpEncode 7 ∧ (nv0.cell 0x100).strict ≠ otpEncode 7 ∧ 85 * 16 < hot.dieTemp := by decide +kernel
/-- A lockout record is at the front. -/
def locking : Dev := { live with ot := { live.ot with queue := [⟨2, [], none⟩] } }
theorem lockouts0 : nv0.lockouts = 0 := by
  have h (w : Nat) (h : 0x500 ≤ w) : nv0.programmed w = false := unprogrammed w (by omega)
  simp [Nv.lockouts, Nv.counter, h]
theorem witness_OtpProgramming_lockout : locking.ot.queue = ⟨2, [], none⟩ :: [] ∧ nv0.lockouts < 512 ∧
    (nv0.cell (0x500 + nv0.lockouts)).strict ||| ((BitVec.allOnes 39) &&& otpEncode 0xFFFFFFFF) = otpEncode 0xFFFFFFFF := by
  rw [lockouts0]; decide +kernel
/-- R359: 1,749 mV is refused, with RESULT 2. -/
theorem test_otp_supply : (after (.otpWordProgrammed 1749 []) (programming 0x100 7)).fld .OT_PRES_RESULT = 2 := by decide +kernel

/-- Head 0 with an identity memory, in a trust state. -/
def heading0 (st : Nat) (present : Bool) : Dev :=
  let d := (live.setFbit .TR_EN_EN 0 0 0 true).setFld .TR_STAT_STATE 0 0 st
  { d with tr := [(0, { present := present, pollAt := 1000 })] }
def keyed (d : Dev) : Dev := { d with ot := { d.ot with km := some (List.replicate 32 0x11) } }
def mac0 : List Byte := headMac (List.replicate 32 0x11) 77 3 1000
/-- The cells of bytes, most significant bit first: 0 early, 1 late (R363, R364). -/
def cellsOf (bs : List Byte) : List (Bool × Bool) := bs.flatMap fun b => (List.range 8).map fun i => (!b.getLsbD (7 - i), b.getLsbD (7 - i))
/-- A head that answers a read command with data and its CRC. -/
def answer (cmd : Byte) (data : List Byte) : IdTry := ⟨true, true, cellsOf (data ++ crcBytes (cmd :: data))⟩
def id77 : List Byte := [0x4D, 0x00, 0x00, 0x00, 0x00, 0x00, 0x00, 0x00, 0x03, 0x00, 0x01, 0x00]
def reply0 (count : Nat) (mac : List Byte) : HeadReply := ⟨[answer 0x91 id77], [answer 0x93 (le 8 count ++ mac)], []⟩
/-- R364: the CRC-16 of READ_ID of SERIAL 77 and TYPE 3, calculated outside the model; a cell with two pulses is an error. -/
theorem test_id_crc : idData ⟨true, true, cellsOf (id77 ++ [0xAE, 0xDF])⟩ 0x91 12 = some id77 ∧ idData ⟨true, true, cellsOf (id77 ++ [0xAE, 0xDE])⟩ 0x91 12 = none ∧
    cellBit (true, true) = none ∧ cellBit (false, true) = some true := by decide +kernel
def wbReady : Dev := { (keyed (heading0 2 true)).setFld .WR_HCNTLO_COUNT 0 0 5 with now := 2 * 3600 * 200000000 * 24 }
theorem witness_HeadTrust : (heading0 2 true).pollDue 0 = true ∧ (heading0 0 false).pollDue 0 = true ∧ (heading0 1 true).running = true ∧ (heading0 1 true).trOn 0 = true ∧
    (heading0 1 true).trState 0 = 1 ∧ (heading0 1 true).ot.km = none ∧ (keyed (heading0 1 true)).ot.km = some (List.replicate 32 0x11) ∧
    (keyed (heading0 1 true)).trState 0 = 1 ∧ wbReady.boot.phase = .running ∧ wbReady.wbWaits 0 = true ∧ wbReady.ot.km = some (List.replicate 32 0x11) := by decide +kernel
theorem witness_HeadTrust_read : ((reply0 1000 mac0).id.take 2).findSome? (fun x => idData x 0x91 12) = some id77 ∧
    ((reply0 1000 mac0).use.take 2).findSome? (fun x => idData x 0x93 24) = some (le 8 1000 ++ mac0) ∧ ofLe (id77.take 8) ≠ (heading0 1 true).serialOf 0 ∧
    ofLe (id77.take 8) = ((heading0 1 true).setSerial 0 77).serialOf 0 ∧ ((⟨[], [], []⟩ : HeadReply).id.take 2).findSome? (fun x => idData x 0x91 12) = none ∧
    ((reply0 (2 ^ 64 - 1) (List.replicate 16 0xFF)).use.take 2).findSome? (fun x => idData x 0x93 24) = some (List.replicate 24 0xFF) := by decide +kernel
/-- The record that a write-back of head 0 sends. -/
def record0 : List Byte := le 8 5 ++ headMac (List.replicate 32 0x11) 0 0 5
theorem witness_HeadTrust_back : wbReady.headCount 0 = 5 ∧ wbReady.pair .TR_SERLO_SERIAL .TR_SERHI_SERIAL 0 = 0 ∧ wbReady.fld .TR_TYPE_TYPE 0 = 0 ∧
    (([⟨true, true, []⟩] : List IdTry).take 2).any idAnswered = true ∧ (([answer 0x93 record0] : List IdTry).take 2).findSome? (fun x => idData x 0x93 24) = some record0 := by decide +kernel
/-- R366, R368: the MAC of the record makes the head AUTHENTIC, another one FOREIGN. -/
theorem test_head_mac : (after (.headRead 0 (reply0 1000 mac0)) (keyed (heading0 1 true))).trState 0 = 2 := by decide +kernel

def ckpting : Dev := { live with wear := { live.wear with ckpt := some (0, 999000), cnt := [(5, 9)], changed := [(5, true)] } }
def ckptDue : Dev := { live with wear := { live.wear with nextPeriodic := 999999 } }
def rested : Dev := { live with wear := { live.wear with lastStart := none } }
theorem witness_WearAndTally : live.mayWriteFields (.mmio 0) .WR_HSTAT 3 0 [(.WR_HSTAT_RESET, 1)] ∧ live.on .HP_PWR_PEN 3 = false ∧
    (live.setOn .HP_PWR_PEN 3 0 true).mayWriteFields (.mmio 0) .WR_HSTAT 3 0 [(.WR_HSTAT_RESET, 1)] ∧ Store.get (fun _ => false) ckpting.wear.changed 5 = true ∧ ckptDue.periodicDue = true ∧ ckptDue.wear.ckpt = none ∧
    { ckpting with wear := { ckpting.wear with nextPeriodic := 999999 } }.periodicDue = true ∧ rested.orderlyDue = true ∧ wbReady.headCount 0 ≠ wbReady.writtenBack 0 ∧
    ckpting.wear.ckpt.isSome = true ∧ ckpting.boot.phase = .running ∧ live.trendDue = true := by decide +kernel
/-- R378: a checkpoint copies the counters; a word that does not verify leaves STATE 3. -/
theorem test_checkpoint : (match exec (.checkpointDone []) ⟨ckpting, nv0, []⟩ with | .next t => t.nv.cnt == [(5, 9)] | _ => false) = true ∧
    (after (.checkpointDone [(5, 0)]) ckpting).fld .WR_CKPT_STATE = 3 := by decide +kernel
/-! ## Witnesses and steps: the console -/

def nopFrame : List Byte := (⟨0x0F, 1, 0, 0, 0, 0, 0, []⟩ : Frame).bytes
def badMagic : List Byte := List.replicate 16 0
def dropping : Dev := { live with con := { live.con with dropped := true } }
def typing (line : List Byte) : Dev := { live with con := { live.con with line := line } }
def tooLong : Dev := { live with con := { live.con with overlong := true } }
def watching : Dev := { live with con := { live.con with watch := some (0, 2), watchAt := 0 } }
def stopped2 : Dev := paced fun x => { x with stop := some 1 }
def waiting (d : Dev) : Dev := { d with con := { d.con with wait := some .test } }
theorem witness_ConsoleLines : live.hears = true ∧ (inPhase .otpCheck).hears = true ∧ (inPhase .otpCheck).con.wait = none ∧ live.con.wait = none ∧ live.con.watch = none ∧ live.prompt ∧
    served.accepts nv0 .console (RegName.off .HS_CQTAIL 0 3) 15 ∧ live.boot.service = false ∧ live.present 0 = true ∧ live.present 3 = false ∧
    (stopped2.pc 0).stop.isSome = true ∧ served.inService = true ∧ served.con.watch = none ∧ served.prompt ∧ live.noneWithheld ∧ served.noneWithheld ∧
    live.running = true ∧ live.inService = false ∧ live.con.dropped = false ∧ (inPhase .otpCheck).con.dropped = false ∧ stopped2.con.dropped = false ∧ served.con.dropped = false ∧
    stopped2.running = true ∧ stopped2.con.watch = none ∧ stopped2.inService = false ∧ stopped2.present 0 = true ∧
    dropping.hears = true ∧ dropping.con.dropped = true ∧ (live.readAll nv0 .console [0]).2.2 = .ok := by decide +kernel
theorem witness_ConsoleLines_written : (served.written nv0 .console (RegName.off .HS_CQTAIL 0 3) 15).1.noneWithheld := by decide +kernel
theorem witness_ConsoleLines_frame : nopFrame.length = 16 ∧ (parseHdr nopFrame).magic = 0x4E44 ∧ (parseHdr nopFrame).seat = 0x0F ∧ (parseHdr nopFrame).version = 1 ∧
    (parseHdr nopFrame).queue = 1 ∧ (parseHdr nopFrame).op = 0 ∧ (parseHdr nopFrame).len = 0 ∧ 16 ≤ badMagic.length ∧ (parseHdr badMagic).magic ≠ 0x4E44 ∧ ([] : List Byte).length < 16 := by decide +kernel
theorem witness_ConsoleLines_rest : watching.running = true ∧ watching.con.watch = some (0, 2) ∧ watching.showPs 2 ≠ watching.con.watchText ∧ { watching with con := { watching.con with watchText := watching.showPs 2 } }.showPs 2 = watching.showPs 2 ∧ watching.con.watchAt + ms 10 ≤ { watching with now := 2000000 }.now ∧
    { watching with now := 1 }.now < watching.con.watchAt + ms 10 ∧ (inPhase .otpCheck).running = false ∧ (inPhase .otpCheck).noneWithheld ∧
    (waiting live).con.wait.isSome = true ∧ (waiting live).con.watch = none ∧ (waiting live).con.dropped = false ∧ (waiting live).running = true ∧ (waiting live).noneWithheld ∧ 0x20 ≤ (0x20 : Byte).toNat ∧ (0x7E : Byte).toNat ≤ 0x7E ∧
    (typing (List.replicate 8399 0x41)).con.line.length < 8400 ∧ 8400 ≤ (typing (List.replicate 8400 0x41)).con.line.length ∧ (typing (List.replicate 8400 0x41)).hears = true ∧
    0x7E < (0x7F : Byte).toNat ∧ ((0x1F : Byte).toNat < 0x20 ∧ (0x1F : Byte) ≠ 13 ∧ (0x1F : Byte) ≠ 10) ∧ tooLong.hears = true ∧ tooLong.con.watch = none ∧ tooLong.con.overlong = true := by decide +kernel
/-- R387: an over-long line is answered when it ends, and the row of the parser for it does nothing more. -/
theorem test_overlong : (after (.consoleByteReceived 13 false) tooLong).out = [.line "ERR 0x0081"] ∧ (after (.consoleRd 0 1) (after (.consoleByteReceived 13 false) tooLong)).out = [.line "ERR 0x0081"] := by decide +kernel
/-- R392, R400: a parked pair of a port whose island is awake takes its level, and PLUMB its selection. -/
theorem test_meter : .park 0 2 1 ∈ (after (.consolePark 0 2 1) (served.setWord (RegName.off .GL_ISLAND 0 0) 0xFFFFFFFF)).out ∧
    .plumb 1 0 0 ∈ (after (.consolePlumb 1 0 0) served).out := by decide +kernel
/-- R389: RD of a bay register answers its word; BAUD 10 is taken. -/
theorem test_console : (after (.consoleRd 0 1) live).out = [.line "OK 0x3200_1001"] ∧ (after (.consoleBaud 10) live).fld .SV_STAT_BAUD = 10 ∧
    (after (.consoleBaud 11) live).out = [.line "ERR 0x0003"] := by decide +kernel

def busyBay : Dev := moded .print
theorem witness_ConsoleService : live.prompt ∧ live.boot.phase = .running ∧ live.quietForService.2 = true ∧ (∀ b : Fin 4, (live.pc b).trigs = []) ∧ served.noneWithheld ∧ live.inService = false ∧ live.noneWithheld ∧ busyBay.atRest = false ∧ served.prompt ∧ served.inService = true ∧
    served.conAccepts nv0 .SV_PARK 0 (wput (served.reg .SV_PARK 0) (2 * 6) 2 2) ∧ served.conAccepts nv0 .SV_PARK 0 (putAll (served.reg .SV_PARK 0) [(.SV_PARK_IDLOW, bit true)]) ∧
    served.conAccepts nv0 .SV_MTEMP 0 (putAll (served.reg .SV_MTEMP) [(.SV_MTEMP_CH, 0), (.SV_MTEMP_EN, bit true)]) ∧
    served.conAccepts nv0 .SV_FORCE 3 (wput (served.reg .SV_FORCE 3) (2 * (51 % 16)) 2 3) ∧ served.conAccepts nv0 .SV_PEN 0 (wput (served.reg .SV_PEN) 15 1 (bit true)) ∧
    served.conAccepts nv0 .SV_PLUMB 0 (putAll (served.reg .SV_PLUMB) [(.SV_PLUMB_SEL, 1), (.SV_PLUMB_ARG, 2), (.SV_PLUMB_LEVEL, 16)]) := by decide +kernel
/-- Record 0 is complete but for its lock word. -/
def recorded : Dev := (List.range 0x12).foldl (fun d i => d.setSh (0x100 + i) { data := 5, blank := false }) served
theorem witness_ConsoleService_otp : served.ot.queue = [] ∧ served.nextRec = 0 ∧ recAt served.nextRec ≤ 0x100 ∧ 0x111 ≤ recAt served.nextRec + 0x11 ∧ otpStored 0x100 1 ≠ 0 ∧
    nv0.programmed 0x100 = false ∧ (nvWith 0x100 ⟨7, 7⟩).programmed 0x100 = true ∧ recorded.nextRec = (0 : Fin 16).val ∧ recorded.ot.queue = [] ∧
    (otpItems.all fun i => recorded.complete0 (recAt 0 + i.1) i.2) = true ∧ (otpItems.all fun i => served.complete0 (recAt 0 + i.1) i.2) = false := by decide +kernel
theorem witness_ConsoleService_xfer : nv0.xfer < 16 := by decide +kernel
theorem witness_ConsoleService_test : served.conAccepts nv0 .SV_TEST 0 (putAll 0 [(.SV_TEST_TEST, 1), (.SV_TEST_ARG, 0), (.SV_TEST_GO, 1)]) ∧
    served.boot.reloadWaits = none ∧ servedFlash.staging = true ∧ live.inService = false ∧
    { served with con := { served.con with test := some ⟨1, 0, [], none⟩ } }.con.test.isSome = true := by decide +kernel
/-- R389: SERVICE takes every bay to STANDBY and clears SV_PEN; out of bay modes at rest it is refused. -/
theorem test_service : (after .consoleService live).boot.service = true ∧ (after .consoleService busyBay).out = [.line "ERR 0x000D"] := by decide +kernel

/-- A test of a number runs in SERVICE; ALL has a list to go. -/
def testing (k a : Nat) (todo : List (Nat × Nat)) (r : Option (Bool × Nat)) : Dev := { served with con := { served.con with test := some ⟨k, a, todo, r⟩, wait := some .test } }
theorem witness_SelfTests : (testing 0 0 [] none).con.test = some ⟨0, 0, [], none⟩ ∧ (testing 1 0 [] none).subDue 1 = true ∧ (testing 2 0 [] none).subDue 2 = true ∧
    (testing 4 0 [] none).subDue 4 = true ∧ (testing 5 0 [] none).subDue 5 = true ∧ (testing 6 0 [] none).subDue 6 = true ∧ (testing 7 0 [] none).subDue 7 = true ∧
    (testing 9 0 [] none).subDue 9 = true ∧ (testing 0 0 [(1, 0), (2, 0)] none).subDue 1 = true ∧ (testing 3 0 [] none).subDue 3 = true ∧
    (testing 3 0 [] none).fld .PT_ECC_TARGET ≠ 2 ∧ (testing 8 0 [] none).subDue 8 = true ∧ (testing 1 0 [] (some (true, 0))).running = true ∧
    (testing 1 0 [] (some (true, 0))).con.wait = some .test ∧
    { served with con := { served.con with test := some ⟨1, 0, [], some (true, 0)⟩ } }.con.wait ≠ some .test := by decide +kernel
theorem witness_SelfTests_otp : (∀ w < 0x800, (otpDecide (nv0.cell w)).ue = false ∧ (otpDecide (nv0.cell w)).marginal = false) ∧ (otpDecide (nv0.cell 0xFF)).blank = false ∧
    (otpDecide (nv0.cell 0xFF)).data = 0x5EA10001 := by
  refine ⟨fun w _ => ?_, by decide +kernel⟩
  show (otpDecide (otpDflt w)).ue = false ∧ (otpDecide (otpDflt w)).marginal = false
  unfold otpDflt factoryWord
  split <;> decide +kernel
/-- R391: a test that passes answers the line that waits. -/
theorem test_test_done : (after .svTestDone (testing 1 0 [] (some (false, 0x12)))).fld .SV_TEST_STATE = 3 ∧
    (after .svTestDone (testing 1 0 [] (some (true, 0)))).fld .SV_TEST_STATE = 2 := by decide +kernel
/-! ## What WellFormed refuses, and what it lets pass -/

def badHdr : CmdHdr := { hdr 0 0 with seq := 65536 }
def longHdr : CmdHdr := { hdr 0 0 with replyLen := 2 ^ 32 }
def badFeed : FeedHdr := { fhdr 0 0 with seq := 65536 }
def longFeed : FeedHdr := { fhdr 0 0 with replyLen := 2 ^ 32 }
theorem test_wf_headers : [badHdr, longHdr].all (fun h => !h.wf && !(Instr.nop h).wf && !(Instr.stop h 0).wf && !(Writer.frame h).wf) = true ∧
    [badFeed, longFeed].all (fun h => !(Instr.fflush h 0 8 0).wf) = true ∧ (Instr.nop (hdr 3 3)).wf = true := by decide
theorem test_wf_writers : [Instr.cqDoorbell (.frame badHdr) 0 0 0, .eqHeadWrite (.frame badHdr) 0 0 0, .ringEnableWrite (.frame badHdr) 0 true 0 0, .fqDoorbell (.frame badHdr) 0 0,
    .curveHeadWrite (.frame badHdr) 0 0, .curveClaim (.frame badHdr) 0, .curveArm (.frame badHdr) 0, .tableWrite (.frame badHdr) (lutAt 8) 0, .preload (.frame badHdr) 0,
    .move (.frame badHdr) 0 true, .headPowerRequest (.frame badHdr) 0 true, .waveformBankWrite (.frame badHdr) (waveAt 0 0) 0, .hmDeclare (.frame badHdr) 0 0 0, .hmClear (.frame badHdr) 0 0 0,
    .hmForceGood (.frame badHdr) 0 0 0, .footprintWrite (.frame badHdr) (footAt 0) 0, .learnStart (.frame badHdr) 0, .i2cHostTransaction (.frame badHdr) 0 true 0 0,
    .cameraTableWrite (.frame badHdr) (toneAt 0) 0, .ncJobGo (.frame badHdr) 0 0 0 0 0, .ncJobCancel (.frame badHdr) 0 0, .registrationReset (.frame badHdr) 0, .shutRelease (.frame badHdr) 0,
    .fcRearm (.frame badHdr), .fcRelease (.frame badHdr) 0, .nerrHoldWrite (.frame badHdr) true, .otpProgramWord (.frame badHdr) 0, .otpLockFull (.frame badHdr) 0, .otpSealAsIs (.frame badHdr) 0,
    .otpRawRead (.frame badHdr) 0, .wearReset (.frame badHdr) 0, .ptClear (.frame badHdr), .ptCreditWrite (.frame badHdr) 0 0 true, .ptCamstall (.frame badHdr) 0 0,
    .ptForce (.frame badHdr) 0 0].all (fun i => !i.wf) = true := by decide +kernel
theorem test_wf_frames : [Instr.rd32 (hdr 0 0) [2 ^ 32], .wr32 (hdr 0 0) [(2 ^ 32, 0)], .rdblk (hdr 0 0) (2 ^ 32) 0, .rdblk (hdr 0 0) 0 (2 ^ 32), .wrblk (hdr 0 0) (2 ^ 32) [],
    .commit (hdr 0 0) { targetRec 0 with bay := 256 }, .commit (hdr 0 0) { targetRec 0 with expgen := 2 ^ 32 }, .commit (hdr 0 0) (targetRec (2 ^ 48)), .cancel (hdr 0 0) 256,
    .snap (hdr 0 0) 256 0 0, .snap (hdr 0 0) 0 256 0, .snap (hdr 0 0) 0 0 (2 ^ 48), .snaprd (hdr 0 0) 256 0 0 0, .snaprd (hdr 0 0) 0 256 0 0, .snaprd (hdr 0 0) 0 0 (2 ^ 32) 0,
    .snaprd (hdr 0 0) 0 0 0 (2 ^ 32), .snaprel (hdr 0 0) 256 0, .snaprel (hdr 0 0) 0 256, .stop (hdr 0 0) 256, .imgreload (hdr 0 0) 256, .imgstageErase (hdr 0 0) 256,
    .imgstageWrite (hdr 0 0) 256 0 [], .imgstageWrite (hdr 0 0) 0 (2 ^ 32) [], .imgstageVerify (hdr 0 0) 256, .imgstageQuery badHdr, .imgstageAdvance badHdr].all (fun i => !i.wf) = true := by decide +kernel
theorem test_wf_feeds : [Instr.cdata (fhdr 0 0) (2 ^ 48) 1 0 8 0 0 0 [], .cdata (fhdr 0 0) 0 65536 0 8 0 0 0 [], .cdata (fhdr 0 0) 0 1 65536 8 0 0 0 [], .cdata (fhdr 0 0) 0 1 0 65536 0 0 0 [],
    .cdata (fhdr 0 0) 0 1 0 8 256 0 0 [], .cdata (fhdr 0 0) 0 1 0 8 0 256 0 [], .cdata (fhdr 0 0) 0 1 0 8 0 0 65536 [], .cfill (fhdr 0 0) (2 ^ 48) 1 0 8 0 0 0 16,
    .cfill (fhdr 0 0) 0 65536 0 8 0 0 0 16, .cfill (fhdr 0 0) 0 1 65536 8 0 0 0 16, .cfill (fhdr 0 0) 0 1 0 65536 0 0 0 16, .cfill (fhdr 0 0) 0 1 0 8 256 0 0 16,
    .cfill (fhdr 0 0) 0 1 0 8 0 256 0 16, .cfill (fhdr 0 0) 0 1 0 8 0 0 65536 16, .cfill (fhdr 0 0) 0 1 0 8 0 0 0 (2 ^ 32), .fflush (fhdr 0 0) (2 ^ 48) 8 0, .fflush (fhdr 0 0) 0 (2 ^ 32) 0,
    .fflush (fhdr 0 0) 0 8 65536, .slotComplete 0 (2 ^ 48), .apertureWrite 0 true (2 ^ 36), .bar2Read 0 (2 ^ 36) 4, .bar2Read 0 0 4097, .patrolScrub (2 ^ 36) none].all (fun i => !i.wf) = true := by decide +kernel
theorem test_wf_links : [Instr.registerWrite 0 0 513 true 0, .registerWrite 0 0 4 true (2 ^ 32), .registerRead 0 0 4097 true, .powerEstimateUpdate [], .powerEstimateUpdate (List.replicate 9 65536),
    .ethFrameReceived 0 (2 ^ 48) .other, .ethFrameReceived 0 0 (.udp 0 0 65536 0 true true []), .ethFrameReceived 0 0 (.udp 0 0 0 65536 true true []), .linkUp 0 8 0, .linkUp 0 0 16,
    .pcieConfigRequest 0 (some 0) 1024, .pcieConfigRequest 0 none 1024, .descriptorFetch 0 none ⟨2 ^ 32, []⟩].all (fun i => !i.wf) = true := by decide +kernel
theorem test_wf_tables : [Instr.tableWrite (.mmio 0) 0x1580400 0, .tableWrite (.mmio 0) 0x1400002 0, .waveformBankWrite (.mmio 0) 0x1A00000 0, .footprintWrite (.mmio 0) 0x1B00000 0,
    .cameraTableWrite (.mmio 0) 0x1D01000 0].all (fun i => !i.wf) = true ∧ (Instr.tableWrite (.mmio 0) 0x15803FC 0).wf = true ∧ (Instr.cameraTableWrite (.mmio 0) 0x1D203FC 0).wf = true := by decide +kernel
theorem test_wf_readings : [Instr.ssiWordDecoded 0 (2 ^ 32), .soundingCaptureDone 0 (List.replicate 255 0), .soundingCaptureDone 0 (List.replicate 256 4096), .frameStart 0 0 65536,
    .rowPacket 0 0 64 false 0 true [], .rowPacket 0 0 0 false 65536 true [], .rowPacket 0 0 0 false 0 true [4096], .faultLatch [sig 12 0], .faultLatch [sig 61 0], .faultLatch [{ sig 1 0 with lost := some .signal }], .faultLatch [sig 1 256],
    .faultLatch [{ sig 1 0 with stamp := 2 ^ 64 }], .faultLatch [{ sig 1 0 with course := 2 ^ 48 }], .selfCheckTest 0 (.port 32) true, .selfCheckTest 0 (.engine 32) true, .selfCheckTest 0 (.ps 8) true,
    .selfCheckTest 0 (.cam 4) true, .selfCheckTest 0 (.thermal 74) true, .selfCheckTest 0 (.seat 4) true, .supplyTrip 32 0].all (fun i => !i.wf) = true := by decide +kernel
theorem test_wf_stores : [Instr.imageHeadersRead ⟨none, [], noHeader, {}⟩, .imageHeadersRead ⟨none, noHeader, [], {}⟩, .loadComplete [131364], .checkpointDone [(0, 2 ^ 64)], .checkpointDone [(131364, 0)], .otpWordProgrammed 65536 [],
    .headRead 0 ⟨List.replicate 3 (answer 0x91 []), [], []⟩, .headRead 0 ⟨[⟨true, true, List.replicate 209 (false, true)⟩], [], []⟩, .headRead 0 ⟨[], [], [(131364, 0)]⟩,
    .writeBack 0 (List.replicate 3 (answer 0x91 [])) [], .writeBack 0 [] (List.replicate 3 (answer 0x91 [])), .trendSample ⟨0, 256, 0, 0, []⟩, .trendSample ⟨0, 0, 256, 0, []⟩, .trendSample ⟨0, 0, 0, 256, []⟩, .trendSample ⟨0, 0, 0, 0, [(131364, 0)]⟩].all (fun i => !i.wf) = true := by decide +kernel
theorem test_wf_console : [Instr.consoleRd (2 ^ 32) 1, .consoleRd 0 (2 ^ 32), .consoleWr (2 ^ 32) 0, .consoleOut 65536 0, .consoleShow (.cam 0 []) false, .consoleShow (.sn 0 []) false, .showWatchUpdate [],
    .consolePlumb 65536 0 0, .consoleReload 256, .consoleBaud (2 ^ 32), .testSram (some (2 ^ 32)), .testTally 65537, .testSnadc 4096 0, .testSnadc 0 4096, .testTemp 65536 0, .testTemp 0 65536,
    .testFsmem (some 65536)].all (fun i => !i.wf) = true := by decide +kernel
/-- A command that the block gets from the front of its queue leaves the rest of the queue. -/
theorem test_step_front : (match step ⟨live, nv0, [.consoleBaud 10, .consoleStat]⟩ with | .next t => t.pending == [.consoleStat] && t.dev.fld .SV_STAT_BAUD == 10 | _ => false) = true := by decide +kernel
/-- On an empty queue the clock ticks. -/
theorem test_step_idle : (match step ⟨live, nv0, []⟩ with | .next t => t.dev.now == live.now + 1 && t.pending == [] | _ => false) = true := by decide +kernel
theorem test_wf_lengths : (Instr.otpWordProgrammed 0 (List.replicate 65537 (0, 0))).wf = false ∧ (Instr.descriptorFetch 0 none ⟨0, List.replicate (2 ^ 32) 0⟩).wf = false := by
  simp only [Instr.wf, Descriptor.wf, List.length_replicate]; decide

/-! ## Standards that the specification names: published check values -/

theorem test_crc32 : crc32 [0x31, 0x32, 0x33, 0x34, 0x35, 0x36, 0x37, 0x38, 0x39] = 0xCBF43926 := by decide +kernel
theorem test_sha256 : (sha256 [0x61, 0x62, 0x63]).take 8 = [0xBA, 0x78, 0x16, 0xBF, 0x8F, 0x01, 0xCF, 0xEA] := by decide +kernel

end Sys2Proof.Tests
end

section
/-! PROOFS. Memory reads of BAR0: what the path from REGISTER_READ to a register answers for a register of the device-wide block,
and GL_ID (R2). -/

namespace Sys2Proof.Machine

variable (d : Dev) (v : Nv)

/-- A register with no RC field is left as it is by its read (R7). -/
theorem Dev.clearRc_of_no_rc (r : RegName) (i j : Nat) (h : ∀ x ∈ r.rows, x.acc ≠ .rc) : d.clearRc r i j = d := by
  unfold Dev.clearRc
  generalize r.rows = rows at h
  induction rows with
  | nil => rfl
  | cons x rest ih =>
    have hx : x.acc ≠ .rc := h x List.mem_cons_self
    rw [List.foldl_cons, if_neg hx]
    exact ih fun y hy => h y (List.mem_cons_of_mem x hy)

/-- Every accessor may read the device's registers (R28). -/
theorem Dev.regDenied_read_of_owner_dev (who : Src) (r : RegName) (i : Nat) (h : r.info.owner = .dev) :
    d.regDenied who r i false = none := by
  cases who with
  | console => rfl
  | seat s => simp [Dev.regDenied, h]

/-- A register that is no half of a 64-bit pair and has no RC field: an allowed read answers its value and changes nothing (R5, R7). -/
theorem Dev.readReg_of_plain (who : Src) (r : RegName) (i j : Nat) (hallowed : d.regDenied who r i false = none)
    (hacts : r.actsOn i = true) (hnotHigh : r ∉ highWords) (hnotLow : r.highOf = none) (hrc : ∀ x ∈ r.rows, x.acc ≠ .rc) :
    d.readReg v who r i j = (d, d.peekReg v r i j, .ok) := by
  simp [Dev.readReg, hallowed, hacts, hnotHigh, hnotLow, d.clearRc_of_no_rc r i j hrc]

/-- The device-wide block holds no table. -/
theorem winAt_of_glOffset {o : Nat} (h : glOffset o = true) : winAt o = none := by
  have ho : o < 0x42000 := Nat.lt_trans (of_decide_eq_true h) (by decide)
  simp only [winAt, if_pos ho]

/-- The device-wide block is read in LOAD as on a running device (R320). -/
theorem Dev.busRead_of_glOffset (who : Src) {o i j : Nat} {r : RegName} (haligned : o % 4 = 0) (hgl : glOffset o = true)
    (hreg : decodeOff o = some (r, i, j)) : d.busRead v who o = d.readReg v who r i j := by
  simp [Dev.busRead, haligned, hgl, winAt_of_glOffset hgl, hreg]

/-- A dword read by an enabled function answers the word that the bus reads, where the bus accepts it (R52). -/
theorem Dev.mmioRead_of_busRead_ok (fn : Fin 4) {a : Nat} {d' : Dev} {w : Word} (hopen : d.mmioOpen fn.val = true)
    (hmsix : inMsix a = false) (haligned : a % 4 = 0) (hread : d.busRead v (.seat fn) a = (d', w, .ok)) :
    d.mmioRead v fn a 4 true = d'.emit (.mmioRead fn.val a [w]) := by
  simp [Dev.mmioRead, hopen, hmsix, haligned, hread]

/-- REGISTER_READ acts on the device alone, and can always occur. -/
theorem exec_registerRead (fn : Fin 2) (addr size : Nat) (enables : Bool) (s : State) :
    exec (.registerRead fn addr size enables) s = .next { s with dev := s.dev.mmioRead s.nv (pcieSeat fn) addr size enables } := rfl

/-- Every accessor reads GL_ID on the bus as the part's constant, and the device is as before. -/
theorem Dev.busRead_glId (who : Src) : d.busRead v who 0 = (d, glId, .ok) := by
  have hdecode : decodeOff 0 = some (.GL_ID, 0, 0) := by decide
  have hallowed := d.regDenied_read_of_owner_dev who .GL_ID 0 rfl
  rw [d.busRead_of_glOffset v who rfl rfl hdecode]
  exact d.readReg_of_plain v who .GL_ID 0 0 hallowed rfl (by decide) rfl (by decide)

/-- GL_ID holds the part code, the stepping code and the compatibility level of R2. -/
theorem wget_glId : wget glId 16 16 = 0x3200 ∧ wget glId 8 8 = 0x10 ∧ wget glId 0 8 = 0x01 := by decide

/-- Settles O3: GL_ID lies in the device-wide block, has no RC field and no second half, so its read goes through to the constant
and leaves the device as it is. -/
theorem glIdReads : Obligations.GlIdReads := by
  unfold Obligations.GlIdReads
  intro fn s hopen
  have hread := s.dev.busRead_glId s.nv (.seat (pcieSeat fn))
  have hanswer := s.dev.mmioRead_of_busRead_ok s.nv (pcieSeat fn) hopen rfl rfl hread
  refine ⟨?_, wget_glId⟩
  rw [exec_registerRead, hanswer]
  rfl

end Sys2Proof.Machine
end

section
/-! PROOFS. Repetition: what holds through a loop over the numbers below n, or over a list. -/

namespace Sys2Proof.Machine

theorem forN_succ {α : Type} (n : Nat) (f : Nat → α → α) (a : α) : forN (n + 1) f a = f n (forN n f a) := by
  simp [forN, List.range_succ]

end Sys2Proof.Machine
end

section
/-! PROOFS. Which registers and head ports an operation leaves as they are: rules to chain such facts through an operation's steps. -/

namespace Sys2Proof.Machine

variable {d e f : Dev} {offs : List Nat}

/-- A field reads as before where its register's word does. -/
theorem Dev.fld_of_word {x : Fld} {i j : Nat} (h : e.word (x.reg.off i j) = d.word (x.reg.off i j)) : e.fld x i j = d.fld x i j := by
  unfold Dev.fld; rw [h]

theorem Dev.on_of_word {x : Fld} {i j : Nat} (h : e.word (x.reg.off i j) = d.word (x.reg.off i j)) : e.on x i j = d.on x i j := by
  unfold Dev.on; rw [Dev.fld_of_word h]

theorem Dev.regsBut.trans (h : d.regsBut offs e) (k : e.regsBut offs f) : d.regsBut offs f :=
  fun o ho hr => (k o ho hr).trans (h o ho hr)

theorem Dev.regsBut.mono {offs' : List Nat} (h : d.regsBut offs e) (hsub : ∀ o ∈ offs, o ∈ offs') : d.regsBut offs' e :=
  fun o ho hr => h o (fun hm => ho (hsub o hm)) hr

theorem Dev.regsBut_of_regs (h : e.regs = d.regs) : d.regsBut offs e := fun o _ _ => Dev.word_congr h o

theorem Dev.Reported.regsBut (h : d.Reported e) : d.regsBut offs e := fun o _ hr => h.2 o hr

theorem Dev.regsBut_setFld (d : Dev) (x : Fld) (i j v : Nat) (h : x.reg.off i j ∈ offs) : d.regsBut offs (d.setFld x i j v) :=
  fun _ ho _ => d.word_setFld_other x i j v fun heq => ho (heq ▸ h)

theorem Dev.regsBut_setOn (d : Dev) (x : Fld) (i j : Nat) (b : Bool) (h : x.reg.off i j ∈ offs) : d.regsBut offs (d.setOn x i j b) :=
  d.regsBut_setFld x i j _ h

theorem Dev.regsBut_bump (d : Dev) (x : Fld) (i j n : Nat) (h : x.reg.off i j ∈ offs) : d.regsBut offs (d.bump x i j n) :=
  d.regsBut_setFld x i j _ h

theorem Dev.regsBut_setIsland (d : Dev) (i : Nat) (b : Bool) (h : RegName.off .GL_ISLAND 0 0 ∈ offs) : d.regsBut offs (d.setIsland i b) :=
  fun _ ho _ => d.word_setWord_other _ fun heq => ho (heq ▸ h)

/-- Reporting leaves the units of the device as they are. -/
theorem Dev.Reported.hps (h : d.Reported e) : e.hps = d.hps := by
  have hq := congrArg Dev.hps h.1; exact hq
theorem Dev.Reported.hp (h : d.Reported e) (xx : Nat) : e.hp xx = d.hp xx := by unfold Dev.hp; rw [h.hps]
theorem Dev.Reported.tbl (h : d.Reported e) : e.tbl = d.tbl := by
  have hq := congrArg Dev.tbl h.1; exact hq
theorem Dev.Reported.isl (h : d.Reported e) : e.isl = d.isl := by
  have hq := congrArg Dev.isl h.1; exact hq

/-- A one-bit field outside `reports` reads as before. -/
theorem Dev.Reported.on (h : d.Reported e) (x : Fld) (i j : Nat) (ho : x.reg.off i j ∉ reports) : e.on x i j = d.on x i j := by
  unfold Dev.on; rw [h.fld x i j ho]

/-- A field beside it in the same word reads as before. -/
theorem Dev.on_setOn_beside (d : Dev) (x y : Fld) (i j : Nat) (b : Bool) (hr : y.reg = x.reg) (h : x.lo + x.width ≤ 32)
    (h' : y.lo + y.width ≤ 32) (hd : x.lo + x.width ≤ y.lo ∨ y.lo + y.width ≤ x.lo) : (d.setOn x i j b).on y i j = d.on y i j := by
  unfold Dev.on Dev.setOn; rw [Dev.fld_setFld_beside d x y i j _ hr h h' hd]

/-- The registers that assign ports, channels, cameras and outputs to bays read alike (R24). -/
def Dev.SameAssign (d e : Dev) : Prop := ∀ o < 0xA0, e.word o = d.word o

theorem Dev.SameAssign.ownerOf (h : d.SameAssign e) (x : Fld) (n : Nat) (hx : ∀ b < 4, x.reg.off b 0 < 0xA0) : e.ownerOf x n = d.ownerOf x n := by
  have hbit (b : Nat) (hb : b < 4) : e.fbit x b 0 n = d.fbit x b 0 n := by
    unfold Dev.fbit; rw [Dev.fld_of_word (h _ (hx b hb))]
  simp [Dev.ownerOf, List.range_succ, List.find?, hbit]

theorem Dev.SameAssign.portBay (h : d.SameAssign e) (xx : Nat) : e.portBay xx = d.portBay xx := by
  unfold Dev.portBay; rw [h.ownerOf _ _ (by simp only [RegName.off, RegName.info]; omega)]

theorem Dev.SameAssign.psBay (h : d.SameAssign e) (n : Nat) : e.psBay n = d.psBay n := by
  unfold Dev.psBay; rw [h.ownerOf _ _ (by simp only [RegName.off, RegName.info]; omega)]

theorem Dev.SameAssign.camBay (h : d.SameAssign e) (n : Nat) : e.camBay n = d.camBay n := by
  unfold Dev.camBay; rw [h.ownerOf _ _ (by simp only [RegName.off, RegName.info]; omega)]

theorem Dev.SameAssign.present (h : d.SameAssign e) (b : Nat) : e.present b = d.present b := by
  unfold Dev.present
  by_cases hb : b < 4
  · have hport := Dev.fld_of_word (x := .GL_BAYPORT_HP) (i := b) (j := 0) (h _ (by simp only [RegName.off, RegName.info]; omega))
    have hres := h (RegName.off .GL_BAYRES b 0) (by simp only [RegName.off, RegName.info]; omega)
    rw [hport, Dev.fld_of_word (x := .GL_BAYRES_PS) hres, Dev.fld_of_word (x := .GL_BAYRES_CAM) hres]
  · simp [hb]

end Sys2Proof.Machine
end

section
/-! PROOFS. Every command completes, and a step takes the front of the queue (R17, R51). -/

namespace Sys2Proof.Machine

/-- Whichever the command, its meaning is a change of the device, with what survives every reset or without: it answers the state so
changed, with the waiting commands as they are. -/
theorem exec_completes (i : Instr) (s : State) : ∃ t, exec i s = .next t ∧ t.pending = s.pending := by
  cases i <;> exact ⟨_, rfl, rfl⟩

theorem step_of_pending {c : Instr} {rest : List Instr} {s : State} (h : s.pending = c :: rest) :
    step s = exec c { s with pending := rest } := by
  simp only [step, h]

theorem step_of_idle {s : State} (h : s.pending = []) : step s = .next s.tick := by
  simp only [step, h]

/-- Settles O1. -/
theorem stepRunsFront : Obligations.StepRunsFront := by
  unfold Obligations.StepRunsFront
  exact ⟨exec_completes, fun _ _ _ => step_of_pending, fun _ => step_of_idle⟩

end Sys2Proof.Machine
end

section
/-! PROOFS. What a seat may read and write (R27, R28). -/

namespace Sys2Proof.Machine

variable (d : Dev) (v : Nv) (k : Fin 4)

/-- A register of a bay, or of a unit that a bay holds, is closed to every seat but that bay's (R27). -/
theorem Dev.regDenied_of_other_bay (r : RegName) (i : Nat) (write : Bool)
    (howner : r.info.owner ∉ [Owner.dev, .shared, .ksdev, .ownseat, .seat]) (hbay : d.regBay r i ≠ some k.val) :
    d.regDenied (.seat k) r i write = some .refusedBay := by
  simp only [List.mem_cons, not_or] at howner
  obtain ⟨hdev, hshared, hksdev, hownseat, hseat, -⟩ := howner
  unfold Dev.regDenied
  cases ho : r.info.owner <;> simp_all

/-- A device-wide register is written by the steward only (R28). -/
theorem Dev.regDenied_write_of_not_steward (r : RegName) (i : Nat) (howner : r.info.owner = .dev) (hsteward : d.steward ≠ k.val) :
    d.regDenied (.seat k) r i true = some .refusedSteward := by
  simp [Dev.regDenied, howner, hsteward.symm]

/-- A table of a bay is closed to every seat but that bay's (R27). -/
theorem Dev.winDenied_of_other_bay (win : Win) (write : Bool) (hshared : win.shared = false) (hbay : d.winBay win ≠ some k.val) :
    d.winDenied (.seat k) win write = some .refusedBay := by
  cases win <;> simp_all [Dev.winDenied, Win.shared]

/-- A read that the register's owner does not allow answers 0, and changes nothing. -/
theorem Dev.busRead_of_regDenied (who : Src) {o i j : Nat} {r : RegName} {st : Status} (hrun : d.running = true) (haligned : o % 4 = 0)
    (hwin : winAt o = none) (hreg : decodeOff o = some (r, i, j)) (hdenied : d.regDenied who r i false = some st) :
    d.busRead v who o = (d, 0, st) := by
  simp [Dev.busRead, haligned, hrun, hwin, hreg, Dev.readReg, hdenied]

/-- So does a write, outside SERVICE. -/
theorem busWrite_of_regDenied (who : Src) {o i j : Nat} {r : RegName} {st : Status} (w : Word) (hrun : d.running = true)
    (hserv : d.inService = false) (haligned : o % 4 = 0) (hwin : winAt o = none) (hreg : decodeOff o = some (r, i, j))
    (hdenied : d.regDenied who r i true = some st) : busWrite d v who o w = (d, v, st) := by
  simp [busWrite, haligned, hrun, hserv, hwin, hreg, writeReg, hdenied]

/-- A write that the table's owner does not allow changes nothing. -/
theorem busWrite_of_winDenied (who : Src) {o n : Nat} {win : Win} {st : Status} (w : Word) (hrun : d.running = true)
    (hserv : d.inService = false) (haligned : o % 4 = 0) (hwin : winAt o = some (win, n)) (hdenied : d.winDenied who win true = some st) :
    busWrite d v who o w = (d, v, st) := by
  simp [busWrite, haligned, hrun, hserv, hwin, hdenied]

/-- Settles O22: access is denied before anything else of the register or the table is looked at. -/
theorem bayAccess : Obligations.BayAccess := by
  unfold Obligations.BayAccess
  refine ⟨?_, ?_, ?_⟩
  · intro k r i j o d v hrun haligned hwin hreg howner hbay
    have hdenied (write : Bool) := d.regDenied_of_other_bay k r i write howner hbay
    exact ⟨d.busRead_of_regDenied v _ hrun haligned hwin hreg (hdenied false),
      fun hserv w => busWrite_of_regDenied d v _ w hrun hserv haligned hwin hreg (hdenied true)⟩
  · intro k r i j o d v hrun hserv haligned hwin hreg howner hsteward w
    exact busWrite_of_regDenied d v _ w hrun hserv haligned hwin hreg (d.regDenied_write_of_not_steward k r i howner hsteward)
  · intro k o n win d v hrun hserv haligned hwin hshared hbay w
    exact busWrite_of_winDenied d v _ w hrun hserv haligned hwin (d.winDenied_of_other_bay k win true hshared hbay)

end Sys2Proof.Machine
end

section
/-! PROOFS. The power estimates of GL_PWR (R33, R41). -/

namespace Sys2Proof.Machine

/-- Nothing but registers changes from `d` to `e`. -/
def Dev.RegsOnly (d e : Dev) : Prop := { e with regs := d.regs } = d

theorem Dev.RegsOnly.trans {d e f : Dev} (h : d.RegsOnly e) (k : e.RegsOnly f) : d.RegsOnly f := by
  unfold Dev.RegsOnly at *
  rw [← h, ← k]

theorem Dev.regsOnly_setFld (d : Dev) (f : Fld) (i j v : Nat) : d.RegsOnly (d.setFld f i j v) := rfl
theorem Dev.regsOnly_bump (d : Dev) (f : Fld) (i j n : Nat) : d.RegsOnly (d.bump f i j n) := rfl

variable (d : Dev)

/-- Taking an estimate changes registers only, and of them GL_PWR(k) alone. -/
theorem Dev.powerTake_frame (k mw : Nat) : d.RegsOnly (d.powerTake k mw) ∧
    ∀ o, o ≠ RegName.off .GL_PWR k 0 → (d.powerTake k mw).word o = d.word o := by
  unfold Dev.powerTake; dsimp only
  split
  · exact ⟨d.regsOnly_bump _ _ _ _, fun o ho => d.word_bump_other .GL_PWR_AGE k 0 1 ho⟩
  · refine ⟨(d.regsOnly_setFld _ _ _ _).trans (Dev.regsOnly_setFld _ _ _ _ _), fun o ho => ?_⟩
    rw [Dev.word_setFld_other _ .GL_PWR_AGE k 0 0 ho, d.word_setFld_other .GL_PWR_MW k 0 _ ho]

/-- GL_PWR(k) holds the estimate of block group k, and AGE counts the updates that left it so. -/
theorem Dev.powerTake_fields (k mw : Nat) : (d.powerTake k mw).fld .GL_PWR_MW k = min 0xFFFF mw ∧
    (d.powerTake k mw).fld .GL_PWR_AGE k = (if d.fld .GL_PWR_MW k = min 0xFFFF mw
      then min (d.fld .GL_PWR_AGE k + 1) (2 ^ Fld.GL_PWR_AGE.width - 1) else 0) := by
  have hfits : min 0xFFFF mw < 2 ^ Fld.GL_PWR_MW.width := Nat.lt_of_le_of_lt (Nat.min_le_left _ _) (by decide)
  unfold Dev.powerTake; dsimp only
  split
  case isTrue h =>
    constructor
    · unfold Dev.bump
      rw [d.fld_setFld_beside .GL_PWR_AGE .GL_PWR_MW k 0 _ rfl (by decide) (by decide) (by decide), h]
    · rw [d.fld_bump .GL_PWR_AGE k 0 1 (by decide)]
  case isFalse h =>
    constructor
    · rw [Dev.fld_setFld_beside _ .GL_PWR_AGE .GL_PWR_MW k 0 _ rfl (by decide) (by decide) (by decide),
        d.fld_setFld .GL_PWR_MW k 0 _ (by decide), Nat.mod_eq_of_lt hfits]
    · rw [Dev.fld_setFld _ .GL_PWR_AGE k 0 0 (by decide), Nat.zero_mod]

/-- GL_PWR of the groups below n, taken in rising order. -/
def Dev.powerTakes (n : Nat) (mw : List Nat) : Dev := forN n (fun k d => d.powerTake k (mw.getD k 0)) d

theorem Dev.powerTakes_succ (n : Nat) (mw : List Nat) :
    d.powerTakes (n + 1) mw = (d.powerTakes n mw).powerTake n (mw.getD n 0) := forN_succ _ _ _

theorem glPwr_off_ne {k m : Nat} (h : k ≠ m) : RegName.off .GL_PWR k 0 ≠ RegName.off .GL_PWR m 0 := by
  simp only [RegName.off, RegName.info]; omega

theorem Dev.powerTakes_frame (n : Nat) (mw : List Nat) : d.RegsOnly (d.powerTakes n mw) ∧
    ∀ o, (∀ k < n, o ≠ RegName.off .GL_PWR k 0) → (d.powerTakes n mw).word o = d.word o := by
  induction n with
  | zero => exact ⟨rfl, fun _ _ => rfl⟩
  | succ n ih =>
    obtain ⟨hregs, hword⟩ := ih
    obtain ⟨hregs', hword'⟩ := (d.powerTakes n mw).powerTake_frame n (mw.getD n 0)
    rw [d.powerTakes_succ]
    refine ⟨hregs.trans hregs', fun o ho => ?_⟩
    rw [hword' o (ho n (Nat.lt_succ_self n)), hword o fun k hk => ho k (Nat.lt_succ_of_lt hk)]

/-- The fields of each group below n are what its own estimate makes of those before the update: the others do not touch them. -/
theorem Dev.powerTakes_fields (n : Nat) (mw : List Nat) : ∀ k < n, (d.powerTakes n mw).fld .GL_PWR_MW k = min 0xFFFF (mw.getD k 0) ∧
    (d.powerTakes n mw).fld .GL_PWR_AGE k = (if d.fld .GL_PWR_MW k = min 0xFFFF (mw.getD k 0)
      then min (d.fld .GL_PWR_AGE k + 1) (2 ^ Fld.GL_PWR_AGE.width - 1) else 0) := by
  induction n with
  | zero => intro k hk; omega
  | succ n ih =>
    intro k hk
    rw [d.powerTakes_succ]
    obtain hlt | rfl := Nat.lt_succ_iff_lt_or_eq.mp hk
    · have hsame := ((d.powerTakes n mw).powerTake_frame n (mw.getD n 0)).2 _ (glPwr_off_ne (Nat.ne_of_lt hlt))
      rw [Dev.fld_of_word (x := .GL_PWR_MW) hsame, Dev.fld_of_word (x := .GL_PWR_AGE) hsame]
      exact ih k hlt
    · have hbefore := (d.powerTakes_frame k mw).2 (RegName.off .GL_PWR k 0) fun m hm => glPwr_off_ne (Nat.ne_of_gt hm)
      have hfields := (d.powerTakes k mw).powerTake_fields k (mw.getD k 0)
      rwa [Dev.fld_of_word (x := .GL_PWR_MW) hbefore, Dev.fld_of_word (x := .GL_PWR_AGE) hbefore] at hfields

/-- The device with the next update due 10 ms later. -/
def Dev.powerLater : Dev := { d with boot := { d.boot with powerAt := d.now + ms 10 } }

theorem Dev.powerLater_regs : d.powerLater.regs = d.regs := rfl

/-- POWER_ESTIMATE_UPDATE that is due (R33). -/
theorem exec_powerEstimateUpdate_of_due (mw : List Nat) (s : State) (hserved : s.dev.running = true ∨ s.dev.inLoad = true)
    (hdue : s.dev.boot.powerAt ≤ s.dev.now) :
    exec (.powerEstimateUpdate mw) s = .next { s with dev := s.dev.powerLater.powerTakes 9 mw } := by
  have hok : ((s.dev.running || s.dev.inLoad) && decide (s.dev.boot.powerAt ≤ s.dev.now)) = true := by
    simp [hdue, hserved]
  simp [exec, execPowerEstimateUpdate, State.onDev, hok, Dev.powerUpdate, Dev.powerTakes, Dev.powerLater]

/-- Settles O7: the nine groups are taken one after the other, each in its own register. -/
theorem powerEstimates : Obligations.PowerEstimates := by
  unfold Obligations.PowerEstimates
  intro mw s hserved hdue
  obtain ⟨hregs, hword⟩ := s.dev.powerLater.powerTakes_frame 9 mw
  have hfields := s.dev.powerLater.powerTakes_fields 9 mw
  simp only [Dev.fld_congr s.dev.powerLater_regs] at hfields
  have hexec := exec_powerEstimateUpdate_of_due mw s hserved hdue
  generalize s.dev.powerLater.powerTakes 9 mw = e at hexec hregs hword hfields
  unfold Dev.RegsOnly at hregs
  refine ⟨_, hexec, rfl, rfl, ?_, ?_, fun k => hfields k k.isLt, fun o ho => ?_⟩
  · exact congrArg (fun d : Dev => { d with boot := s.dev.boot }) hregs
  · exact congrArg Dev.boot hregs
  · rw [← Dev.word_congr s.dev.powerLater_regs o]
    exact hword o fun k hk => ho ⟨k, hk⟩

end Sys2Proof.Machine
end

section
/-! PROOFS. Head power: the settle time, the power-down and the wake of an island (R32, R196, R197). -/

namespace Sys2Proof.Machine

variable (d : Dev)

/-- The registers of a head port at which its power shows lie apart from those of the reports and the islands, and from each other. -/
theorem hpPwr_not_report (xx : Nat) : RegName.off .HP_PWR xx 0 ∉ reports := by
  simp only [reports, RegName.off, RegName.info, List.mem_cons, List.not_mem_nil, or_false]
  omega

/-- A configuration block that goes out changes nothing but the note of when it went, its count and what leaves the device. -/
theorem Dev.sendCfg_frame (xx : Nat) : d.regsBut [RegName.off .HP_CNT xx 0] (d.sendCfg xx) ∧ (d.sendCfg xx).tbl = d.tbl ∧
    (d.sendCfg xx).fc = d.fc ∧ (d.sendCfg xx).now = d.now ∧ (d.sendCfg xx).tbStart = d.tbStart ∧ ∀ o ∈ d.out, o ∈ (d.sendCfg xx).out := by
  unfold Dev.sendCfg Dev.sendCfgOf; dsimp only
  split
  · exact ⟨Dev.regsBut_of_regs rfl, rfl, rfl, rfl, rfl, fun _ h => h⟩
  · exact ⟨(Dev.regsBut_of_regs rfl).trans (Dev.regsBut_bump _ .HP_CNT_CFGTX xx 0 1 List.mem_cons_self), rfl, rfl, rfl, rfl,
      fun _ h => List.mem_cons_of_mem _ h⟩

theorem Dev.sendCfg_hp (xx : Nat) : (d.sendCfg xx).hp xx = { d.hp xx with cfgSent := d.tb, cfgDue := false } := by
  unfold Dev.sendCfg Dev.sendCfgOf; dsimp only
  split
  · exact d.hp_setHp xx _
  · exact d.hp_setHp xx _

theorem Dev.sendCfg_hp_other {xx y : Nat} (h : y ≠ xx) : (d.sendCfg xx).hp y = d.hp y := by
  unfold Dev.sendCfg Dev.sendCfgOf; dsimp only
  split
  · exact d.hp_setHp_other _ h
  · exact d.hp_setHp_other _ h

/-- A ready port that is to rest sends a rest frame, and nothing else. -/
theorem Dev.restNow_of_ready (xx : Nat) (h : d.on .HP_PWR_READY xx = true) : ∃ at_ fr, d.restNow xx = d.emit (.rest xx at_ fr) := by
  unfold Dev.restNow; dsimp only
  rw [if_pos h]
  exact ⟨_, _, rfl⟩

/-- The lane clock runs, alignment frames go out, and the frame grid starts anew (R196). -/
def Dev.clocked (xx : Nat) : Dev :=
  let d := (d.emit (.laneClock xx (match d.fld .HP_PROF_LRATE xx with | 0 => 400 | 1 => 200 | _ => 100) (d.fbit .HP_LANE_LINV xx 0 5))).sendAlignment xx
  d.setHp xx { d.hp xx with settleAt := none, grid := d.nowPs, trail := d.nowPs, last := none, late := false }

/-- The configuration block goes out, READY sets, and rest frames run (R196). -/
def Dev.readied (xx : Nat) : Dev := ((d.sendCfg xx).setOn .HP_PWR_READY xx 0 true).restNow xx

theorem Dev.settle_eq (xx : Nat) (loopback : Bool) :
    d.settle xx loopback = if loopback then (d.clocked xx).readied xx else ((d.clocked xx).readied xx).signal srcHpLink xx := rfl

theorem Dev.clocked_hp (xx : Nat) :
    (d.clocked xx).hp xx = { d.hp xx with settleAt := none, grid := d.nowPs, trail := d.nowPs, last := none, late := false } :=
  Dev.hp_setHp _ xx _

theorem Dev.clocked_hp_other {xx y : Nat} (h : y ≠ xx) : (d.clocked xx).hp y = d.hp y := Dev.hp_setHp_other _ _ h

theorem Dev.clocked_out (xx : Nat) : ∃ mhz inverted, .laneClock xx mhz inverted ∈ (d.clocked xx).out :=
  ⟨_, _, List.mem_cons_of_mem _ List.mem_cons_self⟩

theorem Dev.readied_frame (xx : Nat) : (d.readied xx).tbl = d.tbl ∧ (d.readied xx).fc = d.fc ∧ (d.readied xx).now = d.now ∧
    (d.readied xx).tbStart = d.tbStart ∧ d.regsBut [RegName.off .HP_PWR xx 0, RegName.off .HP_CNT xx 0] (d.readied xx) ∧
    (d.readied xx).hps = (d.sendCfg xx).hps := by
  obtain ⟨hwords, htbl, hfc, hnow, htb, -⟩ := d.sendCfg_frame xx
  have hready := Dev.on_setOn (d.sendCfg xx) .HP_PWR_READY xx 0 true (by decide) (by decide)
  obtain ⟨at_, fr, hrest⟩ := Dev.restNow_of_ready _ xx hready
  unfold Dev.readied
  rw [hrest]
  refine ⟨htbl, hfc, hnow, htb, ?_, rfl⟩
  have hset := Dev.regsBut_setOn (offs := [RegName.off .HP_PWR xx 0, RegName.off .HP_CNT xx 0]) (d.sendCfg xx) .HP_PWR_READY xx 0 true
    List.mem_cons_self
  exact ((hwords.mono (by simp)).trans hset).trans (Dev.regsBut_of_regs rfl)

theorem Dev.readied_power (xx : Nat) : (d.readied xx).on .HP_PWR_READY xx = true ∧
    (d.readied xx).on .HP_PWR_PEN xx = d.on .HP_PWR_PEN xx := by
  have hready := Dev.on_setOn (d.sendCfg xx) .HP_PWR_READY xx 0 true (by decide) (by decide)
  obtain ⟨at_, fr, hrest⟩ := Dev.restNow_of_ready _ xx hready
  unfold Dev.readied
  rw [hrest]
  refine ⟨hready, ?_⟩
  have hpen : (d.sendCfg xx).on .HP_PWR_PEN xx = d.on .HP_PWR_PEN xx := by
    have hword := (d.sendCfg_frame xx).1 (RegName.off .HP_PWR xx 0) (by simp [RegName.off, RegName.info]) (hpPwr_not_report xx)
    exact Dev.on_of_word hword
  exact (Dev.on_setOn_beside _ .HP_PWR_READY .HP_PWR_PEN xx 0 true rfl (by decide) (by decide) (by decide)).trans hpen

theorem Dev.readied_out (xx : Nat) : (∀ o ∈ d.out, o ∈ (d.readied xx).out) ∧ ∃ at_ fr, .rest xx at_ fr ∈ (d.readied xx).out := by
  have hready := Dev.on_setOn (d.sendCfg xx) .HP_PWR_READY xx 0 true (by decide) (by decide)
  obtain ⟨at_, fr, hrest⟩ := Dev.restNow_of_ready _ xx hready
  unfold Dev.readied
  rw [hrest]
  exact ⟨fun o ho => List.mem_cons_of_mem _ ((d.sendCfg_frame xx).2.2.2.2.2 o ho), at_, fr, List.mem_cons_self⟩

/-! ## The power-down -/

/-- The first step of the power-down before its event: PEN and READY fall, and the second step is due 10 µs later (R196). -/
def Dev.penLowered (xx cause : Nat) : Dev :=
  ((d.setHp xx { d.hp xx with downAt := some (2, d.now + us 10, cause) }).setOn .HP_PWR_PEN xx 0 false).setOn .HP_PWR_READY xx 0 false

theorem Dev.downStep_of_first {xx t cause : Nat} (h : (d.hp xx).downAt = some (1, t, cause)) :
    d.downStep xx = (d.penLowered xx cause).powerEvent xx 0 cause := by
  simp only [Dev.downStep, h, Dev.penLowered]

theorem Dev.penLowered_power (xx cause : Nat) :
    (d.penLowered xx cause).on .HP_PWR_PEN xx = false ∧ (d.penLowered xx cause).on .HP_PWR_READY xx = false := by
  unfold Dev.penLowered
  refine ⟨?_, Dev.on_setOn _ .HP_PWR_READY xx 0 false (by decide) (by decide)⟩
  rw [Dev.on_setOn_beside _ .HP_PWR_READY .HP_PWR_PEN xx 0 false rfl (by decide) (by decide) (by decide)]
  exact Dev.on_setOn _ .HP_PWR_PEN xx 0 false (by decide) (by decide)

theorem Dev.penLowered_regsBut (xx cause : Nat) : d.regsBut [RegName.off .HP_PWR xx 0] (d.penLowered xx cause) :=
  ((Dev.regsBut_of_regs rfl).trans (Dev.regsBut_setOn _ .HP_PWR_PEN xx 0 false List.mem_cons_self)).trans
    (Dev.regsBut_setOn _ .HP_PWR_READY xx 0 false List.mem_cons_self)

/-- The power registers of the ports lie above those that assign the ports to bays. -/
theorem hpPwr_above (xx : Nat) : 0xA0 < RegName.off .HP_PWR xx 0 := by simp only [RegName.off, RegName.info]; omega

theorem reports_above {o : Nat} (h : o ∈ reports) : 0xA0 < o := by
  simp only [reports, RegName.off, RegName.info, List.mem_cons, List.not_mem_nil, or_false] at h
  omega

/-- Where only registers above those of the assignment may change, the assignment stands. -/
theorem Dev.regsBut.sameAssign {offs : List Nat} {d e : Dev} (h : d.regsBut offs e) (habove : ∀ o ∈ offs, 0xA0 ≤ o) : d.SameAssign e :=
  fun o ho => h o (fun hm => absurd (habove o hm) (by omega)) (fun hr => absurd (reports_above hr) (by omega))

theorem Dev.penLowered_portBay (xx cause : Nat) : (d.penLowered xx cause).portBay xx = d.portBay xx :=
  ((d.penLowered_regsBut xx cause).sameAssign (by simpa using Nat.le_of_lt (hpPwr_above xx))).portBay xx

/-- The second step of the power-down (R196): the link pins fall off, and power follows what it is to be. -/
theorem Dev.downStep_of_second {xx t cause : Nat} (h : (d.hp xx).downAt = some (2, t, cause)) :
    d.downStep xx = (((d.setHp xx { d.hp xx with downAt := none }).emit (.linkOff xx)).followPower xx 1).followIsland (cluster xx) := by
  simp only [Dev.downStep, h]

/-- A port whose power is low and to be low waits for no island. -/
theorem Dev.followPower_of_low {xx : Nat} (cause : Nat) (hwant : d.penWant xx = false) (hpen : d.on .HP_PWR_PEN xx = false) :
    d.followPower xx cause = d.setHp xx { d.hp xx with penWait := none } := by
  simp [Dev.followPower, hwant, hpen]

/-- An island that follows its need changes its bit and its wake alone. -/
theorem Dev.followIsland_frame (i : Nat) : (d.followIsland i).tbl = d.tbl ∧ (d.followIsland i).hps = d.hps ∧ (d.followIsland i).out = d.out ∧
    d.regsBut [RegName.off .GL_ISLAND 0 0] (d.followIsland i) := by
  unfold Dev.followIsland
  split
  · exact ⟨rfl, rfl, rfl, (d.regsBut_setIsland i false List.mem_cons_self).trans (Dev.regsBut_of_regs rfl)⟩
  · split
    · exact ⟨rfl, rfl, rfl, Dev.regsBut_of_regs rfl⟩
    · exact ⟨rfl, rfl, rfl, Dev.regsBut_of_regs rfl⟩

/-! ## The wake of an island -/

theorem Dev.islandOn_of_word {d e : Dev} (h : e.word (RegName.off .GL_ISLAND 0 0) = d.word (RegName.off .GL_ISLAND 0 0)) (i : Nat) :
    e.islandOn i = d.islandOn i := by
  unfold Dev.islandOn Dev.reg; rw [h]

/-- An island that is on and needed stays as it is. -/
theorem Dev.followIsland_of_on {i : Nat} (hon : d.islandOn i = true) (hneed : d.islandIdle i = false) : d.followIsland i = d := by
  simp [Dev.followIsland, hon, hneed]

/-- The island of a powered port is needed, where the port has a bay (R32). -/
theorem Dev.islandIdle_of_pen {xx : Nat} (hxx : xx < 32) (hpen : d.on .HP_PWR_PEN xx = true) (hbay : (d.portBay xx).isSome = true) :
    d.islandIdle (cluster xx) = false := by
  have hlow : cluster xx < 4 := by unfold cluster; omega
  have hport : 8 * cluster xx + xx % 8 = xx := by unfold cluster; omega
  obtain ⟨b, hb⟩ := Option.isSome_iff_exists.mp hbay
  simp only [Dev.islandIdle, hlow, if_true, Dev.hciIdle, List.all_eq_false]
  refine ⟨xx % 8, by simp; omega, ?_⟩
  simp [hport, hb, hpen]

/-- A port that waited powers up while its island is on: PEN rises, the island stays, and HP_POWER is raised. -/
theorem Dev.penRise_of_awake {xx : Nat} (cause : Nat) (hxx : xx < 32) (hon : d.islandOn (cluster xx) = true)
    (hbay : (d.portBay xx).isSome = true) : ∃ settle w, d.penRise xx cause =
      Dev.powerEvent { ((d.setOn .HP_PWR_PEN xx 0 true).setHp xx
        { d.hp xx with settleAt := settle, penAt := some d.now, penWait := none }) with wear := w } xx 1 cause := by
  have hpen := d.on_setOn .HP_PWR_PEN xx 0 true (by decide) (by decide)
  have hword := d.word_setOn_other .HP_PWR_PEN xx 0 true (o := RegName.off .GL_ISLAND 0 0) (by simp only [RegName.off, RegName.info]; omega)
  have hisl : (d.setOn .HP_PWR_PEN xx 0 true).islandOn (cluster xx) = true := (Dev.islandOn_of_word hword _).trans hon
  have hassign := (d.regsBut_setOn (offs := [RegName.off .HP_PWR xx 0]) .HP_PWR_PEN xx 0 true List.mem_cons_self).sameAssign
    (by simpa using Nat.le_of_lt (hpPwr_above xx))
  have hneed := Dev.islandIdle_of_pen _ hxx hpen ((congrArg Option.isSome (hassign.portBay xx)).trans hbay)
  unfold Dev.penRise
  rw [Dev.followIsland_of_on _ hisl hneed]
  exact ⟨_, _, rfl⟩

/-- Beside reports, nothing but the power of the ports in `P` changes from `d` to `e`. -/
structure Dev.PortsOnly (P : Nat → Prop) (d e : Dev) : Prop where
  word : ∀ o, (∀ y, P y → o ≠ RegName.off .HP_PWR y 0) → o ∉ reports → e.word o = d.word o
  hp : ∀ y, ¬ P y → e.hp y = d.hp y
  tbl : e.tbl = d.tbl
  isl : e.isl = d.isl
  now : e.now = d.now
  boot : e.boot = d.boot
  bays : e.bays = d.bays

theorem Dev.PortsOnly.refl (P : Nat → Prop) (d : Dev) : Dev.PortsOnly P d d :=
  ⟨fun _ _ _ => rfl, fun _ _ => rfl, rfl, rfl, rfl, rfl, rfl⟩

theorem Dev.PortsOnly.trans {P Q R : Nat → Prop} {d e f : Dev} (h : Dev.PortsOnly P d e) (k : Dev.PortsOnly Q e f) (hP : ∀ y, P y → R y)
    (hQ : ∀ y, Q y → R y) : Dev.PortsOnly R d f where
  word o ho hr := (k.word o (fun y hy => ho y (hQ y hy)) hr).trans (h.word o (fun y hy => ho y (hP y hy)) hr)
  hp y hy := (k.hp y fun hq => hy (hQ y hq)).trans (h.hp y fun hp => hy (hP y hp))
  tbl := k.tbl.trans h.tbl
  isl := k.isl.trans h.isl
  now := k.now.trans h.now
  boot := k.boot.trans h.boot
  bays := k.bays.trans h.bays

theorem Dev.portsOnly_out (P : Nat → Prop) (d : Dev) (os : List Out) : Dev.PortsOnly P d { d with out := os } :=
  ⟨fun _ _ _ => rfl, fun _ _ => rfl, rfl, rfl, rfl, rfl, rfl⟩

theorem Dev.portsOnly_camWake (P : Nat → Prop) (d : Dev) (n : Nat) : Dev.PortsOnly P d (d.camWake n) :=
  ⟨fun _ _ _ => rfl, fun _ _ => rfl, rfl, rfl, rfl, rfl, rfl⟩

theorem Dev.Reported.portsOnly {d e : Dev} (P : Nat → Prop) (h : d.Reported e) : Dev.PortsOnly P d e where
  word o _ hr := h.2 o hr
  hp y _ := h.hp y
  tbl := h.tbl
  isl := h.isl
  now := by have hq := congrArg Dev.now h.1; exact hq
  boot := by have hq := congrArg Dev.boot h.1; exact hq
  bays := by have hq := congrArg Dev.bays h.1; exact hq

/-- The trust state of a port's head is no part of its power. -/
theorem Dev.PortsOnly.trStat {P : Nat → Prop} {d e : Dev} (h : Dev.PortsOnly P d e) {xx : Nat} (hlt : xx < 32) :
    e.word (RegName.off .TR_STAT xx 0) = d.word (RegName.off .TR_STAT xx 0) := by
  refine h.word _ (fun y _ => ?_) ?_
  · simp only [RegName.off, RegName.info]; omega
  · simp only [reports, RegName.off, RegName.info, List.mem_cons, List.not_mem_nil, or_false]; omega

/-- What the level of a port's PEN follows (R196, R369, R397). -/
theorem Dev.penWant_congr {d e : Dev} {xx : Nat} (hassign : d.SameAssign e) (hboot : e.boot = d.boot) (hbays : e.bays = d.bays)
    (hstat : e.word (RegName.off .HP_STAT xx 0) = d.word (RegName.off .HP_STAT xx 0))
    (hpwr : e.word (RegName.off .HP_PWR xx 0) = d.word (RegName.off .HP_PWR xx 0))
    (htr : e.word (RegName.off .TR_STAT xx 0) = d.word (RegName.off .TR_STAT xx 0))
    (hsv : e.word (RegName.off .SV_PEN 0 0) = d.word (RegName.off .SV_PEN 0 0)) : e.penWant xx = d.penWant xx := by
  have hbay (b : Nat) : e.bay b = d.bay b := by unfold Dev.bay; rw [hbays]
  have hfbit : e.fbit .SV_PEN_PEN 0 0 xx = d.fbit .SV_PEN_PEN 0 0 xx := by unfold Dev.fbit; rw [Dev.fld_of_word hsv]
  simp only [Dev.penWant, Dev.on_of_word (x := .HP_STAT_SHUT) hstat, Dev.on_of_word (x := .HP_PWR_REFUSED) hpwr,
    Dev.fld_of_word (x := .TR_STAT_STATE) htr, hassign.portBay xx, hboot, hfbit, hassign.present, hbay,
    Dev.on_of_word (x := .HP_PWR_REQ) hpwr]

/-- It does not depend on the power of other ports. -/
theorem Dev.PortsOnly.penWant {P : Nat → Prop} {d e : Dev} (h : Dev.PortsOnly P d e) {xx : Nat} (hlt : xx < 32)
    (hxx : ¬ P xx) : e.penWant xx = d.penWant xx := by
  refine Dev.penWant_congr (fun o ho => h.word o (fun y _ heq => absurd (hpPwr_above y) (by omega))
    (fun hr => absurd (reports_above hr) (by omega))) h.boot h.bays ?_ ?_ (h.trStat hlt) ?_
  · refine h.word _ (fun y _ => ?_) ?_
    · simp only [RegName.off, RegName.info]; omega
    · simp only [reports, RegName.off, RegName.info, List.mem_cons, List.not_mem_nil, or_false]; omega
  · refine h.word _ (fun y hy heq => ?_) (hpPwr_not_report xx)
    have hsame : xx = y := by simp only [RegName.off, RegName.info] at heq; omega
    exact hxx (hsame ▸ hy)
  · refine h.word _ (fun y _ => ?_) (by decide)
    simp only [RegName.off, RegName.info]; omega

/-- What a port that waits for its island does when the island wakes (R32). -/
def Dev.wakePort (xx : Nat) : Dev :=
  match (d.hp xx).penWait with
  | some cause => if d.penWant xx && d.fld .TR_STAT_STATE xx != 1 then d.penRise xx cause else d
  | none => d

/-- The ports that the wake of island i has reached after n of its eight. -/
def portsWoken (i n y : Nat) : Prop := ∃ k < n, y = 8 * i + k

theorem Dev.penWant_portBay {xx : Nat} (h : d.penWant xx = true) : (d.portBay xx).isSome = true := by
  simp only [Dev.penWant, Bool.and_eq_true] at h
  exact h.1.1.2

/-- The island of its cluster being on, the port alone powers up, and only if it waited and still may. -/
theorem Dev.wakePort_portsOnly {xx : Nat} (hlt : xx < 32) (hon : d.islandOn (cluster xx) = true) :
    Dev.PortsOnly (· = xx) d (d.wakePort xx) := by
  unfold Dev.wakePort
  split
  case h_2 => exact .refl _ d
  case h_1 cause _ =>
    split
    case isFalse => exact .refl _ d
    case isTrue hmay =>
      obtain ⟨hwant, -⟩ := Bool.and_eq_true_iff.mp hmay
      obtain ⟨settle, w, hrise⟩ := d.penRise_of_awake cause hlt hon (d.penWant_portBay hwant)
      rw [hrise]
      refine Dev.PortsOnly.trans (P := (· = xx)) ?_ ((Dev.reported_unitEvent _ _ _ _ _ _ _).portsOnly (· = xx)) (fun _ h => h) (fun _ h => h)
      exact ⟨fun o ho _ => d.word_setOn_other .HP_PWR_PEN xx 0 true (ho xx rfl), fun y hy => Dev.hp_setHp_other _ _ hy,
        rfl, rfl, rfl, rfl, rfl⟩

/-- The port that waited and still may has PEN raised. -/
theorem Dev.wakePort_raises {xx cause : Nat} (hlt : xx < 32) (hon : d.islandOn (cluster xx) = true) (hwait : (d.hp xx).penWait = some cause)
    (hwant : d.penWant xx = true) (htrust : d.fld .TR_STAT_STATE xx ≠ 1) : (d.wakePort xx).on .HP_PWR_PEN xx = true ∧
    ((d.wakePort xx).hp xx).penAt = some d.now ∧ ((d.wakePort xx).hp xx).penWait = none := by
  have hmay : (d.penWant xx && d.fld .TR_STAT_STATE xx != 1) = true := by simp [hwant, htrust]
  obtain ⟨settle, w, hrise⟩ := d.penRise_of_awake cause hlt hon (d.penWant_portBay hwant)
  have hsame : d.wakePort xx = d.penRise xx cause := by simp only [Dev.wakePort, hwait, hmay, if_true]
  rw [hsame, hrise]
  unfold Dev.powerEvent
  rw [(Dev.reported_unitEvent _ _ _ _ _ _ _).on .HP_PWR_PEN xx 0 (hpPwr_not_report xx), (Dev.reported_unitEvent _ _ _ _ _ _ _).hp xx]
  have hhp := Dev.hp_setHp (d.setOn .HP_PWR_PEN xx 0 true) xx { d.hp xx with settleAt := settle, penAt := some d.now, penWait := none }
  refine ⟨d.on_setOn .HP_PWR_PEN xx 0 true (by decide) (by decide), ?_, ?_⟩
  · exact congrArg HPort.penAt hhp
  · exact congrArg HPort.penWait hhp

/-- The first n ports of island i wake in turn. -/
def Dev.wakePorts (i n : Nat) : Dev := forN n (fun k d => d.wakePort (8 * i + k)) d

theorem Dev.wakePorts_succ (i n : Nat) : d.wakePorts i (n + 1) = (d.wakePorts i n).wakePort (8 * i + n) := forN_succ _ _ _

theorem cluster_port {i k : Nat} (hk : k < 8) : cluster (8 * i + k) = i := by unfold cluster; omega

theorem Dev.PortsOnly.islandOn {P : Nat → Prop} {d e : Dev} (h : Dev.PortsOnly P d e) (i : Nat) : e.islandOn i = d.islandOn i :=
  Dev.islandOn_of_word (h.word _ (fun y _ => by simp only [RegName.off, RegName.info]; omega) (by decide)) i

theorem Dev.wakePorts_portsOnly {i n : Nat} (hi : i < 4) (hn : n ≤ 8) (hon : d.islandOn i = true) :
    Dev.PortsOnly (portsWoken i n) d (d.wakePorts i n) := by
  induction n with
  | zero => exact .refl _ d
  | succ n ih =>
    have hbefore := ih (by omega)
    have hon' : (d.wakePorts i n).islandOn (cluster (8 * i + n)) = true := by rw [cluster_port (by omega), hbefore.islandOn, hon]
    have hstep := (d.wakePorts i n).wakePort_portsOnly (xx := 8 * i + n) (by omega) hon'
    rw [d.wakePorts_succ]
    refine hbefore.trans hstep ?_ ?_
    · rintro y ⟨k, hk, rfl⟩; exact ⟨k, by omega, rfl⟩
    · rintro y rfl; exact ⟨n, by omega, rfl⟩

theorem Dev.wakePorts_raises {i n k cause : Nat} (hi : i < 4) (hn : n ≤ 8) (hk : k < n) (hon : d.islandOn i = true)
    (hwait : (d.hp (8 * i + k)).penWait = some cause) (hwant : d.penWant (8 * i + k) = true)
    (htrust : d.fld .TR_STAT_STATE (8 * i + k) ≠ 1) : (d.wakePorts i n).on .HP_PWR_PEN (8 * i + k) = true ∧
    ((d.wakePorts i n).hp (8 * i + k)).penAt = some d.now ∧ ((d.wakePorts i n).hp (8 * i + k)).penWait = none := by
  induction n with
  | zero => omega
  | succ n ih =>
    have hbefore := d.wakePorts_portsOnly hi (n := n) (by omega) hon
    have hon' : (d.wakePorts i n).islandOn (cluster (8 * i + n)) = true := by rw [cluster_port (by omega), hbefore.islandOn, hon]
    rw [d.wakePorts_succ]
    obtain hlt | rfl := Nat.lt_succ_iff_lt_or_eq.mp hk
    · have hstep := (d.wakePorts i n).wakePort_portsOnly (xx := 8 * i + n) (by omega) hon'
      have hother : 8 * i + k ≠ 8 * i + n := by omega
      have hword := hstep.word (RegName.off .HP_PWR (8 * i + k) 0)
        (by rintro y rfl; simp only [RegName.off, RegName.info]; omega) (hpPwr_not_report _)
      rw [Dev.on_of_word (x := .HP_PWR_PEN) hword, hstep.hp _ hother]
      exact ih (by omega) hlt
    · have hnot : ¬ portsWoken i k (8 * i + k) := by rintro ⟨m, hm, heq⟩; omega
      have htr := Dev.fld_of_word (x := .TR_STAT_STATE) (hbefore.trStat (xx := 8 * i + k) (by omega))
      rw [← hbefore.now]
      exact Dev.wakePort_raises _ (by omega) hon' ((congrArg HPort.penWait (hbefore.hp _ hnot)).trans hwait)
        ((hbefore.penWant (by omega) hnot).trans hwant) (htr ▸ htrust)

/-- The pins of parked pairs are all that `parkPins` moves. -/
theorem Dev.parkPins_out (before : Dev) (xx : Nat) : ∃ os, d.parkPins before xx = { d with out := os } := by
  have hloop (n : Nat) : ∃ os, forN n (fun k d => if d.parkCode xx k = before.parkCode xx k then d else d.emit (.park xx k (d.parkCode xx k))) d
      = { d with out := os } := by
    induction n with
    | zero => exact ⟨_, rfl⟩
    | succ n ih =>
      obtain ⟨os, hos⟩ := ih
      rw [forN_succ, hos]
      split <;> exact ⟨_, rfl⟩
  obtain ⟨os, hos⟩ := hloop 7
  unfold Dev.parkPins; dsimp only
  rw [hos]
  split <;> exact ⟨_, rfl⟩

theorem Dev.parkAll_out (before : Dev) (i n : Nat) : ∃ os, forN n (fun k d => d.parkPins before (8 * i + k)) d = { d with out := os } := by
  induction n with
  | zero => exact ⟨_, rfl⟩
  | succ n ih =>
    obtain ⟨os, hos⟩ := ih
    obtain ⟨os', hos'⟩ := Dev.parkPins_out { d with out := os } before (8 * i + n)
    rw [forN_succ, hos, hos']
    exact ⟨_, rfl⟩

/-- The island on, and its wake over. -/
def Dev.islandUp (i : Nat) : Dev := (d.setIsland i true).setWake i none

/-- What an island wakes beside itself: the waiting ports of a cluster, the camera of a CAMI island, nothing of the others (R32, R239). -/
theorem Dev.islandWoken_of_cluster {i : Nat} (hi : i < 4) : ∃ os, d.islandWoken i = { (d.islandUp i).wakePorts i 8 with out := os } := by
  obtain ⟨os, hos⟩ := Dev.parkAll_out ((d.islandUp i).wakePorts i 8) d i 8
  refine ⟨os, ?_⟩
  rw [← hos]
  simp only [Dev.islandWoken, Dev.islandAwake, if_pos hi, show ¬ 4 ≤ i by omega, decide_false, Bool.false_and]
  rfl

theorem Dev.islandWoken_of_cam {i : Nat} (hlo : 4 ≤ i) (hhi : i < 8) : d.islandWoken i = (d.islandUp i).camWake (i - 4) := by
  simp [Dev.islandWoken, Dev.islandAwake, Dev.islandUp, show ¬ i < 4 by omega, hlo, hhi]

theorem Dev.islandWoken_of_other {i : Nat} (hi : 8 ≤ i) : d.islandWoken i = d.islandUp i := by
  simp [Dev.islandWoken, Dev.islandAwake, Dev.islandUp, show ¬ i < 4 by omega, show ¬ i < 8 by omega]

theorem Dev.islandUp_word {i o : Nat} (h : o ≠ RegName.off .GL_ISLAND 0 0) : (d.islandUp i).word o = d.word o := d.word_setWord_other _ h

theorem Dev.islandUp_regsBut (i : Nat) : d.regsBut [RegName.off .GL_ISLAND 0 0] (d.islandUp i) :=
  fun _ ho _ => d.islandUp_word (List.ne_of_not_mem_cons ho)

/-- Of what a port's power follows, nothing is in the island's bit. -/
theorem Dev.islandUp_penWant (i xx : Nat) : (d.islandUp i).penWant xx = d.penWant xx := by
  refine Dev.penWant_congr (fun o ho => d.islandUp_word ?_) rfl rfl ?_ ?_ ?_ ?_
  · simp only [RegName.off, RegName.info]; omega
  all_goals exact d.islandUp_word (by simp only [RegName.off, RegName.info]; omega)

theorem Dev.islandUp_wakeAt (i : Nat) : (d.islandUp i).wakeAt i = none :=
  Store.get_set_self (fun _ => none) d.isl i none

/-- Of the bits of GL_ISLAND, that of the island sets and the others stay. -/
theorem Dev.islandOn_islandUp {i k : Nat} (hi : i < 32) (hk : k < 32) :
    (d.islandUp i).islandOn k = if k = i then true else d.islandOn k := by
  have hword : (d.islandUp i).reg .GL_ISLAND = wput (d.reg .GL_ISLAND) i 1 1 := Dev.word_setWord _ _ _
  unfold Dev.islandOn
  rw [hword, wbit, wput_bit _ i 1 1 k hk (by omega)]
  by_cases h : k = i
  · simp [h]
  · rw [if_neg (by omega), if_neg h]
    rfl

theorem Dev.camWake_woke (n : Nat) : ((d.camWake n).cam n).woke = true := by
  unfold Dev.camWake; rw [Dev.cam_setCam]

/-- ISLAND_WAKE_COMPLETE of an island whose wake time has passed. -/
theorem exec_islandWakeComplete_of_due (i : Fin 13) (s : State) {t : Nat} (hwake : s.dev.wakeAt i = some t) (hdue : t ≤ s.dev.now) :
    exec (.islandWakeComplete i) s = .next { s with dev := s.dev.islandWoken i } := by
  simp [exec, execIslandWakeComplete, State.onDev, hwake, hdue]

theorem exec_headSettleDone_of_due (xx : Fin 32) (loopback : Bool) (s : State) (hdue : s.dev.settleDue xx = true) :
    exec (.headSettleDone xx loopback) s = .next { s with dev := s.dev.settle xx loopback } := by
  simp [exec, execHeadSettleDone, State.onDev, hdue]

theorem exec_headPowerDownTimer_of_due (xx : Fin 32) (s : State) {step t cause : Nat} (hdown : (s.dev.hp xx).downAt = some (step, t, cause))
    (hdue : t ≤ s.dev.now) : exec (.headPowerDownTimer xx) s = .next { s with dev := s.dev.downStep xx } := by
  have hdown' : s.dev.downDue xx = true := by simp [Dev.downDue, hdown, hdue]
  simp [exec, execHeadPowerDownTimer, State.onDev, hdown']

/-- Beside its own bit and wake, an island that wakes changes the power of its cluster's ports alone. -/
theorem Dev.islandWoken_portsOnly (i : Nat) : Dev.PortsOnly (fun y => y < 32 ∧ cluster y = i) (d.islandUp i) (d.islandWoken i) := by
  obtain hcluster | hcam | hother : i < 4 ∨ (4 ≤ i ∧ i < 8) ∨ 8 ≤ i := by omega
  · obtain ⟨os, hwoken⟩ := d.islandWoken_of_cluster hcluster
    have hon : (d.islandUp i).islandOn i = true := by rw [d.islandOn_islandUp (by omega) (by omega), if_pos rfl]
    have hports := (d.islandUp i).wakePorts_portsOnly hcluster (Nat.le_refl 8) hon
    rw [hwoken]
    refine hports.trans (Dev.portsOnly_out (fun _ => False) _ os) ?_ (fun _ h => h.elim)
    rintro y ⟨k, hk, rfl⟩
    exact ⟨by omega, cluster_port hk⟩
  · rw [d.islandWoken_of_cam hcam.1 hcam.2]
    exact Dev.portsOnly_camWake _ _ _
  · rw [d.islandWoken_of_other hother]
    exact .refl _ _

/-- A port of the cluster that waited, and still may, has PEN raised. -/
theorem Dev.islandWoken_raises {xx cause : Nat} (hlt : xx < 32) (hwait : (d.hp xx).penWait = some cause) (hwant : d.penWant xx = true)
    (htrust : d.fld .TR_STAT_STATE xx ≠ 1) : (d.islandWoken (cluster xx)).on .HP_PWR_PEN xx = true ∧
    ((d.islandWoken (cluster xx)).hp xx).penAt = some d.now ∧ ((d.islandWoken (cluster xx)).hp xx).penWait = none := by
  have hlow : cluster xx < 4 := by unfold cluster; omega
  have hport : 8 * cluster xx + xx % 8 = xx := by unfold cluster; omega
  obtain ⟨os, hwoken⟩ := d.islandWoken_of_cluster hlow
  have hon : (d.islandUp (cluster xx)).islandOn (cluster xx) = true := by rw [d.islandOn_islandUp (by omega) (by omega), if_pos rfl]
  have htr := Dev.fld_of_word (x := .TR_STAT_STATE) (i := xx) (j := 0) (d.islandUp_word (i := cluster xx) (o := RegName.off .TR_STAT xx 0)
    (by simp only [RegName.off, RegName.info]; omega))
  have hraise := (d.islandUp (cluster xx)).wakePorts_raises (k := xx % 8) (cause := cause) hlow (Nat.le_refl 8) (by omega) hon
  rw [hport] at hraise
  have hwaitUp : ((d.islandUp (cluster xx)).hp xx).penWait = some cause := hwait
  have hwantUp := (d.islandUp_penWant (cluster xx) xx).trans hwant
  have hnow : (d.islandUp (cluster xx)).now = d.now := rfl
  have hraised := hraise hwaitUp hwantUp (htr ▸ htrust)
  rw [hnow] at hraised
  generalize (d.islandUp (cluster xx)).wakePorts (cluster xx) 8 = e at hwoken hraised
  rw [hwoken]
  exact hraised

/-- What a settled port keeps and shows, before a loopback that does not match signals (R196). -/
theorem Dev.settled_frame (xx : Nat) : ((d.clocked xx).readied xx).tbl = d.tbl ∧ ((d.clocked xx).readied xx).fc = d.fc ∧
    ((d.clocked xx).readied xx).tb = d.tb ∧ ((d.clocked xx).readied xx).on .HP_PWR_PEN xx = d.on .HP_PWR_PEN xx ∧
    d.regsBut [RegName.off .HP_PWR xx 0, RegName.off .HP_CNT xx 0] ((d.clocked xx).readied xx) := by
  obtain ⟨htbl, hfc, hnow, htb, hwords, -⟩ := (d.clocked xx).readied_frame xx
  obtain ⟨-, hpen⟩ := (d.clocked xx).readied_power xx
  refine ⟨htbl, hfc, ?_, hpen, (Dev.regsBut_of_regs rfl).trans hwords⟩
  unfold Dev.tb; rw [hnow, htb]; rfl

theorem Dev.settled_hp (xx : Nat) : (((d.clocked xx).readied xx).hp xx).settleAt = none ∧ (((d.clocked xx).readied xx).hp xx).grid = d.nowPs ∧
    ∀ y, y ≠ xx → ((d.clocked xx).readied xx).hp y = d.hp y := by
  have hhps := ((d.clocked xx).readied_frame xx).2.2.2.2.2
  have hhp (y : Nat) : ((d.clocked xx).readied xx).hp y = ((d.clocked xx).sendCfg xx).hp y := by unfold Dev.hp; rw [hhps]
  refine ⟨?_, ?_, fun y hy => ?_⟩
  · rw [hhp, Dev.sendCfg_hp, Dev.clocked_hp]
  · rw [hhp, Dev.sendCfg_hp, Dev.clocked_hp]
  · rw [hhp, Dev.sendCfg_hp_other _ hy, Dev.clocked_hp_other _ hy]

theorem Dev.settled_out (xx : Nat) : (∃ mhz inverted, .laneClock xx mhz inverted ∈ ((d.clocked xx).readied xx).out) ∧
    ∃ at_ fr, .rest xx at_ fr ∈ ((d.clocked xx).readied xx).out := by
  obtain ⟨hkeeps, hrest⟩ := (d.clocked xx).readied_out xx
  obtain ⟨mhz, inverted, hclock⟩ := d.clocked_out xx
  exact ⟨⟨mhz, inverted, hkeeps _ hclock⟩, hrest⟩

/-- Power that is low and to be low stays so where the link pins fall off. -/
theorem Dev.penWant_linkOff (xx y : Nat) (h : HPort) (o : Out) : ((d.setHp y h).emit o).penWant xx = d.penWant xx :=
  Dev.penWant_congr (fun _ _ => rfl) rfl rfl rfl rfl rfl rfl

theorem cluster_ne {y i : Nat} (h : cluster y ≠ i) : ¬ (y < 32 ∧ cluster y = i) := fun hy => h hy.2

/-- The power register of another port. -/
theorem hpPwr_inj {x y : Nat} (h : RegName.off .HP_PWR x 0 = RegName.off .HP_PWR y 0) : x = y := by
  simp only [RegName.off, RegName.info] at h; omega

/-- With power low and to be low, the second step of the power-down leaves the port's power alone (R196). -/
theorem Dev.downStep_of_second_low {xx t cause : Nat} (h : (d.hp xx).downAt = some (2, t, cause)) (hwant : d.penWant xx = false)
    (hpen : d.on .HP_PWR_PEN xx = false) : ∃ e : Dev, d.downStep xx = e.followIsland (cluster xx) ∧ e.tbl = d.tbl ∧ e.regs = d.regs ∧
      .linkOff xx ∈ e.out ∧ (e.hp xx).downAt = none ∧ (e.hp xx).penWait = none ∧ ∀ y, y ≠ xx → e.hp y = d.hp y := by
  have hstep := d.downStep_of_second h
  rw [Dev.followPower_of_low _ 1 ((d.penWant_linkOff xx xx _ _).trans hwant) hpen] at hstep
  refine ⟨_, hstep, rfl, rfl, List.mem_cons_self, ?_, ?_, fun y hy => ?_⟩
  · rw [Dev.hp_setHp]
    exact congrArg HPort.downAt (d.hp_setHp xx _)
  · rw [Dev.hp_setHp]
  · exact (Dev.hp_setHp_other _ _ hy).trans (d.hp_setHp_other _ hy)

/-- Settles O42. -/
theorem headPowerSteps : Obligations.HeadPowerSteps := by
  unfold Obligations.HeadPowerSteps
  refine ⟨?_, ?_, ?_, ?_⟩
  · intro xx loopback s hdue
    obtain ⟨htbl, hfc, htb, hpen, hwords⟩ := s.dev.settled_frame xx
    obtain ⟨hsettle, hgrid, hother⟩ := s.dev.settled_hp xx
    obtain ⟨hclock, hrest⟩ := s.dev.settled_out xx
    have hready := ((s.dev.clocked xx).readied_power xx).1
    refine ⟨_, exec_headSettleDone_of_due xx loopback s hdue, rfl, ?_⟩
    dsimp only
    rw [s.dev.settle_eq]
    generalize (s.dev.clocked xx).readied xx = e at *
    cases loopback with
    | true =>
      exact ⟨htbl, hready, hpen, hsettle, hgrid, fun _ => congrArg Fc.sigs hfc, hclock, hrest, by simp, hwords,
        fun y hy => hother y fun h => hy (Fin.ext h)⟩
    | false =>
      refine ⟨htbl, hready, hpen, hsettle, hgrid, by simp, hclock, hrest, fun _ => ?_, hwords.trans (Dev.regsBut_of_regs rfl),
        fun y hy => hother y fun h => hy (Fin.ext h)⟩
      exact ⟨_, List.mem_append_right _ List.mem_cons_self, rfl, rfl, htb⟩
  · intro xx t cause s hdown hdue
    have hrep := Dev.reported_unitEvent (s.dev.penLowered xx cause) ((s.dev.penLowered xx cause).portBay xx) 1 0x0A02 xx 0 cause
    refine ⟨_, exec_headPowerDownTimer_of_due xx s hdown hdue, rfl, ?_⟩
    simp only [s.dev.downStep_of_first hdown, Dev.powerEvent]
    obtain ⟨hpen, hready⟩ := s.dev.penLowered_power xx cause
    refine ⟨hrep.tbl, ?_, ?_, ?_, ⟨_, by rw [s.dev.penLowered_portBay]⟩, ?_, ?_⟩
    · rw [hrep.on .HP_PWR_PEN xx 0 (hpPwr_not_report xx), hpen]
    · rw [hrep.on .HP_PWR_READY xx 0 (hpPwr_not_report xx), hready]
    · rw [hrep.hp]
      exact congrArg HPort.downAt (s.dev.hp_setHp xx _)
    · exact (s.dev.penLowered_regsBut xx cause).trans hrep.regsBut
    · intro y hy
      rw [hrep.hp]
      exact s.dev.hp_setHp_other _ fun h => hy (Fin.ext h)
  · intro xx t cause s hdown hdue hwant hpen
    refine ⟨_, exec_headPowerDownTimer_of_due xx s hdown hdue, rfl, ?_⟩
    obtain ⟨e, hstep, htbl, hregs, hout, hdownAt, hpenWait, hother⟩ := s.dev.downStep_of_second_low hdown hwant hpen
    obtain ⟨itbl, ihps, iout, iwords⟩ := e.followIsland_frame (cluster xx)
    have ihp (y : Nat) : (e.followIsland (cluster xx)).hp y = e.hp y := by unfold Dev.hp; rw [ihps]
    dsimp only
    rw [hstep, ihp, iout]
    exact ⟨itbl.trans htbl, hdownAt, hpenWait, hout, (Dev.regsBut_of_regs hregs).trans iwords,
      fun y hy => (ihp y).trans (hother y fun h => hy (Fin.ext h))⟩
  · intro i t s hwake hdue
    refine ⟨_, exec_islandWakeComplete_of_due i s hwake hdue, rfl, ?_⟩
    have hports := s.dev.islandWoken_portsOnly i
    dsimp only
    refine ⟨hports.tbl, ?_, ?_, ?_, ?_, ?_, ?_, ?_⟩
    · rw [hports.islandOn, s.dev.islandOn_islandUp (by omega) (by omega), if_pos rfl]
    · unfold Dev.wakeAt; rw [hports.isl]; exact s.dev.islandUp_wakeAt i
    · intro cam hcam
      rw [hcam, s.dev.islandWoken_of_cam (by omega) (by omega), Nat.add_sub_cancel_left]
      exact Dev.camWake_woke _ _
    · intro k hk
      rw [hports.islandOn, s.dev.islandOn_islandUp (by omega) (by omega), if_neg fun h => hk (Fin.ext h)]
    · refine ((s.dev.islandUp_regsBut i).mono ?_).trans fun o ho hr => hports.word o (fun y hy heq => ho ?_) hr
      · simp
      · subst heq
        refine List.mem_cons_of_mem _ ?_
        simpa using ⟨⟨y, hy.1⟩, rfl⟩
    · intro xx hxx
      have hword := hports.word (RegName.off .HP_PWR xx 0) (fun y hy heq => hxx (by rw [hpPwr_inj heq, hy.2])) (hpPwr_not_report xx)
      refine ⟨hports.hp xx (cluster_ne hxx), Dev.on_of_word (x := .HP_PWR_PEN) (hword.trans (s.dev.islandUp_word ?_))⟩
      exact Nat.ne_of_gt (hpPwr_above xx)
    · intro xx cause hcluster hwait hwant htrust
      rw [← hcluster]
      exact s.dev.islandWoken_raises xx.isLt hwait hwant htrust

end Sys2Proof.Machine
end

section
/-! PROOFS. What most operations keep: the registers of the Keystone and of the fault collector, the frame store, the snapshot buffers,
the quiet timers, and of each bay its counter, generation, mode, raster number, triggers and host commit. Each operation that keeps
them says so once, by an equation of `Dev.kept`. -/

namespace Sys2Proof.Machine

/-- Of a bay, all but its pacer, and of the pacer its triggers. -/
def Bay.core (x : Bay) : Bay := { x with pc := { trigs := x.pc.trigs } }

/-- What most operations keep. -/
structure Kept where
  ksWord : Nat → Word
  fcWord : Nat → Word
  fs : Store Byte
  tbl : Store Byte
  snaps : Store Snap
  quietAt : Store (Option Nat)
  core : Nat → Bay
  host : Nat → KSlot
  pend : Nat → List Staged

/-- The words of the registers from offset `lo` to `lo + 0xFFFF`. -/
def Dev.block (d : Dev) (lo o : Nat) : Word := if lo ≤ o ∧ o < lo + 0x10000 then d.word o else 0

/-- What is kept of the device; with `tables` its tables too. -/
def Dev.kept (d : Dev) (tables : Bool) : Kept where
  ksWord := d.block 0x10000
  fcWord := d.block 0x20000
  fs := d.fs
  tbl := if tables then d.tbl else []
  snaps := d.snaps
  quietAt := d.fc.quietAt
  core b := (d.bay b).core
  host b := (d.kset b).host
  pend b := (d.kset b).pending

variable {d e : Dev} {w : Bool}

/-! ## What follows from it -/

theorem Dev.ks_of_kept (h : e.kept w = d.kept w) {o : Nat} (hlo : 0x10000 ≤ o) (hhi : o < 0x20000) : e.word o = d.word o := by
  have hblock := congrFun (congrArg Kept.ksWord h) o
  simpa only [Dev.kept, Dev.block, if_pos (And.intro hlo hhi)] using hblock

theorem Dev.fc_of_kept (h : e.kept w = d.kept w) {o : Nat} (hlo : 0x20000 ≤ o) (hhi : o < 0x30000) : e.word o = d.word o := by
  have hblock := congrFun (congrArg Kept.fcWord h) o
  simpa only [Dev.kept, Dev.block, if_pos (And.intro hlo hhi)] using hblock

theorem Dev.fs_of_kept (h : e.kept w = d.kept w) : e.fs = d.fs := congrArg Kept.fs h
theorem Dev.tbl_of_kept (h : e.kept true = d.kept true) : e.tbl = d.tbl := congrArg Kept.tbl h
theorem Dev.snap_of_kept (h : e.kept w = d.kept w) (b k : Nat) : e.snap b k = d.snap b k := by
  have hsnaps : e.snaps = d.snaps := congrArg Kept.snaps h
  unfold Dev.snap; rw [hsnaps]
theorem Dev.core_of_kept (h : e.kept w = d.kept w) (b : Nat) : (e.bay b).core = (d.bay b).core := congrFun (congrArg Kept.core h) b
theorem Dev.host_of_kept (h : e.kept w = d.kept w) (b : Nat) : (e.kset b).host = (d.kset b).host := congrFun (congrArg Kept.host h) b
theorem Dev.pend_of_kept (h : e.kept w = d.kept w) (b : Nat) : (e.kset b).pending = (d.kset b).pending := congrFun (congrArg Kept.pend h) b

/-! ## The elementary updates -/

theorem Dev.block_setWord {lo o : Nat} (x : Word) (h : o < lo ∨ lo + 0x10000 ≤ o) : (d.setWord o x).block lo = d.block lo := by
  funext p
  unfold Dev.block
  split
  · exact Dev.word_setWord_other _ x (by omega)
  · rfl

/-- A register elsewhere is written. -/
theorem Dev.kept_setWord {o : Nat} (x : Word) (h : o < 0x10000 ∨ 0x30000 ≤ o) : (d.setWord o x).kept w = d.kept w := by
  have hks := Dev.block_setWord (d := d) (lo := 0x10000) x (o := o) (by omega)
  have hfc := Dev.block_setWord (d := d) (lo := 0x20000) x (o := o) (by omega)
  unfold Dev.kept; rw [hks, hfc]; rfl

theorem RegName.le_off {r : RegName} {lo : Nat} (h : Nat.ble lo r.info.base = true) (i j : Nat) : lo ≤ r.off i j := by
  have hbase := Nat.le_of_ble_eq_true h
  unfold RegName.off; omega

@[simp] theorem Dev.kept_setFld {x : Fld} (h : Nat.ble 0x30000 x.reg.info.base = true) (i j v : Nat) : (d.setFld x i j v).kept w = d.kept w :=
  Dev.kept_setWord _ (.inr (RegName.le_off h i j))
@[simp] theorem Dev.kept_setOn {x : Fld} (h : Nat.ble 0x30000 x.reg.info.base = true) (i j : Nat) (b : Bool) :
    (d.setOn x i j b).kept w = d.kept w := Dev.kept_setFld h i j _
@[simp] theorem Dev.kept_bump {x : Fld} (h : Nat.ble 0x30000 x.reg.info.base = true) (i j n : Nat) : (d.bump x i j n).kept w = d.kept w :=
  Dev.kept_setFld h i j _
@[simp] theorem Dev.kept_setFbit {x : Fld} (h : Nat.ble 0x30000 x.reg.info.base = true) (i j n : Nat) (b : Bool) :
    (d.setFbit x i j n b).kept w = d.kept w := Dev.kept_setFld h i j _

theorem Dev.kept_setBay {b : Nat} {x : Bay} (h : x.core = (d.bay b).core) : (d.setBay b x).kept w = d.kept w := by
  have hcore : (fun c => ((d.setBay b x).bay c).core) = fun c => (d.bay c).core := by
    funext c
    by_cases hc : c = b
    · rw [hc, Dev.bay_setBay, h]
    · rw [Dev.bay_setBay_other d x hc]
  exact congrArg (fun f => { d.kept w with core := f }) hcore

/-- A pacer keeps its triggers. -/
theorem Dev.kept_setPc {b : Nat} {x : Pacer} (h : x.trigs = (d.pc b).trigs) : (d.setPc b x).kept w = d.kept w :=
  Dev.kept_setBay (congrArg (fun l => { d.bay b with pc := { trigs := l } }) h)

/-- A slot of the Keystone keeps its host commit. -/
theorem Dev.kept_setKset {b : Nat} {x : Ks} (h : x.host = (d.kset b).host) (h' : x.pending = (d.kset b).pending) :
    (d.setKset b x).kept w = d.kept w := by
  have hks (c : Nat) : ((d.setKset b x).kset c).host = (d.kset c).host ∧ ((d.setKset b x).kset c).pending = (d.kset c).pending := by
    by_cases hc : c = b
    · subst hc; rw [Dev.kset_setKset]; exact ⟨h, h'⟩
    · rw [Dev.kset_setKset_other d x hc]; exact ⟨rfl, rfl⟩
  exact congrArg₂ (fun f g => { d.kept w with host := f, pend := g }) (funext fun c => (hks c).1) (funext fun c => (hks c).2)

@[simp] theorem Dev.kept_setSeat (n : Nat) (x : Seat) : (d.setSeat n x).kept w = d.kept w := rfl
@[simp] theorem Dev.kept_setItk (n : Nat) (x : Intake) : (d.setItk n x).kept w = d.kept w := rfl
@[simp] theorem Dev.kept_setEngine (n : Nat) (x : Engine) : (d.setEngine n x).kept w = d.kept w := rfl
@[simp] theorem Dev.kept_setPsc (n : Nat) (x : PsChan) : (d.setPsc n x).kept w = d.kept w := rfl
@[simp] theorem Dev.kept_setCp (n : Nat) (x : CpEngine) : (d.setCp n x).kept w = d.kept w := rfl
@[simp] theorem Dev.kept_setHp (n : Nat) (x : HPort) : (d.setHp n x).kept w = d.kept w := rfl
@[simp] theorem Dev.kept_setSn (n : Nat) (x : Snd) : (d.setSn n x).kept w = d.kept w := rfl
@[simp] theorem Dev.kept_setCam (n : Nat) (x : Cam) : (d.setCam n x).kept w = d.kept w := rfl
@[simp] theorem Dev.kept_setThro (n : Nat) (x : Throttle) : (d.setThro n x).kept w = d.kept w := rfl
@[simp] theorem Dev.kept_setWake (n : Nat) (t : Option Nat) : (d.setWake n t).kept w = d.kept w := rfl
@[simp] theorem Dev.kept_emit (o : Out) : (d.emit o).kept w = d.kept w := rfl
@[simp] theorem Dev.kept_signal (source unit : Nat) : (d.signal source unit).kept w = d.kept w := rfl
@[simp] theorem Dev.kept_signalBay (source unit : Nat) (b : Fin 4) : (d.signalBay source unit b).kept w = d.kept w := rfl
@[simp] theorem Dev.kept_setIsland (i : Nat) (b : Bool) : (d.setIsland i b).kept w = d.kept w := Dev.kept_setWord _ (.inl (by decide))

@[simp] theorem Dev.kept_wear (x : Wear) : ({ d with wear := x } : Dev).kept w = d.kept w := rfl
@[simp] theorem Dev.kept_regTgt (x : Store (Option Nat)) : ({ d with regTgt := x } : Dev).kept w = d.kept w := rfl
@[simp] theorem Dev.kept_osRun (x : Store Bool) : ({ d with osRun := x } : Dev).kept w = d.kept w := rfl

/-! ## Loops -/

theorem Dev.kept_foldl {α : Type} {f : Dev → α → Dev} (h : ∀ d x, (f d x).kept w = d.kept w) (l : List α) (d : Dev) :
    (l.foldl f d).kept w = d.kept w := by
  induction l generalizing d with
  | nil => rfl
  | cons x r ih => exact (ih _).trans (h d x)

theorem Dev.kept_forN {f : Nat → Dev → Dev} (h : ∀ k d, (f k d).kept w = d.kept w) (n : Nat) (d : Dev) :
    (forN n f d).kept w = d.kept w := by
  induction n with
  | zero => rfl
  | succ n ih => rw [forN_succ]; exact (h _ _).trans ih

/-! ## Reports -/

theorem reports_high {o : Nat} (h : o ∈ reports) : 0x30000 ≤ o := by
  simp only [reports, RegName.off, RegName.info, List.mem_cons, List.not_mem_nil, or_false] at h
  omega

theorem Dev.Reported.kept (h : d.Reported e) : e.kept w = d.kept w := by
  obtain ⟨hquiet, hword⟩ := h
  have hblock (lo : Nat) (hlo : lo + 0x10000 ≤ 0x30000) : e.block lo = d.block lo := by
    funext o
    unfold Dev.block
    split
    · exact hword o fun hr => absurd (reports_high hr) (by omega)
    · rfl
  calc e.kept w = { e.quiet.kept w with ksWord := e.block 0x10000, fcWord := e.block 0x20000 } := rfl
    _ = { d.quiet.kept w with ksWord := d.block 0x10000, fcWord := d.block 0x20000 } := by
      rw [hquiet, hblock 0x10000 (by decide), hblock 0x20000 (by decide)]
    _ = d.kept w := rfl

@[simp] theorem Dev.kept_bayEvent (b q code unit d0 d1 : Nat) : (d.bayEvent b q code unit d0 d1).kept w = d.kept w :=
  (d.reported_bayEvent b q code unit d0 d1).kept
@[simp] theorem Dev.kept_devEvent (s q code unit d0 d1 : Nat) : (d.devEvent s q code unit d0 d1).kept w = d.kept w :=
  (d.reported_devEvent s q code unit d0 d1).kept
@[simp] theorem Dev.kept_unitEvent (b : Option Nat) (q code unit d0 d1 : Nat) : (d.unitEvent b q code unit d0 d1).kept w = d.kept w :=
  (d.reported_unitEvent b q code unit d0 d1).kept

end Sys2Proof.Machine
end

section
/-! PROOFS. What the operations of the units keep: head power, islands, diffusion buffers, channels, seats, learning and jobs. -/

namespace Sys2Proof.Machine

variable {d : Dev} {w : Bool}

@[simp] theorem Dev.kept_ite {c : Prop} [Decidable c] (a b : Dev) : (if c then a else b).kept w = if c then a.kept w else b.kept w :=
  apply_ite (fun d => Dev.kept d w) c a b

@[simp] theorem Dev.kept_restNow (xx : Nat) : (d.restNow xx).kept w = d.kept w := by
  unfold Dev.restNow; simp

@[simp] theorem Dev.kept_soundFailed (xx : Nat) (p : LatchP) : (d.soundFailed xx p).kept w = d.kept w := by
  unfold Dev.soundFailed
  split
  · simp (disch := decide)
  · rfl

@[simp] theorem Dev.kept_blank (xx : Nat) : (d.blank xx).kept w = d.kept w := Dev.kept_bump (by decide) _ _ _

@[simp] theorem Dev.kept_stopLatches (xx : Nat) (all : Bool) : (d.stopLatches xx all).kept w = d.kept w := by
  unfold Dev.stopLatches
  rw [Dev.kept_setHp]
  refine Dev.kept_foldl (fun d j => ?_) _ d
  split
  · simp
  · rfl

@[simp] theorem Dev.kept_edClear (xx : Nat) : (d.edClear xx).kept w = d.kept w := (Dev.kept_bump (by decide) _ _ _).trans (Dev.kept_setEngine _ _)

@[simp] theorem Dev.kept_pinOut (p : Nat) (level : Option Bool) : (d.pinOut p level).kept w = d.kept w := by
  unfold Dev.pinOut; simp

@[simp] theorem Dev.kept_psPin (n : Nat) : (d.psPin n).kept w = d.kept w := by
  unfold Dev.psPin; simp

@[simp] theorem Dev.kept_noSource (before : Dev) (b : Nat) : (d.noSource before b).kept w = d.kept w := by
  unfold Dev.noSource; simp (disch := decide)

@[simp] theorem Dev.kept_feedReset (xx : Nat) : (d.feedReset xx).kept w = d.kept w := rfl

@[simp] theorem Dev.kept_seatReset (s : Nat) : (d.seatReset s).kept w = d.kept w := by
  unfold Dev.seatReset
  rw [Dev.kept_setSeat, Dev.kept_foldl (fun d xx => by simp (disch := decide)), Dev.kept_forN (fun q d => by simp (disch := decide))]

@[simp] theorem Dev.kept_registerStop (b source : Nat) : (d.registerStop b source).kept w = d.kept w := by
  unfold Dev.registerStop; dsimp only
  split
  · rfl
  · exact Dev.kept_setPc rfl

@[simp] theorem Dev.kept_hostStop (s : Nat) : (d.hostStop s).kept w = d.kept w := by
  unfold Dev.hostStop; simp

@[simp] theorem Dev.kept_restartStalls (before : Dev) : (d.restartStalls before).kept w = d.kept w :=
  Dev.kept_forN (fun n d => by simp) 8 d

@[simp] theorem Dev.kept_learnEnd (xx : Nat) (aborted : Bool) : (d.learnEnd xx aborted).kept w = d.kept w := by
  unfold Dev.learnEnd; dsimp only
  split
  · rfl
  · simp (disch := decide)

@[simp] theorem Dev.kept_camEvent (n q code d0 d1 : Nat) : (d.camEvent n q code d0 d1).kept w = d.kept w := Dev.kept_unitEvent _ _ _ _ _ _

@[simp] theorem Dev.kept_ncEnd (n k reason missing : Nat) : (d.ncEnd n k reason missing).kept w = d.kept w := by
  unfold Dev.ncEnd; simp (disch := decide)

@[simp] theorem Dev.kept_ncModeEnd (b : Nat) : (d.ncModeEnd b).kept w = d.kept w := by
  unfold Dev.ncModeEnd
  rw [Dev.kept_ite, Dev.kept_forN fun n d => ?_, ite_self]
  rw [Dev.kept_ite, Dev.kept_forN fun k d => by simp, ite_self]

@[simp] theorem Dev.kept_followIsland (i : Nat) : (d.followIsland i).kept w = d.kept w := by
  unfold Dev.followIsland; simp

@[simp] theorem Dev.kept_powerEvent (xx level cause : Nat) : (d.powerEvent xx level cause).kept w = d.kept w := Dev.kept_unitEvent _ _ _ _ _ _

@[simp] theorem Dev.kept_penRise (xx cause : Nat) : (d.penRise xx cause).kept w = d.kept w := by
  unfold Dev.penRise
  rw [Dev.kept_powerEvent, Dev.kept_wear, Dev.kept_setHp, Dev.kept_followIsland, Dev.kept_setOn (by decide)]

@[simp] theorem Dev.kept_penFall (xx cause : Nat) : (d.penFall xx cause).kept w = d.kept w := by
  unfold Dev.penFall; simp

@[simp] theorem Dev.kept_followPower (xx cause : Nat) : (d.followPower xx cause).kept w = d.kept w := by
  unfold Dev.followPower; simp

@[simp] theorem Dev.kept_followIslands : d.followIslands.kept w = d.kept w := Dev.kept_forN (fun i d => by simp) 13 d

@[simp] theorem Dev.kept_updateSource (b base : Nat) (quiet : Bool) : (d.updateSource b base quiet).kept w = d.kept w := by
  unfold Dev.updateSource; dsimp only
  split
  · rfl
  · rw [Dev.kept_ite, Dev.kept_bayEvent, ite_self, Dev.kept_restartStalls, Dev.kept_setPc]
    rfl

@[simp] theorem Dev.kept_requestInternal (b : Nat) (r : IntReq) : (d.requestInternal b r).kept w = d.kept w := Dev.kept_setKset rfl rfl

@[simp] theorem Dev.kept_fcEval (b : Nat) : (d.fcEval b).kept w = d.kept w := by
  unfold Dev.fcEval; simp

@[simp] theorem Dev.kept_recEvent (k code unit d0 d1 : Nat) : (d.recEvent k code unit d0 d1).kept w = d.kept w := by
  unfold Dev.recEvent
  rw [Dev.kept_ite, Dev.kept_bayEvent, Dev.kept_foldl fun d s => by simp, ite_self]

@[simp] theorem Dev.kept_dropDecision (xx : Nat) : (d.dropDecision xx).kept w = d.kept w := by
  unfold Dev.dropDecision; simp

@[simp] theorem Dev.kept_dropJob (xx n t : Nat) : (d.dropJob xx n t).kept w = d.kept w := rfl

/-- A unit that enters its fenced behaviour changes its fence bit alone. -/
theorem Dev.kept_fenceUnit (u : FUnit) : (d.fenceUnit u).kept w = (d.setFence u true).kept w := by
  unfold Dev.fenceUnit
  cases u with
  | ps n => simp [Dev.kept_forN fun b d => Dev.kept_noSource (d := d) _ b]
  | _ => simp

end Sys2Proof.Machine
end

section
/-! PROOFS. The fault collector (R291 to R298): the Spall word, the first capture, the record that opens or grows, and its reactions. -/

namespace Sys2Proof.Machine

variable {d e : Dev} {w : Bool}

/-! ## Halts leave the collector alone -/

/-- What is kept, without the registers of the Keystone and the bays. -/
def Kept.bare (k : Kept) : Kept := { k with ksWord := fun _ => 0, core := fun _ => {} }

theorem Dev.kept_setBay_core {b : Nat} {x : Bay} :
    (d.setBay b x).kept w = { d.kept w with core := Function.update (d.kept w).core b x.core } := by
  have hcore : (fun c => ((d.setBay b x).bay c).core) = Function.update (fun c => (d.bay c).core) b x.core := by
    funext c
    by_cases hc : c = b
    · rw [hc, Dev.bay_setBay, Function.update_self]
    · rw [Dev.bay_setBay_other d x hc, Function.update_of_ne hc]
  exact congrArg (fun f => { d.kept w with core := f }) hcore

theorem Pacer.rebase_trigs (x : Pacer) : x.rebase.trigs = x.trigs := rfl

/-- A change of mode changes the mode. -/
theorem Dev.kept_modeChange (b : Nat) (m : Mode) : (d.modeChange b m).kept w = (d.setBay b { d.bay b with mode := m }).kept w := by
  unfold Dev.modeChange; dsimp only
  split
  case isTrue h => subst h; exact (Dev.kept_setBay rfl).symm
  case isFalse h =>
    rw [Dev.kept_followIslands, Dev.kept_foldl fun d xx => by simp, Dev.kept_ncModeEnd, Dev.kept_ite, Dev.kept_foldl fun d xx => by simp,
      ite_self, Dev.kept_restartStalls, Dev.kept_wear, Dev.kept_ite, Dev.kept_setPc (Pacer.rebase_trigs _), ite_self, Dev.kept_bayEvent]

theorem Dev.bare_setBay {b : Nat} {x : Bay} : ((d.setBay b x).kept w).bare = (d.kept w).bare := by
  rw [Dev.kept_setBay_core]; rfl

theorem Dev.bare_holdRequested {b : Nat} (hb : b < 4) : ((d.holdRequested b).kept w).bare = (d.kept w).bare := by
  have hoff : RegName.off .KS_BAYCTL b 0 < 0x20000 := by simp only [RegName.off, RegName.info]; omega
  have hfc : (d.holdRequested b).block 0x20000 = d.block 0x20000 := Dev.block_setWord _ (.inl hoff)
  exact congrArg (fun f => { (d.kept w).bare with fcWord := f }) hfc

theorem Dev.bare_holdNow {b : Nat} (hb : b < 4) : ((d.holdNow b).kept w).bare = (d.kept w).bare := by
  unfold Dev.holdNow
  split
  · rfl
  · rfl
  · rw [Dev.kept_noSource, Dev.kept_updateSource, Dev.bare_setBay, Dev.kept_modeChange, Dev.bare_setBay, Dev.bare_holdRequested hb]

theorem Dev.lt_of_present {b : Nat} (h : d.present b = true) : b < 4 := by
  unfold Dev.present at h
  simp only [Bool.and_eq_true, decide_eq_true_eq] at h
  exact h.1

theorem Dev.bare_haltBay (b : Nat) : ((d.haltBay b).kept w).bare = (d.kept w).bare := by
  unfold Dev.haltBay
  split
  case isTrue => rfl
  case isFalse h =>
    have hb : b < 4 := by
      simp only [Bool.or_eq_true, Bool.not_eq_true', not_or, Bool.not_eq_false] at h
      exact Dev.lt_of_present h.2
    split
    · exact Dev.bare_holdNow hb
    · rw [Dev.kept_registerStop]

theorem Dev.bare_halts (l : List Nat) (d : Dev) : ((l.foldl (fun d b => d.haltBay b) d).kept w).bare = (d.kept w).bare := by
  induction l generalizing d with
  | nil => rfl
  | cons b r ih => exact (ih _).trans (Dev.bare_haltBay b)

/-! ## The record -/

/-- State, class and reactions of record k are written (R296, R297). -/
def Dev.recStated (d : Dev) (k st cls react : Nat) : Dev :=
  ((d.setFld .FC_REC_STATE k 0 st).setFld .FC_REC_CLASS k 0 cls).setFld .FC_REC_REACT k 0 react

/-- Its source bit sets and the error counts, from nothing where the record opens. -/
def Dev.recSourced (d : Dev) (k source : Nat) (opened : Bool) : Dev :=
  let d := if opened then ((d.setFld .FC_RSRCLO_SRC k 0 0).setFld .FC_RSRCHI_SRC k 0 0).setFld .FC_RCNT_MERGED k 0 0 else d
  let d := if source < 32 then d.setFbit .FC_RSRCLO_SRC k 0 source true else d.setFbit .FC_RSRCHI_SRC k 0 (source - 32) true
  d.bump .FC_RCNT_MERGED k 0

/-- Its units and its timer then. -/
def Dev.recTimed (d : Dev) (k : Nat) (opened timer : Bool) : Dev :=
  let d := if opened then (d.setRecUnits k []).setRecFail k [] else d
  if timer then d.quietStart k else d

/-- The unit that its reaction fences. -/
def Dev.recFenced (d : Dev) (k : Nat) (u : Option FUnit) : Dev :=
  match u with
  | some u => if (d.recUnits k).contains u then d else (d.setRecUnits k (d.recUnits k ++ [u])).fenceUnit u
  | none => d

/-- The halts and requests of the reactions it gains. -/
def Dev.recReacts (d : Dev) (k base react : Nat) : Dev :=
  let d := if gains base react 3 then d.presentBays.foldl (fun d b => d.haltBay b) d
    else if gains base react 2 then (d.recBays k).foldl (fun d b => d.haltBay b) d
    else d
  (d.recBays k).foldl (fun d b => d.fcEval b) d

theorem Dev.bare_recReacts (k base react : Nat) : ((d.recReacts k base react).kept w).bare = (d.kept w).bare := by
  unfold Dev.recReacts
  rw [Dev.kept_foldl fun d b => Dev.kept_fcEval b]
  split
  · exact Dev.bare_halts _ d
  · split
    · exact Dev.bare_halts _ d
    · rfl

/-- The class, the reactions and the state of a record in state `st` that an error of class `cls` and reactions `react` opens or joins. -/
def recClass (st old cls : Nat) : Nat := if st == 0 then cls else max old cls
def recReact (st old react : Nat) : Nat := if st == 0 then react else reactUnion old react
def recState (st old cls : Nat) : Nat :=
  if recClass st old cls = 3 then (if st = 2 || st == 0 || old < 3 then 2 else st) else if st == 0 then 1 else st

/-- The registers of the record once the error has opened or joined it. -/
def Dev.recMet (d : Dev) (k : Nat) (s : FaultSig) : Dev :=
  let st := d.fld .FC_REC_STATE k
  let cls := d.fld .FC_SRC_CLASS s.source
  (d.recStated k (recState st (d.fld .FC_REC_CLASS k) cls) (recClass st (d.fld .FC_REC_CLASS k) cls)
    (recReact st (d.fld .FC_REC_REACT k) (d.fld .FC_SRC_REACT s.source))).recSourced k s.source (st == 0)

/-- The record before its reactions take effect. -/
def Dev.recGrown (d : Dev) (k : Nat) (s : FaultSig) : Dev :=
  let st := d.fld .FC_REC_STATE k
  let react := d.fld .FC_SRC_REACT s.source
  ((d.recMet k s).recTimed k (st == 0) (recState st (d.fld .FC_REC_CLASS k) (d.fld .FC_SRC_CLASS s.source) = 1 || st == 0)).recFenced k
    (if react % 2 = 1 then unitOf s.source s.unit else none)

/-- Whether the error opens the record, or raises its class, or adds reactions (R305). -/
def Dev.recGrows (d : Dev) (k : Nat) (s : FaultSig) : Bool :=
  let st := d.fld .FC_REC_STATE k
  let old := d.fld .FC_REC_CLASS k
  st == 0 || old < recClass st old (d.fld .FC_SRC_CLASS s.source) ||
    recReact st (d.fld .FC_REC_REACT k) (d.fld .FC_SRC_REACT s.source) != d.fld .FC_REC_REACT k

theorem Dev.merge_eq (s : FaultSig) : ∃ base react w0 w1, d.merge s = if d.recGrows ((d.sigBay s).getD 4) s then
    ((d.recGrown ((d.sigBay s).getD 4) s).recReacts ((d.sigBay s).getD 4) base react).recEvent ((d.sigBay s).getD 4) 0x1200 s.unit w0 w1
    else (d.recGrown ((d.sigBay s).getD 4) s).recReacts ((d.sigBay s).getD 4) base react :=
  ⟨_, _, _, _, rfl⟩

/-! ## Bits -/

/-- A bit that is set reads 1. -/
theorem Dev.fbit_setFbit_true {x : Fld} {i j n : Nat} (h : x.lo + x.width ≤ 32) (hn : n < x.width) :
    (d.setFbit x i j n true).fbit x i j n = true := by
  have hval : (d.fld x i j - d.fld x i j / 2 ^ n % 2 * 2 ^ n + 2 ^ n) / 2 ^ n % 2 = 1 := by
    rw [Nat.add_div_right _ (Nat.two_pow_pos n), Nat.mul_comm _ (2 ^ n), Nat.sub_mul_div]
    omega
  have hbit := Nat.testBit_mod_two_pow (d.fld x i j - d.fld x i j / 2 ^ n % 2 * 2 ^ n + 2 ^ n) x.width n
  rw [Nat.testBit_eq_decide_div_mod_eq, Nat.testBit_eq_decide_div_mod_eq, hval] at hbit
  unfold Dev.fbit Dev.setFbit
  rw [Dev.fld_setFld d x i j _ h]
  simpa [hn] using hbit

/-- In a field of zeroes it reads alone. -/
theorem Dev.fld_setFbit_of_zero {x : Fld} {i j n : Nat} (h : x.lo + x.width ≤ 32) (hn : n < x.width) (hzero : d.fld x i j = 0) :
    (d.setFbit x i j n true).fld x i j = 2 ^ n := by
  unfold Dev.setFbit
  rw [Dev.fld_setFld d x i j _ h, hzero]
  simpa using Nat.mod_eq_of_lt (Nat.pow_lt_pow_right (by decide) hn)

end Sys2Proof.Machine
end

section
/-! PROOFS. An error signal at the collector (R293 to R298). -/

namespace Sys2Proof.Machine

variable {d e f : Dev} {offs : List Nat}

/-! ## Writes of the collector's registers -/

theorem fc_not_report {o : Nat} (h : o < 0x30000) : o ∉ reports := fun hr => absurd (reports_high hr) (by omega)

/-- Registers of a list may change, and the nERR pulse. -/
structure Dev.Collects (offs : List Nat) (d e : Dev) : Prop where
  words : ∀ o, o ∉ offs → e.word o = d.word o
  rest : ∃ regs pulse, e = { d with regs := regs, fc := { d.fc with pulseEnd := pulse } }

theorem Dev.Collects.refl (offs : List Nat) (d : Dev) : Dev.Collects offs d d := ⟨fun _ _ => rfl, _, _, rfl⟩

theorem Dev.Collects.trans {offs' : List Nat} (h : Dev.Collects offs d e) (k : Dev.Collects offs' e f) : Dev.Collects (offs ++ offs') d f where
  words o ho := by
    rw [List.mem_append, not_or] at ho
    exact (k.words o ho.2).trans (h.words o ho.1)
  rest := by
    obtain ⟨regs, pulse, rfl⟩ := h.rest
    obtain ⟨regs', pulse', hf⟩ := k.rest
    exact ⟨regs', pulse', hf⟩

theorem Dev.Collects.mono {offs' : List Nat} (h : Dev.Collects offs d e) (hsub : ∀ o ∈ offs, o ∈ offs') : Dev.Collects offs' d e :=
  ⟨fun o ho => h.words o fun hm => ho (hsub o hm), h.rest⟩

theorem Dev.collects_setFld (d : Dev) (x : Fld) (i j v : Nat) (h : x.reg.off i j ∈ offs) : Dev.Collects offs d (d.setFld x i j v) :=
  ⟨fun _ ho => d.word_setFld_other x i j v fun heq => ho (heq ▸ h), _, _, rfl⟩

/-- Two such changes of the same registers, one after the other. -/
theorem Dev.Collects.and (h : Dev.Collects offs d e) (k : Dev.Collects offs e f) : Dev.Collects offs d f :=
  (h.trans k).mono fun o ho => by simpa using ho

section
variable (h : Dev.Collects offs d e)
include h

theorem Dev.Collects.fld (x : Fld) (i j : Nat) (ho : x.reg.off i j ∉ offs) : e.fld x i j = d.fld x i j := Dev.fld_of_word (h.words _ ho)
theorem Dev.Collects.on (x : Fld) (i j : Nat) (ho : x.reg.off i j ∉ offs) : e.on x i j = d.on x i j := Dev.on_of_word (h.words _ ho)
theorem Dev.Collects.now : e.now = d.now := by obtain ⟨_, _, rfl⟩ := h.rest; rfl
theorem Dev.Collects.tbl : e.tbl = d.tbl := by obtain ⟨_, _, rfl⟩ := h.rest; rfl
theorem Dev.Collects.fs : e.fs = d.fs := by obtain ⟨_, _, rfl⟩ := h.rest; rfl
theorem Dev.Collects.recUnits (k : Nat) : e.recUnits k = d.recUnits k := by obtain ⟨_, _, rfl⟩ := h.rest; rfl
theorem Dev.Collects.bay (b : Nat) : e.bay b = d.bay b := by obtain ⟨_, _, rfl⟩ := h.rest; rfl
theorem Dev.Collects.sameAssign (habove : ∀ o ∈ offs, 0xA0 ≤ o) : d.SameAssign e := fun o ho => h.words o fun hm => absurd (habove o hm) (by omega)

end

/-- Where the registers that assign resources stand, an error has the same bay. -/
theorem Dev.SameAssign.sigBay (h : d.SameAssign e) (s : FaultSig) : e.sigBay s = d.sigBay s := by
  have hpresent := h.present s.unit
  simp only [Dev.sigBay, Dev.unitBay, h.psBay, h.portBay, h.camBay, hpresent]

/-! ## The Spall bit and the count -/

theorem knownSource_le {i : Nat} (h : knownSource i = true) : i ≤ 60 := by
  simp only [knownSource, Bool.or_eq_true, Bool.and_eq_true, decide_eq_true_eq, beq_iff_eq] at h
  omega

/-- The bit of the source sets, and its error counts (R293). -/
def Dev.latched (d : Dev) (i : Nat) : Dev := (d.setSpall i).bump .FC_SRC_CNT i 0

def spallRegs (i : Nat) : List Nat := [RegName.off .FC_SPALLLO 0 0, RegName.off .FC_SPALLHI 0 0, RegName.off .FC_SRC i 0]

theorem Dev.latched_collects (i : Nat) : Dev.Collects (spallRegs i) d (d.latched i) := by
  refine Dev.Collects.and (e := d.setSpall i) ?_ (Dev.collects_setFld _ .FC_SRC_CNT i 0 _ (by simp [spallRegs]))
  unfold Dev.setSpall
  split
  · exact Dev.collects_setFld _ .FC_SPALLLO_SPALL 0 0 _ (by simp [spallRegs])
  · exact Dev.collects_setFld _ .FC_SPALLHI_SPALL 0 0 _ (by simp [spallRegs])

theorem Dev.spall_of_words {i : Nat} (hlo : e.word (RegName.off .FC_SPALLLO 0 0) = d.word (RegName.off .FC_SPALLLO 0 0))
    (hhi : e.word (RegName.off .FC_SPALLHI 0 0) = d.word (RegName.off .FC_SPALLHI 0 0)) : e.spall i = d.spall i := by
  unfold Dev.spall Dev.fbit
  rw [Dev.fld_of_word (x := .FC_SPALLLO_SPALL) hlo, Dev.fld_of_word (x := .FC_SPALLHI_SPALL) hhi]

theorem Dev.spall_setSpall {i : Nat} (hi : i ≤ 60) : (d.setSpall i).spall i = true := by
  unfold Dev.spall Dev.setSpall
  split
  · exact Dev.fbit_setFbit_true (by decide) (by assumption)
  · exact Dev.fbit_setFbit_true (by decide) (show i - 32 < 32 by omega)

theorem Dev.latched_spall {i : Nat} (hi : i ≤ 60) : (d.latched i).spall i = true := by
  have hother (o : Nat) (ho : o ≠ RegName.off .FC_SRC i 0) : (d.latched i).word o = (d.setSpall i).word o := Dev.word_setFld_other _ .FC_SRC_CNT i 0 _ ho
  rw [Dev.spall_of_words (hother _ ?_) (hother _ ?_), Dev.spall_setSpall hi]
  · simp only [RegName.off, RegName.info]; omega
  · simp only [RegName.off, RegName.info]; omega

theorem Dev.setSpall_src (i : Nat) : (d.setSpall i).word (RegName.off .FC_SRC i 0) = d.word (RegName.off .FC_SRC i 0) := by
  unfold Dev.setSpall
  split
  · exact Dev.word_setFld_other _ .FC_SPALLLO_SPALL 0 0 _ (by simp only [RegName.off, RegName.info]; omega)
  · exact Dev.word_setFld_other _ .FC_SPALLHI_SPALL 0 0 _ (by simp only [RegName.off, RegName.info]; omega)

theorem Dev.latched_count (i : Nat) : (d.latched i).fld .FC_SRC_CNT i = min (d.fld .FC_SRC_CNT i + 1) 65535 := by
  unfold Dev.latched
  rw [Dev.fld_bump _ .FC_SRC_CNT i 0 1 (by decide), Dev.fld_of_word (x := .FC_SRC_CNT) (Dev.setSpall_src i)]
  rfl

/-- The configuration of the source stands beside its count. -/
theorem Dev.latched_config {x : Fld} (i : Nat) (hreg : x.reg = .FC_SRC) (hwidth : x.lo + x.width ≤ 16) : (d.latched i).fld x i = d.fld x i := by
  unfold Dev.latched Dev.bump
  rw [Dev.fld_setFld_beside _ .FC_SRC_CNT x i 0 _ hreg (by decide) (by omega) (.inr hwidth)]
  exact Dev.fld_of_word (by rw [hreg]; exact Dev.setSpall_src i)

/-! ## The first capture and nERR -/

def captureRegs : List Nat :=
  [RegName.off .FC_FIRST 0 0, RegName.off .FC_FTBLO 0 0, RegName.off .FC_FTBHI 0 0, RegName.off .FC_FCCLO 0 0, RegName.off .FC_FCCHI 0 0,
   RegName.off .FC_NERR 0 0]

theorem Dev.capture_collects (s : FaultSig) : Dev.Collects captureRegs d (d.capture s) := by
  have hset (d : Dev) (x : Fld) (v : Nat) (h : x.reg.off 0 0 ∈ captureRegs) := Dev.collects_setFld (offs := captureRegs) d x 0 0 v h
  unfold Dev.capture
  split
  · exact hset _ .FC_FIRST_OVF _ (by decide)
  · dsimp only
    exact ((((((((((hset _ .FC_FIRST_SRC _ (by decide)).and (hset _ .FC_FIRST_VALID _ (by decide))).and (hset _ .FC_FIRST_UNIT _ (by decide))).and
      (hset _ .FC_FIRST_BAY _ (by decide))).and (hset _ .FC_FIRST_FORCED _ (by decide))).and (hset _ .FC_FTBLO_TB _ (by decide))).and
      (hset _ .FC_FTBHI_TB _ (by decide))).and (hset _ .FC_FCCLO_CC _ (by decide))).and (hset _ .FC_FCCHI_CC _ (by decide))).and
      (hset _ .FC_FCCHI_NOCC _ (by decide)))

theorem Dev.nerrPulse_collects (d : Dev) : Dev.Collects captureRegs d d.nerrPulse := by
  have hset (d : Dev) (x : Fld) (v : Nat) (h : x.reg.off 0 0 ∈ captureRegs) := Dev.collects_setFld (offs := captureRegs) d x 0 0 v h
  have hpulse (t : Option Nat) : Dev.Collects captureRegs d { d with fc := { d.fc with pulseEnd := t } } := ⟨fun _ _ => rfl, _, _, rfl⟩
  unfold Dev.nerrPulse; dsimp only
  split
  · exact ((hpulse _).and (hset _ .FC_NERR_PULSE _ (by decide))).and (hset _ .FC_NERR_HOLD _ (by decide))
  · exact (hpulse _).and (hset _ .FC_NERR_PULSE _ (by decide))

/-- An enabled error is captured, and qualifies for nERR. -/
def Dev.caught (d : Dev) (s : FaultSig) : Dev := let d := d.capture s; if d.on .FC_SRC_NERR s.source then d.nerrPulse else d

theorem Dev.caught_collects (s : FaultSig) : Dev.Collects captureRegs d (d.caught s) := by
  unfold Dev.caught; dsimp only
  split
  · exact (Dev.capture_collects s).and (Dev.nerrPulse_collects _)
  · exact Dev.capture_collects s

theorem Dev.caught_word (s : FaultSig) {o : Nat} (h : o ≠ RegName.off .FC_NERR 0 0) : (d.caught s).word o = (d.capture s).word o := by
  unfold Dev.caught; dsimp only
  split
  · unfold Dev.nerrPulse; dsimp only
    split
    · exact (Dev.word_setOn_other _ .FC_NERR_HOLD 0 0 true h).trans (Dev.word_setOn_other _ .FC_NERR_PULSE 0 0 true h)
    · exact Dev.word_setOn_other _ .FC_NERR_PULSE 0 0 true h
  · rfl

/-- The first error is captured with its source, unit and stamp (R293). -/
theorem Dev.capture_first {s : FaultSig} (h : d.on .FC_FIRST_VALID = false) (hsource : s.source ≤ 60) :
    (d.capture s).on .FC_FIRST_VALID = true ∧ (d.capture s).fld .FC_FIRST_SRC = s.source ∧
    (d.capture s).pair .FC_FTBLO_TB .FC_FTBHI_TB = s.stamp % 2 ^ 64 ∧ (d.capture s).fld .FC_FIRST_UNIT = s.unit % 256 := by
  unfold Dev.capture
  rw [if_neg (by simp [h])]
  refine ⟨?_, ?_, ?_, ?_⟩
  · simp (disch := decide) [Dev.setPair, Dev.setOn, Dev.on, Dev.fld_setFld_reg, Dev.fld_setFld_beside, Dev.fld_setFld]
  · simp (disch := decide) [Dev.setPair, Dev.setOn, Dev.fld_setFld_reg, Dev.fld_setFld_beside, Dev.fld_setFld]
    omega
  · simp (disch := decide) [Dev.pair, Dev.setPair, Dev.setOn, Dev.fld_setFld_reg, Dev.fld_setFld]
    omega
  · simp (disch := decide) [Dev.setPair, Dev.setOn, Dev.fld_setFld_reg, Dev.fld_setFld_beside, Dev.fld_setFld]

/-- A later one overflows it. -/
theorem Dev.capture_overflow (s : FaultSig) (h : d.on .FC_FIRST_VALID = true) : (d.capture s).on .FC_FIRST_OVF = true ∧
    (d.capture s).fld .FC_FIRST_SRC = d.fld .FC_FIRST_SRC ∧ (d.capture s).fld .FC_FIRST_UNIT = d.fld .FC_FIRST_UNIT := by
  unfold Dev.capture
  rw [if_pos h]
  refine ⟨?_, ?_, ?_⟩
  · simp (disch := decide) [Dev.setOn, Dev.on, Dev.fld_setFld]
  · simp (disch := decide) [Dev.setOn, Dev.fld_setFld_beside]
  · simp (disch := decide) [Dev.setOn, Dev.fld_setFld_beside]

/-! ## The registers of a record -/

def recRegs (k : Nat) : List Nat :=
  [RegName.off .FC_REC k 0, RegName.off .FC_RSRCLO k 0, RegName.off .FC_RSRCHI k 0, RegName.off .FC_RCNT k 0]

theorem Dev.recStated_collects (k st cls react : Nat) : Dev.Collects [RegName.off .FC_REC k 0] d (d.recStated k st cls react) :=
  ((Dev.collects_setFld _ .FC_REC_STATE k 0 _ List.mem_cons_self).and (Dev.collects_setFld _ .FC_REC_CLASS k 0 _ List.mem_cons_self)).and
    (Dev.collects_setFld _ .FC_REC_REACT k 0 _ List.mem_cons_self)

theorem Dev.recStated_fields {k st cls react : Nat} (hst : st < 4) (hcls : cls < 4) (hreact : react < 16) :
    (d.recStated k st cls react).fld .FC_REC_STATE k = st ∧ (d.recStated k st cls react).fld .FC_REC_CLASS k = cls ∧
    (d.recStated k st cls react).fld .FC_REC_REACT k = react := by
  unfold Dev.recStated
  refine ⟨?_, ?_, ?_⟩
  · simp (disch := decide) [Dev.fld_setFld_beside, Dev.fld_setFld]; exact hst
  · simp (disch := decide) [Dev.fld_setFld_beside, Dev.fld_setFld]; exact hcls
  · simp (disch := decide) [Dev.fld_setFld]; exact hreact

/-- The source bits and the count that a record starts from. -/
def Dev.recEmptied (d : Dev) (k : Nat) (opened : Bool) : Dev :=
  if opened then ((d.setFld .FC_RSRCLO_SRC k 0 0).setFld .FC_RSRCHI_SRC k 0 0).setFld .FC_RCNT_MERGED k 0 0 else d

/-- The source bit of an error sets. -/
def Dev.recMarked (d : Dev) (k source : Nat) : Dev :=
  if source < 32 then d.setFbit .FC_RSRCLO_SRC k 0 source true else d.setFbit .FC_RSRCHI_SRC k 0 (source - 32) true

theorem Dev.recSourced_eq (k source : Nat) (opened : Bool) :
    d.recSourced k source opened = ((d.recEmptied k opened).recMarked k source).bump .FC_RCNT_MERGED k 0 := rfl

def sourceRegs (k : Nat) : List Nat := [RegName.off .FC_RSRCLO k 0, RegName.off .FC_RSRCHI k 0, RegName.off .FC_RCNT k 0]

theorem Dev.recMarked_collects (k source : Nat) :
    Dev.Collects [RegName.off .FC_RSRCLO k 0, RegName.off .FC_RSRCHI k 0] d (d.recMarked k source) := by
  unfold Dev.recMarked
  split
  · exact Dev.collects_setFld _ .FC_RSRCLO_SRC k 0 _ (by simp)
  · exact Dev.collects_setFld _ .FC_RSRCHI_SRC k 0 _ (by simp)

theorem Dev.recEmptied_collects (k : Nat) (opened : Bool) : Dev.Collects (sourceRegs k) d (d.recEmptied k opened) := by
  unfold Dev.recEmptied
  split
  · exact ((Dev.collects_setFld _ .FC_RSRCLO_SRC k 0 _ (by simp [sourceRegs])).and
      (Dev.collects_setFld _ .FC_RSRCHI_SRC k 0 _ (by simp [sourceRegs]))).and (Dev.collects_setFld _ .FC_RCNT_MERGED k 0 _ (by simp [sourceRegs]))
  · exact .refl _ d

theorem Dev.recSourced_collects (k source : Nat) (opened : Bool) : Dev.Collects (sourceRegs k) d (d.recSourced k source opened) := by
  rw [Dev.recSourced_eq]
  exact ((Dev.recEmptied_collects k opened).and ((Dev.recMarked_collects k source).mono (by simp [sourceRegs]))).and
    (Dev.collects_setFld _ .FC_RCNT_MERGED k 0 _ (by simp [sourceRegs]))

theorem recRegs_distinct (k : Nat) : RegName.off .FC_RCNT k 0 ∉ [RegName.off .FC_RSRCLO k 0, RegName.off .FC_RSRCHI k 0] ∧
    RegName.off .FC_RSRCLO k 0 ≠ RegName.off .FC_RSRCHI k 0 ∧ RegName.off .FC_REC k 0 ∉ sourceRegs k := by
  refine ⟨?_, ?_, ?_⟩
  · simp only [List.mem_cons, List.not_mem_nil, or_false, RegName.off, RegName.info]; omega
  · simp only [RegName.off, RegName.info]; omega
  · simp only [sourceRegs, List.mem_cons, List.not_mem_nil, or_false, RegName.off, RegName.info]; omega

theorem Dev.recSourced_merged (k source : Nat) (opened : Bool) :
    (d.recSourced k source opened).fld .FC_RCNT_MERGED k = if opened then 1 else min (d.fld .FC_RCNT_MERGED k + 1) 255 := by
  rw [Dev.recSourced_eq, Dev.fld_bump _ .FC_RCNT_MERGED k 0 1 (by decide),
    (Dev.recMarked_collects k source).fld .FC_RCNT_MERGED k 0 (recRegs_distinct k).1]
  unfold Dev.recEmptied
  split
  · rw [Dev.fld_setFld _ .FC_RCNT_MERGED k 0 0 (by decide)]; rfl
  · rfl

/-- A record that opens has the bit of its source alone. -/
theorem Dev.recSourced_sources (k : Nat) {source : Nat} (hsource : source ≤ 60) :
    (d.recSourced k source true).pair .FC_RSRCLO_SRC .FC_RSRCHI_SRC k = 2 ^ source := by
  obtain ⟨hcnt, hne, -⟩ := recRegs_distinct k
  simp only [List.mem_cons, List.not_mem_nil, or_false, not_or] at hcnt
  have hlo : (d.recEmptied k true).fld .FC_RSRCLO_SRC k = 0 := by
    unfold Dev.recEmptied
    rw [if_pos rfl, Dev.fld_setFld_reg _ _ _ _ _ _ _ _ (Ne.symm hcnt.1), Dev.fld_setFld_reg _ _ _ _ _ _ _ _ hne, Dev.fld_setFld _ _ _ _ _ (by decide)]
    rfl
  have hhi : (d.recEmptied k true).fld .FC_RSRCHI_SRC k = 0 := by
    unfold Dev.recEmptied
    rw [if_pos rfl, Dev.fld_setFld_reg _ _ _ _ _ _ _ _ (Ne.symm hcnt.2), Dev.fld_setFld _ _ _ _ _ (by decide)]
    rfl
  rw [Dev.recSourced_eq]
  unfold Dev.pair Dev.bump
  rw [Dev.fld_setFld_reg _ _ _ _ _ _ _ _ (Ne.symm hcnt.1), Dev.fld_setFld_reg _ _ _ _ _ _ _ _ (Ne.symm hcnt.2)]
  unfold Dev.recMarked
  split
  case isTrue hlow =>
    rw [Dev.fld_setFbit_of_zero (by decide) hlow hlo, Dev.setFbit, Dev.fld_setFld_reg _ _ _ _ _ _ _ _ (Ne.symm hne), hhi]
    rfl
  case isFalse hhigh =>
    rw [Dev.fld_setFbit_of_zero (by decide) (show source - 32 < 32 by omega) hhi, Dev.setFbit, Dev.fld_setFld_reg _ _ _ _ _ _ _ _ hne, hlo,
      Nat.zero_add, ← Nat.pow_add]
    congr 1; omega

theorem Dev.recMet_collects (k : Nat) (s : FaultSig) : Dev.Collects (recRegs k) d (d.recMet k s) :=
  ((Dev.recStated_collects k _ _ _).trans (Dev.recSourced_collects k s.source _)).mono (by simp [recRegs, sourceRegs])

theorem recState_lt {st old cls : Nat} (hst : st < 4) : recState st old cls < 4 := by
  unfold recState
  split
  · split <;> omega
  · split <;> omega

theorem recClass_lt {st old cls : Nat} (hold : old < 4) (hcls : cls < 4) : recClass st old cls < 4 := by
  unfold recClass; split <;> omega

theorem recReact_lt {st old react : Nat} (hold : old < 16) (hreact : react < 16) : recReact st old react < 16 := by
  unfold recReact
  split
  · exact hreact
  · exact Nat.or_lt_two_pow (n := 4) hold hreact

theorem Dev.recMet_fields (k : Nat) (s : FaultSig) :
    (d.recMet k s).fld .FC_REC_STATE k = recState (d.fld .FC_REC_STATE k) (d.fld .FC_REC_CLASS k) (d.fld .FC_SRC_CLASS s.source) ∧
    (d.recMet k s).fld .FC_REC_CLASS k = recClass (d.fld .FC_REC_STATE k) (d.fld .FC_REC_CLASS k) (d.fld .FC_SRC_CLASS s.source) ∧
    (d.recMet k s).fld .FC_REC_REACT k = recReact (d.fld .FC_REC_STATE k) (d.fld .FC_REC_REACT k) (d.fld .FC_SRC_REACT s.source) := by
  have hst := d.fld_lt .FC_REC_STATE k 0
  have hold := d.fld_lt .FC_REC_CLASS k 0
  have hcls := d.fld_lt .FC_SRC_CLASS s.source 0
  have hreact := recReact_lt (st := d.fld .FC_REC_STATE k) (d.fld_lt .FC_REC_REACT k 0) (d.fld_lt .FC_SRC_REACT s.source 0)
  have hstated := Dev.recStated_fields (d := d) (k := k) (recState_lt (old := d.fld .FC_REC_CLASS k) (cls := d.fld .FC_SRC_CLASS s.source) hst)
    (recClass_lt (st := d.fld .FC_REC_STATE k) hold hcls) hreact
  have hword := fun d' : Dev => (Dev.recSourced_collects (d := d') k s.source (d.fld .FC_REC_STATE k == 0)).words _ (recRegs_distinct k).2.2
  unfold Dev.recMet; dsimp only
  rw [Dev.fld_of_word (x := .FC_REC_STATE) (hword _), Dev.fld_of_word (x := .FC_REC_CLASS) (hword _), Dev.fld_of_word (x := .FC_REC_REACT) (hword _)]
  exact hstated

theorem Dev.recMet_merged (k : Nat) (s : FaultSig) :
    (d.recMet k s).fld .FC_RCNT_MERGED k = if d.fld .FC_REC_STATE k = 0 then 1 else min (d.fld .FC_RCNT_MERGED k + 1) 255 := by
  have hcnt : RegName.off .FC_RCNT k 0 ∉ [RegName.off .FC_REC k 0] := by
    simp only [List.mem_cons, List.not_mem_nil, or_false, RegName.off, RegName.info]; omega
  unfold Dev.recMet; dsimp only
  rw [Dev.recSourced_merged, (Dev.recStated_collects k _ _ _).fld .FC_RCNT_MERGED k 0 hcnt]
  simp

theorem Dev.recMet_sources {k : Nat} {s : FaultSig} (hidle : d.fld .FC_REC_STATE k = 0) (hsource : s.source ≤ 60) :
    (d.recMet k s).pair .FC_RSRCLO_SRC .FC_RSRCHI_SRC k = 2 ^ s.source := by
  unfold Dev.recMet; dsimp only
  rw [hidle]
  exact Dev.recSourced_sources k hsource

/-! ## Its timer and its units -/

theorem Dev.recTimed_regs (k : Nat) (opened timer : Bool) : (d.recTimed k opened timer).regs = d.regs := by
  cases opened <;> cases timer <;> rfl

theorem Dev.recTimed_keeps (k : Nat) (opened timer : Bool) : (d.recTimed k opened timer).tbl = d.tbl ∧ (d.recTimed k opened timer).fs = d.fs := by
  cases opened <;> cases timer <;> exact ⟨rfl, rfl⟩

theorem Dev.quietAt_recTimed (k : Nat) (opened : Bool) : (d.recTimed k opened true).quietAt k = d.now := by
  have hself (d : Dev) : (d.quietStart k).quietAt k = d.now := by
    exact congrArg (fun t : Option Nat => t.getD 0) (Store.get_set_self (fun _ => none) d.fc.quietAt k (some d.now))
  cases opened
  · exact hself d
  · exact hself _

theorem Dev.recUnits_recTimed (k : Nat) (opened timer : Bool) :
    (d.recTimed k opened timer).recUnits k = if opened then [] else d.recUnits k := by
  cases opened
  · cases timer <;> rfl
  · have hself : ((d.setRecUnits k []).setRecFail k []).recUnits k = [] := Store.get_set_self (fun _ => []) d.fc.units k []
    cases timer
    · exact hself
    · exact hself

/-! ## Its fences -/

def fences : List Nat :=
  [RegName.off .FC_FENCE0 0 0, RegName.off .FC_FENCE1 0 0, RegName.off .FC_FENCE2 0 0, RegName.off .FC_FENCE3 0 0, RegName.off .FC_FENCE4 0 0,
   RegName.off .FC_FENCE5 0 0]

theorem Dev.setFence_collects (u : FUnit) (on : Bool) : Dev.Collects fences d (d.setFence u on) := by
  have hset (x : Fld) (v : Nat) (h : x.reg.off 0 0 ∈ fences) := Dev.collects_setFld (offs := fences) d x 0 0 v h
  unfold Dev.setFence
  cases u with
  | port xx => exact hset .FC_FENCE0_HP _ (by decide)
  | engine xx => exact hset .FC_FENCE1_SC _ (by decide)
  | ps n => exact hset .FC_FENCE2_PS _ (by decide)
  | cam n => exact hset .FC_FENCE2_CAM _ (by decide)
  | seat s => exact hset .FC_FENCE2_SEAT _ (by decide)
  | thermal c =>
    dsimp only
    split
    · exact hset .FC_FENCE3_TM _ (by decide)
    · split
      · exact hset .FC_FENCE4_TM _ (by decide)
      · exact hset .FC_FENCE5_TM _ (by decide)

theorem Dev.kept_setFence_units {w : Bool} (k : Nat) (us : List FUnit) (u : FUnit) (on : Bool) :
    ((d.setRecUnits k us).setFence u on).kept w = (d.setFence u on).kept w := by
  unfold Dev.setFence
  cases u with
  | thermal c =>
    dsimp only
    split
    · rfl
    · split <;> rfl
  | _ => rfl

/-- A unit that the record does not fence yet enters its fenced behaviour. -/
theorem Dev.kept_recFenced {w : Bool} {k : Nat} {u : FUnit} (h : u ∉ d.recUnits k) :
    (d.recFenced k (some u)).kept w = (d.setFence u true).kept w := by
  unfold Dev.recFenced; dsimp only
  rw [if_neg (by simpa using h), Dev.kept_fenceUnit, Dev.kept_setFence_units]

theorem Dev.recFenced_collects {w : Bool} (k : Nat) (u : Option FUnit) : ∃ e, (d.recFenced k u).kept w = e.kept w ∧ Dev.Collects fences d e := by
  cases u with
  | none => exact ⟨d, rfl, .refl _ d⟩
  | some u =>
    by_cases h : u ∈ d.recUnits k
    · exact ⟨d, by simp [Dev.recFenced, h], .refl _ d⟩
    · exact ⟨_, Dev.kept_recFenced h, Dev.setFence_collects u true⟩

/-! ## The error merged -/

/-- The record with its timer, before its fences and its other reactions. -/
def Dev.recReady (d : Dev) (k : Nat) (s : FaultSig) : Dev :=
  (d.recMet k s).recTimed k (d.fld .FC_REC_STATE k == 0)
    (recState (d.fld .FC_REC_STATE k) (d.fld .FC_REC_CLASS k) (d.fld .FC_SRC_CLASS s.source) = 1 || d.fld .FC_REC_STATE k == 0)

/-- The unit that the reactions of the error fence. -/
def Dev.fencedUnit (d : Dev) (s : FaultSig) : Option FUnit := if d.fld .FC_SRC_REACT s.source % 2 = 1 then unitOf s.source s.unit else none

theorem Dev.bare_merge {w : Bool} (s : FaultSig) : ((d.merge s).kept w).bare =
    (((d.recReady ((d.sigBay s).getD 4) s).recFenced ((d.sigBay s).getD 4) (d.fencedUnit s)).kept w).bare := by
  obtain ⟨base, react, w0, w1, hmerge⟩ := d.merge_eq s
  rw [hmerge, Dev.kept_ite, Dev.kept_recEvent, ite_self, Dev.bare_recReacts]
  rfl

theorem Dev.fc_of_bare {w : Bool} (h : (e.kept w).bare = (d.kept w).bare) {o : Nat} (hlo : 0x20000 ≤ o) (hhi : o < 0x30000) : e.word o = d.word o := by
  have hblock := congrFun (congrArg Kept.fcWord h) o
  simpa only [Kept.bare, Dev.kept, Dev.block, if_pos (And.intro hlo hhi)] using hblock

theorem Dev.quietAt_of_bare {w : Bool} (h : (e.kept w).bare = (d.kept w).bare) (k : Nat) : e.quietAt k = d.quietAt k := by
  have hquiet : e.fc.quietAt = d.fc.quietAt := congrArg Kept.quietAt h
  unfold Dev.quietAt; rw [hquiet]

theorem Dev.merge_collects (s : FaultSig) : ∃ e, ((d.merge s).kept true).bare = (e.kept true).bare ∧
    Dev.Collects fences (d.recReady ((d.sigBay s).getD 4) s) e := by
  obtain ⟨e, hkept, hcollects⟩ := Dev.recFenced_collects (d := d.recReady ((d.sigBay s).getD 4) s) (w := true) ((d.sigBay s).getD 4) (d.fencedUnit s)
  exact ⟨e, (Dev.bare_merge s).trans (congrArg Kept.bare hkept), hcollects⟩

/-- Of the collector's registers, beside the fence bits, an error that merges changes those of its record. -/
theorem Dev.merge_word {k : Nat} {s : FaultSig} (hk : k = (d.sigBay s).getD 4) {o : Nat} (hlo : 0x20000 ≤ o) (hhi : o < 0x30000)
    (hfence : o ∉ fences) : (d.merge s).word o = (d.recMet k s).word o := by
  subst hk
  obtain ⟨e, hbare, hcollects⟩ := d.merge_collects s
  rw [Dev.fc_of_bare hbare hlo hhi, hcollects.words o hfence]
  exact Dev.word_congr (Dev.recTimed_regs _ _ _) o

theorem Dev.merge_keeps (s : FaultSig) : (d.merge s).tbl = d.tbl ∧ (d.merge s).fs = d.fs := by
  obtain ⟨e, hbare, hcollects⟩ := d.merge_collects s
  have hmet := Dev.recMet_collects (d := d) ((d.sigBay s).getD 4) s
  have htbl : (d.merge s).tbl = e.tbl := congrArg Kept.tbl hbare
  have hfs : (d.merge s).fs = e.fs := congrArg Kept.fs hbare
  rw [htbl, hfs, hcollects.tbl, hcollects.fs, ← hmet.tbl, ← hmet.fs]
  exact Dev.recTimed_keeps _ _ _

/-- The quiet timer starts where the record opens, and where it is in QUIET then (R296, R297). -/
theorem Dev.merge_quietAt {k : Nat} {s : FaultSig} (hk : k = (d.sigBay s).getD 4)
    (h : recState (d.fld .FC_REC_STATE k) (d.fld .FC_REC_CLASS k) (d.fld .FC_SRC_CLASS s.source) = 1 ∨ d.fld .FC_REC_STATE k = 0) :
    (d.merge s).quietAt k = d.now := by
  subst hk
  obtain ⟨e, hbare, hcollects⟩ := d.merge_collects s
  have htimer : (decide (recState (d.fld .FC_REC_STATE ((d.sigBay s).getD 4)) (d.fld .FC_REC_CLASS ((d.sigBay s).getD 4))
      (d.fld .FC_SRC_CLASS s.source) = 1) || d.fld .FC_REC_STATE ((d.sigBay s).getD 4) == 0) = true := by simpa using h
  have hquiet : e.quietAt ((d.sigBay s).getD 4) = (d.recReady ((d.sigBay s).getD 4) s).quietAt ((d.sigBay s).getD 4) := by
    obtain ⟨regs, pulse, rfl⟩ := hcollects.rest; rfl
  rw [Dev.quietAt_of_bare hbare, hquiet, Dev.recReady, htimer, Dev.quietAt_recTimed, (Dev.recMet_collects _ s).now]

/-- A port that the record starts to fence has its fence bit set (R298). -/
theorem Dev.merge_fences {k xx : Nat} {s : FaultSig} (hk : k = (d.sigBay s).getD 4) (hxx : xx < 32) (hreact : d.fld .FC_SRC_REACT s.source % 2 = 1)
    (hunit : unitOf s.source s.unit = some (.port xx)) (hnew : d.fld .FC_REC_STATE k = 0 ∨ .port xx ∉ d.recUnits k) :
    (d.merge s).fbit .FC_FENCE0_HP 0 0 xx = true := by
  subst hk
  have hnot : FUnit.port xx ∉ (d.recReady ((d.sigBay s).getD 4) s).recUnits ((d.sigBay s).getD 4) := by
    rw [Dev.recReady, Dev.recUnits_recTimed, (Dev.recMet_collects _ s).recUnits]
    obtain hidle | hnew := hnew
    · simp [hidle]
    · split
      · exact List.not_mem_nil
      · exact hnew
  have hbare := Dev.bare_merge (d := d) (w := true) s
  rw [Dev.fencedUnit, if_pos hreact, hunit, Dev.kept_recFenced hnot] at hbare
  have hword := Dev.fc_of_bare hbare (o := RegName.off .FC_FENCE0 0 0) (by decide) (by decide)
  unfold Dev.fbit
  rw [Dev.fld_of_word (x := .FC_FENCE0_HP) hword]
  exact Dev.fbit_setFbit_true (by decide) hxx

end Sys2Proof.Machine
end

section
/-! PROOFS. The signal of one error, from its Spall bit to its record (R291 to R298, R416). -/

namespace Sys2Proof.Machine

variable {d e : Dev} {s : FaultSig} {k : Nat}

/-- The device once an enabled error is latched, counted and captured. -/
def Dev.noticed (d : Dev) (s : FaultSig) : Dev := (d.latched s.source).caught s

theorem Dev.noticed_word {o : Nat} (hspall : o ∉ spallRegs s.source) (hcapture : o ∉ captureRegs) : (d.noticed s).word o = d.word o :=
  ((d.latched s.source).caught_collects s |>.words o hcapture).trans ((d.latched_collects s.source).words o hspall)

theorem src_not_captured (i : Nat) : RegName.off .FC_SRC i 0 ∉ captureRegs := by
  simp only [captureRegs, List.mem_cons, List.not_mem_nil, or_false, RegName.off, RegName.info]; omega

theorem first_not_spall (i : Nat) : RegName.off .FC_FIRST 0 0 ∉ spallRegs i := by
  simp only [spallRegs, List.mem_cons, List.not_mem_nil, or_false, RegName.off, RegName.info]; omega

/-- The configuration of the source stands. -/
theorem Dev.noticed_config {x : Fld} (hreg : x.reg = .FC_SRC) (hwidth : x.lo + x.width ≤ 16) : (d.noticed s).fld x s.source = d.fld x s.source := by
  rw [Dev.noticed, ((d.latched s.source).caught_collects s).fld x s.source 0 (by rw [hreg]; exact src_not_captured _),
    Dev.latched_config s.source hreg hwidth]

/-- The registers of a record lie apart from those that latching and capture write. -/
theorem recRegs_apart {o : Nat} (hk : k < 5) (h : o ∈ recRegs k) : o ∉ spallRegs s.source ∧ o ∉ captureRegs ∧ o ∉ fences ∧
    0x20000 ≤ o ∧ o < 0x30000 := by
  simp only [recRegs, List.mem_cons, List.not_mem_nil, or_false, RegName.off, RegName.info] at h
  refine ⟨?_, ?_, ?_, ?_, ?_⟩
  · simp only [spallRegs, List.mem_cons, List.not_mem_nil, or_false, RegName.off, RegName.info]; omega
  · simp only [captureRegs, List.mem_cons, List.not_mem_nil, or_false, RegName.off, RegName.info]; omega
  · simp only [fences, List.mem_cons, List.not_mem_nil, or_false, RegName.off, RegName.info]; omega
  · omega
  · omega

theorem Dev.noticed_rec (hk : k < 5) {x : Fld} (h : x.reg.off k 0 ∈ recRegs k) : (d.noticed s).fld x k = d.fld x k := by
  obtain ⟨hspall, hcapture, -⟩ := recRegs_apart (s := s) hk h
  exact Dev.fld_of_word (Dev.noticed_word hspall hcapture)

theorem Dev.noticed_sigBay : (d.noticed s).sigBay s = d.sigBay s := by
  have hassign : d.SameAssign (d.noticed s) := by
    refine (((d.latched_collects s.source).trans ((d.latched s.source).caught_collects s)).sameAssign fun o ho => ?_)
    simp only [spallRegs, captureRegs, List.mem_append, List.mem_cons, List.not_mem_nil, or_false, RegName.off, RegName.info] at ho
    omega
  exact hassign.sigBay s

theorem Dev.noticed_rest : (d.noticed s).now = d.now ∧ (d.noticed s).tbl = d.tbl ∧ (d.noticed s).fs = d.fs ∧
    ∀ k, (d.noticed s).recUnits k = d.recUnits k := by
  have hall := (d.latched_collects s.source).trans ((d.latched s.source).caught_collects s)
  exact ⟨hall.now, hall.tbl, hall.fs, hall.recUnits⟩

/-! ## What the collector does with it -/

theorem Dev.latchSig_of_unknown (h : knownSource s.source = false) : d.latchSig s = d := by
  simp [Dev.latchSig, h]

section
variable (hknown : knownSource s.source = true) (hforced : s.forced = false)
include hknown hforced

theorem Dev.latchSig_of_known : d.latchSig s = if !(d.latched s.source).on .FC_SRC_EN s.source then d.latched s.source
    else if (d.noticed s).fld .FC_SRC_CLASS s.source = 0 then
      (if d.spall s.source then d.noticed s
        else (d.noticed s).unitEvent ((d.noticed s).sigBay s) 0 0x1204 s.unit s.source ((d.noticed s).fld .FC_SRC_CNT s.source))
    else (d.noticed s).merge s := by
  unfold Dev.latchSig
  rw [hknown, hforced]
  rfl

theorem Dev.latchSig_of_off (hoff : d.on .FC_SRC_EN s.source = false) : d.latchSig s = d.latched s.source := by
  have hoff' : (d.latched s.source).on .FC_SRC_EN s.source = false := by
    unfold Dev.on at hoff ⊢
    rwa [Dev.latched_config _ rfl (by decide)]
  rw [Dev.latchSig_of_known hknown hforced, hoff']; rfl

theorem Dev.latchSig_of_on (hon : d.on .FC_SRC_EN s.source = true) : d.latchSig s =
    if (d.noticed s).fld .FC_SRC_CLASS s.source = 0 then
      (if d.spall s.source then d.noticed s
        else (d.noticed s).unitEvent ((d.noticed s).sigBay s) 0 0x1204 s.unit s.source ((d.noticed s).fld .FC_SRC_CNT s.source))
    else (d.noticed s).merge s := by
  have hon' : (d.latched s.source).on .FC_SRC_EN s.source = true := by
    unfold Dev.on at hon ⊢
    rwa [Dev.latched_config _ rfl (by decide)]
  rw [Dev.latchSig_of_known hknown hforced, hon']; rfl

theorem Dev.latchSig_of_info (hon : d.on .FC_SRC_EN s.source = true) (hclass : d.fld .FC_SRC_CLASS s.source = 0) :
    d.latchSig s = if d.spall s.source then d.noticed s
      else (d.noticed s).unitEvent (d.sigBay s) 0 0x1204 s.unit s.source ((d.noticed s).fld .FC_SRC_CNT s.source) := by
  rw [Dev.latchSig_of_on hknown hforced hon, Dev.noticed_config rfl (by decide), if_pos hclass, Dev.noticed_sigBay]

theorem Dev.latchSig_of_class (hon : d.on .FC_SRC_EN s.source = true) (hclass : d.fld .FC_SRC_CLASS s.source ≠ 0) :
    d.latchSig s = (d.noticed s).merge s := by
  rw [Dev.latchSig_of_on hknown hforced hon, Dev.noticed_config rfl (by decide), if_neg hclass]

/-- Its count is the one the event reports. -/
theorem Dev.latchSig_info_event (hon : d.on .FC_SRC_EN s.source = true) (hclass : d.fld .FC_SRC_CLASS s.source = 0) (hnew : d.spall s.source = false) :
    d.latchSig s = (d.noticed s).unitEvent (d.sigBay s) 0 0x1204 s.unit s.source ((d.latchSig s).fld .FC_SRC_CNT s.source) := by
  have hinfo := Dev.latchSig_of_info hknown hforced hon hclass
  rw [hnew, if_neg Bool.false_ne_true] at hinfo
  have hcnt : (d.latchSig s).fld .FC_SRC_CNT s.source = (d.noticed s).fld .FC_SRC_CNT s.source := by
    rw [hinfo]
    exact (Dev.reported_unitEvent _ _ _ _ _ _ _).fld .FC_SRC_CNT s.source 0 (fc_not_report (by
      have hsource := knownSource_le hknown
      simp only [RegName.off, RegName.info]; omega))
  rw [hcnt]
  exact hinfo

/-- An INFO error leaves every register as it is noticed but those of its report. -/
theorem Dev.latchSig_info_word (hon : d.on .FC_SRC_EN s.source = true) (hclass : d.fld .FC_SRC_CLASS s.source = 0) {o : Nat} (ho : o ∉ reports) :
    (d.latchSig s).word o = (d.noticed s).word o := by
  rw [Dev.latchSig_of_info hknown hforced hon hclass]
  split
  · rfl
  · exact (Dev.reported_unitEvent _ _ _ _ _ _ _).2 o ho

/-- Of the collector's registers, an enabled error changes beside those it is noticed in only those of its record, and fence bits. -/
theorem Dev.latchSig_on_word (hk : k = (d.sigBay s).getD 4) (hon : d.on .FC_SRC_EN s.source = true) {o : Nat} (hlo : 0x20000 ≤ o) (hhi : o < 0x30000)
    (hrec : o ∉ recRegs k) (hfence : o ∉ fences) : (d.latchSig s).word o = (d.noticed s).word o := by
  by_cases hclass : d.fld .FC_SRC_CLASS s.source = 0
  · exact Dev.latchSig_info_word hknown hforced hon hclass (fc_not_report hhi)
  · rw [Dev.latchSig_of_class hknown hforced hon hclass, Dev.merge_word (hk.trans (by rw [Dev.noticed_sigBay])) hlo hhi hfence]
    exact (Dev.recMet_collects k s).words o hrec

/-- The Spall bit and the count stand once they are written. -/
theorem Dev.latchSig_spall_word (hk : k = (d.sigBay s).getD 4) (hk5 : k < 5) {o : Nat} (ho : o ∈ spallRegs s.source) :
    (d.latchSig s).word o = (d.latched s.source).word o := by
  have hsource := knownSource_le hknown
  have hapart (h : o ∈ recRegs k) := (recRegs_apart (s := s) hk5 h).1 ho
  simp only [spallRegs, List.mem_cons, List.not_mem_nil, or_false, RegName.off, RegName.info] at ho
  cases hen : d.on .FC_SRC_EN s.source with
  | false => rw [Dev.latchSig_of_off hknown hforced hen]
  | true =>
    rw [Dev.latchSig_on_word hknown hforced hk hen (by omega) (by omega) hapart ?_]
    · refine ((d.latched s.source).caught_collects s).words o ?_
      simp only [captureRegs, List.mem_cons, List.not_mem_nil, or_false, RegName.off, RegName.info]; omega
    · simp only [fences, List.mem_cons, List.not_mem_nil, or_false, RegName.off, RegName.info]; omega

theorem Dev.latchSig_spall (hk : k = (d.sigBay s).getD 4) (hk5 : k < 5) : (d.latchSig s).spall s.source = true ∧
    (d.latchSig s).fld .FC_SRC_CNT s.source = min (d.fld .FC_SRC_CNT s.source + 1) 65535 := by
  have hword {o : Nat} (ho : o ∈ spallRegs s.source) := Dev.latchSig_spall_word (d := d) hknown hforced hk hk5 ho
  refine ⟨?_, ?_⟩
  · rw [Dev.spall_of_words (hword (by simp [spallRegs])) (hword (by simp [spallRegs])), Dev.latched_spall (knownSource_le hknown)]
  · rw [Dev.fld_of_word (x := .FC_SRC_CNT) (hword (by simp [spallRegs])), Dev.latched_count]

theorem Dev.latchSig_keeps : (d.latchSig s).tbl = d.tbl ∧ (d.latchSig s).fs = d.fs := by
  have hnoticed := Dev.noticed_rest (d := d) (s := s)
  cases hen : d.on .FC_SRC_EN s.source with
  | false =>
    rw [Dev.latchSig_of_off hknown hforced hen]
    exact ⟨(d.latched_collects _).tbl, (d.latched_collects _).fs⟩
  | true =>
    rw [← hnoticed.2.1, ← hnoticed.2.2.1]
    by_cases hclass : d.fld .FC_SRC_CLASS s.source = 0
    · rw [Dev.latchSig_of_info hknown hforced hen hclass]
      split
      · exact ⟨rfl, rfl⟩
      · have hreport := Dev.kept_unitEvent (d := d.noticed s) (w := true) (d.sigBay s) 0 0x1204 s.unit s.source ((d.noticed s).fld .FC_SRC_CNT s.source)
        exact ⟨Dev.tbl_of_kept hreport, Dev.fs_of_kept hreport⟩
    · rw [Dev.latchSig_of_class hknown hforced hen hclass]
      exact Dev.merge_keeps s

/-- An enabled error shows in the first capture (R293). -/
theorem Dev.latchSig_capture_word (hk : k = (d.sigBay s).getD 4) (hk5 : k < 5) (hon : d.on .FC_SRC_EN s.source = true) {o : Nat}
    (ho : o ∈ captureRegs) (hnerr : o ≠ RegName.off .FC_NERR 0 0) : (d.latchSig s).word o = ((d.latched s.source).capture s).word o := by
  have hapart (h : o ∈ recRegs k) := (recRegs_apart (s := s) hk5 h).2.1 ho
  have hrange : 0x20000 ≤ o ∧ o < 0x30000 ∧ o ∉ fences := by
    simp only [captureRegs, List.mem_cons, List.not_mem_nil, or_false] at ho
    obtain rfl | rfl | rfl | rfl | rfl | rfl := ho <;> decide
  rw [Dev.latchSig_on_word hknown hforced hk hon hrange.1 hrange.2.1 hapart hrange.2.2]
  exact Dev.caught_word s hnerr

theorem Dev.latchSig_first (hk : k = (d.sigBay s).getD 4) (hk5 : k < 5) (hon : d.on .FC_SRC_EN s.source = true)
    (hfree : d.on .FC_FIRST_VALID = false) : (d.latchSig s).on .FC_FIRST_VALID = true ∧ (d.latchSig s).fld .FC_FIRST_SRC = s.source ∧
    (d.latchSig s).pair .FC_FTBLO_TB .FC_FTBHI_TB = s.stamp % 2 ^ 64 ∧ (d.latchSig s).fld .FC_FIRST_UNIT = s.unit % 256 := by
  have hword {o : Nat} (ho : o ∈ captureRegs) (hnerr : o ≠ RegName.off .FC_NERR 0 0) :=
    Dev.latchSig_capture_word (d := d) hknown hforced hk hk5 hon ho hnerr
  have hvalid : (d.latched s.source).on .FC_FIRST_VALID = false := by
    rw [(d.latched_collects s.source).on .FC_FIRST_VALID 0 0 (first_not_spall _), hfree]
  have hfirst := Dev.capture_first hvalid (knownSource_le hknown)
  have hreg := hword (o := RegName.off .FC_FIRST 0 0) (by decide) (by decide)
  unfold Dev.pair at hfirst ⊢
  rw [Dev.on_of_word (x := .FC_FIRST_VALID) hreg, Dev.fld_of_word (x := .FC_FIRST_SRC) hreg, Dev.fld_of_word (x := .FC_FIRST_UNIT) hreg,
    Dev.fld_of_word (x := .FC_FTBLO_TB) (hword (by decide) (by decide)), Dev.fld_of_word (x := .FC_FTBHI_TB) (hword (by decide) (by decide))]
  exact hfirst

theorem Dev.latchSig_overflow (hk : k = (d.sigBay s).getD 4) (hk5 : k < 5) (hon : d.on .FC_SRC_EN s.source = true)
    (hheld : d.on .FC_FIRST_VALID = true) : (d.latchSig s).on .FC_FIRST_OVF = true ∧
    (d.latchSig s).fld .FC_FIRST_SRC = d.fld .FC_FIRST_SRC ∧ (d.latchSig s).fld .FC_FIRST_UNIT = d.fld .FC_FIRST_UNIT := by
  have hfirst := (d.latched_collects s.source).words _ (first_not_spall s.source)
  have hvalid : (d.latched s.source).on .FC_FIRST_VALID = true := (Dev.on_of_word (x := .FC_FIRST_VALID) hfirst).trans hheld
  have hreg := Dev.latchSig_capture_word (d := d) hknown hforced hk hk5 hon (o := RegName.off .FC_FIRST 0 0) (by decide) (by decide)
  obtain ⟨hovf, hsrc, hunit⟩ := Dev.capture_overflow s hvalid
  rw [Dev.on_of_word (x := .FC_FIRST_OVF) hreg, Dev.fld_of_word (x := .FC_FIRST_SRC) hreg, Dev.fld_of_word (x := .FC_FIRST_UNIT) hreg, hovf, hsrc, hunit]
  exact ⟨rfl, Dev.fld_of_word (x := .FC_FIRST_SRC) hfirst, Dev.fld_of_word (x := .FC_FIRST_UNIT) hfirst⟩

/-- No record changes for an INFO error (R294). -/
theorem Dev.latchSig_info_rec (hclass : d.fld .FC_SRC_CLASS s.source = 0) {m o : Nat} (hm : m < 5) (ho : o ∈ recRegs m) :
    (d.latchSig s).word o = d.word o := by
  obtain ⟨hspall, hcapture, -, -, hhi⟩ := recRegs_apart (s := s) hm ho
  cases hen : d.on .FC_SRC_EN s.source with
  | false =>
    rw [Dev.latchSig_of_off hknown hforced hen]
    exact (d.latched_collects s.source).words o hspall
  | true => rw [Dev.latchSig_info_word hknown hforced hen hclass (fc_not_report hhi), Dev.noticed_word hspall hcapture]

/-- The other records stand. -/
theorem Dev.latchSig_other_rec (hk : k = (d.sigBay s).getD 4) (hon : d.on .FC_SRC_EN s.source = true) {m : Nat}
    (hm : m < 5) (hne : m ≠ k) : (d.latchSig s).word (RegName.off .FC_REC m 0) = d.word (RegName.off .FC_REC m 0) := by
  obtain ⟨hspall, hcapture, hfence, hlo, hhi⟩ := recRegs_apart (s := s) hm (o := RegName.off .FC_REC m 0) (by simp [recRegs])
  rw [Dev.latchSig_on_word hknown hforced hk hon hlo hhi ?_ hfence, Dev.noticed_word hspall hcapture]
  simp only [recRegs, List.mem_cons, List.not_mem_nil, or_false, RegName.off, RegName.info]; omega

section
variable (hk : k = (d.sigBay s).getD 4) (hk5 : k < 5) (hon : d.on .FC_SRC_EN s.source = true) (hclass : d.fld .FC_SRC_CLASS s.source ≠ 0)
include hk hk5 hon hclass

/-- The record of an error of class DEGRADE or higher. -/
theorem Dev.latchSig_rec_word {o : Nat} (ho : o ∈ recRegs k) : (d.latchSig s).word o = ((d.noticed s).recMet k s).word o := by
  obtain ⟨-, -, hfence, hlo, hhi⟩ := recRegs_apart (s := s) hk5 ho
  rw [Dev.latchSig_of_class hknown hforced hon hclass, Dev.merge_word (hk.trans (by rw [Dev.noticed_sigBay])) hlo hhi hfence]

theorem Dev.latchSig_rec :
    (d.latchSig s).fld .FC_REC_STATE k = recState (d.fld .FC_REC_STATE k) (d.fld .FC_REC_CLASS k) (d.fld .FC_SRC_CLASS s.source) ∧
    (d.latchSig s).fld .FC_REC_CLASS k = recClass (d.fld .FC_REC_STATE k) (d.fld .FC_REC_CLASS k) (d.fld .FC_SRC_CLASS s.source) ∧
    (d.latchSig s).fld .FC_REC_REACT k = recReact (d.fld .FC_REC_STATE k) (d.fld .FC_REC_REACT k) (d.fld .FC_SRC_REACT s.source) ∧
    (d.latchSig s).fld .FC_RCNT_MERGED k = if d.fld .FC_REC_STATE k = 0 then 1 else min (d.fld .FC_RCNT_MERGED k + 1) 255 := by
  have hrec := Dev.latchSig_rec_word hknown hforced hk hk5 hon hclass (o := RegName.off .FC_REC k 0) (by simp [recRegs])
  have hcnt := Dev.latchSig_rec_word hknown hforced hk hk5 hon hclass (o := RegName.off .FC_RCNT k 0) (by simp [recRegs])
  obtain ⟨hstate, hcls, hreact⟩ := (d.noticed s).recMet_fields k s
  rw [Dev.fld_of_word (x := .FC_REC_STATE) hrec, Dev.fld_of_word (x := .FC_REC_CLASS) hrec, Dev.fld_of_word (x := .FC_REC_REACT) hrec,
    Dev.fld_of_word (x := .FC_RCNT_MERGED) hcnt, hstate, hcls, hreact, Dev.recMet_merged,
    Dev.noticed_rec hk5 (x := .FC_REC_STATE) (by simp [recRegs]), Dev.noticed_rec hk5 (x := .FC_REC_CLASS) (by simp [recRegs]),
    Dev.noticed_rec hk5 (x := .FC_REC_REACT) (by simp [recRegs]), Dev.noticed_rec hk5 (x := .FC_RCNT_MERGED) (by simp [recRegs]),
    Dev.noticed_config (x := .FC_SRC_CLASS) rfl (by decide), Dev.noticed_config (x := .FC_SRC_REACT) rfl (by decide)]
  exact ⟨rfl, rfl, rfl, rfl⟩

theorem Dev.latchSig_sources (hidle : d.fld .FC_REC_STATE k = 0) : (d.latchSig s).pair .FC_RSRCLO_SRC .FC_RSRCHI_SRC k = 2 ^ s.source := by
  have hlo := Dev.latchSig_rec_word hknown hforced hk hk5 hon hclass (o := RegName.off .FC_RSRCLO k 0) (by simp [recRegs])
  have hhi := Dev.latchSig_rec_word hknown hforced hk hk5 hon hclass (o := RegName.off .FC_RSRCHI k 0) (by simp [recRegs])
  have hidle' : (d.noticed s).fld .FC_REC_STATE k = 0 := (Dev.noticed_rec hk5 (by simp [recRegs])).trans hidle
  unfold Dev.pair
  rw [Dev.fld_of_word (x := .FC_RSRCLO_SRC) hlo, Dev.fld_of_word (x := .FC_RSRCHI_SRC) hhi]
  exact Dev.recMet_sources hidle' (knownSource_le hknown)

theorem Dev.latchSig_quietAt (h : (d.latchSig s).fld .FC_REC_STATE k = 1 ∨ d.fld .FC_REC_STATE k = 0) : (d.latchSig s).quietAt k = d.now := by
  have hstate := (Dev.latchSig_rec hknown hforced hk hk5 hon hclass).1
  have hquiet := Dev.merge_quietAt (d := d.noticed s) (s := s) (hk.trans (by rw [Dev.noticed_sigBay]))
  rw [Dev.noticed_rec hk5 (x := .FC_REC_STATE) (by simp [recRegs]), Dev.noticed_rec hk5 (x := .FC_REC_CLASS) (by simp [recRegs]),
    Dev.noticed_config (x := .FC_SRC_CLASS) rfl (by decide), ← hstate, Dev.noticed_rest.1, ← Dev.latchSig_of_class hknown hforced hon hclass] at hquiet
  exact hquiet h

theorem Dev.latchSig_event (h : d.recGrows k s = true) : ∃ (e : Dev) (w0 w1 : Nat), d.latchSig s = e.recEvent k 0x1200 s.unit w0 w1 := by
  have hgrows : (d.noticed s).recGrows k s = true := by
    unfold Dev.recGrows at h ⊢
    rwa [Dev.noticed_rec hk5 (x := .FC_REC_STATE) (by simp [recRegs]), Dev.noticed_rec hk5 (x := .FC_REC_CLASS) (by simp [recRegs]),
      Dev.noticed_rec hk5 (x := .FC_REC_REACT) (by simp [recRegs]), Dev.noticed_config (x := .FC_SRC_CLASS) rfl (by decide),
      Dev.noticed_config (x := .FC_SRC_REACT) rfl (by decide)]
  obtain ⟨base, react, w0, w1, hmerge⟩ := (d.noticed s).merge_eq s
  rw [Dev.noticed_sigBay, ← hk, if_pos hgrows] at hmerge
  exact ⟨_, w0, w1, (Dev.latchSig_of_class hknown hforced hon hclass).trans hmerge⟩

theorem Dev.latchSig_fences {xx : Nat} (hxx : xx < 32) (hreact : d.fld .FC_SRC_REACT s.source % 2 = 1)
    (hnew : d.fld .FC_REC_STATE k = 0 ∨ .port xx ∉ d.recUnits k) (hunit : unitOf s.source s.unit = some (.port xx)) :
    (d.latchSig s).fbit .FC_FENCE0_HP 0 0 xx = true := by
  rw [Dev.latchSig_of_class hknown hforced hon hclass]
  refine Dev.merge_fences (hk.trans (by rw [Dev.noticed_sigBay])) hxx ?_ hunit ?_
  · rwa [Dev.noticed_config (x := .FC_SRC_REACT) rfl (by decide)]
  · rwa [Dev.noticed_rec hk5 (x := .FC_REC_STATE) (by simp [recRegs]), Dev.noticed_rest.2.2.2]

end

end

end Sys2Proof.Machine
end

section
/-! PROOFS. The signals that reach the collector (R16, R291, R293 to R298, R416). -/

namespace Sys2Proof.Machine

/-- Whether a record in state `st` opens, or its class or its reactions grow, in terms of what the record had. -/
theorem Dev.recGrows_of {d : Dev} {k : Nat} {s : FaultSig} (h : d.fld .FC_REC_STATE k = 0 ∨ d.fld .FC_REC_CLASS k < d.fld .FC_SRC_CLASS s.source ∨
    Nat.lor (d.fld .FC_REC_REACT k) (d.fld .FC_SRC_REACT s.source) ≠ d.fld .FC_REC_REACT k) : d.recGrows k s = true := by
  unfold Dev.recGrows recClass recReact; dsimp only
  by_cases hidle : d.fld .FC_REC_STATE k = 0
  · simp [hidle]
  · obtain h | h | h := h
    · exact absurd h hidle
    · simp [hidle, h]
    · have hne : reactUnion (d.fld .FC_REC_REACT k) (d.fld .FC_SRC_REACT s.source) ≠ d.fld .FC_REC_REACT k := h
      simp [hidle, hne]

theorem recState_idle {old cls : Nat} : recState 0 old cls = if cls = 3 then 2 else 1 := by
  simp [recState, recClass]

theorem recState_busy {st old cls : Nat} (hst : st ≠ 0) (hold : old < 4) (hcls : cls < 4) :
    recState st old cls = if old < 3 ∧ cls = 3 then 2 else st := by
  have hmax : max old cls = 3 ↔ old = 3 ∨ cls = 3 := by omega
  simp only [recState, recClass, beq_iff_eq, hst, if_false, hmax]
  split
  case isTrue h =>
    by_cases hgain : old < 3
    · have hcls : cls = 3 := by omega
      simp [hgain, hcls]
    · have hnot : ¬ (old < 3 ∧ cls = 3) := fun hboth => hgain hboth.1
      by_cases htwo : st = 2
      · simp [htwo, hgain]
      · simp [htwo, hgain, hst]
  case isFalse h => rw [if_neg (by omega)]

theorem recClass_busy {st old cls : Nat} (hst : st ≠ 0) : recClass st old cls = max old cls := by simp [recClass, hst]
theorem recReact_busy {st old react : Nat} (hst : st ≠ 0) : recReact st old react = Nat.lor old react := by
  simp only [recReact, beq_iff_eq, hst, if_false]; rfl

/-- Nothing but the signals on their way differs. -/
structure Dev.SameButSigs (d e : Dev) : Prop where
  word : ∀ o, e.word o = d.word o
  fld : ∀ x i j, e.fld x i j = d.fld x i j
  on : ∀ x i j, e.on x i j = d.on x i j
  reg : ∀ r i j, e.reg r i j = d.reg r i j
  spall : ∀ i, e.spall i = d.spall i
  sigBay : ∀ g, e.sigBay g = d.sigBay g
  recUnits : ∀ k, e.recUnits k = d.recUnits k
  bay : ∀ b, e.bay b = d.bay b
  now : e.now = d.now
  tbl : e.tbl = d.tbl
  fs : e.fs = d.fs

theorem Dev.sameButSigs (d : Dev) (sigs : List FaultSig) : d.SameButSigs { d with fc := { d.fc with sigs := sigs } } :=
  ⟨fun _ => rfl, fun _ _ _ => rfl, fun _ _ _ => rfl, fun _ _ _ => rfl, fun _ => rfl, fun _ => rfl, fun _ => rfl, fun _ => rfl, rfl, rfl, rfl⟩

/-- The signals that leave the queue as `g` is latched. -/
def State.latchOf (s : State) (sigs : List FaultSig) (g : FaultSig) : State :=
  { s with dev := ({ s.dev with fc := { s.dev.fc with sigs := sigs } } : Dev).latchSig g }

theorem exec_faultLatch_one {g : FaultSig} {s : State} (hrun : s.dev.running = true) (hlost : g.lost = none) :
    exec (.faultLatch [g]) s = .next (s.latchOf (s.dev.fc.sigs.filter fun x => !([g].contains x)) g) := by
  simp [exec, execFaultLatch, State.onDev, hrun, Dev.mqDiscard, hlost, Dev.latchSigs, insertSig, State.latchOf]

theorem filter_of_not_mem {g : FaultSig} {r : List FaultSig} (h : g ∉ r) : r.filter (fun x => !([g].contains x)) = r := by
  rw [List.filter_eq_self]
  intro x hx
  have hne : x ≠ g := fun heq => h (heq ▸ hx)
  simp [hne]

/-- The oldest signal on its way is latched where none is given. -/
theorem exec_faultLatch_none {g : FaultSig} {r : List FaultSig} {s : State} (hrun : s.dev.running = true) (hsigs : s.dev.fc.sigs = g :: r) :
    exec (.faultLatch []) s = .next (s.latchOf r g) := by
  simp [exec, execFaultLatch, State.onDev, hrun, Dev.mqDiscard, Dev.latchSigs, hsigs, insertSig, State.latchOf]

/-- The trigger message that failed its parity check is discarded first (R16). -/
theorem exec_faultLatch_trigger {g : FaultSig} {b : Fin 4} {s : State} (hrun : s.dev.running = true) (hlost : g.lost = some (.trigger b)) :
    exec (.faultLatch [g]) s =
      .next (({ s with dev := s.dev.loseTrigger b } : State).latchOf ((s.dev.loseTrigger b).fc.sigs.filter fun x => !([g].contains x)) g) := by
  simp [exec, execFaultLatch, State.onDev, hrun, Dev.mqDiscard, hlost, Dev.latchSigs, insertSig, State.latchOf]

/-- A trigger that is lost counts its course, and leaves the mode (R16, R18). -/
theorem Dev.kept_loseTrigger {d : Dev} {w : Bool} {b : Nat} {x : Trig} {rest : List Trig} (h : (d.pc b).trigs = x :: rest) : (d.loseTrigger b).kept w =
    (d.setBay b { d.bay b with cc := add48 (d.bay b).cc 1, pc := { d.pc b with trigs := rest } }).kept w := by
  unfold Dev.loseTrigger
  rw [h]
  exact Dev.kept_foldl (fun d xx => by rw [Dev.kept_dropJob, Dev.kept_dropDecision]) _ _

theorem Dev.loseTrigger_bay {d : Dev} {b : Nat} {x : Trig} {rest : List Trig} (h : (d.pc b).trigs = x :: rest) :
    ((d.loseTrigger b).pc b).trigs = rest ∧ ((d.loseTrigger b).bay b).cc = add48 (d.bay b).cc 1 ∧
    ((d.loseTrigger b).bay b).mode = (d.bay b).mode := by
  have hcore := (Dev.core_of_kept (Dev.kept_loseTrigger (w := true) h) b).trans (congrArg Bay.core (Dev.bay_setBay _ _ _))
  have htrigs := congrArg (fun y : Bay => y.pc.trigs) hcore
  have hcc := congrArg (fun y : Bay => y.cc) hcore
  have hmode := congrArg (fun y : Bay => y.mode) hcore
  exact ⟨htrigs, hcc, hmode⟩

/-- Settles O48. -/
theorem faultsLatched : Obligations.FaultsLatched := by
  unfold Obligations.FaultsLatched
  refine ⟨?_, ?_, ?_, ?_, ?_, ?_⟩
  · intro g k s hrun hknown hforced hlost hk hk5
    refine ⟨_, exec_faultLatch_one hrun hlost, rfl, rfl, ?_⟩
    have hsame := s.dev.sameButSigs (s.dev.fc.sigs.filter fun x => !([g].contains x))
    unfold State.latchOf; dsimp only
    generalize ({ s.dev with fc := { s.dev.fc with sigs := s.dev.fc.sigs.filter fun x => !([g].contains x) } } : Dev) = d at hsame ⊢
    simp only [← hsame.fld, ← hsame.on, ← hsame.reg, ← hsame.spall, ← hsame.sigBay, ← hsame.recUnits,
      ← hsame.now, ← hsame.tbl, ← hsame.fs] at hk ⊢
    obtain ⟨htbl, hfs⟩ := Dev.latchSig_keeps (d := d) hknown hforced
    obtain ⟨hspall, hcnt⟩ := Dev.latchSig_spall hknown hforced hk hk5
    refine ⟨htbl, hfs, hspall, hcnt, ?_, ?_, ?_, ?_, ?_, ?_⟩
    · intro hoff o ho _
      rw [Dev.latchSig_of_off hknown hforced hoff, (Dev.latched_collects g.source).words o ho, hsame.word]
    · intro hon hfree
      exact Dev.latchSig_first hknown hforced hk hk5 hon hfree
    · intro hon hheld
      exact Dev.latchSig_overflow hknown hforced hk hk5 hon hheld
    · intro hclass m
      exact ⟨Dev.latchSig_info_rec hknown hforced hclass m.isLt (by simp [recRegs]),
        Dev.latchSig_info_rec hknown hforced hclass m.isLt (by simp [recRegs])⟩
    · intro hon hclass hnew
      exact ⟨_, Dev.latchSig_info_event hknown hforced hon hclass hnew⟩
    · intro hon hclass
      obtain ⟨hstate, hcls, hreact, hmerged⟩ := Dev.latchSig_rec hknown hforced hk hk5 hon hclass
      refine ⟨?_, ?_, ?_, ?_, ?_⟩
      · intro hidle
        rw [hidle] at hstate hcls hreact hmerged
        exact ⟨hstate.trans recState_idle, hcls, hreact, hmerged, Dev.latchSig_sources hknown hforced hk hk5 hon hclass hidle,
          Dev.latchSig_quietAt hknown hforced hk hk5 hon hclass (.inr hidle)⟩
      · intro hbusy
        rw [recClass_busy hbusy] at hcls
        rw [recReact_busy hbusy] at hreact
        rw [if_neg hbusy] at hmerged
        rw [recState_busy hbusy (d.fld_lt .FC_REC_CLASS k 0) (d.fld_lt .FC_SRC_CLASS g.source 0)] at hstate
        exact ⟨hcls, hreact, hmerged, hstate, fun hquiet => Dev.latchSig_quietAt hknown hforced hk hk5 hon hclass (.inl hquiet)⟩
      · intro hgrows
        exact Dev.latchSig_event hknown hforced hk hk5 hon hclass (Dev.recGrows_of hgrows)
      · intro m hne
        exact Dev.latchSig_other_rec hknown hforced hk hon m.isLt hne
      · intro xx hfence hnew hunit
        exact Dev.latchSig_fences hknown hforced hk hk5 hon hclass xx.isLt hfence hnew hunit
  · intro g r s hrun hsigs hg hlost
    have hlatch : exec (.faultLatch [g]) { s with dev := { s.dev with fc := { s.dev.fc with sigs := r } } } =
        .next (s.latchOf (r.filter fun x => !([g].contains x)) g) := exec_faultLatch_one hrun hlost
    rw [filter_of_not_mem hg] at hlatch
    exact (exec_faultLatch_none hrun hsigs).trans hlatch.symm
  · intro g s hrun hunknown hlost hg
    rw [exec_faultLatch_one hrun hlost, filter_of_not_mem hg, State.latchOf, Dev.latchSig_of_unknown hunknown]
  · intro g b x rest s hrun hsource hforced hlost htrigs hoff
    refine ⟨_, exec_faultLatch_trigger hrun hlost, rfl, rfl, ?_⟩
    have hlost' := Dev.kept_loseTrigger (w := true) htrigs
    have hsame := (s.dev.loseTrigger b).sameButSigs ((s.dev.loseTrigger b).fc.sigs.filter fun x => !([g].contains x))
    unfold State.latchOf; dsimp only
    generalize ({ s.dev.loseTrigger b with fc := { (s.dev.loseTrigger b).fc with
      sigs := (s.dev.loseTrigger b).fc.sigs.filter fun x => !([g].contains x) } } : Dev) = d at hsame ⊢
    have hknown : knownSource g.source = true := by rw [hsource]; rfl
    have hen : d.on .FC_SRC_EN g.source = false := by
      rw [hsame.on, hsource, ← hoff]
      exact Dev.on_of_word (Dev.fc_of_kept hlost' (by decide) (by decide))
    rw [Dev.latchSig_of_off hknown hforced hen, hsource]
    have hbay : (d.latched 0).bay b = (s.dev.loseTrigger b).bay b := ((d.latched_collects 0).bay b).trans (hsame.bay b)
    obtain ⟨htrigs', hcc, hmode⟩ := Dev.loseTrigger_bay htrigs
    unfold Dev.pc at htrigs' ⊢
    rw [hbay]
    exact ⟨htrigs', hcc, hmode, Dev.latched_spall (by decide)⟩
  · intro rail us i src s hcase
    have hexec : exec i s = .next { s with dev := s.dev.deviceFault src } := by
      obtain ⟨rfl, rfl, hus⟩ | ⟨rfl, rfl, hlocked⟩ := hcase
      · simp [exec, execSupplyTrip, State.onDev, hus]
      · simp [exec, execPllLockLoss, State.onDev, hlocked]
    have hsource : s.dev.unitBay src 0xFF = none := by
      obtain ⟨-, rfl, -⟩ | ⟨-, rfl, -⟩ := hcase
      · rfl
      · rfl
    refine ⟨fun hrun => ⟨_, hexec, rfl, ?_⟩, fun hrun hhears => ⟨_, hexec, rfl, ?_⟩⟩
    · dsimp only [Dev.deviceFault]
      rw [if_pos hrun]
      refine ⟨rfl, ?_⟩
      unfold Dev.signal
      rw [hsource]
      rfl
    · dsimp only [Dev.deviceFault]
      rw [if_neg (by simp [hrun]), if_pos hhears]
      exact ⟨rfl, rfl⟩
  · intro rail us s hus
    simp [exec, execSupplyTrip, State.onDev, show ¬ 10 < us by omega]

end Sys2Proof.Machine
end

section
/-! PROOFS. What the applies of a course boundary keep in the throttle, the pacer's channels, the compare engines and the cameras. -/

namespace Sys2Proof.Machine

variable {d : Dev} {w : Bool}

/-! ## Curves and the throttle -/

@[simp] theorem Dev.kept_curveApply (b : Nat) : (d.curveApply b).kept w = d.kept w := by
  unfold Dev.curveApply; simp (disch := decide)

@[simp] theorem Dev.kept_thrEvent (b what unit : Nat) : (d.thrEvent b what unit).kept w = d.kept w := Dev.kept_bayEvent _ _ _ _ _ _

@[simp] theorem Dev.kept_setThrq (b : Nat) (low : Bool) : (d.setThrq b low).kept w = d.kept w := by
  unfold Dev.setThrq; simp (disch := decide)

@[simp] theorem Dev.kept_thrIdle (b : Nat) : (d.thrIdle b).kept w = d.kept w := by
  unfold Dev.thrIdle; simp (disch := decide)

@[simp] theorem Dev.kept_thrEnforce (b : Nat) : (d.thrEnforce b).kept w = d.kept w := by
  unfold Dev.thrEnforce; simp

@[simp] theorem Dev.kept_thrRelease (b : Nat) : (d.thrRelease b).kept w = d.kept w := by
  unfold Dev.thrRelease; simp

@[simp] theorem Dev.kept_thrEval (b : Nat) (test : Bool) : (d.thrEval b test).kept w = d.kept w := by
  unfold Dev.thrEval; dsimp only
  split
  · rfl
  · split
    · simp (disch := decide)
    · simp
    · simp

@[simp] theorem Dev.kept_thrChanged (b : Nat) : (d.thrChanged b).kept w = d.kept w := by
  unfold Dev.thrChanged; simp

@[simp] theorem Dev.kept_thrDone (b : Nat) (applied : Bool) : (d.thrDone b applied).kept w = d.kept w := by
  unfold Dev.thrDone; dsimp only
  split
  · rfl
  · split
    · simp
    · split
      · simp (disch := decide)
      · simp
      · simp

@[simp] theorem Dev.kept_thrBoundary (b : Nat) : (d.thrBoundary b).kept w = d.kept w := by
  unfold Dev.thrBoundary; simp

/-! ## The pacer's channels and the compare engines -/

@[simp] theorem Dev.kept_interpEnd (before : Dev) (b base : Nat) : (d.interpEnd before b base).kept w = d.kept w := by
  unfold Dev.interpEnd; dsimp only
  split
  · exact Dev.kept_setPc rfl
  · rfl

@[simp] theorem Dev.kept_psPins : d.psPins.kept w = d.kept w := Dev.kept_forN (fun n d => by simp) 8 d

@[simp] theorem Dev.kept_cmpPins (before : Dev) (mask : Nat) : (d.cmpPins before mask).kept w = d.kept w :=
  Dev.kept_forN (fun o d => by simp) 16 d

@[simp] theorem Dev.kept_rawLevels (n r : Nat) : (d.rawLevels n r).kept w = d.kept w := by
  unfold Dev.rawLevels; simp (disch := decide)

@[simp] theorem Dev.kept_invApplied (before : Dev) (b : Nat) : (d.invApplied before b).kept w = d.kept w :=
  Dev.kept_forN (fun n d => by simp) 8 d

@[simp] theorem Dev.kept_cmpArm (e i lap : Nat) : (d.cmpArm e i lap).kept w = d.kept w := by
  unfold Dev.cmpArm; simp (disch := decide)

@[simp] theorem Dev.kept_cmpStart (e : Nat) : (d.cmpStart e).kept w = d.kept w := (Dev.kept_cmpArm _ _ _).trans (Dev.kept_setCp _ _)

@[simp] theorem Dev.kept_cmpStop (e : Nat) : (d.cmpStop e).kept w = d.kept w := by
  unfold Dev.cmpStop; simp (disch := decide)

/-- A pacer whose position reads otherwise rebases (R159). -/
theorem Dev.kept_rebaseIf (b : Nat) (c : Prop) [Decidable c] : (if c then d.setPc b (d.pc b).rebase else d).kept w = d.kept w := by
  split
  · exact Dev.kept_setPc rfl
  · rfl

/-- The generator of another period starts anew. -/
theorem Dev.kept_genNextIf (b t : Nat) (c : Prop) [Decidable c] : (if c then d.setPc b { d.pc b with genNext := t } else d).kept w = d.kept w := by
  split
  · exact Dev.kept_setPc rfl
  · rfl

@[simp] theorem Dev.kept_pacingApplied (before : Dev) (b base : Nat) (quiet : Bool) : (d.pacingApplied before b base quiet).kept w = d.kept w := by
  unfold Dev.pacingApplied; dsimp only
  rw [Dev.kept_forN fun e d => by simp, Dev.kept_psPins, Dev.kept_cmpPins, Dev.kept_invApplied, Dev.kept_interpEnd, Dev.kept_restartStalls,
    Dev.kept_noSource, Dev.kept_genNextIf, Dev.kept_rebaseIf, Dev.kept_updateSource]

/-! ## Cameras and learning -/

@[simp] theorem Dev.kept_stimChange (before : Dev) (xx : Nat) : (d.stimChange before xx).kept w = d.kept w := by
  unfold Dev.stimChange; simp (disch := decide)

@[simp] theorem Dev.kept_trigPin (n : Nat) (active : Bool) (t : Nat) : (d.trigPin n active t).kept w = d.kept w := rfl
@[simp] theorem Dev.kept_camPulseStop (n t : Nat) : (d.camPulseStop n t).kept w = d.kept w := rfl

@[simp] theorem Dev.kept_camPulse (n t till : Nat) : (d.camPulse n t till).kept w = d.kept w := by
  unfold Dev.camPulse; dsimp only
  split <;> simp

@[simp] theorem Dev.kept_camRelevel (before : Dev) (n : Nat) : (d.camRelevel before n).kept w = d.kept w := by
  unfold Dev.camRelevel; simp

@[simp] theorem Dev.kept_flagFrame (n fn bit : Nat) : (d.flagFrame n fn bit).kept w = d.kept w := by
  unfold Dev.flagFrame
  split
  · rfl
  · simp (disch := decide)

@[simp] theorem Dev.kept_flagAll (n fn : Nat) (bits : List Nat) : (d.flagAll n fn bits).kept w = d.kept w :=
  Dev.kept_foldl (fun d b => by simp) bits d

@[simp] theorem Dev.kept_closeFrame (n : Nat) (bits : List Nat) : (d.closeFrame n bits).kept w = d.kept w := by
  unfold Dev.closeFrame; dsimp only
  split
  · rfl
  · rw [Dev.kept_foldl fun d k => by simp (disch := decide)]
    simp (disch := decide)

@[simp] theorem Dev.kept_camApply (before : Dev) (b : Nat) : (d.camApply before b).kept w = d.kept w :=
  Dev.kept_forN (fun n d => by simp) 4 d

@[simp] theorem Dev.kept_applyEffects (before : Dev) (b : Nat) : (d.applyEffects before b).kept w = d.kept w :=
  (Dev.kept_camApply _ _).trans (Dev.kept_foldl (fun d xx => by simp) _ d)

@[simp] theorem Dev.kept_camTrigger (b c stamp : Nat) : (d.camTrigger b c stamp).kept w = d.kept w :=
  Dev.kept_forN (fun n d => by simp) 4 d

end Sys2Proof.Machine
end

section
/-! PROOFS. What the work of a course keeps: confirmation, firing, sounding, and the preparation of the next course. -/

namespace Sys2Proof.Machine

variable {d : Dev} {w : Bool}

/-! ## Confirmation and firing -/

@[simp] theorem Dev.kept_confirmCourse (b xx n : Nat) : (d.confirmCourse b xx n).kept w = d.kept w := by
  unfold Dev.confirmCourse; dsimp only
  split
  · rfl
  · split
    · rfl
    · split
      · simp (disch := decide)
      · simp (disch := decide)

@[simp] theorem Dev.kept_signalAs (source unit : Nat) (bay : Option (Fin 4)) (course : Nat) (forced : Bool) :
    (d.signalAs source unit bay course forced).kept w = d.kept w := rfl

theorem Dev.kept_overspeed (b n : Nat) (lam : Int) : (d.overspeed b n lam).1.kept w = d.kept w := by
  have hgrow (d : Dev) (c : Prop) [Decidable c] : (if c then (if h : b < 4 then d.signalAs srcHpOverspeed 0xFF (some ⟨b, h⟩) n false else d)
      else d).kept w = d.kept w := by
    split
    · split <;> rfl
    · rfl
  unfold Dev.overspeed; dsimp only
  split
  · simp (disch := decide)
  · split
    · dsimp only
      rw [Dev.kept_setFld (by decide), hgrow]
      simp (disch := decide)
    · dsimp only
      rw [hgrow]
      simp (disch := decide) only [Dev.kept_setOn, Dev.kept_setFld, Dev.kept_ite, Dev.kept_bayEvent, Dev.kept_osRun, Dev.kept_bump, ite_self]

@[simp] theorem Dev.kept_setLatch (b xx n t defer : Nat) : (d.setLatch b xx n t defer).kept w = d.kept w := by
  unfold Dev.setLatch; dsimp only
  rw [Dev.kept_setHp]
  simp (disch := decide)

@[simp] theorem Dev.kept_fireCourse (b n t : Nat) (mode : Mode) : (d.fireCourse b n t mode).kept w = d.kept w := by
  have hidle (l : List Nat) (d : Dev) : (l.foldl (fun d xx => (if mode = .hold then d.blank xx else d).dropJob xx n (5000 * t + 12500)) d).kept w =
      d.kept w := Dev.kept_foldl (fun d xx => by simp) l d
  unfold Dev.fireCourse; dsimp only
  split
  · exact hidle _ d
  · split
    · exact Dev.kept_foldl (fun d xx => by simp (disch := decide)) _ d
    · split
      · rw [Dev.kept_foldl fun d xx => by simp, Dev.kept_overspeed, Dev.kept_foldl fun d xx => by simp (disch := decide)]
      · rw [Dev.kept_foldl fun d xx => by simp, Dev.kept_overspeed, Dev.kept_foldl fun d xx => by simp (disch := decide)]

/-! ## Diffusion buffers and sounding -/

@[simp] theorem Dev.kept_edRestore (xx : Nat) : (d.edRestore xx).kept w = d.kept w := rfl

@[simp] theorem Dev.kept_edTake (xx : Nat) : (d.edTake xx).kept w = d.kept w := by
  unfold Dev.edTake; dsimp only
  split <;> rfl

@[simp] theorem Dev.kept_edConfirm (xx n : Nat) (dec : Option Decision) : (d.edConfirm xx n dec).kept w = d.kept w := by
  unfold Dev.edConfirm
  split <;> simp

@[simp] theorem Dev.kept_soundOwes (xx first : Nat) : (d.soundOwes xx first).kept w = d.kept w := rfl

@[simp] theorem Dev.kept_sweepStep (xx : Nat) : (d.sweepStep xx).kept w = d.kept w := by
  unfold Dev.sweepStep; simp (disch := decide)

@[simp] theorem Dev.kept_windowEnd (xx : Nat) (missed : Bool) : (d.windowEnd xx missed).kept w = d.kept w := by
  unfold Dev.windowEnd; dsimp only
  split
  · rfl
  · simp (disch := decide)

@[simp] theorem Dev.kept_offerSound (xx n : Nat) (cand : Option Nat) (first : Nat) (sweep owes : Bool) :
    (d.offerSound xx n cand first sweep owes).kept w = d.kept w := rfl

@[simp] theorem Dev.kept_windowOpen (xx n : Nat) : (d.windowOpen xx n).kept w = d.kept w := rfl

@[simp] theorem Dev.kept_windowCourse (xx n : Nat) : (d.windowCourse xx n).kept w = d.kept w := by
  unfold Dev.windowCourse
  split
  · simp
  · rfl

@[simp] theorem Dev.kept_soundBoundary (b xx n : Nat) : (d.soundBoundary b xx n).kept w = d.kept w := by
  unfold Dev.soundBoundary; dsimp only
  split
  · simp (disch := decide)
  · split
    · simp
    · rw [Dev.kept_windowCourse, Dev.kept_ite, Dev.kept_windowOpen, ite_self]
      split <;> simp

/-! ## Configuration, rings and codes of the next course -/

@[simp] theorem Dev.kept_sendCfgOf (l : Dev) (xx : Nat) : (d.sendCfgOf l xx).kept w = d.kept w := by
  unfold Dev.sendCfgOf; simp (disch := decide)

@[simp] theorem Dev.kept_switchRing (l : Dev) (b xx : Nat) : (d.switchRing l b xx).kept w = d.kept w := by
  unfold Dev.switchRing; simp

@[simp] theorem Dev.kept_queueCourse (l : Dev) (xx n : Nat) (codes : List Nat) (blank : Bool) : (d.queueCourse l xx n codes blank).kept w = d.kept w := rfl
@[simp] theorem Dev.kept_queueBlank (l : Dev) (xx n : Nat) : (d.queueBlank l xx n).kept w = d.kept w := rfl

@[simp] theorem Dev.kept_prepPrime (l : Dev) (b xx n : Nat) : (d.prepPrime l b xx n).kept w = d.kept w := by
  unfold Dev.prepPrime; simp

@[simp] theorem Dev.kept_edAfterPrime (xx : Nat) : (d.edAfterPrime xx).kept w = d.kept w := by
  unfold Dev.edAfterPrime; simp

@[simp] theorem Dev.kept_barBlanks (l : Dev) (b : Nat) : (d.barBlanks l b).kept w = d.kept w := by
  unfold Dev.barBlanks; dsimp only
  split
  · rfl
  · refine Dev.kept_foldl (fun d xx => ?_) _ d
    split
    · simp
    · rfl

/-! ## Memory errors -/

@[simp] theorem Dev.kept_markPert : d.markPert.kept w = d.kept w := by
  unfold Dev.markPert; dsimp only
  split <;> rfl

@[simp] theorem Dev.kept_ptNote (old : Nat) : (d.ptNote old).kept w = d.kept w := by
  unfold Dev.ptNote; dsimp only
  split
  · rfl
  · rw [Dev.kept_foldl fun d b => by simp]
    simp

@[simp] theorem Dev.kept_takeEcc (hit : Bool) (n : Nat) : (d.takeEcc hit n).1.kept w = d.kept w := by
  unfold Dev.takeEcc; dsimp only
  split
  · simp (disch := decide)
  · rfl

@[simp] theorem Dev.kept_raiseFsUe (bay : Option Nat) (unit : Nat) : (d.raiseFsUe bay unit).kept w = d.kept w := by
  unfold Dev.raiseFsUe; dsimp only
  rw [Dev.kept_unitEvent]
  split
  · split <;> rfl
  · rfl

@[simp] theorem Dev.kept_noteEcc (addr : Nat) (ue scrub : Bool) : (d.noteEcc addr ue scrub).kept w = d.kept w := by
  unfold Dev.noteEcc
  cases ue <;> simp (disch := decide)

theorem Dev.kept_fsCheckBlock (bay : Option Nat) (unit : Nat) (acc : Dev × Bool) (blk : Nat) :
    (fsCheckBlock bay unit acc blk).1.kept w = acc.1.kept w := by
  have htake (hit : Bool) := Dev.kept_takeEcc (d := acc.1) (w := w) hit 1
  unfold fsCheckBlock; dsimp only
  split
  · rw [Dev.kept_raiseFsUe, Dev.kept_noteEcc, htake]
  · split
    · rw [Dev.kept_signal, Dev.kept_noteEcc, htake]
    · rw [htake]

theorem Dev.kept_fsCheck (bay : Option Nat) (unit addr n : Nat) : (d.fsCheck bay unit addr n).1.kept w = d.kept w := by
  have hblocks (b0 : Nat) (l : List Nat) (acc : Dev × Bool) :
      (l.foldl (fun acc i => fsCheckBlock bay unit acc (b0 + i)) acc).1.kept w = acc.1.kept w := by
    induction l generalizing acc with
    | nil => rfl
    | cons i r ih => exact (ih _).trans (Dev.kept_fsCheckBlock _ _ _ _)
  unfold Dev.fsCheck; dsimp only
  split
  · rfl
  · exact hblocks _ _ _

@[simp] theorem Dev.kept_memTouch : d.memTouch.kept w = d.kept w := Dev.kept_foldl (fun d i => by simp) _ d

@[simp] theorem Dev.kept_readRaster (b xx r : Nat) : (d.readRaster b xx r).1.kept w = d.kept w := by
  unfold Dev.readRaster; dsimp only
  rw [Dev.kept_fsCheck, Dev.kept_memTouch]

@[simp] theorem Dev.kept_sramHits (group arg n : Nat) : (d.sramHits group arg n).1.kept w = d.kept w := by
  unfold Dev.sramHits; dsimp only
  split
  · simp
  · rw [Dev.kept_forN fun k d => by simp, Dev.kept_takeEcc]

@[simp] theorem Dev.kept_sramRead (group arg n : Nat) : (d.sramRead group arg n).1.kept w = d.kept w := Dev.kept_sramHits _ _ _

@[simp] theorem Dev.kept_tableError (b xx : Nat) : (d.tableError b xx).kept w = d.kept w := by
  unfold Dev.tableError; dsimp only
  split <;> simp (disch := decide)

@[simp] theorem Dev.kept_portSramUe (xx : Nat) : (d.portSramUe xx).kept w = d.kept w := by
  unfold Dev.portSramUe
  split
  · split <;> rfl
  · rfl

/-! ## The health map, and a head of an advancing course -/

@[simp] theorem Dev.kept_hmSuspect (xx n : Nat) (enter : Bool) : (d.hmSuspect xx n enter).kept w = d.kept w := rfl

@[simp] theorem Dev.kept_hmPut (xx n state conf age : Nat) : (d.hmPut xx n state conf age).kept false = d.kept false := rfl

@[simp] theorem Dev.kept_hmSet (xx n state conf age src : Nat) : (d.hmSet xx n state conf age src).kept false = d.kept false := by
  have hcnt : Nat.ble 0x30000 (if usableState state then Fld.HM_CNT_UP else Fld.HM_CNT_DOWN).reg.info.base = true := by
    split <;> decide
  unfold Dev.hmSet; dsimp only
  split
  · simp (disch := decide)
  · rw [Dev.kept_ite, Dev.kept_signal, ite_self, Dev.kept_unitEvent, Dev.kept_wear, Dev.kept_bump hcnt]
    simp (disch := decide)

@[simp] theorem Dev.kept_hmRead (xx n k per : Nat) : (d.hmRead xx n k per).kept false = d.kept false := by
  have herror (m : Nat) (d : Dev) : (d.hmTableError xx m per).kept false = d.kept false :=
    (Dev.kept_portSramUe xx).trans (Dev.kept_forN (fun k d => by simp) per d)
  unfold Dev.hmRead; dsimp only
  rw [Dev.kept_forN fun i d => herror _ d, Dev.kept_sramHits]

/-- A course whose levels clamp is counted, and reported where none has clamped since the flag was cleared (R118). -/
theorem Dev.kept_levelClamp (c : Prop) [Decidable c] (b xx q code unit d0 d1 : Nat) : (if c then d
    else if d.on .SC_STAT_LVCLAMP xx = true then (d.bump .SC_CNT_LVCLAMP xx 0).setOn .SC_STAT_LVCLAMP xx 0 true
    else ((d.bump .SC_CNT_LVCLAMP xx 0).setOn .SC_STAT_LVCLAMP xx 0 true).bayEvent b q code unit d0 d1).kept w = d.kept w := by
  simp (disch := decide)

@[simp] theorem Dev.kept_noteScreened (l : Dev) (b xx : Nat) (o : Screened) : (d.noteScreened l b xx o).kept w = d.kept w := by
  unfold Dev.noteScreened; dsimp only
  rw [Dev.kept_setEngine, Dev.kept_ite, Dev.kept_bump (by decide), ite_self, Dev.kept_ite, Dev.kept_bump (by decide), ite_self,
    Dev.kept_ite, Dev.kept_bump (by decide), ite_self, Dev.kept_levelClamp]
  simp (disch := decide)

@[simp] theorem Dev.kept_prepPort (l : Dev) (b xx n : Nat) : (d.prepPort l b xx n).kept false = d.kept false := by
  unfold Dev.prepPort; dsimp only
  split
  · rfl
  · split
    · simp
    · split
      · simp
      · split
        · simp
        · split
          · simp
          · simp

/-- The work of course n fixes whether it advances and its HOLDPOL, and leaves the rest. -/
theorem Dev.kept_prepareCourse (b n stamp : Nat) : ∃ adv pol, (d.prepareCourse b n stamp).kept false =
    (d.setBay b { d.bay b with adv := adv, pol := pol }).kept false := by
  refine ⟨(planMode ((d.look b).reqMode b) (d.markAt b n)).advancing ((d.look b).on .RI_BAYCTL_HOLDPOL b), (d.look b).on .RI_BAYCTL_HOLDPOL b, ?_⟩
  unfold Dev.prepareCourse; dsimp only
  split
  · rw [Dev.kept_foldl fun d xx => by simp, Dev.kept_foldl fun d xx => by simp, Dev.kept_foldl fun d xx => by simp]
  · split
    · rw [Dev.kept_foldl fun d xx => by simp, Dev.kept_barBlanks, Dev.kept_foldl fun d xx => by simp, Dev.kept_foldl fun d xx => by simp,
        Dev.kept_foldl fun d xx => by simp, Dev.kept_foldl fun d xx => by simp]
    · rw [Dev.kept_foldl fun d xx => by simp, Dev.kept_foldl fun d xx => by simp]

end Sys2Proof.Machine
end

section
/-! PROOFS. A course boundary (R18, R19, R61, R66, R76, R93, R316). -/

namespace Sys2Proof.Machine

variable {d e : Dev} {w : Bool} {b n : Nat}

/-! ## What the applies keep -/

/-- What is kept, without the registers, the generations and the Keystone's commits. -/
def Kept.still (k : Kept) : Kept :=
  { k with ksWord := fun _ => 0, fcWord := fun _ => 0, core := fun b => { k.core b with gen := 0 }, host := fun _ => {}, pend := fun _ => [] }

theorem Dev.withFields_eq (l : List Staged) : ∃ regs, d.withFields l = { d with regs := regs } := by
  unfold Dev.withFields
  induction l generalizing d with
  | nil => exact ⟨_, rfl⟩
  | cons x r ih => exact ih (d := d.setWord x.off (wput (d.word x.off) x.lo x.width x.val))

/-- The values that fields take depend on the registers alone. -/
theorem Dev.withFields_congr (l : List Staged) (h : e.regs = d.regs) : (e.withFields l).regs = (d.withFields l).regs := by
  unfold Dev.withFields
  induction l generalizing d e with
  | nil => exact h
  | cons x r ih =>
    have hword := Dev.word_congr h x.off
    refine ih ?_
    dsimp only [Dev.setWord]
    rw [hword, h]

theorem Dev.still_withFields (l : List Staged) : ((d.withFields l).kept w).still = (d.kept w).still := by
  obtain ⟨regs, hregs⟩ := d.withFields_eq l
  rw [hregs]; rfl

theorem Dev.still_setKset (b : Nat) (x : Ks) : ((d.setKset b x).kept w).still = (d.kept w).still := rfl

/-- An apply counts, and raises the generation. -/
theorem Dev.kept_applied (b target word1 : Nat) : (d.applied b target word1).kept w =
    ((d.setBay b { d.bay b with gen := ((d.bay b).gen + 1) % 2 ^ 32 }).bump .KS_CNT_APPLIED b 0).kept w := Dev.kept_bayEvent _ _ _ _ _ _

theorem Dev.still_applied (b target word1 : Nat) : ((d.applied b target word1).kept w).still = (d.kept w).still := by
  have hcore : (fun c => { ((d.setBay b { d.bay b with gen := ((d.bay b).gen + 1) % 2 ^ 32 }).bay c).core with gen := 0 }) =
      fun c => { (d.bay c).core with gen := 0 } := by
    funext c
    by_cases hc : c = b
    · subst hc; rw [Dev.bay_setBay]; rfl
    · rw [Dev.bay_setBay_other d _ hc]
  rw [Dev.kept_applied]
  exact congrArg (fun f => { (d.kept w).still with core := f }) hcore

theorem Dev.still_hostAt (b n : Nat) : ((d.hostAt b n).kept w).still = (d.kept w).still := by
  unfold Dev.hostAt Dev.applyHost; dsimp only
  split
  · rw [Dev.still_applied, Dev.kept_curveApply, Dev.still_setKset, Dev.still_withFields]
  · rfl

theorem Dev.still_applyInternal (b : Nat) : ((d.applyInternal b).kept w).still = (d.kept w).still := by
  unfold Dev.applyInternal; dsimp only
  split
  · rfl
  · rw [Dev.still_applied, Dev.kept_ite, Dev.kept_foldl fun d xx => by simp (disch := decide), ite_self, Dev.still_setKset, Dev.still_withFields]

theorem Dev.still_intAt (b n : Nat) : ((d.intAt b n).kept w).still = (d.kept w).still := by
  unfold Dev.intAt; dsimp only
  split
  · split
    · rw [Dev.kept_ite, Dev.kept_thrDone, ite_self, Dev.still_applyInternal]
    · exact Dev.still_applyInternal b
  · rfl

/-! ## The host commit of the course -/

theorem Dev.Reported.bays (h : d.Reported e) : e.bays = d.bays := by
  have hq := congrArg Dev.bays h.1; exact hq
theorem Dev.Reported.ks (h : d.Reported e) : e.ks = d.ks := by
  have hq := congrArg Dev.ks h.1; exact hq
theorem Dev.Reported.snaps (h : d.Reported e) : e.snaps = d.snaps := by
  have hq := congrArg Dev.snaps h.1; exact hq
theorem Dev.Reported.fs (h : d.Reported e) : e.fs = d.fs := by
  have hq := congrArg Dev.fs h.1; exact hq

theorem Dev.withFields_bay (l : List Staged) (c : Nat) : (d.withFields l).bay c = d.bay c := by
  obtain ⟨regs, hregs⟩ := d.withFields_eq l
  rw [hregs]; rfl

theorem Dev.withFields_kset (l : List Staged) (c : Nat) : (d.withFields l).kset c = d.kset c := by
  obtain ⟨regs, hregs⟩ := d.withFields_eq l
  rw [hregs]; rfl

theorem Dev.curveApply_bay (b c : Nat) : (d.curveApply b).bay c = d.bay c := by
  unfold Dev.curveApply
  split <;> rfl

theorem Dev.curveApply_kset (b c : Nat) : (d.curveApply b).kset c = d.kset c := by
  unfold Dev.curveApply
  split <;> rfl

theorem Dev.applied_kset (b target word1 c : Nat) : (d.applied b target word1).kset c = d.kset c := by
  have hks : (d.applied b target word1).ks = d.ks := (Dev.reported_bayEvent _ _ _ _ _ _ _).ks
  unfold Dev.kset; rw [hks]

theorem Dev.applied_bay (b target word1 : Nat) : (d.applied b target word1).bay b = { d.bay b with gen := ((d.bay b).gen + 1) % 2 ^ 32 } := by
  have hbays : (d.applied b target word1).bays = (d.setBay b { d.bay b with gen := ((d.bay b).gen + 1) % 2 ^ 32 }).bays :=
    (Dev.reported_bayEvent _ _ _ _ _ _ _).bays
  unfold Dev.bay at hbays ⊢
  rw [hbays]
  exact Store.get_set_self _ _ _ _

/-- The slot of a host commit that applies is free, its set is empty, and the internal slot stands. -/
theorem Dev.applyHost_kset (b : Nat) : (d.applyHost b).kset b = { (d.kset b) with pending := [], host := {} } := by
  unfold Dev.applyHost; dsimp only
  rw [Dev.applied_kset, Dev.curveApply_kset, Dev.kset_setKset, Dev.withFields_kset]

theorem Dev.bay_setKset (b c : Nat) (k : Ks) : (d.setKset b k).bay c = d.bay c := rfl

theorem Dev.applyHost_gen (b : Nat) : ((d.applyHost b).bay b).gen = ((d.bay b).gen + 1) % 2 ^ 32 := by
  unfold Dev.applyHost; dsimp only
  rw [Dev.applied_bay, Dev.curveApply_bay, Dev.bay_setKset, Dev.withFields_bay]

/-- The registers of the mode are those of its set. -/
theorem Dev.applyHost_bayctl (hb : b < 4) : (d.applyHost b).word (RegName.off .KS_BAYCTL b 0) =
    (d.withFields (d.kset b).pending).word (RegName.off .KS_BAYCTL b 0) := by
  have hlo : 0x10000 ≤ RegName.off .KS_BAYCTL b 0 := by simp only [RegName.off, RegName.info]; omega
  have hhi : RegName.off .KS_BAYCTL b 0 < 0x20000 := by simp only [RegName.off, RegName.info]; omega
  have hne : RegName.off .KS_BAYCTL b 0 ≠ RegName.off .KS_CNT b 0 := by simp only [RegName.off, RegName.info]; omega
  unfold Dev.applyHost; dsimp only
  rw [Dev.ks_of_kept (Dev.kept_applied (w := false) _ _ _) hlo hhi, Dev.word_bump_other _ .KS_CNT_APPLIED b 0 1 hne]
  exact Dev.ks_of_kept (Dev.kept_curveApply (w := false) b) hlo hhi

/-! ## The mode of the course -/

/-- A stop holds the bay, unless STANDBY is requested (R61). -/
def Dev.stopHolds (d : Dev) (b : Nat) (stop : Option Nat) : Bool := stop.isSome && d.reqMode b != .standby

/-- Of two writes of a bay the later one is kept. -/
theorem Dev.kept_setBay_twice (x y : Bay) : ((d.setBay b x).setBay b y).kept w = (d.setBay b y).kept w := by
  rw [Dev.kept_setBay_core, Dev.kept_setBay_core, Dev.kept_setBay_core]
  exact congrArg (fun f => { d.kept w with core := f }) (Function.update_idem _ _ _)

/-- A mark, and then a mode. -/
theorem Dev.kept_markMode (mark : Bool) (m : Mode) : ((d.setBay b { d.bay b with mark := mark }).modeChange b m).kept w =
    (d.setBay b { d.bay b with mark := mark, mode := m }).kept w := by
  rw [Dev.kept_modeChange, Dev.kept_setBay_twice, Dev.bay_setBay]

/-- The mode of the course is fixed (R316). -/
theorem Dev.kept_modeAt (b n : Nat) (stop : Option Nat) (mark : Bool) : (d.modeAt b n stop mark).kept w =
    ((if d.stopHolds b stop then d.holdRequested b else d).setBay b { d.bay b with
      mark := mark && !d.stopHolds b stop && d.reqMode b == .print
      mode := if d.stopHolds b stop then .hold else planMode (d.reqMode b) mark }).kept w := by
  have hbay : (if d.stopHolds b stop then d.holdRequested b else d).bay b = d.bay b := by split <;> rfl
  unfold Dev.modeAt; dsimp only
  rw [← hbay]
  split
  · rw [Dev.kept_ite, Dev.kept_bayEvent, ite_self]
    exact Dev.kept_markMode _ _
  · exact Dev.kept_markMode _ _

/-! ## Snapshots -/

def snapRegs (b k : Nat) : List Nat :=
  [RegName.off .KS_SNAPGEN b k, RegName.off .KS_SNAPCCLO b k, RegName.off .KS_SNAPCCHI b k, RegName.off .KS_SNAPPT b k]

/-- The buffer has latched at course `cc`, and not at NOW (R76). -/
def Dev.SnapLatched (d : Dev) (b k cc : Nat) : Prop :=
  (d.snap b k).pendingAt = none ∧ d.on .KS_SNAPCCHI_VALID b k = true ∧ d.on .KS_SNAPCCHI_NOW b k = false ∧
    d.fld .KS_SNAPCCLO_CC b k = cc % 2 ^ 32

/-- A snapshot that latches changes its buffer, its registers and what is reported. -/
structure Dev.SnapOnly (b k : Nat) (d e : Dev) : Prop where
  word : ∀ o, o ∉ snapRegs b k → o ∉ reports → e.word o = d.word o
  bay : ∀ c, e.bay c = d.bay c
  kset : ∀ c, e.kset c = d.kset c
  fs : e.fs = d.fs
  snap : ∀ j, j ≠ k → e.snap b j = d.snap b j

theorem Dev.SnapOnly.refl (b k : Nat) (d : Dev) : Dev.SnapOnly b k d d :=
  ⟨fun _ _ _ => rfl, fun _ => rfl, fun _ => rfl, rfl, fun _ _ => rfl⟩

/-- The registers of the snapshot, before it is reported. -/
def Dev.snapTaken (d : Dev) (b k : Nat) (now : Bool) (x : Snap) : Dev :=
  let d := d.setSnap b k x
  let d := d.setFld .KS_SNAPGEN_GEN b k (d.bay b).gen
  let d := d.setPair .KS_SNAPCCLO_CC .KS_SNAPCCHI_CC b k (d.bay b).cc
  let d := (d.setOn .KS_SNAPCCHI_VALID b k true).setOn .KS_SNAPCCHI_NOW b k now
  d.setFld .KS_SNAPPT_PTACT b k d.ptActive

theorem Dev.snapTaken_only (b k : Nat) (now : Bool) (x : Snap) : Dev.SnapOnly b k d (d.snapTaken b k now x) where
  word o ho _ := by
    simp only [snapRegs, List.mem_cons, List.not_mem_nil, or_false, not_or] at ho
    obtain ⟨hgen, hlo, hhi, hpt⟩ := ho
    unfold Dev.snapTaken; dsimp only
    rw [Dev.word_setFld_other _ .KS_SNAPPT_PTACT b k _ hpt, Dev.word_setOn_other _ .KS_SNAPCCHI_NOW b k _ hhi,
      Dev.word_setOn_other _ .KS_SNAPCCHI_VALID b k _ hhi, Dev.setPair, Dev.word_setFld_other _ .KS_SNAPCCHI_CC b k _ hhi,
      Dev.word_setFld_other _ .KS_SNAPCCLO_CC b k _ hlo, Dev.word_setFld_other _ .KS_SNAPGEN_GEN b k _ hgen]
    rfl
  bay _ := rfl
  kset _ := rfl
  fs := rfl
  snap j hj := Store.get_set_other _ _ _ (show 2 * b + j ≠ 2 * b + k by omega)

/-- The registers of a snapshot lie apart. -/
theorem snapRegs_apart (b k : Nat) : RegName.off .KS_SNAPCCHI b k ≠ RegName.off .KS_SNAPPT b k ∧
    RegName.off .KS_SNAPCCLO b k ≠ RegName.off .KS_SNAPPT b k ∧ RegName.off .KS_SNAPCCLO b k ≠ RegName.off .KS_SNAPCCHI b k := by
  simp only [RegName.off, RegName.info]; omega

theorem Dev.snapTaken_latched (b k : Nat) (x : Snap) (hx : x.pendingAt = none) : (d.snapTaken b k false x).SnapLatched b k (d.bay b).cc := by
  obtain ⟨hhi, hlo, hpair⟩ := snapRegs_apart b k
  refine ⟨?_, ?_, ?_, ?_⟩
  · exact (congrArg Snap.pendingAt (Store.get_set_self (fun _ => ({} : Snap)) d.snaps (2 * b + k) x)).trans hx
  · unfold Dev.snapTaken Dev.on Dev.setOn; dsimp only
    rw [Dev.fld_setFld_reg _ .KS_SNAPPT_PTACT .KS_SNAPCCHI_VALID _ _ _ _ _ hhi,
      Dev.fld_setFld_beside _ .KS_SNAPCCHI_NOW .KS_SNAPCCHI_VALID _ _ _ rfl (by decide) (by decide) (by decide), Dev.fld_setFld _ _ _ _ _ (by decide)]
    rfl
  · unfold Dev.snapTaken Dev.on Dev.setOn; dsimp only
    rw [Dev.fld_setFld_reg _ .KS_SNAPPT_PTACT .KS_SNAPCCHI_NOW _ _ _ _ _ hhi, Dev.fld_setFld _ _ _ _ _ (by decide)]
    rfl
  · unfold Dev.snapTaken Dev.setOn Dev.setPair; dsimp only
    rw [Dev.fld_setFld_reg _ .KS_SNAPPT_PTACT .KS_SNAPCCLO_CC _ _ _ _ _ hlo, Dev.fld_setFld_reg _ .KS_SNAPCCHI_NOW .KS_SNAPCCLO_CC _ _ _ _ _ hpair,
      Dev.fld_setFld_reg _ .KS_SNAPCCHI_VALID .KS_SNAPCCLO_CC _ _ _ _ _ hpair, Dev.fld_setFld_reg _ .KS_SNAPCCHI_CC .KS_SNAPCCLO_CC _ _ _ _ _ hpair,
      Dev.fld_setFld _ _ _ _ _ (by decide)]
    exact Nat.mod_mod _ _

theorem Dev.snapLatch_eq (b k : Nat) (now : Bool) (stamp : Nat) : ∃ x : Snap, x.pendingAt = none ∧
    (d.snapTaken b k now x).Reported (d.snapLatch b k now stamp) := ⟨_, rfl, Dev.reported_bayEvent _ _ _ _ _ _ _⟩

theorem Dev.snapLatch_only (b k : Nat) (now : Bool) (stamp : Nat) : Dev.SnapOnly b k d (d.snapLatch b k now stamp) := by
  obtain ⟨x, -, hreport⟩ := Dev.snapLatch_eq (d := d) b k now stamp
  have htaken := Dev.snapTaken_only (d := d) b k now x
  refine ⟨fun o ho hr => (hreport.2 o hr).trans (htaken.word o ho hr), fun c => ?_, fun c => ?_, hreport.fs, fun j hj => ?_⟩
  · unfold Dev.bay; rw [hreport.bays]; rfl
  · unfold Dev.kset; rw [hreport.ks]; rfl
  · rw [← htaken.snap j hj]
    unfold Dev.snap; rw [hreport.snaps]

/-- A latched buffer stays so where its registers and the buffers stand. -/
theorem Dev.SnapLatched.of_word {k cc : Nat} (h : d.SnapLatched b k cc) (hword : ∀ o ∈ snapRegs b k, e.word o = d.word o)
    (hsnap : e.snap b k = d.snap b k) : e.SnapLatched b k cc := by
  obtain ⟨hpending, hvalid, hnow, hcc⟩ := h
  have hhi := hword (RegName.off .KS_SNAPCCHI b k) (by simp [snapRegs])
  refine ⟨by rw [hsnap, hpending], ?_, ?_, ?_⟩
  · rw [Dev.on_of_word (x := .KS_SNAPCCHI_VALID) hhi, hvalid]
  · rw [Dev.on_of_word (x := .KS_SNAPCCHI_NOW) hhi, hnow]
  · rw [Dev.fld_of_word (x := .KS_SNAPCCLO_CC) (hword _ (by simp [snapRegs])), hcc]

theorem snapRegs_range {k o : Nat} (hb : b < 4) (hk : k < 2) (ho : o ∈ snapRegs b k) : 0x10000 ≤ o ∧ o < 0x20000 := by
  simp only [snapRegs, List.mem_cons, List.not_mem_nil, or_false, RegName.off, RegName.info] at ho
  omega

theorem Dev.snapLatch_latched {k : Nat} (hb : b < 4) (hk : k < 2) (stamp : Nat) : (d.snapLatch b k false stamp).SnapLatched b k (d.bay b).cc := by
  obtain ⟨x, hx, hreport⟩ := Dev.snapLatch_eq (d := d) b k false stamp
  refine (Dev.snapTaken_latched (d := d) b k x hx).of_word (fun o ho => hreport.2 o (fc_not_report ?_)) ?_
  · have hrange := snapRegs_range hb hk ho
    omega
  · unfold Dev.snap; rw [hreport.snaps]

/-- Whether a buffer latches with course n. -/
def Dev.snapWaits (d : Dev) (b k n : Nat) : Bool := (d.snap b k).taken && (d.snap b k).pendingAt == some n

/-- One buffer at the boundary of course n. -/
def Dev.snapStep (d : Dev) (b n stamp k : Nat) : Dev := if d.snapWaits b k n then d.snapLatch b k false stamp else d

theorem Dev.snapBoundary_eq (b n stamp : Nat) : d.snapBoundary b n stamp = (d.snapStep b n stamp 0).snapStep b n stamp 1 := rfl

theorem Dev.snapStep_only (b n stamp k : Nat) : Dev.SnapOnly b k d (d.snapStep b n stamp k) := by
  unfold Dev.snapStep
  split
  · exact Dev.snapLatch_only b k false stamp
  · exact .refl b k d

theorem Dev.snapStep_latched {k : Nat} (hb : b < 4) (hk : k < 2) (stamp : Nat) (h : d.snapWaits b k n = true) :
    (d.snapStep b n stamp k).SnapLatched b k (d.bay b).cc := by
  unfold Dev.snapStep
  rw [if_pos h]
  exact Dev.snapLatch_latched hb hk stamp

/-- The other buffer's registers. -/
theorem snapRegs_other {k j o : Nat} (hne : j ≠ k) (ho : o ∈ snapRegs b j) : o ∉ snapRegs b k := by
  simp only [snapRegs, List.mem_cons, List.not_mem_nil, or_false, RegName.off, RegName.info] at ho ⊢
  omega

/-- The buffers that wait for course n latch (R76). -/
theorem Dev.snapBoundary_latched {k : Nat} (hb : b < 4) (hk : k < 2) (stamp : Nat) (h : d.snapWaits b k n = true) :
    (d.snapBoundary b n stamp).SnapLatched b k (d.bay b).cc := by
  have hfirst := Dev.snapStep_only (d := d) b n stamp 0
  have hsecond := Dev.snapStep_only (d := d.snapStep b n stamp 0) b n stamp 1
  rw [Dev.snapBoundary_eq]
  obtain rfl | rfl : k = 0 ∨ k = 1 := by omega
  · refine (Dev.snapStep_latched hb hk stamp h).of_word (fun o ho => hsecond.word o (snapRegs_other (by decide) ho) ?_) (hsecond.snap 0 (by decide))
    have hrange := snapRegs_range hb hk ho
    exact fc_not_report (by omega)
  · have hwaits : (d.snapStep b n stamp 0).snapWaits b 1 n = true := by
      unfold Dev.snapWaits at h ⊢
      rw [hfirst.snap 1 (by decide), h]
    have hlatched := Dev.snapStep_latched hb hk stamp hwaits
    rwa [hfirst.bay] at hlatched

/-- Beside the buffers of the bay, nothing of it changes. -/
theorem Dev.snapBoundary_frame (hb : b < 4) (n stamp : Nat) : (∀ c, (d.snapBoundary b n stamp).bay c = d.bay c) ∧
    (∀ c, (d.snapBoundary b n stamp).kset c = d.kset c) ∧ (d.snapBoundary b n stamp).fs = d.fs ∧
    (d.snapBoundary b n stamp).word (RegName.off .KS_BAYCTL b 0) = d.word (RegName.off .KS_BAYCTL b 0) := by
  have hfirst := Dev.snapStep_only (d := d) b n stamp 0
  have hsecond := Dev.snapStep_only (d := d.snapStep b n stamp 0) b n stamp 1
  have hapart (k : Nat) : RegName.off .KS_BAYCTL b 0 ∉ snapRegs b k := by
    simp only [snapRegs, List.mem_cons, List.not_mem_nil, or_false, RegName.off, RegName.info]; omega
  have hreport : RegName.off .KS_BAYCTL b 0 ∉ reports := fc_not_report (by simp only [RegName.off, RegName.info]; omega)
  rw [Dev.snapBoundary_eq]
  exact ⟨fun c => (hsecond.bay c).trans (hfirst.bay c), fun c => (hsecond.kset c).trans (hfirst.kset c), hsecond.fs.trans hfirst.fs,
    (hsecond.word _ (hapart 1) hreport).trans (hfirst.word _ (hapart 0) hreport)⟩

end Sys2Proof.Machine
end

section
/-! PROOFS. A course trigger that is processed (R19, R61, R66, R76, R93, R316). -/

namespace Sys2Proof.Machine

variable {d e : Dev} {b : Nat} {t : Trig}

/-! ## The stages of a boundary -/

/-- The number of the course that a trigger of the bay starts. -/
def Dev.nextCourse (d : Dev) (b : Nat) : Nat := add48 (d.bay b).cc 1

/-- The course is counted, and its trigger leaves the queue (R19). -/
def Dev.counted (d : Dev) (b : Nat) : Dev :=
  d.setBay b { d.bay b with cc := d.nextCourse b, pc := { d.pc b with trigs := (d.pc b).trigs.drop 1 } }

/-- The commits of the course have applied (R66, R71). -/
def Dev.appliedAt (d : Dev) (b : Nat) : Dev := ((d.counted b).hostAt b (d.nextCourse b)).intAt b (d.nextCourse b)

/-- Its mode is fixed (R316). -/
def Dev.moded (d : Dev) (b : Nat) (t : Trig) : Dev :=
  (d.appliedAt b).modeAt b (d.nextCourse b) t.hold ((d.counted b).markAt b (d.nextCourse b))

/-- What the applies bring with them is done, and the snapshots of the course have latched. -/
def Dev.bounded (d : Dev) (b : Nat) (t : Trig) : Dev :=
  (((d.moded b t).applyEffects d b).pacingApplied d b t.stamp false).snapBoundary b (d.nextCourse b) t.stamp

/-- Whether the course advances (R93). -/
def Dev.advances (d : Dev) (b : Nat) : Bool := (d.bay b).adv && (d.bay b).mode.advancing (d.bay b).pol

/-- The course is confirmed and fired, and what waits for its boundary is served. -/
def Dev.fired (d : Dev) (b : Nat) (t : Trig) : Dev :=
  let n := d.nextCourse b
  let d := d.bounded b t
  let ports := d.portsOf b
  let adv := d.advances b
  let decs := ports.map fun xx => (xx, (d.itk xx).dec)
  let d := if adv then ports.foldl (fun d xx => d.confirmCourse b xx n) (d.rasterStep b)
    else ports.foldl (fun d xx => d.dropDecision xx) d
  let d := d.fireCourse b n t.stamp (d.bay b).mode
  let d := decs.foldl (fun d x => if adv then d.edConfirm x.1 n x.2 else d.edRestore x.1) d
  let d := ports.foldl (fun d xx => d.soundBoundary b xx n) d
  ((d.thrBoundary b).camTrigger b n t.stamp).fcEval b

/-- The work of the next course starts last (R22). -/
theorem Dev.boundary_eq (d : Dev) (b : Nat) (t : Trig) :
    d.boundary b t = (d.fired b t).prepareCourse b (add48 (d.nextCourse b) 1) t.stamp := rfl

theorem Dev.kept_fired (d : Dev) (b : Nat) (t : Trig) : (d.fired b t).kept false =
    (if (d.bounded b t).advances b then (d.bounded b t).rasterStep b else d.bounded b t).kept false := by
  unfold Dev.fired; dsimp only
  rw [Dev.kept_fcEval, Dev.kept_camTrigger, Dev.kept_thrBoundary, Dev.kept_foldl fun d xx => by simp, Dev.kept_foldl fun d x => by simp,
    Dev.kept_fireCourse, Dev.kept_ite, Dev.kept_foldl fun d xx => by simp, Dev.kept_foldl fun d xx => by simp, ← Dev.kept_ite]

/-! ## What the stages leave -/

theorem Dev.still_appliedAt (b : Nat) : ((d.appliedAt b).kept false).still = ((d.counted b).kept false).still := by
  unfold Dev.appliedAt
  rw [Dev.still_intAt, Dev.still_hostAt]

/-- Of the bay, an apply changes the generation alone. -/
theorem Dev.appliedAt_core (b : Nat) : { ((d.appliedAt b).bay b).core with gen := 0 } = { ((d.counted b).bay b).core with gen := 0 } :=
  congrFun (congrArg Kept.core (d.still_appliedAt b)) b

theorem Dev.appliedAt_fs (b : Nat) : (d.appliedAt b).fs = d.fs := congrArg Kept.fs (d.still_appliedAt b)

theorem Dev.appliedAt_snap (b k : Nat) : (d.appliedAt b).snap b k = d.snap b k := by
  have hsnaps : (d.appliedAt b).snaps = d.snaps := congrArg Kept.snaps (d.still_appliedAt b)
  unfold Dev.snap; rw [hsnaps]

theorem Dev.counted_bay (b : Nat) : (d.counted b).bay b =
    { d.bay b with cc := d.nextCourse b, pc := { d.pc b with trigs := (d.pc b).trigs.drop 1 } } := Dev.bay_setBay _ _ _

/-- The bay once its mode is fixed. -/
theorem Dev.moded_effects (d : Dev) (b : Nat) (t : Trig) :
    (((d.moded b t).applyEffects d b).pacingApplied d b t.stamp false).kept false = (d.moded b t).kept false := by
  rw [Dev.kept_pacingApplied, Dev.kept_applyEffects]

section
variable (hb : b < 4)
include hb

theorem Dev.bounded_core (t : Trig) : ((d.bounded b t).bay b).core = ((d.moded b t).bay b).core := by
  unfold Dev.bounded
  rw [(Dev.snapBoundary_frame hb _ _).1]
  exact Dev.core_of_kept (d.moded_effects b t) b

theorem Dev.bounded_host (t : Trig) : ((d.bounded b t).kset b).host = ((d.moded b t).kset b).host := by
  unfold Dev.bounded
  rw [(Dev.snapBoundary_frame hb _ _).2.1]
  exact Dev.host_of_kept (d.moded_effects b t) b

theorem Dev.bounded_pend (t : Trig) : ((d.bounded b t).kset b).pending = ((d.moded b t).kset b).pending := by
  unfold Dev.bounded
  rw [(Dev.snapBoundary_frame hb _ _).2.1]
  exact Dev.pend_of_kept (d.moded_effects b t) b

theorem Dev.bounded_fs (t : Trig) : (d.bounded b t).fs = d.fs := by
  unfold Dev.bounded
  rw [(Dev.snapBoundary_frame hb _ _).2.2.1, Dev.fs_of_kept (d.moded_effects b t)]
  unfold Dev.moded
  rw [Dev.fs_of_kept (Dev.kept_modeAt (w := false) _ _ _ _)]
  refine Eq.trans ?_ (d.appliedAt_fs b)
  split <;> rfl

theorem bayctl_range : 0x10000 ≤ RegName.off .KS_BAYCTL b 0 ∧ RegName.off .KS_BAYCTL b 0 < 0x20000 := by
  simp only [RegName.off, RegName.info]; omega

theorem Dev.bounded_bayctl (t : Trig) : (d.bounded b t).word (RegName.off .KS_BAYCTL b 0) = (d.moded b t).word (RegName.off .KS_BAYCTL b 0) := by
  unfold Dev.bounded
  rw [(Dev.snapBoundary_frame hb _ _).2.2.2]
  exact Dev.ks_of_kept (d.moded_effects b t) (bayctl_range hb).1 (bayctl_range hb).2

end

/-- The bay of the course, with the mark and the mode that its trigger fixes. -/
theorem Dev.moded_core (d : Dev) (b : Nat) (t : Trig) : ((d.moded b t).bay b).core = Bay.core { (d.appliedAt b).bay b with
    mark := (d.counted b).markAt b (d.nextCourse b) && !(d.appliedAt b).stopHolds b t.hold && (d.appliedAt b).reqMode b == .print
    mode := if (d.appliedAt b).stopHolds b t.hold then .hold else planMode ((d.appliedAt b).reqMode b) ((d.counted b).markAt b (d.nextCourse b)) } := by
  unfold Dev.moded
  rw [Dev.core_of_kept (Dev.kept_modeAt (w := false) _ _ _ _), Dev.bay_setBay]

/-- What an apply leaves of the bay. -/
theorem Dev.appliedAt_bay (d : Dev) (b : Nat) : ((d.appliedAt b).bay b).cc = d.nextCourse b ∧
    ((d.appliedAt b).bay b).pc.trigs = (d.pc b).trigs.drop 1 ∧ ((d.appliedAt b).bay b).rn = (d.bay b).rn ∧
    ((d.appliedAt b).bay b).adv = (d.bay b).adv ∧ ((d.appliedAt b).bay b).pol = (d.bay b).pol := by
  have hcore := d.appliedAt_core b
  rw [Dev.counted_bay] at hcore
  generalize d.appliedAt b = applied at hcore ⊢
  have hcc := congrArg (fun y : Bay => y.cc) hcore
  have htrigs := congrArg (fun y : Bay => y.pc.trigs) hcore
  have hrn := congrArg (fun y : Bay => y.rn) hcore
  have hadv := congrArg (fun y : Bay => y.adv) hcore
  have hpol := congrArg (fun y : Bay => y.pol) hcore
  exact ⟨hcc, htrigs, hrn, hadv, hpol⟩

section
variable (hb : b < 4)
include hb

/-- What the stages before the raster leave of the bay. -/
theorem Dev.bounded_bay (t : Trig) : ((d.bounded b t).bay b).cc = d.nextCourse b ∧
    ((d.bounded b t).bay b).pc.trigs = (d.pc b).trigs.drop 1 ∧ ((d.bounded b t).bay b).rn = (d.bay b).rn ∧
    ((d.bounded b t).bay b).adv = (d.bay b).adv ∧ ((d.bounded b t).bay b).pol = (d.bay b).pol ∧
    ((d.bounded b t).bay b).gen = ((d.appliedAt b).bay b).gen := by
  obtain ⟨acc, atrigs, arn, aadv, apol⟩ := d.appliedAt_bay b
  have hcore := (Dev.bounded_core hb t).trans (d.moded_core b t)
  generalize d.bounded b t = before at hcore ⊢
  generalize d.appliedAt b = applied at *
  have hcc := congrArg (fun y : Bay => y.cc) hcore
  have htrigs := congrArg (fun y : Bay => y.pc.trigs) hcore
  have hrn := congrArg (fun y : Bay => y.rn) hcore
  have hadv := congrArg (fun y : Bay => y.adv) hcore
  have hpol := congrArg (fun y : Bay => y.pol) hcore
  have hgen := congrArg (fun y : Bay => y.gen) hcore
  exact ⟨hcc.trans acc, htrigs.trans atrigs, hrn.trans arn, hadv.trans aadv, hpol.trans apol, hgen⟩

/-- The mode and the mark of the course. -/
theorem Dev.bounded_mode (t : Trig) : ((d.bounded b t).bay b).mode = (if (d.appliedAt b).stopHolds b t.hold then .hold
      else planMode ((d.appliedAt b).reqMode b) ((d.counted b).markAt b (d.nextCourse b))) ∧
    ((d.bounded b t).bay b).mark = ((d.counted b).markAt b (d.nextCourse b) && !(d.appliedAt b).stopHolds b t.hold &&
      (d.appliedAt b).reqMode b == .print) := by
  have hcore := (Dev.bounded_core hb t).trans (d.moded_core b t)
  generalize d.bounded b t = before at hcore ⊢
  generalize d.appliedAt b = applied at *
  have hmode := congrArg (fun y : Bay => y.mode) hcore
  have hmark := congrArg (fun y : Bay => y.mark) hcore
  exact ⟨hmode, hmark⟩

/-- The buffers that wait for the course latch with its number. -/
theorem Dev.bounded_latched {k : Nat} (hk : k < 2) (t : Trig) (htaken : (d.snap b k).taken = true)
    (hpending : (d.snap b k).pendingAt = some (d.nextCourse b)) : (d.bounded b t).SnapLatched b k (d.nextCourse b) := by
  have hkept := d.moded_effects b t
  have hmoded : (d.moded b t).snap b k = (d.appliedAt b).snap b k := by
    unfold Dev.moded
    rw [Dev.snap_of_kept (Dev.kept_modeAt (w := false) _ _ _ _)]
    split <;> rfl
  have hwaits : (((d.moded b t).applyEffects d b).pacingApplied d b t.stamp false).snapWaits b k (d.nextCourse b) = true := by
    unfold Dev.snapWaits
    rw [Dev.snap_of_kept hkept, hmoded, Dev.appliedAt_snap, htaken, hpending]
    simp
  have hlatched := Dev.snapBoundary_latched hb hk t.stamp hwaits
  have hcc := congrArg (fun y : Bay => y.cc) ((Dev.core_of_kept hkept b).trans (d.moded_core b t))
  have hcourse : ((((d.moded b t).applyEffects d b).pacingApplied d b t.stamp false).bay b).cc = d.nextCourse b := hcc.trans (d.appliedAt_bay b).1
  rwa [hcourse] at hlatched

/-! ## The bay after the boundary -/

/-- The raster number of the course. -/
def Dev.nextRaster (d : Dev) (b : Nat) : Nat := if d.advances b then add48 (d.bay b).rn 1 else (d.bay b).rn

omit hb in
theorem Dev.boundary_core (t : Trig) : ∃ adv pol, ((d.boundary b t).bay b).core =
    { ((d.bounded b t).bay b).core with rn := (d.bounded b t).nextRaster b, adv := adv, pol := pol } := by
  have hboundary := d.boundary_eq b t
  have he := d.kept_fired b t
  generalize d.fired b t = e at hboundary he
  obtain ⟨adv, pol, hprepare⟩ := Dev.kept_prepareCourse (d := e) b (add48 (d.nextCourse b) 1) t.stamp
  have hcore : (e.bay b).core = { ((d.bounded b t).bay b).core with rn := (d.bounded b t).nextRaster b } := by
    rw [Dev.core_of_kept he b]
    unfold Dev.nextRaster
    split
    · unfold Dev.rasterStep
      rw [Dev.bay_setBay]; rfl
    · rfl
  refine ⟨adv, pol, ?_⟩
  rw [hboundary, Dev.core_of_kept hprepare b, Dev.bay_setBay]
  exact congrArg (fun y : Bay => { y with adv := adv, pol := pol }) hcore

omit hb in
/-- Beside the bays, the rest of a boundary keeps what the stages left. -/
theorem Dev.boundary_rest (t : Trig) : (d.boundary b t).fs = (d.bounded b t).fs ∧
    ((d.boundary b t).kept false).ksWord = ((d.bounded b t).kept false).ksWord ∧
    (∀ k, (d.boundary b t).snap b k = (d.bounded b t).snap b k) ∧
    ((d.boundary b t).kset b).host = ((d.bounded b t).kset b).host ∧ ((d.boundary b t).kset b).pending = ((d.bounded b t).kset b).pending := by
  have hboundary := d.boundary_eq b t
  have he := d.kept_fired b t
  generalize d.fired b t = e at hboundary he
  obtain ⟨adv, pol, hprepare⟩ := Dev.kept_prepareCourse (d := e) b (add48 (d.nextCourse b) 1) t.stamp
  have hbay (c : Dev) (x : Bay) : (c.setBay b x).kept false = { c.kept false with core := Function.update (c.kept false).core b x.core } :=
    Dev.kept_setBay_core
  have hrest : { (d.boundary b t).kept false with core := fun _ => {} } = { (d.bounded b t).kept false with core := fun _ => {} } := by
    rw [hboundary, hprepare, hbay, he]
    split
    · unfold Dev.rasterStep
      rw [hbay]
    · rfl
  generalize d.boundary b t = after at hrest ⊢
  generalize d.bounded b t = before at hrest ⊢
  have hfs := congrArg (fun k : Kept => k.fs) hrest
  have hks := congrArg (fun k : Kept => k.ksWord) hrest
  have hhost := congrArg (fun k : Kept => k.host b) hrest
  have hpend := congrArg (fun k : Kept => k.pend b) hrest
  refine ⟨hfs, hks, fun k => ?_, hhost, hpend⟩
  have hsnaps : after.snaps = before.snaps := congrArg Kept.snaps hrest
  unfold Dev.snap; rw [hsnaps]

omit hb in
theorem Dev.boundary_ksWord (t : Trig) {o : Nat} (hlo : 0x10000 ≤ o) (hhi : o < 0x20000) : (d.boundary b t).word o = (d.bounded b t).word o := by
  have hblock := congrFun (Dev.boundary_rest (d := d) (b := b) t).2.1 o
  simpa only [Dev.kept, Dev.block, if_pos (And.intro hlo hhi)] using hblock

theorem Dev.boundary_bay (t : Trig) : ((d.boundary b t).bay b).cc = d.nextCourse b ∧ ((d.boundary b t).pc b).trigs = (d.pc b).trigs.drop 1 ∧
    ((d.boundary b t).bay b).gen = ((d.appliedAt b).bay b).gen ∧ ((d.boundary b t).bay b).mode = ((d.bounded b t).bay b).mode ∧
    ((d.boundary b t).bay b).mark = ((d.bounded b t).bay b).mark ∧ ((d.boundary b t).bay b).rn = (d.bounded b t).nextRaster b := by
  obtain ⟨hcc, htrigs, -, -, -, hgen⟩ := Dev.bounded_bay (d := d) hb t
  obtain ⟨adv, pol, hcore⟩ := Dev.boundary_core (d := d) (b := b) t
  unfold Dev.pc
  generalize d.boundary b t = after at hcore ⊢
  generalize d.bounded b t = before at *
  have bcc := congrArg (fun y : Bay => y.cc) hcore
  have btrigs := congrArg (fun y : Bay => y.pc.trigs) hcore
  have bgen := congrArg (fun y : Bay => y.gen) hcore
  have bmode := congrArg (fun y : Bay => y.mode) hcore
  have bmark := congrArg (fun y : Bay => y.mark) hcore
  have brn := congrArg (fun y : Bay => y.rn) hcore
  unfold Dev.pc at htrigs
  exact ⟨bcc.trans hcc, btrigs.trans htrigs, bgen.trans hgen, bmode, bmark, brn⟩

theorem Dev.boundary_latched {k : Nat} (hk : k < 2) (t : Trig) (htaken : (d.snap b k).taken = true)
    (hpending : (d.snap b k).pendingAt = some (d.nextCourse b)) : (d.boundary b t).SnapLatched b k (d.nextCourse b) :=
  (Dev.bounded_latched hb hk t htaken hpending).of_word
    (fun _ ho => Dev.boundary_ksWord t (snapRegs_range hb hk ho).1 (snapRegs_range hb hk ho).2) ((Dev.boundary_rest t).2.2.1 k)

end

end Sys2Proof.Machine
end

section
/-! PROOFS. The course of a trigger, with and without a stop (R19, R61, R66, R76, R93, R316). -/

namespace Sys2Proof.Machine

variable {d : Dev} {b : Nat} {t : Trig}

/-- Whether the host commit of the bay applies with its next course (R66). -/
def Dev.hostApplies (d : Dev) (b : Nat) : Bool :=
  (d.kset b).host.st == .armed && (d.kset b).host.carried && (d.kset b).host.target == add48 (d.bay b).cc 1

/-- The registers of the next course, as far as the host commit makes them. -/
def Dev.hostFields (d : Dev) (b : Nat) : Dev := if d.hostApplies b then d.withFields (d.kset b).pending else d

/-- The internal commit of the bay applies with its next course (R71). -/
def Dev.intApplies (d : Dev) (b : Nat) : Prop :=
  (d.kset b).int.st = .armed ∧ (d.kset b).int.carried = true ∧ (d.kset b).int.target = add48 (d.bay b).cc 1

/-! ## The host commit alone -/

theorem Dev.word_setBay (d : Dev) (b : Nat) (x : Bay) (o : Nat) : (d.setBay b x).word o = d.word o := rfl

theorem Dev.counted_hostAt (d : Dev) (b : Nat) :
    (d.counted b).hostAt b (d.nextCourse b) = if d.hostApplies b then (d.counted b).applyHost b else d.counted b := by
  have hkset : (d.counted b).kset b = d.kset b := rfl
  have hcond : (decide ((d.kset b).host.st = .armed) && (d.kset b).host.carried && (d.kset b).host.target == d.nextCourse b) = d.hostApplies b := by
    unfold Dev.hostApplies Dev.nextCourse
    congr 2
  unfold Dev.hostAt
  rw [hkset]
  dsimp only
  rw [hcond]

theorem Dev.int_hostAt (d : Dev) (b : Nat) : (((d.counted b).hostAt b (d.nextCourse b)).kset b).int = (d.kset b).int := by
  rw [Dev.counted_hostAt]
  split
  · rw [Dev.applyHost_kset]; rfl
  · rfl

theorem Dev.intAt_of_not {k n : Nat} (h : ¬ ((d.kset k).int.st = .armed ∧ (d.kset k).int.carried = true ∧ (d.kset k).int.target = n)) :
    d.intAt k n = d := by
  unfold Dev.intAt
  dsimp only
  rw [if_neg]
  simpa [and_assoc] using h

theorem Dev.markAt_of_not {k n : Nat} (h : ¬ ((d.kset k).int.st = .armed ∧ (d.kset k).int.carried = true ∧ (d.kset k).int.target = n)) :
    d.markAt k n = (d.bay k).mark := by
  unfold Dev.markAt
  dsimp only
  rw [if_neg]
  simpa [and_assoc] using h

section
variable (hint : ¬ d.intApplies b)
include hint

/-- With no internal commit, the host commit alone applies. -/
theorem Dev.appliedAt_of_not : d.appliedAt b = if d.hostApplies b then (d.counted b).applyHost b else d.counted b := by
  unfold Dev.appliedAt
  rw [Dev.intAt_of_not, Dev.counted_hostAt]
  rw [Dev.int_hostAt]
  exact hint

theorem Dev.counted_mark : (d.counted b).markAt b (d.nextCourse b) = (d.bay b).mark := by
  have hmark := Dev.markAt_of_not (d := d.counted b) (k := b) (n := d.nextCourse b) hint
  rw [hmark, Dev.counted_bay]

theorem Dev.appliedAt_gen : ((d.appliedAt b).bay b).gen = if d.hostApplies b then ((d.bay b).gen + 1) % 2 ^ 32 else (d.bay b).gen := by
  rw [Dev.appliedAt_of_not hint]
  split
  · rw [Dev.applyHost_gen, Dev.counted_bay]
  · rw [Dev.counted_bay]

theorem Dev.appliedAt_bayctl (hb : b < 4) :
    (d.appliedAt b).word (RegName.off .KS_BAYCTL b 0) = (d.hostFields b).word (RegName.off .KS_BAYCTL b 0) := by
  rw [Dev.appliedAt_of_not hint]
  unfold Dev.hostFields
  split
  · rw [Dev.applyHost_bayctl hb]
    exact Dev.word_congr (Dev.withFields_congr (e := d.counted b) (d := d) _ rfl) _
  · rfl

theorem Dev.appliedAt_reqMode (hb : b < 4) : (d.appliedAt b).reqMode b = (d.hostFields b).reqMode b := by
  unfold Dev.reqMode
  rw [Dev.fld_of_word (x := .KS_BAYCTL_MODE) (Dev.appliedAt_bayctl hint hb)]

/-- A commit that has applied leaves its slot and its set. -/
theorem Dev.appliedAt_kset (happlies : d.hostApplies b = true) :
    ((d.appliedAt b).kset b).host = {} ∧ ((d.appliedAt b).kset b).pending = [] := by
  rw [Dev.appliedAt_of_not hint, if_pos happlies, Dev.applyHost_kset]
  exact ⟨rfl, rfl⟩

/-! ## The bay of the course -/

theorem Dev.boundary_kset (hb : b < 4) (happlies : d.hostApplies b = true) :
    ((d.boundary b t).kset b).host = {} ∧ ((d.boundary b t).kset b).pending = [] := by
  obtain ⟨-, -, -, hhost, hpend⟩ := Dev.boundary_rest (d := d) (b := b) t
  obtain ⟨ahost, apend⟩ := Dev.appliedAt_kset hint happlies
  have hmoded : ((d.moded b t).kset b).host = ((d.appliedAt b).kset b).host ∧ ((d.moded b t).kset b).pending = ((d.appliedAt b).kset b).pending := by
    unfold Dev.moded
    generalize d.appliedAt b = applied
    rw [Dev.host_of_kept (Dev.kept_modeAt (w := false) _ _ _ _), Dev.pend_of_kept (Dev.kept_modeAt (w := false) _ _ _ _)]
    split <;> exact ⟨rfl, rfl⟩
  rw [hhost, hpend, Dev.bounded_host hb, Dev.bounded_pend hb, hmoded.1, hmoded.2]
  exact ⟨ahost, apend⟩

/-- Without a stop the course has the mode that is requested for it, or DEGRADED (R316). -/
theorem Dev.boundary_mode (hb : b < 4) (hstop : t.hold = none) : ((d.boundary b t).bay b).mode = planMode ((d.hostFields b).reqMode b) (d.bay b).mark ∧
    (d.boundary b t).fld .KS_BAYCTL_MODE b = (d.hostFields b).fld .KS_BAYCTL_MODE b := by
  have hholds : (d.appliedAt b).stopHolds b t.hold = false := by unfold Dev.stopHolds; rw [hstop]; rfl
  obtain ⟨-, -, -, hmode, -⟩ := Dev.boundary_bay (d := d) hb t
  refine ⟨?_, Dev.fld_of_word (x := .KS_BAYCTL_MODE) ?_⟩
  · rw [hmode, (Dev.bounded_mode hb t).1, hholds, if_neg Bool.false_ne_true, Dev.appliedAt_reqMode hint hb, Dev.counted_mark hint]
  · rw [Dev.boundary_ksWord t (bayctl_range hb).1 (bayctl_range hb).2, Dev.bounded_bayctl hb]
    unfold Dev.moded
    rw [Dev.ks_of_kept (Dev.kept_modeAt (w := false) _ _ _ _) (bayctl_range hb).1 (bayctl_range hb).2, hholds, if_neg Bool.false_ne_true,
      Dev.word_setBay, Dev.appliedAt_bayctl hint hb]

/-- A stop holds the bay, and clears the mark, unless STANDBY is requested (R61). -/
theorem Dev.boundary_hold {z : Nat} (hb : b < 4) (hstop : t.hold = some z) (hwant : (d.hostFields b).reqMode b ≠ .standby) :
    ((d.boundary b t).bay b).mode = .hold ∧ ((d.boundary b t).bay b).mark = false ∧ (d.boundary b t).fld .KS_BAYCTL_MODE b = 5 := by
  have hholds : (d.appliedAt b).stopHolds b t.hold = true := by
    unfold Dev.stopHolds
    rw [hstop, Dev.appliedAt_reqMode hint hb]
    simpa using hwant
  obtain ⟨-, -, -, hmode, hmark, -⟩ := Dev.boundary_bay (d := d) hb t
  refine ⟨?_, ?_, ?_⟩
  · rw [hmode, (Dev.bounded_mode hb t).1, hholds, if_pos rfl]
  · rw [hmark, (Dev.bounded_mode hb t).2, hholds]
    simp
  · have hword := (Dev.boundary_ksWord (d := d) (b := b) t (bayctl_range hb).1 (bayctl_range hb).2).trans (Dev.bounded_bayctl hb t)
    rw [Dev.fld_of_word (x := .KS_BAYCTL_MODE) hword]
    unfold Dev.moded
    rw [Dev.fld_of_word (x := .KS_BAYCTL_MODE) (Dev.ks_of_kept (Dev.kept_modeAt (w := false) _ _ _ _) (bayctl_range hb).1 (bayctl_range hb).2),
      hholds, if_pos rfl, Dev.fld_of_word (x := .KS_BAYCTL_MODE) (Dev.word_setBay _ _ _ _), Dev.holdRequested,
      Dev.fld_setFld _ .KS_BAYCTL_MODE b 0 _ (by decide)]
    rfl

omit hint in
theorem Dev.boundary_rn (hb : b < 4) : ((d.boundary b t).bay b).rn =
    if (d.bay b).adv && ((d.boundary b t).bay b).mode.advancing (d.bay b).pol then add48 (d.bay b).rn 1 else (d.bay b).rn := by
  obtain ⟨-, -, -, hmode, -, hrn⟩ := Dev.boundary_bay (d := d) hb t
  obtain ⟨-, -, brn, badv, bpol, -⟩ := Dev.bounded_bay (d := d) hb t
  rw [hrn, Dev.nextRaster, Dev.advances, brn, badv, bpol, hmode]

end

/-- A course that is processed is the next one of its bay. -/
theorem exec_courseBoundary_of_due {b : Fin 4} {s : State} {x : Trig} {rest : List Trig} (hmodes : s.dev.bayModes = true)
    (htrigs : (s.dev.pc b).trigs = x :: rest) : exec (.courseBoundary b) s = .next { s with dev := s.dev.boundary b x } := by
  simp [exec, execCourseBoundary, State.onDev, Dev.boundaryDue, Dev.boundaryNext, hmodes, htrigs]

theorem advancing_planMode_print (mark pol : Bool) : (planMode .print mark).advancing pol = true := by cases mark <;> rfl

/-- Settles O39. -/
theorem courseProcessed : Obligations.CourseProcessed := by
  unfold Obligations.CourseProcessed
  intro b x rest applies a s hmodes htrigs happlies ha
  have ha' : a = s.dev.hostFields b := by rw [ha, happlies]; rfl
  have happlies' : applies = s.dev.hostApplies b := happlies
  subst ha' happlies'
  obtain ⟨hcc, htrigs', hgen, -, -, -⟩ := Dev.boundary_bay (d := s.dev) b.isLt x
  have hfs := (Dev.boundary_rest (d := s.dev) (b := b) x).1.trans (Dev.bounded_fs b.isLt x)
  have hprepare : ∃ e : Dev, s.dev.boundary b x = e.prepareCourse b (add48 (add48 (s.dev.bay b).cc 1) 1) x.stamp := ⟨_, s.dev.boundary_eq b x⟩
  have hlatched (k : Fin 2) := Dev.boundary_latched (d := s.dev) b.isLt k.isLt x
  have hkset (hint : ¬ s.dev.intApplies b) := Dev.boundary_kset (t := x) hint b.isLt
  have hmoded (hint : ¬ s.dev.intApplies b) := Dev.boundary_mode (t := x) hint b.isLt
  have hheld (hint : ¬ s.dev.intApplies b) (z : Nat) := Dev.boundary_hold (t := x) (z := z) hint b.isLt
  have hrn := Dev.boundary_rn (d := s.dev) (t := x) b.isLt
  refine ⟨_, exec_courseBoundary_of_due hmodes htrigs, rfl, rfl, ?_⟩
  dsimp only
  generalize s.dev.boundary b x = after at *
  refine ⟨hfs, hcc, by rw [htrigs', htrigs]; rfl, hprepare, hlatched, fun hint => ?_⟩
  refine ⟨hgen.trans (Dev.appliedAt_gen hint), hkset hint, fun hstop => ?_, fun z hstop hwant => ?_⟩
  · obtain ⟨hmode, hbayctl⟩ := hmoded hint hstop
    rw [hmode] at hrn
    refine ⟨hmode, hbayctl, fun hprint hadv => ?_, fun hstill => ?_⟩
    · rw [hrn, hprint, hadv, advancing_planMode_print]; rfl
    · rw [hrn, if_neg]
      obtain hadv | hwant | hwant := hstill
      · simp [hadv]
      · simp [hwant, planMode, Mode.advancing]
      · simp [hwant, planMode, Mode.advancing]
  · obtain ⟨hmode, hmark, hbayctl⟩ := hheld hint z hstop hwant
    refine ⟨hmode, hmark, hbayctl, fun hpol => ?_⟩
    rw [hrn, hmode, hpol]
    simp [Mode.advancing]

end Sys2Proof.Machine
end

section
/-! PROOFS. A command that can occur leaves the state that its meaning makes of the device (R51). -/

namespace Sys2Proof.Machine

theorem State.onDev_of {s : State} {ok : Dev → Bool} {f : Dev → Dev} {e : Dev} (hok : ok s.dev = true) (he : f s.dev = e) :
    s.onDev ok f = .next { s with dev := e } := by
  rw [State.onDev, hok, if_pos rfl, he]

theorem State.onMach_of {s : State} {ok : Dev → Bool} {f : Dev → Nv → Dev × Nv} {m : Dev × Nv} (hok : ok s.dev = true) (hm : f s.dev s.nv = m) :
    s.onMach ok f = .next { s with dev := m.1, nv := m.2 } := by
  rw [State.onMach, hok, if_pos rfl, hm]

end Sys2Proof.Machine
end

section
/-! PROOFS. Little-endian numbers, and the header of a frame (R4, R47). -/

namespace Sys2Proof.Machine

theorem le_succ (k n : Nat) : le (k + 1) n = BitVec.ofNat 8 n :: le k (n / 256) := by
  have hdiv (i : Nat) : n / 2 ^ (8 * (i + 1)) = n / 256 / 2 ^ (8 * i) := by
    rw [Nat.div_div_eq_div_mul, Nat.mul_add, Nat.pow_add, Nat.mul_comm]
  simp [le, List.range_succ_eq_map, Function.comp_def, hdiv]

@[simp] theorem le_length (k n : Nat) : (le k n).length = k := by simp [le]

/-- A number that fits `k` bytes is the one that its `k` bytes spell. -/
theorem ofLe_le {k n : Nat} (h : n < 256 ^ k) : ofLe (le k n) = n := by
  induction k generalizing n with
  | zero => have : n = 0 := by simpa using h
            subst this; rfl
  | succ k ih =>
    have hquot : n / 256 < 256 ^ k := by rw [Nat.pow_succ] at h; omega
    rw [le_succ, ofLe, ih hquot, BitVec.toNat_ofNat]
    omega

/-- A number encoded in a byte string reads back at the place where it stands. -/
theorem field_of_split {k v : Nat} {bs pre post : List Byte} (hsplit : bs = pre ++ (le k v ++ post)) (hfits : v < 256 ^ k) :
    field bs pre.length k = v := by
  rw [field, hsplit, List.drop_left, List.take_left' (le_length k v), ofLe_le hfits]

/-- The sixteen bytes before a frame's payload. -/
def Frame.headerBytes (f : Frame) : List Byte :=
  le 2 0x4E44 ++ le 1 1 ++ le 1 f.seat ++ le 1 f.queue ++ le 1 f.flags ++ le 2 f.seq ++ le 2 f.opcode ++ le 2 f.status ++ le 4 f.len

theorem Frame.bytes_eq (f : Frame) : f.bytes = f.headerBytes ++ f.payload := rfl

theorem Frame.length_headerBytes (f : Frame) : f.headerBytes.length = 16 := by simp [Frame.headerBytes]

/-- Settles O35: each field of the header stands behind the fields before it, whose lengths make up its place in R47. -/
theorem frameHeaderRead : Obligations.FrameHeaderRead := by
  unfold Obligations.FrameHeaderRead
  intro f hseat hqueue hflags hseq hop hlen
  refine ⟨?_, ?_, ?_⟩
  · have hmagic : field f.bytes 0 2 = 0x4E44 := field_of_split (pre := []) (by simp [Frame.bytes]; rfl) (by decide)
    have hversion : field f.bytes 2 1 = 1 := field_of_split (pre := le 2 0x4E44) (by simp [Frame.bytes]; rfl) (by decide)
    have hseat' : field f.bytes 3 1 = f.seat := field_of_split (pre := le 2 0x4E44 ++ le 1 1) (by simp [Frame.bytes]; rfl) hseat
    have hqueue' : field f.bytes 4 1 = f.queue := field_of_split (pre := le 2 0x4E44 ++ le 1 1 ++ le 1 f.seat) (by simp [Frame.bytes]; rfl) hqueue
    have hflags' : field f.bytes 5 1 = f.flags :=
      field_of_split (pre := le 2 0x4E44 ++ le 1 1 ++ le 1 f.seat ++ le 1 f.queue) (by simp [Frame.bytes]; rfl) hflags
    have hseq' : field f.bytes 6 2 = f.seq :=
      field_of_split (pre := le 2 0x4E44 ++ le 1 1 ++ le 1 f.seat ++ le 1 f.queue ++ le 1 f.flags) (by simp [Frame.bytes]; rfl) hseq
    have hop' : field f.bytes 8 2 = f.opcode :=
      field_of_split (pre := le 2 0x4E44 ++ le 1 1 ++ le 1 f.seat ++ le 1 f.queue ++ le 1 f.flags ++ le 2 f.seq) (by simp [Frame.bytes]; rfl) hop
    have hlen' : field f.bytes 12 4 = f.len :=
      field_of_split (pre := le 2 0x4E44 ++ le 1 1 ++ le 1 f.seat ++ le 1 f.queue ++ le 1 f.flags ++ le 2 f.seq ++ le 2 f.opcode ++ le 2 f.status)
        (post := f.payload) (by simp [Frame.bytes]) hlen
    simp only [parseHdr, hmagic, hversion, hseat', hqueue', hflags', hseq', hop', hlen']
  · rw [f.bytes_eq, ← f.length_headerBytes, List.drop_left]
  · rw [f.bytes_eq, List.length_append, f.length_headerBytes]

end Sys2Proof.Machine
end

section
/-! PROOFS. A seat's link that comes up or goes down (R58, R81, R324). -/

namespace Sys2Proof.Machine

variable (d : Dev)

/-- A one-bit field as a number after it was set or cleared. -/
theorem Dev.fld_setOn (f : Fld) (i j : Nat) (b : Bool) (h : f.lo + f.width ≤ 32) (hw : 0 < f.width) :
    (d.setOn f i j b).fld f i j = if b then 1 else 0 := by
  have hone : 1 < 2 ^ f.width := Nat.one_lt_two_pow (by omega)
  rw [Dev.setOn, d.fld_setFld f i j _ h]
  cases b <;> simp [Nat.mod_eq_of_lt hone]

theorem Dev.fld_setOn_beside (f g : Fld) (i j : Nat) (b : Bool) (hr : g.reg = f.reg) (h : f.lo + f.width ≤ 32) (h' : g.lo + g.width ≤ 32)
    (hd : f.lo + f.width ≤ g.lo ∨ g.lo + g.width ≤ f.lo) : (d.setOn f i j b).fld g i j = d.fld g i j :=
  d.fld_setFld_beside f g i j _ hr h h' hd

theorem Dev.fld_bump_beside (f g : Fld) (i j n : Nat) (hr : g.reg = f.reg) (h : f.lo + f.width ≤ 32) (h' : g.lo + g.width ≤ 32)
    (hd : f.lo + f.width ≤ g.lo ∨ g.lo + g.width ≤ f.lo) : (d.bump f i j n).fld g i j = d.fld g i j :=
  d.fld_setFld_beside f g i j _ hr h h' hd

/-- A field of a register reads as before a write of another word. -/
theorem Dev.fld_setWord_other (f : Fld) (i j : Nat) {o : Nat} (w : Word) (h : f.reg.off i j ≠ o) : (d.setWord o w).fld f i j = d.fld f i j := by
  unfold Dev.fld; rw [d.word_setWord_other w h]

/-- Where only registers change after a write of a seat, registers and seats are all that has changed. -/
theorem Dev.RegsOnly.of_setSeat {e : Dev} {s : Nat} {x : Seat} (h : (d.setSeat s x).RegsOnly e) :
    { e with regs := d.regs, seats := d.seats } = d := congrArg (fun e => { e with seats := d.seats }) h

/-- HS_LINK shows a link that is up, at a speed and width. -/
def Dev.linkShown (s speed width : Nat) : Dev :=
  ((d.setOn .HS_LINK_UP s 0 true).setFld .HS_LINK_SPEED s 0 speed).setFld .HS_LINK_WIDTH s 0 width

/-- The fields of HS_LINK, each beside the others. -/
theorem Dev.linkShown_fields (s speed width : Nat) : (d.linkShown s speed width).fld .HS_LINK_UP s = 1 ∧
    (d.linkShown s speed width).fld .HS_LINK_SPEED s = speed % 2 ^ Fld.HS_LINK_SPEED.width ∧
    (d.linkShown s speed width).fld .HS_LINK_WIDTH s = width % 2 ^ Fld.HS_LINK_WIDTH.width := by
  simp (disch := decide) [Dev.linkShown, Dev.fld_setFld, Dev.fld_setFld_beside, Dev.fld_setOn]

theorem Dev.linkShown_word (s speed width : Nat) {o : Nat} (h : o ≠ RegName.off .HS_LINK s 0) :
    (d.linkShown s speed width).word o = d.word o := by
  unfold Dev.linkShown
  simp (disch := exact h) only [Dev.word_setFld_other, Dev.word_setOn_other]

theorem Dev.linkShown_regsOnly (s speed width : Nat) : d.RegsOnly (d.linkShown s speed width) :=
  ((d.regsOnly_setFld _ _ _ _).trans (Dev.regsOnly_setFld _ _ _ _ _)).trans (Dev.regsOnly_setFld _ _ _ _ _)

/-- The seat whose link has come up, with the GL_LOADED that waits for the link sent on a running device. -/
def Dev.seatUp (s : Nat) : Seat :=
  { d.seat s with up := true, perst := false, downAt := none, lastBad := some d.now, loaded := if d.running then none else (d.seat s).loaded }

/-- What LINK_UP leaves on the device before its events. -/
def Dev.linkedUp (s speed width : Nat) : Dev := (d.setSeat s (d.seatUp s)).linkShown s speed width

/-- A link that can come up does, and its events follow on a running device. -/
theorem Dev.linkUp_of_down {s : Nat} (speed width : Nat) (htb : d.tbStart.isSome = true) (hreset : d.boot.phase ≠ .inReset)
    (hsealed : d.boot.phase ≠ .isSealed) (hdown : (d.seat s).up = false)
    (hport : s < 2 ∨ (d.running = true ∧ d.on .HS_CTL_EN s = true ∧ d.islandOn (9 + s) = true)) :
    d.linkUp s speed width = if d.running then
        (match (d.seat s).loaded with
         | some w => ((d.linkedUp s speed width).seatEvent s 1 0x0200 ((d.linkedUp s speed width).reg .HS_LINK s).toNat 0).sendLoaded s w
         | none => (d.linkedUp s speed width).seatEvent s 1 0x0200 ((d.linkedUp s speed width).reg .HS_LINK s).toNat 0)
      else d.linkedUp s speed width := by
  have hopen : ((d.seat s).up || d.tbStart.isNone || d.boot.phase == .inReset || d.boot.phase == .isSealed ||
      (decide (2 ≤ s) && !(d.running && d.on .HS_CTL_EN s && d.islandOn (9 + s)))) = false := by
    have hstart : d.tbStart.isNone = false := by simpa using htb
    obtain hlt | ⟨hrun, hen, hisl⟩ := hport
    · simp [hdown, hstart, hreset, hsealed, hlt]
    · simp [hdown, hstart, hreset, hsealed, hrun, hen, hisl]
  have hunfold : d.linkUp s speed width = if !d.running then d.linkedUp s speed width
      else match (d.seat s).loaded with
        | some w => ((d.linkedUp s speed width).seatEvent s 1 0x0200 ((d.linkedUp s speed width).reg .HS_LINK s).toNat 0).sendLoaded s w
        | none => (d.linkedUp s speed width).seatEvent s 1 0x0200 ((d.linkedUp s speed width).reg .HS_LINK s).toNat 0 := by
    unfold Dev.linkUp
    dsimp only
    rw [hopen, if_neg (by decide)]
    rfl
  rw [hunfold]
  cases d.running <;> rfl

theorem Dev.linkedUp_fields (s speed width : Nat) : (d.linkedUp s speed width).fld .HS_LINK_UP s = 1 ∧
    (d.linkedUp s speed width).fld .HS_LINK_SPEED s = speed % 2 ^ Fld.HS_LINK_SPEED.width ∧
    (d.linkedUp s speed width).fld .HS_LINK_WIDTH s = width % 2 ^ Fld.HS_LINK_WIDTH.width := Dev.linkShown_fields _ s speed width

/-- What LINK_UP leaves before its events: the seat up, HS_LINK showing it, and all else as it was. -/
theorem Dev.linkedUp_frame (s speed width : Nat) : (d.linkedUp s speed width).seat s = d.seatUp s ∧
    { d.linkedUp s speed width with regs := d.regs, seats := d.seats } = d ∧
    (∀ j, j ≠ s → (d.linkedUp s speed width).seat j = d.seat j) ∧
    ∀ o, o ≠ RegName.off .HS_LINK s 0 → (d.linkedUp s speed width).word o = d.word o :=
  ⟨d.seat_setSeat s _, Dev.RegsOnly.of_setSeat d (Dev.linkShown_regsOnly _ s speed width), fun _ hj => d.seat_setSeat_other _ hj,
    fun _ ho => (d.setSeat s _).linkShown_word s speed width ho⟩

/-- The seat whose link has gone down. -/
def Dev.seatDown (s : Nat) : Seat :=
  { d.seat s with up := false, downAt := if 2 ≤ s then some d.now else none, lastBad := some d.now }

/-- HS_LINK shows a link that is down. -/
def Dev.linkHidden (s : Nat) : Dev :=
  (((d.setOn .HS_LINK_UP s 0 false).setFld .HS_LINK_SPEED s 0 0).setFld .HS_LINK_WIDTH s 0 0).setOn .HS_LINK_BOUND s 0 false

/-- What LINK_DOWN leaves on the device before its event. -/
def Dev.linkedDown (s : Nat) : Dev :=
  ((((d.setSeat s (d.seatDown s)).linkHidden s).setWord (RegName.off .HS_BOUNDIP s 0) 0).setWord (RegName.off .HS_BOUNDPORT s 0) 0).bump
    .HS_LINK_DOWNCNT s 0

theorem Dev.linkDown_of_up {s : Nat} (hup : (d.seat s).up = true) :
    d.linkDown s = (d.linkedDown s).stewardSeatEvent s 0x0201 s ((d.linkedDown s).fld .HS_LINK_DOWNCNT s) := by
  unfold Dev.linkDown
  rw [if_neg (by simp [hup])]
  rfl

theorem hsLink_ne_bound (s : Nat) : RegName.off .HS_LINK s 0 ≠ RegName.off .HS_BOUNDIP s 0 ∧
    RegName.off .HS_LINK s 0 ≠ RegName.off .HS_BOUNDPORT s 0 ∧ RegName.off .HS_BOUNDIP s 0 ≠ RegName.off .HS_BOUNDPORT s 0 := by
  simp only [RegName.off, RegName.info]; omega

theorem Dev.regsOnly_setWord (o : Nat) (w : Word) : d.RegsOnly (d.setWord o w) := rfl

theorem Dev.linkHidden_regsOnly (s : Nat) : d.RegsOnly (d.linkHidden s) :=
  (((d.regsOnly_setFld _ _ _ _).trans (Dev.regsOnly_setFld _ _ _ _ _)).trans (Dev.regsOnly_setFld _ _ _ _ _)).trans
    (Dev.regsOnly_setFld _ _ _ _ _)

theorem Dev.linkHidden_fields (s : Nat) : (d.linkHidden s).fld .HS_LINK_UP s = 0 ∧ (d.linkHidden s).fld .HS_LINK_SPEED s = 0 ∧
    (d.linkHidden s).fld .HS_LINK_WIDTH s = 0 ∧ (d.linkHidden s).fld .HS_LINK_BOUND s = 0 ∧
    (d.linkHidden s).fld .HS_LINK_DOWNCNT s = d.fld .HS_LINK_DOWNCNT s := by
  simp (disch := decide) [Dev.linkHidden, Dev.fld_setFld, Dev.fld_setFld_beside, Dev.fld_setOn, Dev.fld_setOn_beside]

theorem Dev.linkedDown_fields (s : Nat) : (d.linkedDown s).fld .HS_LINK_UP s = 0 ∧ (d.linkedDown s).fld .HS_LINK_SPEED s = 0 ∧
    (d.linkedDown s).fld .HS_LINK_WIDTH s = 0 ∧ (d.linkedDown s).fld .HS_LINK_BOUND s = 0 ∧
    (d.linkedDown s).fld .HS_LINK_DOWNCNT s = min (d.fld .HS_LINK_DOWNCNT s + 1) (2 ^ Fld.HS_LINK_DOWNCNT.width - 1) ∧
    (d.linkedDown s).reg .HS_BOUNDIP s = 0 ∧ (d.linkedDown s).reg .HS_BOUNDPORT s = 0 := by
  obtain ⟨hip, hport, hne⟩ := hsLink_ne_bound s
  obtain ⟨hup, hspeed, hwidth, hbound, hcount⟩ := (d.setSeat s (d.seatDown s)).linkHidden_fields s
  have hkeep (x : Fld) (hx : x.reg = .HS_LINK) (e : Dev) : ((e.setWord (RegName.off .HS_BOUNDIP s 0) 0).setWord
      (RegName.off .HS_BOUNDPORT s 0) 0).fld x s = e.fld x s := by
    rw [Dev.fld_setWord_other _ _ _ _ _ (hx ▸ hport), Dev.fld_setWord_other _ _ _ _ _ (hx ▸ hip)]
  refine ⟨?_, ?_, ?_, ?_, ?_, ?_, ?_⟩ <;> unfold Dev.linkedDown
  iterate 4 (simp (disch := decide) only [Dev.fld_bump_beside, hkeep, hup, hspeed, hwidth, hbound])
  · rw [Dev.fld_bump _ _ _ _ _ (by decide), hkeep _ rfl, hcount]
    rfl
  · rw [Dev.reg, Dev.word_bump_other _ .HS_LINK_DOWNCNT _ _ _ hip.symm, Dev.word_setWord_other _ _ hne, Dev.word_setWord]
  · rw [Dev.reg, Dev.word_bump_other _ .HS_LINK_DOWNCNT _ _ _ hport.symm, Dev.word_setWord]

theorem Dev.linkedDown_frame (s : Nat) : (d.linkedDown s).seat s = d.seatDown s ∧
    { d.linkedDown s with regs := d.regs, seats := d.seats } = d ∧ (∀ j, j ≠ s → (d.linkedDown s).seat j = d.seat j) ∧
    ∀ o, o ∉ [RegName.off .HS_LINK s 0, RegName.off .HS_BOUNDIP s 0, RegName.off .HS_BOUNDPORT s 0] → (d.linkedDown s).word o = d.word o := by
  have hregs : (d.setSeat s (d.seatDown s)).RegsOnly (d.linkedDown s) :=
    (((Dev.linkHidden_regsOnly _ s).trans (Dev.regsOnly_setWord _ _ _)).trans (Dev.regsOnly_setWord _ _ _)).trans (Dev.regsOnly_bump _ _ _ _ _)
  refine ⟨d.seat_setSeat s _, hregs.of_setSeat, fun _ hj => d.seat_setSeat_other _ hj, fun o ho => ?_⟩
  simp only [List.mem_cons, List.not_mem_nil, or_false, not_or] at ho
  obtain ⟨hlink, hip, hport⟩ := ho
  unfold Dev.linkedDown Dev.linkHidden
  simp (disch := assumption) only [Dev.word_bump_other, Dev.word_setWord_other, Dev.word_setFld_other, Dev.word_setOn_other]
  rfl

theorem exec_linkUp (k : Fin 4) (speed width : Nat) (s : State) :
    exec (.linkUp k speed width) s = s.onDev anytime fun d => d.linkUp k speed width := rfl

theorem exec_linkDown (k : Fin 4) (s : State) : exec (.linkDown k) s = s.onDev anytime fun d => d.linkDown k := rfl

/-- Settles O4: the events of a link follow the change of its seat and registers, which is the witness. -/
theorem linkShown : Obligations.LinkShown := by
  unfold Obligations.LinkShown
  refine ⟨fun k speed width s htb hreset hsealed hdown hport => ?_, fun k s hup => ?_⟩
  · have hexec := s.dev.linkUp_of_down speed width htb hreset hsealed hdown hport
    obtain ⟨hseat, hrest, hother, hword⟩ := s.dev.linkedUp_frame k speed width
    obtain ⟨hup, hspeed, hwidth⟩ := s.dev.linkedUp_fields k speed width
    refine ⟨s.dev.linkedUp k speed width, (exec_linkUp k speed width s).trans (State.onDev_of rfl hexec), ?_, ?_, ?_, ?_, ?_, hup, hspeed, hwidth, hrest,
      fun j hj => hother j fun h => hj (Fin.ext h), hword⟩
    all_goals rw [hseat]; rfl
  · obtain ⟨hseat, hrest, hother, hword⟩ := s.dev.linkedDown_frame k
    obtain ⟨hlink, hspeed, hwidth, hbound, hcount, hip, hport⟩ := s.dev.linkedDown_fields k
    refine ⟨s.dev.linkedDown k, (exec_linkDown k s).trans (State.onDev_of rfl (s.dev.linkDown_of_up hup)), ?_, ?_, hlink, hspeed, hwidth, hbound,
      hcount, hip, hport, hrest, fun j hj => hother j fun h => hj (Fin.ext h), hword⟩
    all_goals rw [hseat]; rfl

end Sys2Proof.Machine
end

section
/-! PROOFS. What reporting leaves where it may write (R47, R48, R53 to R55, R293): of the seats all but their event queues, the entries held
for them, and the debt of an EVENTS_LOST, and of the event rings their heads; and the error signals that are on their way. A completion
notes a status beside. -/

namespace Sys2Proof.Machine

/-- Every seat is as before but for its event queues, held entries and the debt of an EVENTS_LOST. -/
def Dev.SameSeats (d e : Dev) : Prop := ∀ k, (e.seat k).still = (d.seat k).still

theorem Dev.SameSeats.refl (d : Dev) : d.SameSeats d := fun _ => rfl

theorem Dev.SameSeats.trans {d e f : Dev} (h : d.SameSeats e) (k : e.SameSeats f) : d.SameSeats f := fun s => (k s).trans (h s)

theorem Dev.sameSeats_of_seats {d e : Dev} (h : e.seats = d.seats) : d.SameSeats e := fun k => by unfold Dev.seat; rw [h]

theorem Dev.sameSeats_setSeat (d : Dev) {s : Nat} {x : Seat} (h : x.still = (d.seat s).still) : d.SameSeats (d.setSeat s x) := fun k => by
  by_cases hk : k = s
  · rw [hk, d.seat_setSeat, h]
  · rw [d.seat_setSeat_other _ hk]

section
variable {d e : Dev} (h : d.SameSeats e) (k : Nat)
include h

theorem Dev.SameSeats.cmdq (q : Nat) : (e.seat k).cmdq q = (d.seat k).cmdq q := by
  have heq := congrArg (Seat.cmdq · q) (h k)
  exact heq
theorem Dev.SameSeats.withheld : (e.seat k).withheld = (d.seat k).withheld := by
  have heq := congrArg Seat.withheld (h k)
  exact heq
theorem Dev.SameSeats.noneWithheld (hnone : d.noneWithheld) : e.noneWithheld := ⟨(h.withheld 2).trans hnone.1, (h.withheld 3).trans hnone.2⟩

end

section
variable {d e f : Dev}

/-- Reporting that takes no signal back, moves no command queue, and makes no room in an event ring. -/
structure Dev.Told (d e : Dev) : Prop where
  seats : d.SameSeats e
  heads : ∀ k q, ((e.seat k).evq q).head = ((d.seat k).evq q).head
  sigs : ∀ g ∈ d.fc.sigs, g ∈ e.fc.sigs

theorem Dev.Told.refl (d : Dev) : d.Told d := ⟨.refl d, fun _ _ => rfl, fun _ hg => hg⟩

theorem Dev.Told.trans (h : d.Told e) (k : e.Told f) : d.Told f :=
  ⟨h.seats.trans k.seats, fun s q => (k.heads s q).trans (h.heads s q), fun g hg => k.sigs g (h.sigs g hg)⟩

theorem Dev.told_of_same (hseats : e.seats = d.seats) (hfc : e.fc = d.fc) : d.Told e :=
  ⟨Dev.sameSeats_of_seats hseats, fun k q => by unfold Dev.seat; rw [hseats], fun g hg => by rw [hfc]; exact hg⟩

end

theorem Dev.told_emit (d : Dev) (o : Out) : d.Told (d.emit o) := Dev.told_of_same rfl rfl
theorem Dev.told_bump (d : Dev) (x : Fld) (i j n : Nat) : d.Told (d.bump x i j n) := Dev.told_of_same rfl rfl

theorem Dev.told_signal (d : Dev) (source unit : Nat) : d.Told (d.signal source unit) :=
  ⟨Dev.sameSeats_of_seats rfl, fun _ _ => rfl, fun _ hg => List.mem_append_left _ hg⟩

/-- A seat whose command queues, rings' heads, and all but held entries stand. -/
theorem Dev.told_setSeat (d : Dev) {s : Nat} {x : Seat} (hstill : x.still = (d.seat s).still) (hheads : ∀ q, (x.evq q).head = ((d.seat s).evq q).head) :
    d.Told (d.setSeat s x) := by
  refine ⟨d.sameSeats_setSeat hstill, fun k q => ?_, fun _ hg => hg⟩
  by_cases hk : k = s
  · rw [hk, d.seat_setSeat, hheads]
  · rw [d.seat_setSeat_other _ hk]

/-- An event ring whose head stands. -/
theorem Dev.told_setEvq (d : Dev) (s : Nat) {q : Nat} {x : EvQ} (h : x.head = ((d.seat s).evq q).head) :
    d.Told (d.setSeat s ((d.seat s).setEvq q x)) := by
  refine d.told_setSeat rfl fun p => ?_
  by_cases hp : p = q
  · rw [hp, Seat.evq_setEvq, h]
  · rw [Seat.evq_setEvq_other _ _ hp]

theorem Dev.told_raiseMsix (d : Dev) (fn v : Nat) : d.Told (d.raiseMsix fn v) := by
  unfold Dev.raiseMsix
  split <;> exact Dev.told_of_same rfl rfl

theorem Dev.told_writeEq (d : Dev) (s q : Nat) (x : Frame) : d.Told (d.writeEq s q x) := by
  unfold Dev.writeEq; dsimp only
  split
  · refine (d.told_setEvq s (q := q) ?_).trans ((Dev.told_emit _ _).trans (Dev.told_raiseMsix _ _ _))
    rfl
  · refine (d.told_setEvq s (q := q) ?_).trans (Dev.told_emit _ _)
    rfl

theorem Dev.told_sendDatagram (d : Dev) (s q : Nat) (x : Frame) : d.Told (d.sendDatagram s q x) := by
  unfold Dev.sendDatagram; dsimp only
  split
  · refine (d.told_setEvq s (q := q) ?_).trans (Dev.told_emit _ _)
    rfl
  · exact .refl d

theorem Dev.told_post (d : Dev) (s q : Nat) (isEvent : Bool) (x : Frame) : d.Told (d.post s q isEvent x) := by
  unfold Dev.post; dsimp only
  split
  · split
    · exact d.told_writeEq _ _ _
    · split
      · exact d.told_setSeat rfl fun _ => rfl
      · split
        · exact d.told_setSeat rfl fun _ => rfl
        · exact (d.told_setSeat (x := { d.seat s with lost := true }) rfl fun _ => rfl).trans
            ((Dev.told_bump _ _ _ _ _).trans (Dev.told_signal _ _ _))
  · exact d.told_sendDatagram _ _ _

theorem Dev.told_bayEvent (d : Dev) (b q code unit d0 d1 : Nat) : d.Told (d.bayEvent b q code unit d0 d1) := by
  unfold Dev.bayEvent
  split
  · exact d.told_post _ _ _ _
  · exact .refl d

theorem Dev.told_devEvent (d : Dev) (s q code unit d0 d1 : Nat) : d.Told (d.devEvent s q code unit d0 d1) := by
  unfold Dev.devEvent
  split
  · exact d.told_post _ _ _ _
  · exact .refl d

theorem Dev.seats_noteStatus (d : Dev) (s queue : Nat) (st sent : Status) : (d.noteStatus s queue st sent).seats = d.seats := by
  unfold Dev.noteStatus
  split
  · rfl
  · dsimp only; split
    · rfl
    · split <;> rfl

theorem Dev.fc_noteStatus (d : Dev) (s queue : Nat) (st sent : Status) : (d.noteStatus s queue st sent).fc = d.fc := by
  unfold Dev.noteStatus
  split
  · rfl
  · dsimp only; split
    · rfl
    · split <;> rfl

theorem Dev.told_completeAs (d : Dev) (h : CmdHdr) (op : Nat) (st : Status) (p : List Byte) : d.Told (d.completeAs h op st p) := by
  unfold Dev.completeAs
  split
  · dsimp only; split <;> exact Dev.told_of_same rfl rfl
  · rename_i s _
    have hnote (sent : Status) : d.Told (d.noteStatus s.val (4 * s.val + h.q.val) st sent) :=
      Dev.told_of_same (d.seats_noteStatus _ _ _ _) (d.fc_noteStatus _ _ _ _)
    dsimp only
    split
    · exact hnote _
    · split
      · exact (hnote _).trans ((Dev.told_emit _ _).trans (Dev.told_post _ _ _ _ _))
      · exact (hnote _).trans (Dev.told_post _ _ _ _ _)

/-- A completion remembers its status, and is then sent. -/
theorem Dev.complete_of_seat (d : Dev) {h : CmdHdr} {k : Fin 4} (hsrc : h.src = .seat k) (op : Nat) (st : Status) (p : List Byte) :
    d.complete h op st p = (d.setSeat k ((d.seat k).setCmdq h.q (((d.seat k).cmdq h.q).remember h.seq
      (sentStatus k h.replyLen p.length h.noack st).code))).completeAs h op st p := by
  simp only [Dev.complete, hsrc]

theorem Dev.complete_of_console (d : Dev) {h : CmdHdr} (hsrc : h.src = .console) (op : Nat) (st : Status) (p : List Byte) :
    d.complete h op st p = d.completeAs h op st p := by
  simp only [Dev.complete, hsrc]

/-- A completion withholds no frame, and lets none go. -/
theorem Dev.withheld_complete (d : Dev) (h : CmdHdr) (op : Nat) (st : Status) (p : List Byte) (j : Nat) :
    ((d.complete h op st p).seat j).withheld = (d.seat j).withheld := by
  cases hsrc : h.src with
  | console => rw [d.complete_of_console hsrc]; exact (d.told_completeAs h op st p).seats.withheld j
  | seat k =>
    rw [d.complete_of_seat hsrc, (Dev.told_completeAs _ h op st p).seats.withheld j]
    by_cases hj : j = k.val
    · rw [hj, d.seat_setSeat]; rfl
    · rw [d.seat_setSeat_other _ hj]

theorem Dev.noneWithheld_complete {d : Dev} (hnone : d.noneWithheld) (h : CmdHdr) (op : Nat) (st : Status) (p : List Byte) :
    (d.complete h op st p).noneWithheld :=
  ⟨(d.withheld_complete h op st p 2).trans hnone.1, (d.withheld_complete h op st p 3).trans hnone.2⟩

/-- A completion leaves the expected sequence number of its queue. -/
theorem Dev.exp_complete (d : Dev) {h : CmdHdr} {k : Fin 4} (hsrc : h.src = .seat k) (op : Nat) (st : Status) (p : List Byte) :
    (((d.complete h op st p).seat k).cmdq h.q).exp = ((d.seat k).cmdq h.q).exp := by
  rw [d.complete_of_seat hsrc, (Dev.told_completeAs _ h op st p).seats.cmdq k, d.seat_setSeat, Seat.cmdq_setCmdq]
  rfl

/-- A completion takes no signal back. -/
theorem Dev.sigs_complete (d : Dev) (h : CmdHdr) (op : Nat) (st : Status) (p : List Byte) {g : FaultSig} (hg : g ∈ d.fc.sigs) :
    g ∈ (d.complete h op st p).fc.sigs := by
  cases hsrc : h.src with
  | console => rw [d.complete_of_console hsrc]; exact (d.told_completeAs h op st p).sigs g hg
  | seat k => rw [d.complete_of_seat hsrc]; exact (Dev.told_completeAs _ h op st p).sigs g hg

end Sys2Proof.Machine
end

section
/-! PROOFS. How a command frame reaches its own rules, and what it leaves where it does not (R48, R49, R403). -/

namespace Sys2Proof.Machine

/-- Where no frame waits for its queue, none is executed when a command ends. -/
theorem release_of_noneWithheld {m : Dev × Nv} (hnone : m.1.noneWithheld) : release m = m := by
  have hseat2 : releaseSeat m.1 m.2 2 (m.1.seat 2).withheld.length = m := by rw [hnone.1]; rfl
  simp only [release, hseat2]
  rw [hnone.2]
  rfl

section
variable {d : Dev} {h : CmdHdr} {op : Nat} {gl : Bool}

/-- An admitted frame is taken, has its number, and is stopped by nothing. -/
theorem Dev.admits_iff : d.admits h op gl = true ↔
    d.takes h = true ∧ d.sequenced h op = (d.heard h op, true) ∧ (d.heard h op).stops h op gl = none := by
  simp only [Dev.admits, Dev.heard, Bool.and_eq_true, Option.isNone_iff_eq_none, Prod.ext_iff, true_and, and_assoc]

/-- An admitted frame goes on to its own rules. -/
theorem command_of_admits (hadm : d.admits h op gl = true) (v : Nv) (k : Dev → Dev × Nv) : command d v h op gl k = k (d.heard h op) := by
  obtain ⟨-, hseq, hstop⟩ := Dev.admits_iff.mp hadm
  simp only [command, hseq, hstop, Bool.not_true, Bool.false_eq_true, if_false]

theorem Dev.heard_of_console (hsrc : h.src = .console) : d.heard h op = d := by simp only [Dev.heard, Dev.sequenced, hsrc]

/-- The frame in order of a seat takes the expected number. -/
theorem Dev.heard_of_seat {k : Fin 4} (hadm : d.admits h op gl = true) (hsrc : h.src = .seat k) :
    d.heard h op = d.setSeat k ((d.seat k).setCmdq h.q { (d.seat k).cmdq h.q with exp := (((d.seat k).cmdq h.q).exp + 1) % 65536 }) := by
  obtain ⟨-, hseq, -⟩ := Dev.admits_iff.mp hadm
  have hgo := congrArg Prod.snd hseq
  have hheard := congrArg Prod.fst hseq
  simp only [Dev.sequenced, hsrc] at hgo hheard
  split at hgo
  · rename_i hdist
    rw [if_pos hdist] at hheard
    exact hheard.symm
  · split at hgo <;> cases hgo

/-- A frame that is heard changes its seat only. -/
theorem Dev.heard_eq (hadm : d.admits h op gl = true) : ∃ seats, d.heard h op = { d with seats := seats } := by
  cases hsrc : h.src with
  | console => exact ⟨d.seats, Dev.heard_of_console hsrc⟩
  | seat k => exact ⟨_, Dev.heard_of_seat hadm hsrc⟩

theorem Dev.reported_heard (hadm : d.admits h op gl = true) : d.Reported (d.heard h op) := by
  obtain ⟨seats, heq⟩ := Dev.heard_eq hadm
  rw [heq]; exact ⟨rfl, fun _ _ => rfl⟩

theorem Dev.noneWithheld_heard (hadm : d.admits h op gl = true) (hnone : d.noneWithheld) : (d.heard h op).noneWithheld := by
  cases hsrc : h.src with
  | console => rw [Dev.heard_of_console hsrc]; exact hnone
  | seat k =>
    have hkeep (j : Nat) : ((d.heard h op).seat j).withheld = (d.seat j).withheld := by
      rw [Dev.heard_of_seat hadm hsrc]
      by_cases hj : j = k.val
      · rw [hj, d.seat_setSeat]; rfl
      · rw [d.seat_setSeat_other _ hj]
    exact ⟨(hkeep 2).trans hnone.1, (hkeep 3).trans hnone.2⟩

/-- A frame whose number is not the expected one is answered, and that is all. -/
theorem Dev.sequenced_of_other {k : Fin 4} (hsrc : h.src = .seat k) (hdist : seqDist ((d.seat k).cmdq h.q) h.seq ≠ 0) :
    ∃ st p, d.sequenced h op = (d.completeAs h op st p, false) := by
  simp only [Dev.sequenced, hsrc, if_neg hdist]
  split <;> exact ⟨_, _, rfl⟩

/-- Such a frame does not reach its own rules. -/
theorem command_of_other {e : Dev} (hseq : d.sequenced h op = (e, false)) (v : Nv) (k : Dev → Dev × Nv) : command d v h op gl k = (e, v) := by
  simp only [command, hseq, Bool.not_false, if_true]

end

/-- A command frame with its own rules; and one whose effects may let withheld frames go. -/
def State.onCommand (s : State) (h : CmdHdr) (op : Nat) (gl : Bool) (k : Dev → Nv → Dev × Nv) : Result :=
  s.onMach (fun d => d.takes h) fun d v => command d v h op gl fun d => k d v
def State.onWriting (s : State) (h : CmdHdr) (op : Nat) (k : Dev → Nv → Dev × Nv) : Result :=
  s.onMach (fun d => d.takes h) fun d v => release (command d v h op false fun d => k d v)

section
variable (h : CmdHdr) (s : State)

theorem exec_nop : exec (.nop h) s = s.onCommand h 0x0000 false fun d v => (d.complete h 0x0000 .ok [], v) := rfl
theorem exec_rd32 (offs : List Nat) : exec (.rd32 h offs) s = s.onCommand h 0x0001 (offs.all glOffset) fun d v => (d.rd32 v h offs, v) := rfl
theorem exec_wr32 (pairs : List (Nat × Word)) : exec (.wr32 h pairs) s = s.onWriting h 0x0002 fun d v => wr32 d v h pairs := rfl
theorem exec_rdblk (off len : Nat) : exec (.rdblk h off len) s = s.onCommand h 0x0003 false fun d v => (d.rdblk v h off len, v) := rfl
theorem exec_wrblk (off : Nat) (data : List Word) : exec (.wrblk h off data) s = s.onWriting h 0x0004 fun d v => wrblk d v h off data := rfl
theorem exec_commit (rec : CommitRec) : exec (.commit h rec) s = s.onCommand h 0x0010 false fun d v => (d.commit h rec, v) := rfl
theorem exec_cancel (bay : Nat) : exec (.cancel h bay) s = s.onCommand h 0x0011 false fun d v => (d.cancel h bay, v) := rfl
theorem exec_snap (bay flags target : Nat) :
    exec (.snap h bay flags target) s = s.onCommand h 0x0012 false fun d v => (d.snapReq h bay flags target, v) := rfl
theorem exec_snaprd (bay buffer off len : Nat) :
    exec (.snaprd h bay buffer off len) s = s.onCommand h 0x0013 false fun d v => (d.snapRead h bay buffer off len, v) := rfl
theorem exec_snaprel (bay buffer : Nat) :
    exec (.snaprel h bay buffer) s = s.onCommand h 0x0014 false fun d v => (d.snapRelease h bay buffer, v) := rfl
theorem exec_stop (bay : Nat) : exec (.stop h bay) s = s.onCommand h 0x0020 false fun d v => (d.stopCmd h bay, v) := rfl
theorem exec_imgreload (sel : Nat) : exec (.imgreload h sel) s = s.onCommand h 0x0031 false fun d v => (d.imgReload h sel, v) := rfl

end

section
variable {h : CmdHdr} {op : Nat} {gl : Bool} {s : State} {k : Dev → Nv → Dev × Nv}

/-- An admitted frame leaves what its own rules make of the device that has heard it. -/
theorem State.onCommand_of_admits {m : Dev × Nv} (hadm : s.dev.admits h op gl = true) (hm : k (s.dev.heard h op) s.nv = m) :
    s.onCommand h op gl k = .next { s with dev := m.1, nv := m.2 } :=
  State.onMach_of (Dev.admits_iff.mp hadm).1 ((command_of_admits hadm _ _).trans hm)

/-- So does a frame that acts on the device alone. -/
theorem State.onCommand_dev {f : Dev → Nv → Dev} {e : Dev} (hadm : s.dev.admits h op gl = true) (he : f (s.dev.heard h op) s.nv = e) :
    s.onCommand h op gl (fun d v => (f d v, v)) = .next { s with dev := e } :=
  State.onCommand_of_admits (m := (e, s.nv)) hadm (by rw [he])

theorem State.onWriting_of_admits {m : Dev × Nv} (hadm : s.dev.admits h op false = true) (hm : k (s.dev.heard h op) s.nv = m) :
    s.onWriting h op k = .next { s with dev := (release m).1, nv := (release m).2 } :=
  State.onMach_of (Dev.admits_iff.mp hadm).1 (congrArg release ((command_of_admits hadm _ _).trans hm))

variable {e : Dev} (htakes : s.dev.takes h = true) (hseq : s.dev.sequenced h op = (e, false))
include htakes hseq

theorem State.onCommand_of_other : s.onCommand h op gl k = .next { s with dev := e } :=
  State.onMach_of (m := (e, s.nv)) htakes (command_of_other hseq _ _)

theorem State.onWriting_of_other (hnone : e.noneWithheld) : s.onWriting h op k = .next { s with dev := e } :=
  State.onMach_of (m := (e, s.nv)) htakes ((congrArg release (command_of_other hseq _ _)).trans (release_of_noneWithheld hnone))

end

/-- A frame that is not in order ends in its answer, whichever its command. -/
theorem exec_of_frame_other {i : Instr} {h : CmdHdr} {op : Nat} {s : State} {e : Dev} (hframe : frameOf i = some (h, op)) (htakes : s.dev.takes h = true)
    (hseq : s.dev.sequenced h op = (e, false)) (hnone : e.noneWithheld) : exec i s = .next { s with dev := e } := by
  have hplain (gl : Bool) (k : Dev → Nv → Dev × Nv) := State.onCommand_of_other (gl := gl) (k := k) htakes hseq
  have hwriting (k : Dev → Nv → Dev × Nv) := State.onWriting_of_other (k := k) htakes hseq hnone
  unfold frameOf at hframe
  split at hframe <;> cases hframe
  · exact (exec_nop _ _).trans (hplain _ _)
  · exact (exec_rd32 _ _ _).trans (hplain _ _)
  · exact (exec_wr32 _ _ _).trans (hwriting _)
  · exact (exec_rdblk _ _ _ _).trans (hplain _ _)
  · exact (exec_wrblk _ _ _ _).trans (hwriting _)
  · exact (exec_commit _ _ _).trans (hplain _ _)
  · exact (exec_cancel _ _ _).trans (hplain _ _)
  · exact (exec_snap _ _ _ _ _).trans (hplain _ _)
  · exact (exec_snaprd _ _ _ _ _ _).trans (hplain _ _)
  · exact (exec_snaprel _ _ _ _).trans (hplain _ _)
  · exact (exec_stop _ _ _).trans (hplain _ _)
  · exact (exec_imgreload _ _ _).trans (hplain _ _)

/-- Settles O19: the sequence check sends it to a completion, which only reports. -/
theorem frameOutOfOrder : Obligations.FrameOutOfOrder := by
  unfold Obligations.FrameOutOfOrder
  intro i h op k s hframe hsrc htakes hnone hdist
  obtain ⟨st, p, hseq⟩ := Dev.sequenced_of_other (d := s.dev) (op := op) hsrc hdist
  have hrep := s.dev.reported_completeAs h op st p
  have hseats := (s.dev.told_completeAs h op st p).seats
  exact ⟨_, exec_of_frame_other hframe htakes hseq (hseats.noneWithheld hnone), rfl, rfl, hrep.1, hrep.regsBut, by rw [hseats.cmdq]⟩

end Sys2Proof.Machine
end

section
/-! PROOFS. NOP, RD32 and RDBLK, WR32 and WRBLK (R27, R48, R49, R50, R447). -/

namespace Sys2Proof.Machine

section
variable (d : Dev) (v : Nv) (who : Src)

/-- A refused read of a register answers the word 0. -/
theorem Dev.readReg_of_refused (r : RegName) (i j : Nat) (h : (d.readReg v who r i j).2.2 ≠ .ok) : (d.readReg v who r i j).2.1 = 0 := by
  unfold Dev.readReg at h ⊢
  split at h
  · rfl
  · split at h <;> exact absurd rfl h

/-- A refused read on the bus answers the word 0 (R27, R50). -/
theorem Dev.busRead_of_refused (o : Nat) (h : (d.busRead v who o).2.2 ≠ .ok) : (d.busRead v who o).2.1 = 0 := by
  unfold Dev.busRead at h ⊢
  split at h
  · rename_i hodd; rw [if_pos hodd]
  · rename_i heven; rw [if_neg heven]
    split at h
    · rename_i hload; rw [if_pos hload]
    · rename_i hrun; rw [if_neg hrun]
      split at h
      · split at h
        · rfl
        · exact absurd rfl h
      · split at h
        · exact d.readReg_of_refused v who _ _ _ h
        · rfl

theorem Dev.readAll_length (offs : List Nat) : (d.readAll v who offs).2.1.length = offs.length := by
  induction offs generalizing d with
  | nil => rfl
  | cons o r ih => exact congrArg (· + 1) (ih _)

/-- A list of pairs is written up to the first refused one. -/
theorem writeAll_cons (o n : Nat) (x : Word) (r : List (Nat × Word)) : writeAll d v who ((o, x) :: r) n =
    if (busWrite d v who o x).2.2 = .ok then writeAll (busWrite d v who o x).1 (busWrite d v who o x).2.1 who r (n + 1)
    else ((busWrite d v who o x).1, (busWrite d v who o x).2.1, n, (busWrite d v who o x).2.2) := rfl

/-- The count of pairs done is at most theirs, and all of them where none is refused. -/
theorem writeAll_count (pairs : List (Nat × Word)) (n : Nat) : (writeAll d v who pairs n).2.2.1 ≤ n + pairs.length ∧
    ((writeAll d v who pairs n).2.2.2 = .ok → (writeAll d v who pairs n).2.2.1 = n + pairs.length) := by
  induction pairs generalizing d v n with
  | nil => exact ⟨Nat.le_refl _, fun _ => rfl⟩
  | cons p r ih =>
    rw [writeAll_cons]
    split
    · obtain ⟨hle, hall⟩ := ih (busWrite d v who p.1 p.2).1 (busWrite d v who p.1 p.2).2.1 (n + 1)
      rw [List.length_cons]
      exact ⟨by omega, fun hok => by rw [hall hok]; omega⟩
    · rename_i hrefused
      exact ⟨Nat.le_add_right _ _, fun hok => absurd hok hrefused⟩

end

section
variable (d : Dev) (v : Nv) (h : CmdHdr)

theorem Dev.rd32_of_fits {offs : List Nat} (hfits : offs.length ≤ if h.q.val = 0 then 16 else 256) :
    d.rd32 v h offs = (d.readAll v h.src offs).1.complete h 0x0001 (d.readAll v h.src offs).2.2 (wordBytes (d.readAll v h.src offs).2.1) := by
  rw [Dev.rd32, if_neg (Nat.not_lt.mpr hfits)]

theorem Dev.rd32_of_long {offs : List Nat} (hlong : (if h.q.val = 0 then 16 else 256) < offs.length) :
    d.rd32 v h offs = d.complete h 0x0001 .badFrame [] := by
  rw [Dev.rd32, if_pos hlong]

theorem Dev.rdblk_of_block {off len : Nat} (hlen : len ≤ frameMax h) (hblock : blockOk off len = true) :
    d.rdblk v h off len = (d.readAll v h.src (blockOffs off len)).1.complete h 0x0003 (d.readAll v h.src (blockOffs off len)).2.2
      (wordBytes (d.readAll v h.src (blockOffs off len)).2.1) := by
  rw [Dev.rdblk, if_neg (Nat.not_lt.mpr hlen), if_neg (by simp [hblock])]

theorem Dev.rdblk_of_other {off len : Nat} (hlen : len ≤ frameMax h) (hblock : blockOk off len = false) :
    d.rdblk v h off len = d.complete h 0x0003 .refusedAccess [] := by
  rw [Dev.rdblk, if_neg (Nat.not_lt.mpr hlen), if_pos (by simp [hblock])]

theorem length_blockOffs (off len : Nat) : (blockOffs off len).length = len / 4 := by simp [blockOffs]

end

/-- Settles O20: an admitted frame goes on to its own rule, and each rule ends in one completion. -/
theorem plainFrames : Obligations.PlainFrames := by
  unfold Obligations.PlainFrames
  refine ⟨fun h s hadm => ?_, fun h offs s hadm => ⟨fun hfits => ?_, fun hlong => ?_⟩,
    fun h off len s hadm hlen => ⟨fun hblock => ?_, fun hblock => ?_⟩, fun d v who o r => ⟨rfl, rfl, d.busRead_of_refused v who o⟩⟩
  · have hrep := (Dev.reported_heard hadm).trans (Dev.reported_complete (s.dev.heard h 0) h 0 .ok [])
    refine ⟨(exec_nop h s).trans (State.onCommand_of_admits hadm rfl), hrep.1, hrep.regsBut, fun k hsrc => ?_⟩
    rw [Dev.exp_complete _ hsrc, Dev.heard_of_seat hadm hsrc, Dev.seat_setSeat, Seat.cmdq_setCmdq]
  · exact ⟨_, _, _, rfl, Dev.readAll_length _ _ _ _,
      (exec_rd32 h s offs).trans (State.onCommand_dev hadm (Dev.rd32_of_fits _ _ h hfits))⟩
  · exact (exec_rd32 h s offs).trans (State.onCommand_dev hadm (Dev.rd32_of_long _ _ h hlong))
  · exact ⟨_, _, _, rfl, (Dev.readAll_length _ _ _ _).trans (length_blockOffs off len),
      (exec_rdblk h s off len).trans (State.onCommand_dev hadm (Dev.rdblk_of_block _ _ h hlen hblock))⟩
  · exact (exec_rdblk h s off len).trans (State.onCommand_dev hadm (Dev.rdblk_of_other _ _ h hlen hblock))

section
variable (d : Dev) (v : Nv) (h : CmdHdr)

theorem wr32_of_fits {pairs : List (Nat × Word)} (hfits : pairs.length ≤ 256) : wr32 d v h pairs =
    (((writeAll d v h.src pairs 0).1.noteFrameMode h (writeAll d v h.src pairs 0).2.2.2).complete h 0x0002 (writeAll d v h.src pairs 0).2.2.2
      (le 4 (writeAll d v h.src pairs 0).2.2.1), (writeAll d v h.src pairs 0).2.1) := by
  rw [wr32, if_neg (Nat.not_lt.mpr hfits)]

/-- The pairs of a block and its data. -/
def blockPairs (off : Nat) (data : List Word) : List (Nat × Word) := List.zip (blockOffs off (4 * data.length)) data

theorem length_blockPairs (off : Nat) (data : List Word) : (blockPairs off data).length = data.length := by
  simp [blockPairs, length_blockOffs]

theorem wrblk_of_block {off : Nat} {data : List Word} (hblock : blockOk off (4 * data.length) = true) : wrblk d v h off data =
    (((writeAll d v h.src (blockPairs off data) 0).1.noteFrameMode h (writeAll d v h.src (blockPairs off data) 0).2.2.2).complete h 0x0004
      (writeAll d v h.src (blockPairs off data) 0).2.2.2 [], (writeAll d v h.src (blockPairs off data) 0).2.1) := by
  rw [wrblk, if_neg (by simp [hblock])]; rfl

theorem wrblk_of_other {off : Nat} {data : List Word} (hblock : blockOk off (4 * data.length) = false) :
    wrblk d v h off data = (d.complete h 0x0004 .refusedAccess [], v) := by
  rw [wrblk, if_pos (by simp [hblock])]

/-- A WR32 of one pair is the write that a frame carries, and then withheld frames. -/
theorem exec_wr32_pair {s : State} {o : Nat} {x : Word} (htakes : s.dev.takes h = true) : exec (.wr32 h [(o, x)]) s =
    .next { s with dev := (release (writeBy s.dev s.nv (.frame h) o x)).1, nv := (release (writeBy s.dev s.nv (.frame h) o x)).2 } := by
  refine (exec_wr32 h s _).trans (State.onMach_of htakes (congrArg release ?_))
  rw [writeBy, if_pos htakes]

end

/-- Settles O21: the pairs are written up to the first refused one, by induction on the pairs. -/
theorem writeFrames : Obligations.WriteFrames := by
  unfold Obligations.WriteFrames
  refine ⟨fun h pairs s hadm hfits => ?_, fun h o x s hacc => ?_, fun h off data s hadm => ⟨fun hblock => ?_, fun hblock hnone => ?_⟩,
    fun d v who o n x r => writeAll_cons d v who o n x r⟩
  · obtain ⟨hle, hall⟩ := writeAll_count (s.dev.heard h 0x0002) s.nv h.src pairs 0
    rw [Nat.zero_add] at hle hall
    exact ⟨_, _, _, _, rfl, hle, hall, (exec_wr32 h s pairs).trans (State.onWriting_of_admits hadm (wr32_of_fits _ _ h hfits))⟩
  · have htakes : s.dev.takes h = true := (Dev.admits_iff.mp hacc.1).1
    rw [exec_wr32_pair h htakes, writeBy_accepted s.dev s.nv (.frame h) o x hacc]
  · obtain ⟨-, hall⟩ := writeAll_count (s.dev.heard h 0x0004) s.nv h.src (blockPairs off data) 0
    rw [Nat.zero_add, length_blockPairs] at hall
    exact ⟨_, _, _, _, rfl, hall, (exec_wrblk h s off data).trans (State.onWriting_of_admits hadm (wrblk_of_block _ _ h hblock))⟩
  · have hnone' := Dev.noneWithheld_complete (Dev.noneWithheld_heard hadm hnone) h 0x0004 .refusedAccess []
    rw [(exec_wrblk h s off data).trans (State.onWriting_of_admits hadm (wrblk_of_other _ _ h hblock)), release_of_noneWithheld hnone']

end Sys2Proof.Machine
end

section
/-! PROOFS. Descriptors of the command and feed rings, and the frames of PCIe (R47, R53, R59, R87, R88). -/

namespace Sys2Proof.Machine

variable (d : Dev) (v : Nv)

/-- The device once the descriptor of a command ring has been fetched. -/
def Dev.ringFetched (fn : Nat) (q : Fin 4) : Dev :=
  let c := (d.seat fn).cmdq q
  let y := (d.seat fn).setCmdq q { c with head := (c.head + 1) % 2 ^ d.fld .HS_CQSIZE_LOG2 fn q }
  d.setSeat fn { y with rr := if q.val = 0 then y.rr else q.val % 3 + 1 }

theorem fetchCommand_of_ring {fn q : Fin 4} (h : d.nextRing fn = some q) (x : Descriptor) :
    fetchCommand d v fn x = pcieFrame (d.ringFetched fn q) v fn (4 * fn.val + q.val) x := by
  delta fetchCommand; rw [h]; rfl

theorem Dev.ringFetched_cmdq (fn : Nat) (q : Fin 4) : ((d.ringFetched fn q).seat fn).cmdq q =
    { (d.seat fn).cmdq q with head := (((d.seat fn).cmdq q).head + 1) % 2 ^ d.fld .HS_CQSIZE_LOG2 fn q } := by
  rw [Dev.ringFetched, d.seat_setSeat]
  exact Seat.cmdq_setCmdq _ _ _

/-- The device once the descriptor of a feed ring has been fetched. -/
def Dev.feedFetched (xx : Nat) : Dev :=
  d.setItk xx { d.itk xx with fq := { (d.itk xx).fq with head := ((d.itk xx).fq.head + 1) % 2 ^ d.fld .RI_FQSIZE_LOG2 xx } }

theorem fetchFeed_of_ready {fn : Fin 4} {xx : Nat} (h : d.feedReady fn xx = true) (x : Descriptor) :
    fetchFeed d v fn xx x = pcieFrame (d.feedFetched xx) v fn (32 + xx) x := by
  delta fetchFeed; rw [h]; rfl

theorem exec_descriptorFetch (fn : Fin 2) (feed : Option (Fin 32)) (desc : Descriptor) (s : State) : exec (.descriptorFetch fn feed desc) s =
    s.onMach anytime fun d v => release (match feed with
      | none => fetchCommand d v (pcieSeat fn) desc
      | some xx => fetchFeed d v (pcieSeat fn) xx desc) := rfl

/-- The header of the command that a frame of PCIe carries, by the ring it came by. -/
def descHdr (x : Descriptor) (k q : Fin 4) : CmdHdr :=
  ⟨.seat k, q, (parseHdr x.frame).seq, (parseHdr x.frame).flags / 2 % 2 == 1, (parseHdr x.frame).flags / 4 % 2 == 1, x.replyLen⟩

theorem qClass_queue (k q : Fin 4) : qClass (4 * k.val + q.val) = q := Fin.ext (by simp only [qClass]; omega)

section
variable {x : Descriptor} {k q : Fin 4} (hlen : 16 ≤ x.frame.length)
include hlen

/-- A frame whose header names another queue than its ring's. -/
theorem pcieFrame_of_other (hqueue : (parseHdr x.frame).queue ≠ 4 * k.val + q.val) :
    pcieFrame d v k (4 * k.val + q.val) x = (d.completeAs (descHdr x k q) (parseHdr x.frame).op .badFrame [], v) := by
  have hring : ¬ 32 ≤ 4 * k.val + q.val := by omega
  have hother : (decide (16 ≤ x.frame.length) && (parseHdr x.frame).queue != 4 * k.val + q.val) = true := by simp [hlen, hqueue]
  simp only [pcieFrame, hother, hring, qClass_queue, if_true, if_false]
  rfl

variable (hqueue : (parseHdr x.frame).queue = 4 * k.val + q.val)
  (hgood : headerBad (parseHdr x.frame) k.val (seatMaxLen k.val) (x.frame.drop 16).length = false)
include hqueue hgood

/-- One with a good header is answered or executed by its VERSION. -/
theorem pcieFrame_of_good : pcieFrame d v k (4 * k.val + q.val) x =
    if (parseHdr x.frame).version != 1 then (d.completeAs (descHdr x k q) (parseHdr x.frame).op .badVersion [], v)
    else runCommand d v (descHdr x k q) (parseHdr x.frame).op (x.frame.drop 16) := by
  have hclass : qClass (parseHdr x.frame).queue = q := hqueue ▸ qClass_queue k q
  have hfeed : (decide (32 ≤ (parseHdr x.frame).queue) && decide ((parseHdr x.frame).queue < 64)) = false := by
    simp only [hqueue, Bool.and_eq_false_iff, decide_eq_false_iff_not]; omega
  have hmine : ((decide (16 ≤ x.frame.length)) && (parseHdr x.frame).queue != 4 * k.val + q.val) = false := by simp [hqueue]
  rw [pcieFrame, hmine, if_neg Bool.false_ne_true, runFrame]
  simp only [hgood, hfeed, hclass, Nat.not_lt.mpr hlen, if_false, Bool.false_eq_true]
  rfl

end

/-- Settles O33: the fetch advances its ring first; what runs then is the frame on that device. -/
theorem descriptorsFetched : Obligations.DescriptorsFetched := by
  unfold Obligations.DescriptorsFetched
  refine ⟨fun fn desc q s hring => ?_, fun fn xx desc s hready => ?_, fun k q desc h d v hlen hh => ⟨fun hqueue => ?_, fun hqueue hgood => ?_⟩,
    fun fn desc s hring hnone => ?_⟩
  · have hcmdq := s.dev.ringFetched_cmdq fn q
    have hfetch := congrArg release (fetchCommand_of_ring s.dev s.nv (fn := pcieSeat fn) hring desc)
    exact ⟨s.dev.ringFetched fn q, (exec_descriptorFetch fn none desc s).trans (State.onMach_of rfl hfetch), by rw [hcmdq], by rw [hcmdq], rfl, rfl⟩
  · have hfetch := congrArg release (fetchFeed_of_ready s.dev s.nv (fn := pcieSeat fn) hready desc)
    exact ⟨s.dev.feedFetched xx, (exec_descriptorFetch fn (some xx) desc s).trans (State.onMach_of rfl hfetch),
      by rw [Dev.feedFetched, Dev.itk_setItk], rfl, rfl⟩
  · subst hh
    exact pcieFrame_of_other d v hlen hqueue
  · subst hh
    have hrun := pcieFrame_of_good d v hlen hqueue hgood
    refine ⟨fun hversion => ?_, fun hversion hadm => ?_⟩
    · rw [hrun, if_pos (by simpa using hversion)]; rfl
    · have hexec := command_of_admits hadm v fun e => execute e v (descHdr desc k q) (parseHdr desc.frame).op (desc.frame.drop 16)
      rw [hrun, if_neg (by simp [hversion])]
      exact ⟨hexec, fun hop => hexec.trans (by rw [hop]; rfl)⟩
  · have hstay : fetchCommand s.dev s.nv (pcieSeat fn) desc = (s.dev, s.nv) := by
      have : s.dev.nextRing (pcieSeat fn) = none := hring
      delta fetchCommand; rw [this]
    have hrun : release (fetchCommand s.dev s.nv (pcieSeat fn) desc) = (s.dev, s.nv) := by rw [hstay, release_of_noneWithheld hnone]
    exact (exec_descriptorFetch fn none desc s).trans (State.onMach_of (m := (s.dev, s.nv)) rfl hrun)

end Sys2Proof.Machine
end

section
/-! PROOFS. What an Ethernet port answers, drops and takes (R44, R45, R47). -/

namespace Sys2Proof.Machine

/-- A 32-bit field holds a word as it is. -/
theorem wput_whole (w x : Word) : wput w 0 32 x.toNat = x := by
  apply BitVec.eq_of_getLsbD_eq
  intro i hi
  rw [wput_bit _ _ _ _ _ hi (by omega), if_pos ⟨Nat.zero_le _, by omega⟩, Nat.sub_zero, BitVec.testBit_toNat]

section
variable (d : Dev) (v : Nv)

/-- What a port does with a frame that is addressed to it or broadcast. -/
def ethAnswer (s : Fin 4) (f : EthFrame) : Dev × Nv :=
  match f with
  | .arpRequest target sender => (if target == d.reg .HS_IPADDR s then d.emit (.arpReply s sender) else d.dropFrame s, v)
  | .arpReply sender target => (if d.arpAnswer s sender target then d else d.dropFrame s, v)
  | .icmpEcho srcIp dstIp data =>
    (if dstIp == d.reg .HS_IPADDR s && decide (data.length ≤ 1472) && d.peerOk s srcIp then d.emit (.echoReply s srcIp data true) else d.dropFrame s, v)
  | .udp srcIp dstIp srcPort dstPort plain ok data =>
    if !plain || !ok || dstIp != d.reg .HS_IPADDR s || dstPort != d.fld .HS_UDPPORT_PORT s || decide (8972 < data.length) || !d.peerOk s srcIp then
      (d.dropFrame s, v)
    else ndoefDatagram d v s srcIp srcPort data
  | .other => (d.dropFrame s, v)

/-- The port takes frames: on a device in LOAD or after it, its seat is enabled and not fenced, and its link is up. -/
def Dev.portOpen (s : Nat) : Prop :=
  (d.running = true ∨ d.inLoad = true) ∧ d.on .HS_CTL_EN s = true ∧ (d.seat s).up = true ∧ d.seatFenced s = false

theorem ethernet_of_open {s : Fin 4} (hopen : d.portOpen s) (mac : Nat) (f : EthFrame) : ethernet d v s mac f =
    if mac = d.macOf s ∨ mac = macBroadcast then ethAnswer d v s f else (d.dropFrame s, v) := by
  obtain ⟨hserved, hen, hup, hfence⟩ := hopen
  have hserved' : (d.running || d.inLoad) = true := by simpa using hserved
  have hmac : (mac == d.macOf s || mac == macBroadcast) = decide (mac = d.macOf s ∨ mac = macBroadcast) := by
    rw [Bool.decide_or, beq_eq_decide, beq_eq_decide]
  delta ethernet
  simp only [hserved', hen, hup, hfence, hmac, Bool.not_true, Bool.or_false, Bool.false_or, Bool.false_eq_true, if_false]
  by_cases hmine : mac = d.macOf s ∨ mac = macBroadcast
  · simp only [hmine, decide_true, Bool.not_true, Bool.false_eq_true, if_false, if_true]
    cases f <;> rfl
  · simp only [hmine, decide_false, Bool.not_false, if_true, if_false]

/-- A datagram that ends in the trailer of the bytes before it. -/
theorem trailer_of_append {f data : List Byte} (h : data = f ++ le 4 (crc32 f).toNat) :
    data.take (data.length - 4) = f ∧ ofLe (data.drop (data.length - 4)) = (crc32 f).toNat ∧ 4 ≤ data.length := by
  have hlen : data.length - 4 = f.length := by rw [h, List.length_append, le_length]; omega
  refine ⟨by rw [hlen, h, List.take_left], ?_, by rw [h, List.length_append, le_length]; omega⟩
  rw [hlen, h, List.drop_left, ofLe_le (crc32 f).isLt]

theorem ndoefDatagram_of_bad_trailer (s : Fin 4) (ip : Word) (port : Nat) {data : List Byte}
    (h : data.length < 4 ∨ ofLe (data.drop (data.length - 4)) ≠ (crc32 (data.take (data.length - 4))).toNat) :
    ndoefDatagram d v s ip port data = (d.bump .HS_ERRCNT_CRC s 0, v) := by
  delta ndoefDatagram
  dsimp only
  rw [if_pos (by simpa using h)]

/-- What a datagram with a right trailer brings about: its frame is executed, after it has bound its sender where it is well formed, or waits. -/
theorem ndoefDatagram_of_frame (s : Fin 4) (ip : Word) (port : Nat) {f data : List Byte} (hlen : 16 ≤ f.length)
    (hdata : data = f ++ le 4 (crc32 f).toNat) :
    let good := !headerBad (parseHdr f) s.val 8952 (f.length - 16) && (parseHdr f).version == 1
    let e := if good then d.bindPeer s.val ip port else d
    (good && (e.blockedAt s.val (parseHdr f).queue || (e.seat s).withheld.any fun g => (parseHdr g).queue == (parseHdr f).queue)) = false →
    ndoefDatagram d v s ip port data = runFrame e v s 0 f := by
  intro good e hgo
  obtain ⟨htake, htrailer, hfour⟩ := trailer_of_append hdata
  delta ndoefDatagram
  dsimp only
  rw [htake, htrailer, if_neg (by simp; omega), if_neg (by omega), hgo]
  rfl

theorem Dev.bindPeer_of_bound {s : Nat} (h : d.on .HS_LINK_BOUND s = true) (ip : Word) (port : Nat) : d.bindPeer s ip port = d := by
  rw [Dev.bindPeer, if_pos h]

/-- The registers of a bound peer. -/
def peerRegs (s : Nat) : List Nat := [RegName.off .HS_BOUNDIP s 0, RegName.off .HS_BOUNDPORT s 0, RegName.off .HS_LINK s 0]

/-- Binding writes the peer's registers only. -/
theorem Dev.bindPeer_word (s : Nat) (ip : Word) (port : Nat) {o : Nat} (h : o ∉ peerRegs s) : (d.bindPeer s ip port).word o = d.word o := by
  simp only [peerRegs, List.mem_cons, List.not_mem_nil, or_false, not_or] at h
  obtain ⟨hip, hport, hlink⟩ := h
  unfold Dev.bindPeer
  split
  · rfl
  · exact (Dev.word_setOn_other _ .HS_LINK_BOUND _ _ _ hlink).trans ((Dev.word_setFld_other _ .HS_BOUNDPORT_PORT _ _ _ hport).trans
      (d.word_setFld_other .HS_BOUNDIP_ADDR _ _ _ hip))

theorem Dev.bindPeer_units (s : Nat) (ip : Word) (port : Nat) : (d.bindPeer s ip port).seats = d.seats ∧ (d.bindPeer s ip port).boot = d.boot ∧
    (d.bindPeer s ip port).ot = d.ot := by
  unfold Dev.bindPeer; split <;> exact ⟨rfl, rfl, rfl⟩

/-- The first frame of a peer binds it, and an ARP request for it leaves. -/
theorem Dev.bindPeer_of_unbound {s : Nat} (h : d.on .HS_LINK_BOUND s = false) (ip : Word) {port : Nat} (hport : port < 65536) :
    (d.bindPeer s ip port).on .HS_LINK_BOUND s = true ∧ (d.bindPeer s ip port).reg .HS_BOUNDIP s = ip ∧
    (d.bindPeer s ip port).fld .HS_BOUNDPORT_PORT s = port ∧ (d.bindPeer s ip port).out.head? = some (.arpRequest s ip) := by
  obtain ⟨hlinkIp, hlinkPort, hne⟩ := hsLink_ne_bound s
  rw [Dev.bindPeer, if_neg (by simp [h])]
  refine ⟨Dev.on_setOn _ .HS_LINK_BOUND _ _ _ (by decide) (by decide), ?_, ?_, rfl⟩
  · refine (Dev.word_setOn_other _ .HS_LINK_BOUND _ _ _ hlinkIp.symm).trans ((Dev.word_setFld_other _ .HS_BOUNDPORT_PORT _ _ _ hne).trans ?_)
    exact (Dev.word_setWord _ _ _).trans (wput_whole _ _)
  · refine (Dev.fld_setFld_reg _ .HS_LINK_BOUND .HS_BOUNDPORT_PORT _ _ _ _ _ hlinkPort.symm).trans ?_
    rw [Dev.fld_setFld _ _ _ _ _ (by decide)]
    exact Nat.mod_eq_of_lt hport

/-- Which frames wait does not depend on the bound peer. -/
theorem Dev.blockedAt_bindPeer {s : Nat} (hs : s < 4) (ip : Word) (port queue : Nat) : (d.bindPeer s ip port).blockedAt s queue = d.blockedAt s queue := by
  obtain ⟨-, hboot, hot⟩ := d.bindPeer_units s ip port
  have hlow (o : Nat) (ho : o < 0xC0000) : o ∉ peerRegs s := by
    simp only [peerRegs, List.mem_cons, List.not_mem_nil, or_false, RegName.off, RegName.info]; omega
  have hcredit := d.bindPeer_word s ip port (hlow (RegName.off .PT_CREDIT s 0) (by simp only [RegName.off, RegName.info]; omega))
  have hsteward := d.bindPeer_word s ip port (hlow (RegName.off .GL_STEWARD 0 0) (by decide))
  have hfeed := Dev.on_of_word (x := .PT_CREDIT_FEED) hcredit
  have hq : (d.bindPeer s ip port).fld .PT_CREDIT_Q s = d.fld .PT_CREDIT_Q s := Dev.fld_of_word hcredit
  have hseat : (d.bindPeer s ip port).steward = d.steward := Dev.fld_of_word (x := .GL_STEWARD_SEAT) hsteward
  simp only [Dev.blockedAt, Dev.blocked, Dev.credit, Dev.fbit, Dev.staging, hfeed, hq, hseat, hboot, hot]

end

/-! ## The command -/

theorem exec_ethFrameReceived (p : Fin 2) (mac : Nat) (f : EthFrame) (s : State) :
    exec (.ethFrameReceived p mac f) s = s.onMach anytime fun d v => release (ethernet d v (ethSeat p) mac f) := rfl

section
variable {p : Fin 2} {mac : Nat} {s : State}

theorem exec_eth (hopen : s.dev.portOpen (ethSeat p)) (hmine : mac = s.dev.macOf (ethSeat p) ∨ mac = macBroadcast) {f : EthFrame} {m : Dev × Nv}
    (hm : ethAnswer s.dev s.nv (ethSeat p) f = m) :
    exec (.ethFrameReceived p mac f) s = .next { s with dev := (release m).1, nv := (release m).2 } := by
  have hrun := ethernet_of_open s.dev s.nv hopen mac f
  rw [if_pos hmine, hm] at hrun
  exact (exec_ethFrameReceived p mac f s).trans (State.onMach_of rfl (congrArg release hrun))

/-- An answer that changes no seat is all that happens. -/
theorem exec_eth_plain (hopen : s.dev.portOpen (ethSeat p)) (hmine : mac = s.dev.macOf (ethSeat p) ∨ mac = macBroadcast)
    (hnone : s.dev.noneWithheld) {f : EthFrame} {e : Dev} (he : ethAnswer s.dev s.nv (ethSeat p) f = (e, s.nv)) (hseats : e.seats = s.dev.seats) :
    exec (.ethFrameReceived p mac f) s = .next { s with dev := e } := by
  have hnone' : e.noneWithheld := (Dev.sameSeats_of_seats hseats).noneWithheld hnone
  rw [exec_eth hopen hmine he, release_of_noneWithheld hnone']

/-- A frame to another address is dropped. -/
theorem exec_eth_other (hopen : s.dev.portOpen (ethSeat p)) (hother : ¬ (mac = s.dev.macOf (ethSeat p) ∨ mac = macBroadcast))
    (hnone : s.dev.noneWithheld) (f : EthFrame) : exec (.ethFrameReceived p mac f) s = .next { s with dev := s.dev.dropFrame (ethSeat p) } := by
  have hrun := ethernet_of_open s.dev s.nv hopen mac f
  rw [if_neg hother] at hrun
  have hnone' : (s.dev.dropFrame (ethSeat p)).noneWithheld := (Dev.sameSeats_of_seats (by simp [Dev.dropFrame])).noneWithheld hnone
  have hrelease := (congrArg release hrun).trans (release_of_noneWithheld (m := (s.dev.dropFrame (ethSeat p), s.nv)) hnone')
  exact (exec_ethFrameReceived p mac f s).trans (State.onMach_of (m := (s.dev.dropFrame (ethSeat p), s.nv)) rfl hrelease)

end

section
variable (d : Dev) (v : Nv) (s : Fin 4)

theorem ethAnswer_udp_dropped {srcIp dstIp : Word} {dp : Nat} {plain ok : Bool} (sp : Nat) (data : List Byte)
    (h : plain = false ∨ ok = false ∨ dstIp ≠ d.reg .HS_IPADDR s ∨ dp ≠ d.fld .HS_UDPPORT_PORT s ∨ d.peerOk s srcIp = false) :
    ethAnswer d v s (.udp srcIp dstIp sp dp plain ok data) = (d.dropFrame s, v) := by
  rw [ethAnswer, if_pos]
  obtain h | h | h | h | h := h <;> simp [h]

theorem ethAnswer_udp {srcIp : Word} {data : List Byte} (sp : Nat) (hpeer : d.peerOk s srcIp = true) (hlen : data.length ≤ 8972) :
    ethAnswer d v s (.udp srcIp (d.reg .HS_IPADDR s) sp (d.fld .HS_UDPPORT_PORT s) true true data) = ndoefDatagram d v s srcIp sp data := by
  rw [ethAnswer, if_neg (by simp [hpeer]; omega)]

theorem ethAnswer_echo_dropped {srcIp dstIp : Word} {data : List Byte}
    (h : 1472 < data.length ∨ dstIp ≠ d.reg .HS_IPADDR s ∨ d.peerOk s srcIp = false) :
    ethAnswer d v s (.icmpEcho srcIp dstIp data) = (d.dropFrame s, v) := by
  rw [ethAnswer, if_neg]
  obtain h | h | h := h
  · simp only [Bool.and_eq_true, decide_eq_true_eq]; omega
  · simp [h]
  · simp [h]

end

/-- The Ethernet seats hold no withheld frame. -/
theorem Dev.noneWithheld_ethSeat {d : Dev} (h : d.noneWithheld) (p : Fin 2) : (d.seat (ethSeat p)).withheld = [] := by
  match p with
  | 0 => exact h.1
  | 1 => exact h.2

/-- Settles O34: each kind of frame takes one branch of the answer, behind the gates of an open port. -/
theorem ethernetAnswers : Obligations.EthernetAnswers := by
  unfold Obligations.EthernetAnswers
  intro p mac s hserved hen hup hfence hnone
  have hopen : s.dev.portOpen (ethSeat p) := ⟨hserved, hen, hup, hfence⟩
  have hheld := Dev.noneWithheld_ethSeat hnone p
  refine ⟨fun hmine => ⟨?_, ?_, ?_, ?_, ?_, ?_, ?_, ?_, ?_, ?_⟩, fun hmac hbroadcast f => exec_eth_other hopen (by simp [hmac, hbroadcast]) hnone f⟩
  · intro sender
    exact exec_eth_plain hopen hmine hnone (by simp only [ethAnswer, beq_self_eq_true, if_true]) (by simp)
  · intro target sender htarget
    exact exec_eth_plain hopen hmine hnone (by rw [ethAnswer, if_neg (by simpa using htarget)]; rfl) (by simp)
  · intro hbound
    exact exec_eth_plain hopen hmine hnone (by simp [ethAnswer, Dev.arpAnswer, hbound]) (by simp)
  · intro src data hlen hpeer
    exact exec_eth_plain hopen hmine hnone (by simp [ethAnswer, hlen, hpeer]) (by simp)
  · intro src dst data hbad
    exact exec_eth_plain hopen hmine hnone (ethAnswer_echo_dropped _ _ _ hbad) (by simp)
  · exact exec_eth_plain hopen hmine hnone rfl (by simp)
  · intro srcIp dstIp sp dp plain ok data hbad
    exact exec_eth_plain hopen hmine hnone (ethAnswer_udp_dropped _ _ _ sp data hbad) (by simp)
  · intro srcIp sp data hpeer hlen hbad
    exact exec_eth_plain hopen hmine hnone ((ethAnswer_udp _ _ _ sp hpeer hlen).trans (ndoefDatagram_of_bad_trailer _ _ _ _ _ hbad)) (by simp)
  · intro srcIp sp f data hpeer hf hlen hdata
    have hudp := ethAnswer_udp s.dev s.nv (ethSeat p) sp hpeer hlen
    have hframe := ndoefDatagram_of_frame s.dev s.nv (ethSeat p) srcIp sp hf hdata
    refine ⟨fun hgood hversion hfree => exec_eth hopen hmine (hudp.trans ?_), fun hbad => exec_eth hopen hmine (hudp.trans ?_)⟩
    · have hheld' : ((s.dev.bindPeer (ethSeat p) srcIp sp).seat (ethSeat p)).withheld = [] :=
        ((Dev.sameSeats_of_seats (s.dev.bindPeer_units _ srcIp sp).1).withheld _).trans hheld
      simpa [hgood, hversion, s.dev.blockedAt_bindPeer (ethSeat p).isLt, hfree, hheld'] using hframe
    · simpa [hbad] using hframe
  · intro srcIp sp
    exact ⟨fun hbound => s.dev.bindPeer_of_bound hbound srcIp sp, fun hfree hsp => s.dev.bindPeer_of_unbound hfree srcIp hsp⟩

end Sys2Proof.Machine
end

section
/-! PROOFS. Entries of the event queues: written at the ring's tail, held, or lost, and the delivery of a held one (R48, R54, R55, R58). -/

namespace Sys2Proof.Machine

section
variable (d : Dev) (s q : Nat) (f : Frame)

theorem Dev.seats_raiseMsix (d : Dev) (fn v : Nat) : (d.raiseMsix fn v).seats = d.seats := by unfold Dev.raiseMsix; split <;> rfl
theorem Dev.regs_raiseMsix (fn v : Nat) : (d.raiseMsix fn v).regs = d.regs := by unfold Dev.raiseMsix; split <;> rfl

theorem Dev.out_raiseMsix {fn v : Nat} {o : Out} (h : o ∈ d.out) : o ∈ (d.raiseMsix fn v).out := by
  unfold Dev.raiseMsix; split
  · exact h
  · exact List.mem_cons_of_mem _ h

/-- The queue once an entry has been written at its tail. -/
def Dev.evqWritten : EvQ :=
  { (d.seat s).evq q with tail := (((d.seat s).evq q).tail + 1) % 2 ^ d.fld .HS_EQSIZE_LOG2 s q, seq := (((d.seat s).evq q).seq + 1) % 65536 }

/-- The device once the entry has been written, before its vector fires. -/
def Dev.entryWritten : Dev :=
  (d.setSeat s ((d.seat s).setEvq q (d.evqWritten s q))).emit
    (.eqEntry s q ((d.seat s).evq q).tail { f with seq := ((d.seat s).evq q).seq, payload := f.payload.take 32 })

theorem Dev.writeEq_eq : d.writeEq s q f = if f.flags / 8 % 2 == 1 || f.flags / 4 % 2 == 1 then (d.entryWritten s q f).raiseMsix s (vectorOf q f)
    else d.entryWritten s q f := rfl

theorem Dev.writeEq_seat : (d.writeEq s q f).seat s = (d.seat s).setEvq q (d.evqWritten s q) := by
  have hwritten : (d.entryWritten s q f).seat s = (d.seat s).setEvq q (d.evqWritten s q) := Dev.seat_setSeat _ _ _
  rw [Dev.writeEq_eq]
  split
  · rw [Dev.seat, Dev.seats_raiseMsix]; exact hwritten
  · exact hwritten

theorem Dev.writeEq_regs : (d.writeEq s q f).regs = d.regs := by
  rw [Dev.writeEq_eq]; split
  · rw [Dev.regs_raiseMsix]; rfl
  · rfl

theorem Dev.writeEq_out : Out.eqEntry s q ((d.seat s).evq q).tail { f with seq := ((d.seat s).evq q).seq, payload := f.payload.take 32 } ∈
    (d.writeEq s q f).out := by
  have hwritten : Out.eqEntry s q ((d.seat s).evq q).tail { f with seq := ((d.seat s).evq q).seq, payload := f.payload.take 32 } ∈
      (d.entryWritten s q f).out := List.mem_cons_self
  rw [Dev.writeEq_eq]
  split
  · exact Dev.out_raiseMsix _ hwritten
  · exact hwritten

end

section
variable {d : Dev} {s q : Nat} (f : Frame) (hs : s < 2)
include hs

/-- An entry that finds room, with none before it for its queue, is written. -/
theorem Dev.post_of_room (isEvent : Bool) (hup : d.pcieUp s = true) (hroom : d.eqRoom s q = true) (hfirst : ∀ h ∈ (d.seat s).held, h.1 ≠ q) :
    d.post s q isEvent f = d.writeEq s q f := by
  have hnone : ((d.seat s).held.any fun h => h.1 == q) = false := by simpa using hfirst
  simp only [Dev.post, hs, hup, hroom, hnone, if_true, Bool.not_false, Bool.and_self]

variable (hwait : d.pcieUp s = false ∨ d.eqRoom s q = false ∨ ∃ h ∈ (d.seat s).held, h.1 = q)
include hwait

/-- There is space to hold an event for queue `q` (R55). -/
def Dev.holdsEvent (d : Dev) (s q : Nat) : Prop :=
  ((d.seat s).held.filter fun h => h.2.1).length < 64 ∧ (q = 0 ∨ ((d.seat s).held.filter fun h => h.2.1 && h.1 != 0).length < 48)

/-- Another event is held where there is space, and else lost. -/
theorem Dev.post_of_wait : d.post s q true f =
    if decide (((d.seat s).held.filter fun h => h.2.1).length < 64) && (q == 0 || decide (((d.seat s).held.filter fun h => h.2.1 && h.1 != 0).length < 48)) then
      d.setSeat s { d.seat s with held := (d.seat s).held ++ [(q, true, f)] }
    else ((d.setSeat s { d.seat s with lost := true }).bump .HS_EVLOST_LOST s 0).signal srcEvtLost s := by
  have hnot : (d.pcieUp s && d.eqRoom s q && !((d.seat s).held.any fun h => h.1 == q)) = false := by
    obtain h | h | ⟨x, hx, hq⟩ := hwait
    · simp [h]
    · simp [h]
    · have : ((d.seat s).held.any fun h => h.1 == q) = true := List.any_eq_true.mpr ⟨x, hx, by simpa using hq⟩
      simp [this]
  simp only [Dev.post, hs, hnot, if_true, if_false, Bool.not_true, Bool.false_eq_true]

theorem Dev.post_of_space (hspace : d.holdsEvent s q) : d.post s q true f = d.setSeat s { d.seat s with held := (d.seat s).held ++ [(q, true, f)] } := by
  rw [Dev.post_of_wait f hs hwait, if_pos (by simpa [Dev.holdsEvent] using hspace)]

theorem Dev.post_of_full (hfull : ¬ d.holdsEvent s q) :
    d.post s q true f = ((d.setSeat s { d.seat s with lost := true }).bump .HS_EVLOST_LOST s 0).signal srcEvtLost s := by
  rw [Dev.post_of_wait f hs hwait, if_neg (by simpa [Dev.holdsEvent] using hfull)]

end

/-- What a lost event leaves: it counts, and is signalled. -/
theorem Dev.evLost_effects (d : Dev) (s : Nat) :
    let e := ((d.setSeat s { d.seat s with lost := true }).bump .HS_EVLOST_LOST s 0).signal srcEvtLost s
    (e.seat s).held = (d.seat s).held ∧ (e.seat s).lost = true ∧
    e.fld .HS_EVLOST_LOST s = min (d.fld .HS_EVLOST_LOST s + 1) (2 ^ Fld.HS_EVLOST_LOST.width - 1) ∧
    ∃ g ∈ e.fc.sigs, g.source = srcEvtLost ∧ g.unit = s := by
  intro e
  have hseat : e.seat s = { d.seat s with lost := true } := d.seat_setSeat s _
  refine ⟨by rw [hseat], by rw [hseat], Dev.fld_bump _ _ _ _ _ (by decide), ?_⟩
  exact ⟨_, List.mem_append_right _ List.mem_cons_self, rfl, rfl⟩

/-- The oldest held entry whose ring has room stands behind entries whose rings have none. -/
theorem Dev.heldFree_of_split {d : Dev} {s : Nat} {pre r : List (Nat × Bool × Frame)} {x : Nat × Bool × Frame}
    (hpre : ∀ h ∈ pre, d.eqRoom s h.1 = false) (hroom : d.eqRoom s x.1 = true) : d.heldFree s (pre ++ x :: r) = some (x, pre ++ r) := by
  induction pre with
  | nil => simp only [List.nil_append, Dev.heldFree, hroom, if_true]
  | cons h pre ih =>
    have hrest := ih fun y hy => hpre y (List.mem_cons_of_mem _ hy)
    simp only [List.cons_append, Dev.heldFree, hpre h List.mem_cons_self, Bool.false_eq_true, if_false, hrest, Option.map_some]

/-- The device once a held entry has been taken from the buffer and written. -/
def Dev.heldWritten (d : Dev) (s : Nat) (rest : List (Nat × Bool × Frame)) (q : Nat) (f : Frame) : Dev :=
  (d.setSeat s { d.seat s with held := rest, lost := false }).writeEq s q f

/-- What the delivery of a held entry leaves before the EVENTS_LOST that may follow. -/
theorem Dev.heldWritten_effects (d : Dev) (s : Nat) (rest : List (Nat × Bool × Frame)) (q : Nat) (f : Frame) :
    (d.heldWritten s rest q f).quiet = d.quiet ∧ (d.heldWritten s rest q f).regs = d.regs ∧
    (d.heldWritten s rest q f).seat s = ({ d.seat s with held := rest, lost := false } : Seat).setEvq q (d.evqWritten s q) ∧
    Out.eqEntry s q ((d.seat s).evq q).tail { f with seq := ((d.seat s).evq q).seq, payload := f.payload.take 32 } ∈ (d.heldWritten s rest q f).out := by
  have hseat : (d.setSeat s { d.seat s with held := rest, lost := false }).seat s = { d.seat s with held := rest, lost := false } := d.seat_setSeat s _
  refine ⟨(Dev.reported_writeEq _ s q f).1, Dev.writeEq_regs _ s q f, ?_, ?_⟩
  · rw [Dev.heldWritten, Dev.writeEq_seat, Dev.evqWritten, hseat]; rfl
  · have hout := (d.setSeat s { d.seat s with held := rest, lost := false }).writeEq_out s q f
    rw [hseat] at hout
    exact hout

theorem Dev.deliverHeld_of_split {d : Dev} {s q : Nat} {isEvent : Bool} {f : Frame} {pre r : List (Nat × Bool × Frame)} (hup : d.pcieUp s = true)
    (hheld : (d.seat s).held = pre ++ (q, isEvent, f) :: r) (hpre : ∀ h ∈ pre, d.eqRoom s h.1 = false) (hroom : d.eqRoom s q = true) :
    d.deliverHeld s = if (d.seat s).lost then (d.heldWritten s (pre ++ r) q f).seatEvent s 0 0x0202 (d.fld .HS_EVLOST_LOST s) 0
      else d.heldWritten s (pre ++ r) q f := by
  have hfree := Dev.heldFree_of_split (x := (q, isEvent, f)) (r := r) hpre hroom
  have hcount : (d.heldWritten s (pre ++ r) q f).fld .HS_EVLOST_LOST s = d.fld .HS_EVLOST_LOST s :=
    Dev.fld_congr (d.heldWritten_effects s (pre ++ r) q f).2.1 _ _ _
  rw [← hcount]
  simp only [Dev.deliverHeld, hup, hheld, hfree, Bool.not_true, Bool.false_eq_true, if_false]
  rfl

theorem exec_heldEventDelivery (k : Fin 2) (s : State) : exec (.heldEventDelivery k) s = s.onDev anytime fun d => d.deliverHeld k := rfl

/-- Settles O8: posting has three cases (room, space, neither), and delivery splits the buffer at the first entry with room. -/
theorem heldEvents : Obligations.HeldEvents := by
  unfold Obligations.HeldEvents
  refine ⟨fun d k q f hup hroom hfirst => ?_, fun d k q f hwait => ⟨fun hspace => ?_, fun hfull => ?_⟩, fun k q e f pre r s hup hheld hpre hroom => ?_⟩
  · have hpost := Dev.post_of_room f k.isLt true hup hroom hfirst
    have hseat := d.writeEq_seat k q f
    rw [hpost, hseat, Seat.evq_setEvq]
    exact ⟨rfl, rfl, rfl, d.writeEq_out k q f⟩
  · exact Dev.post_of_space f k.isLt hwait hspace
  · rw [Dev.post_of_full f k.isLt hwait hfull]
    exact d.evLost_effects k
  · obtain ⟨hquiet, hregs, hseat, hout⟩ := s.dev.heldWritten_effects k (pre ++ r) q f
    refine ⟨s.dev.heldWritten k (pre ++ r) q f,
      (exec_heldEventDelivery k s).trans (State.onDev_of rfl (Dev.deliverHeld_of_split hup hheld hpre hroom)), hquiet, hregs, ?_, ?_, ?_, ?_, hout⟩
    all_goals rw [hseat]
    · rfl
    · rfl
    · rw [Seat.evq_setEvq]; rfl
    · rw [Seat.evq_setEvq]; rfl

end Sys2Proof.Machine
end

section
/-! PROOFS. The registers that only commits, commands and LOAD write: the work of the units leaves them. -/

namespace Sys2Proof.Machine

variable {d e : Dev}

/-- The registers of status and count that the units write as they work. -/
def statusRegs : List RegName :=
  [.GL_ISLAND, .KS_CNT, .TM_BSTAT, .TM_TCNT, .TM_SHUTST, .PS_STAT, .PC_STAT, .CP_STAT, .HP_PWR, .HP_STAT, .HP_CNT, .SC_CNT, .SC_CVSTG,
   .SN_LEARN, .SN_CNT, .CM_STAT, .CM_FRAME, .CM_CNT, .IN_NCRES]

/-- An offset of one of them, or of the reports. -/
def statusOff (o : Nat) : Prop := o ∈ reports ∨ ∃ r ∈ statusRegs, ∃ i j, o = r.off i j

/-- All other registers, and what has loaded. -/
def Dev.otherWords (d : Dev) (o : {o : Nat // ¬ statusOff o}) : Word := d.word o.val
def Dev.settings (d : Dev) : ({o : Nat // ¬ statusOff o} → Word) × Boot := (d.otherWords, d.boot)

theorem Dev.word_of_settings (h : e.settings = d.settings) {o : Nat} (ho : ¬ statusOff o) : e.word o = d.word o :=
  congrFun (congrArg Prod.fst h) ⟨o, ho⟩

theorem Dev.boot_of_settings (h : e.settings = d.settings) : e.boot = d.boot := congrArg Prod.snd h

/-- Registers of settings that statements speak of lie apart from them. -/
def settingRegs : List RegName := [.SV_PEN, .SC_LEVELS, .WV_CTL, .TM_THR0, .TM_THR1, .KS_GENDEV]

theorem setting_not_status {r : RegName} (hr : r ∈ settingRegs) {i : Nat} (hi : i < r.info.count1) : ¬ statusOff (r.off i 0) := by
  simp only [settingRegs, List.mem_cons, List.not_mem_nil, or_false] at hr
  rintro (hreport | ⟨r', hr', i', j', heq⟩)
  · simp only [reports, List.mem_cons, List.not_mem_nil, or_false] at hreport
    obtain rfl | rfl | rfl | rfl | rfl | rfl := hr <;> simp only [RegName.off, RegName.info] at hi hreport <;> omega
  · simp only [statusRegs, List.mem_cons, List.not_mem_nil, or_false] at hr'
    obtain rfl | rfl | rfl | rfl | rfl | rfl := hr <;>
      obtain rfl | rfl | rfl | rfl | rfl | rfl | rfl | rfl | rfl | rfl | rfl | rfl | rfl | rfl | rfl | rfl | rfl | rfl | rfl := hr' <;>
        simp only [RegName.off, RegName.info] at hi heq <;> omega
/-! ## The elementary updates -/

/-- A word whose offset is of the status registers is written. -/
theorem Dev.settings_setWord {o : Nat} (x : Word) (h : statusOff o) : (d.setWord o x).settings = d.settings := by
  have hwords : (d.setWord o x).otherWords = d.otherWords :=
    funext fun p => d.word_setWord_other x fun heq => p.property (heq ▸ h)
  exact congrArg (·, d.boot) hwords

@[simp] theorem Dev.settings_setFld {x : Fld} (h : x.reg ∈ statusRegs) (i j v : Nat) : (d.setFld x i j v).settings = d.settings :=
  Dev.settings_setWord _ (.inr ⟨_, h, i, j, rfl⟩)
@[simp] theorem Dev.settings_setOn {x : Fld} (h : x.reg ∈ statusRegs) (i j : Nat) (b : Bool) : (d.setOn x i j b).settings = d.settings :=
  Dev.settings_setFld h i j _
@[simp] theorem Dev.settings_bump {x : Fld} (h : x.reg ∈ statusRegs) (i j n : Nat) : (d.bump x i j n).settings = d.settings :=
  Dev.settings_setFld h i j _
@[simp] theorem Dev.settings_setFbit {x : Fld} (h : x.reg ∈ statusRegs) (i j n : Nat) (b : Bool) :
    (d.setFbit x i j n b).settings = d.settings := Dev.settings_setFld h i j _
@[simp] theorem Dev.settings_setIsland (i : Nat) (b : Bool) : (d.setIsland i b).settings = d.settings :=
  Dev.settings_setWord _ (.inr ⟨.GL_ISLAND, by decide, 0, 0, rfl⟩)

@[simp] theorem Dev.settings_setBay (n : Nat) (x : Bay) : (d.setBay n x).settings = d.settings := rfl
@[simp] theorem Dev.settings_setPc (n : Nat) (x : Pacer) : (d.setPc n x).settings = d.settings := rfl
@[simp] theorem Dev.settings_setKset (n : Nat) (x : Ks) : (d.setKset n x).settings = d.settings := rfl
@[simp] theorem Dev.settings_setEngine (n : Nat) (x : Engine) : (d.setEngine n x).settings = d.settings := rfl
@[simp] theorem Dev.settings_setPsc (n : Nat) (x : PsChan) : (d.setPsc n x).settings = d.settings := rfl
@[simp] theorem Dev.settings_setCp (n : Nat) (x : CpEngine) : (d.setCp n x).settings = d.settings := rfl
@[simp] theorem Dev.settings_setHp (n : Nat) (x : HPort) : (d.setHp n x).settings = d.settings := rfl
@[simp] theorem Dev.settings_setCam (n : Nat) (x : Cam) : (d.setCam n x).settings = d.settings := rfl
@[simp] theorem Dev.settings_setTc (n : Nat) (x : TherCh) : (d.setTc n x).settings = d.settings := rfl
@[simp] theorem Dev.settings_setThro (n : Nat) (x : Throttle) : (d.setThro n x).settings = d.settings := rfl
@[simp] theorem Dev.settings_setWake (n : Nat) (t : Option Nat) : (d.setWake n t).settings = d.settings := rfl
@[simp] theorem Dev.settings_emit (o : Out) : (d.emit o).settings = d.settings := rfl
@[simp] theorem Dev.settings_wear (x : Wear) : ({ d with wear := x } : Dev).settings = d.settings := rfl

@[simp] theorem Dev.settings_ite {c : Prop} [Decidable c] (a b : Dev) : (if c then a else b).settings = if c then a.settings else b.settings :=
  apply_ite Dev.settings c a b

theorem Dev.settings_foldl {α : Type} {f : Dev → α → Dev} (h : ∀ d x, (f d x).settings = d.settings) (l : List α) (d : Dev) :
    (l.foldl f d).settings = d.settings := by
  induction l generalizing d with
  | nil => rfl
  | cons x r ih => exact (ih _).trans (h d x)

theorem Dev.settings_forN {f : Nat → Dev → Dev} (h : ∀ k d, (f k d).settings = d.settings) (n : Nat) (d : Dev) :
    (forN n f d).settings = d.settings := by
  induction n with
  | zero => rfl
  | succ n ih => rw [forN_succ]; exact (h _ _).trans ih

/-! ## Reports -/

theorem Dev.Reported.boot (h : d.Reported e) : e.boot = d.boot := by
  have hq := congrArg Dev.boot h.1; exact hq

theorem Dev.Reported.settings (h : d.Reported e) : e.settings = d.settings := by
  have hwords : e.otherWords = d.otherWords :=
    funext fun p => h.2 p fun hr => p.property (.inl hr)
  exact congrArg₂ Prod.mk hwords h.boot

@[simp] theorem Dev.settings_bayEvent (b q code unit d0 d1 : Nat) : (d.bayEvent b q code unit d0 d1).settings = d.settings :=
  (d.reported_bayEvent b q code unit d0 d1).settings
@[simp] theorem Dev.settings_devEvent (s q code unit d0 d1 : Nat) : (d.devEvent s q code unit d0 d1).settings = d.settings :=
  (d.reported_devEvent s q code unit d0 d1).settings
@[simp] theorem Dev.settings_unitEvent (b : Option Nat) (q code unit d0 d1 : Nat) : (d.unitEvent b q code unit d0 d1).settings = d.settings :=
  (d.reported_unitEvent b q code unit d0 d1).settings
@[simp] theorem Dev.settings_post (s q : Nat) (isEvent : Bool) (x : Frame) : (d.post s q isEvent x).settings = d.settings :=
  (d.reported_post s q isEvent x).settings

/-! ## Head power and islands -/

@[simp] theorem Dev.settings_restNow (xx : Nat) : (d.restNow xx).settings = d.settings := by
  unfold Dev.restNow; simp

@[simp] theorem Dev.settings_soundFailed (xx : Nat) (p : LatchP) : (d.soundFailed xx p).settings = d.settings := by
  unfold Dev.soundFailed
  split
  · simp (disch := decide)
  · rfl

@[simp] theorem Dev.settings_blank (xx : Nat) : (d.blank xx).settings = d.settings := Dev.settings_bump (by decide) _ _ _

@[simp] theorem Dev.settings_stopLatches (xx : Nat) (all : Bool) : (d.stopLatches xx all).settings = d.settings := by
  unfold Dev.stopLatches
  rw [Dev.settings_setHp]
  refine Dev.settings_foldl (fun d j => ?_) _ d
  split
  · simp
  · rfl

@[simp] theorem Dev.settings_followIsland (i : Nat) : (d.followIsland i).settings = d.settings := by
  unfold Dev.followIsland; simp

@[simp] theorem Dev.settings_penRise (xx cause : Nat) : (d.penRise xx cause).settings = d.settings := by
  unfold Dev.penRise Dev.powerEvent
  rw [Dev.settings_unitEvent, Dev.settings_wear, Dev.settings_setHp, Dev.settings_followIsland, Dev.settings_setOn (by decide)]

@[simp] theorem Dev.settings_penFall (xx cause : Nat) : (d.penFall xx cause).settings = d.settings := by
  unfold Dev.penFall; simp

@[simp] theorem Dev.settings_followPower (xx cause : Nat) : (d.followPower xx cause).settings = d.settings := by
  unfold Dev.followPower; simp

/-! ## The pacer's channels and the compare engines -/

@[simp] theorem Dev.settings_pinOut (p : Nat) (level : Option Bool) : (d.pinOut p level).settings = d.settings := by
  unfold Dev.pinOut; simp

@[simp] theorem Dev.settings_psPins : d.psPins.settings = d.settings :=
  Dev.settings_forN (fun n d => by unfold Dev.psPin; simp) 8 d

@[simp] theorem Dev.settings_cmpPins (before : Dev) (mask : Nat) : (d.cmpPins before mask).settings = d.settings :=
  Dev.settings_forN (fun o d => by simp) 16 d

@[simp] theorem Dev.settings_noSource (before : Dev) (b : Nat) : (d.noSource before b).settings = d.settings := by
  unfold Dev.noSource; simp (disch := decide)

@[simp] theorem Dev.settings_restartStalls (before : Dev) : (d.restartStalls before).settings = d.settings :=
  Dev.settings_forN (fun n d => by simp) 8 d

@[simp] theorem Dev.settings_updateSource (b base : Nat) (quiet : Bool) : (d.updateSource b base quiet).settings = d.settings := by
  unfold Dev.updateSource; simp

@[simp] theorem Dev.settings_interpEnd (before : Dev) (b base : Nat) : (d.interpEnd before b base).settings = d.settings := by
  unfold Dev.interpEnd; simp

@[simp] theorem Dev.settings_invApplied (before : Dev) (b : Nat) : (d.invApplied before b).settings = d.settings :=
  Dev.settings_forN (fun n d => by unfold Dev.rawLevels; simp (disch := decide)) 8 d

@[simp] theorem Dev.settings_cmpStart (e : Nat) : (d.cmpStart e).settings = d.settings := by
  unfold Dev.cmpStart Dev.cmpArm; simp (disch := decide)

@[simp] theorem Dev.settings_cmpStop (e : Nat) : (d.cmpStop e).settings = d.settings := by
  unfold Dev.cmpStop; simp (disch := decide)

theorem Dev.settings_pacingApplied (before : Dev) (b base : Nat) (quiet : Bool) : (d.pacingApplied before b base quiet).settings = d.settings := by
  unfold Dev.pacingApplied; dsimp only
  rw [Dev.settings_forN fun e d => by simp, Dev.settings_psPins, Dev.settings_cmpPins, Dev.settings_invApplied, Dev.settings_interpEnd,
    Dev.settings_restartStalls, Dev.settings_noSource]
  simp

/-! ## Cameras and learning -/

@[simp] theorem Dev.settings_stimChange (before : Dev) (xx : Nat) : (d.stimChange before xx).settings = d.settings := by
  unfold Dev.stimChange; simp (disch := decide)

@[simp] theorem Dev.settings_trigPin (n : Nat) (active : Bool) (t : Nat) : (d.trigPin n active t).settings = d.settings := rfl
@[simp] theorem Dev.settings_camPulseStop (n t : Nat) : (d.camPulseStop n t).settings = d.settings := rfl

@[simp] theorem Dev.settings_camPulse (n t till : Nat) : (d.camPulse n t till).settings = d.settings := by
  unfold Dev.camPulse; dsimp only
  split <;> simp

@[simp] theorem Dev.settings_camRelevel (before : Dev) (n : Nat) : (d.camRelevel before n).settings = d.settings := by
  unfold Dev.camRelevel; simp

@[simp] theorem Dev.settings_flagFrame (n fn bit : Nat) : (d.flagFrame n fn bit).settings = d.settings := by
  unfold Dev.flagFrame Dev.camEvent
  split
  · rfl
  · simp (disch := decide)

@[simp] theorem Dev.settings_flagAll (n fn : Nat) (bits : List Nat) : (d.flagAll n fn bits).settings = d.settings :=
  Dev.settings_foldl (fun d b => by simp) bits d

@[simp] theorem Dev.settings_closeFrame (n : Nat) (bits : List Nat) : (d.closeFrame n bits).settings = d.settings := by
  unfold Dev.closeFrame; dsimp only
  split
  · rfl
  · rw [Dev.settings_foldl fun d k => by simp (disch := decide)]
    simp (disch := decide)

@[simp] theorem Dev.settings_camApply (before : Dev) (b : Nat) : (d.camApply before b).settings = d.settings :=
  Dev.settings_forN (fun n d => by simp) 4 d

/-- What an apply brings with it outside the pacer. -/
theorem Dev.settings_applyEffects (before : Dev) (b : Nat) : (d.applyEffects before b).settings = d.settings :=
  (Dev.settings_camApply _ _).trans (Dev.settings_foldl (fun d xx => by simp) _ d)

/-! ## The ports' buffers and the curve staging bank -/

@[simp] theorem Dev.settings_edClear (xx : Nat) : (d.edClear xx).settings = d.settings :=
  (Dev.settings_bump (by decide) _ _ _).trans (Dev.settings_setEngine _ _)

@[simp] theorem Dev.settings_sendCfgOf (l : Dev) (xx : Nat) : (d.sendCfgOf l xx).settings = d.settings := by
  unfold Dev.sendCfgOf; simp (disch := decide)

theorem Dev.settings_curveApply (b : Nat) : (d.curveApply b).settings = d.settings := by
  unfold Dev.curveApply; simp (disch := decide)

/-- An apply that counts, and raises the generation. -/
theorem Dev.settings_applied (b target word1 : Nat) : (d.applied b target word1).settings = d.settings := by
  unfold Dev.applied; simp (disch := decide)

/-! ## The thermal engine -/

@[simp] theorem Dev.settings_thrEvent (b what unit : Nat) : (d.thrEvent b what unit).settings = d.settings := Dev.settings_bayEvent _ _ _ _ _ _

@[simp] theorem Dev.settings_setThrq (b : Nat) (low : Bool) : (d.setThrq b low).settings = d.settings := by
  unfold Dev.setThrq; simp (disch := decide)

@[simp] theorem Dev.settings_thrIdle (b : Nat) : (d.thrIdle b).settings = d.settings := by
  unfold Dev.thrIdle; simp (disch := decide)

@[simp] theorem Dev.settings_thrEnforce (b : Nat) : (d.thrEnforce b).settings = d.settings := by
  unfold Dev.thrEnforce Dev.requestInternal; simp

@[simp] theorem Dev.settings_thrRelease (b : Nat) : (d.thrRelease b).settings = d.settings := by
  unfold Dev.thrRelease Dev.requestInternal; simp

@[simp] theorem Dev.settings_thrEval (b : Nat) (test : Bool) : (d.thrEval b test).settings = d.settings := by
  unfold Dev.thrEval; dsimp only
  split
  · rfl
  · split
    · simp (disch := decide)
    · simp
    · simp

theorem Dev.settings_thrChanged (b : Nat) : (d.thrChanged b).settings = d.settings := by
  unfold Dev.thrChanged; simp

theorem Dev.settings_shutEvalAll : d.shutEvalAll.settings = d.settings :=
  Dev.settings_forN (fun xx d => by unfold Dev.shutEval; simp (disch := decide)) 32 d

theorem Dev.settings_scanStart : d.scanStart.settings = d.settings := Dev.settings_forN (fun c d => by simp) 74 d

/-! ## Perturbations -/

theorem Dev.settings_ptNote (old : Nat) : (d.ptNote old).settings = d.settings := by
  have hmark : d.markPert.settings = d.settings := by unfold Dev.markPert; split <;> rfl
  unfold Dev.ptNote
  split
  · rfl
  · dsimp only
    rw [Dev.settings_foldl fun d b => by simp, Dev.settings_devEvent, hmark]

end Sys2Proof.Machine
end

section
/-! PROOFS. The stops of R61, and what SERVICE makes of them (R321, R397). -/

namespace Sys2Proof.Machine

variable {d e : Dev}

/-! ## A stop registered at a pacer -/

theorem Dev.Reported.bay (h : d.Reported e) (b : Nat) : e.bay b = d.bay b := by unfold Dev.bay; rw [h.bays]
theorem Dev.Reported.pc (h : d.Reported e) (b : Nat) : e.pc b = d.pc b := by unfold Dev.pc; rw [h.bay]

/-- A registered stop is the one that waited, or else the new one; of the bay only its pacer changes. -/
theorem Dev.registerStop_bay (d : Dev) (b source : Nat) : (d.registerStop b source).bay b =
    { d.bay b with pc := { d.pc b with stop := if (d.pc b).stop.isSome then (d.pc b).stop else some source } } := by
  unfold Dev.registerStop Dev.setPc; dsimp only
  split
  · rfl
  · exact d.bay_setBay _ _

theorem Dev.registerStop_fields (d : Dev) (b source : Nat) : ((d.registerStop b source).bay b).mode = (d.bay b).mode ∧
    ((d.registerStop b source).bay b).cc = (d.bay b).cc ∧
    ((d.registerStop b source).pc b).stop = (if (d.pc b).stop.isSome then (d.pc b).stop else some source) := by
  unfold Dev.pc
  rw [d.registerStop_bay b source]
  exact ⟨rfl, rfl, rfl⟩

theorem Dev.registerStop_bay_other (d : Dev) {b c : Nat} (source : Nat) (h : c ≠ b) : (d.registerStop b source).bay c = d.bay c := by
  unfold Dev.registerStop Dev.setPc; dsimp only
  split
  · rfl
  · exact d.bay_setBay_other _ h

theorem Dev.registerStop_eq (d : Dev) (b source : Nat) : ∃ bays, d.registerStop b source = { d with bays := bays } := by
  unfold Dev.registerStop; dsimp only
  split
  · exact ⟨_, rfl⟩
  · exact ⟨_, rfl⟩

/-- STOP of a present bay, outside SERVICE: from its seat, and from the console (R61). -/
theorem Dev.stopCmd_of_present {h : CmdHdr} {b : Fin 4} (hsrc : h.src = .seat b ∨ h.src = .console) (hserv : d.inService = false)
    (hpres : d.present b = true) :
    d.stopCmd h b = (d.registerStop b (if h.src = .console then 2 else 0)).complete h 0x0020 .ok [] := by
  obtain hsrc | hsrc := hsrc
  · simp [Dev.stopCmd, hsrc, hserv, hpres]
  · simp [Dev.stopCmd, hsrc, hserv, hpres]

/-- A console STOP in SERVICE. -/
theorem Dev.stopCmd_of_service {h : CmdHdr} (hsrc : h.src = .console) (hserv : d.inService = true) (b : Nat) :
    d.stopCmd h b = d.serviceStop.complete h 0x0020 .ok [] := by
  simp [Dev.stopCmd, hsrc, hserv]

/-! ## Service head power -/

/-- A stop in SERVICE takes every head's service power (R321, R397). -/
theorem Dev.settings_serviceStop : d.serviceStop.settings = (d.setWord (RegName.off .SV_PEN 0 0) 0).settings :=
  (Dev.settings_ptNote _).trans (Dev.settings_forN (fun xx _ => Dev.settings_followPower xx 5) 32 _)

/-- In SERVICE with SV_PEN at 0, SV_PEN is 0 and no head is to be powered. -/
theorem Dev.unpowered_of_settings (h : e.settings = (d.setWord (RegName.off .SV_PEN 0 0) 0).settings) (hserv : d.inService = true) :
    e.reg .SV_PEN = 0 ∧ ∀ xx : Nat, e.penWant xx = false := by
  have hboot : e.boot = d.boot := (Dev.boot_of_settings h).trans rfl
  have hpen : e.word (RegName.off .SV_PEN 0 0) = 0 :=
    (Dev.word_of_settings h (setting_not_status (r := .SV_PEN) (by decide) (by decide))).trans (d.word_setWord _ 0)
  have hservice : e.boot.service = true := by rw [hboot]; exact (Bool.and_eq_true_iff.mp hserv).2
  have hbit (xx : Nat) : e.fbit .SV_PEN_PEN 0 0 xx = false := by
    unfold Dev.fbit Dev.fld
    rw [show e.word (Fld.SV_PEN_PEN.reg.off 0 0) = 0 from hpen, show wget 0 Fld.SV_PEN_PEN.lo Fld.SV_PEN_PEN.width = 0 by decide, Nat.zero_div]
    rfl
  refine ⟨hpen, fun xx => ?_⟩
  unfold Dev.penWant
  rw [if_pos hservice, hbit xx, Bool.and_false]

/-! ## The commands -/

theorem exec_nstopFall (b : Fin 4) (lowFor : Option Nat) (s : State) :
    exec (.nstopFall b lowFor) s = s.onDev anytime fun d => d.nstopFall b lowFor := rfl

/-- The pin of bay b is noted low (R61). -/
def Dev.nstopNoted (d : Dev) (b : Nat) (lowFor : Option Nat) : Dev :=
  { d with nstop := Store.set (fun _ => none) d.nstop b (some (lowFor.map (d.now + ·))) }

theorem Dev.nstopFall_of_service (hserv : d.inService = true) (b : Nat) (lowFor : Option Nat) :
    d.nstopFall b lowFor = (d.nstopNoted b lowFor).serviceStop :=
  if_pos (show (d.nstopNoted b lowFor).inService = true from hserv)

theorem Dev.not_inService_of_bayModes (h : d.bayModes = true) : d.inService = false := by
  have hservice := (Bool.and_eq_true_iff.mp h).2
  simp only [Bool.not_eq_true'] at hservice
  simp [Dev.inService, hservice]

theorem Dev.nstopFall_of_enabled {b : Nat} (hmodes : d.bayModes = true) (hpres : d.present b = true) (hen : d.on .KS_BAYCTL_NSTOPEN b = true)
    (lowFor : Option Nat) : d.nstopFall b lowFor = (d.nstopNoted b lowFor).registerStop b 1 := by
  have hserv : (d.nstopNoted b lowFor).inService = false := Dev.not_inService_of_bayModes hmodes
  have hgo : ((d.nstopNoted b lowFor).bayModes && (d.nstopNoted b lowFor).present b && (d.nstopNoted b lowFor).on .KS_BAYCTL_NSTOPEN b) = true :=
    Bool.and_eq_true_iff.mpr ⟨Bool.and_eq_true_iff.mpr ⟨hmodes, hpres⟩, hen⟩
  exact (if_neg (ne_true_of_eq_false hserv)).trans (if_pos hgo)

/-- Settles O27: a registered stop waits at the pacer, which alone changes. -/
theorem stops : Obligations.Stops := by
  unfold Obligations.Stops
  refine ⟨?_, ?_, ?_, ?_⟩
  · intro h b s hadm hsrc hserv hpres
    obtain ⟨seats, hheard⟩ := Dev.heard_eq hadm
    have hstop := Dev.stopCmd_of_present (d := s.dev.heard h 0x0020) hsrc (by rw [hheard]; exact hserv) (by rw [hheard]; exact hpres)
    have hexec := (exec_stop h s b).trans (State.onCommand_dev hadm hstop)
    generalize (if h.src = .console then 2 else 0) = source at hexec ⊢
    have hrep := Dev.reported_complete ((s.dev.heard h 0x0020).registerStop b source) h 0x0020 .ok []
    have hheardBay (c : Nat) : (s.dev.heard h 0x0020).bay c = s.dev.bay c := by rw [hheard]; rfl
    have hheardPc (c : Nat) : (s.dev.heard h 0x0020).pc c = s.dev.pc c := congrArg Bay.pc (hheardBay c)
    obtain ⟨hmode, hcc, hpc⟩ := Dev.registerStop_fields (s.dev.heard h 0x0020) b source
    rw [hheardBay] at hmode hcc
    rw [hheardPc] at hpc
    have hother (c : Fin 4) (hc : c ≠ b) := (hrep.bay c).trans ((Dev.registerStop_bay_other _ source (fun heq => hc (Fin.ext heq))).trans (hheardBay c))
    obtain ⟨bays, hreg⟩ := Dev.registerStop_eq (s.dev.heard h 0x0020) b source
    have hstill := (Dev.reported_heard hadm)
    refine ⟨_, hexec, rfl, (congrArg Bay.mode (hrep.bay b)).trans hmode, (congrArg Bay.cc (hrep.bay b)).trans hcc,
      (congrArg Pacer.stop (hrep.pc b)).trans hpc, hother, ?_, ?_, ?_, _, rfl⟩
    · rw [hrep.ks, hreg]; exact hstill.ks
    · refine Dev.regsBut.trans ?_ hrep.regsBut
      rw [hreg]; exact hstill.regsBut
    · rw [hrep.tbl, hreg]; exact hstill.tbl
  · intro h b s hadm hsrc hserv
    have hstop := Dev.stopCmd_of_service (d := s.dev) hsrc hserv b
    rw [← Dev.heard_of_console (d := s.dev) (op := 0x0020) hsrc] at hstop
    have hexec := (exec_stop h s b).trans (State.onCommand_dev hadm hstop)
    rw [Dev.heard_of_console hsrc] at hexec
    have hset := (Dev.reported_complete s.dev.serviceStop h 0x0020 .ok []).settings.trans Dev.settings_serviceStop
    obtain ⟨hpen, hwant⟩ := Dev.unpowered_of_settings hset hserv
    exact ⟨_, hexec, rfl, hpen, fun xx => hwant xx, _, rfl⟩
  · intro b lowFor s hmodes hpres hen
    have hexec := (exec_nstopFall b lowFor s).trans (State.onDev_of (ok := anytime) rfl (Dev.nstopFall_of_enabled hmodes hpres hen lowFor))
    obtain ⟨hmode, -, hpc⟩ := (s.dev.nstopNoted b lowFor).registerStop_fields b 1
    obtain ⟨bays, hreg⟩ := (s.dev.nstopNoted b lowFor).registerStop_eq b 1
    refine ⟨_, hexec, rfl, hmode, hpc, ?_, ?_, ?_⟩
    · rw [hreg]; exact Store.get_set_self (fun _ => none) s.dev.nstop b (some (lowFor.map (s.dev.now + ·)))
    · rw [hreg]; rfl
    · rw [hreg]; rfl
  · intro b lowFor s hserv
    have hexec := (exec_nstopFall b lowFor s).trans (State.onDev_of (ok := anytime) rfl (Dev.nstopFall_of_service hserv b lowFor))
    have hset := Dev.settings_serviceStop (d := s.dev.nstopNoted b lowFor)
    obtain ⟨hpen, hwant⟩ := Dev.unpowered_of_settings hset hserv
    generalize (s.dev.nstopNoted b lowFor).serviceStop = e at hexec hpen hwant
    exact ⟨_, hexec, rfl, hpen, fun xx => hwant xx⟩

end Sys2Proof.Machine
end

section
/-! PROOFS. A host commit that is refused: its values return, its slot is free, and the refusal is shown and told (R63, R66, R69). -/

namespace Sys2Proof.Machine

variable {d e : Dev} {set : Nat}

/-- The bays, the tables and the frame store. -/
def Dev.work (d : Dev) : Store Bay × Store Byte × Store Byte := (d.bays, d.tbl, d.fs)

theorem Dev.Reported.work (h : d.Reported e) : e.work = d.work := by
  unfold Dev.work; rw [h.bays, h.tbl, h.fs]
theorem Dev.Reported.kset (h : d.Reported e) (b : Nat) : e.kset b = d.kset b := by unfold Dev.kset; rw [h.ks]
theorem Dev.Reported.now (h : d.Reported e) : e.now = d.now := by
  have hq := congrArg Dev.now h.1; exact hq

theorem Dev.bays_of_work (h : e.work = d.work) : e.bays = d.bays := congrArg Prod.fst h
theorem Dev.tbl_of_work (h : e.work = d.work) : e.tbl = d.tbl := congrArg (fun w => w.2.1) h
theorem Dev.fs_of_work (h : e.work = d.work) : e.fs = d.fs := congrArg (fun w => w.2.2) h

/-- The registers of the reasons, and of the curve staging banks, are no report's. -/
theorem ks_not_report (r : RegName) (i : Nat) (hr : r = .KS_STATUS ∨ r = .KS_CNT ∨ r = .KS_REFOFF ∨ r = .KS_DSTATUS) (hi : i < 4) :
    r.off i 0 ∉ reports := by
  intro hmem
  have hhigh := reports_high hmem
  obtain rfl | rfl | rfl | rfl := hr <;> simp only [RegName.off, RegName.info] at hhigh <;> omega

/-- The pending set and the slot of a host commit that ends without applying (R63, R121). -/
def Dev.returned (d : Dev) (set : Nat) : Dev :=
  let d := (d.returnPending set).setHost set {}
  if set < 4 then d.setOn .SC_CVSTG_PEND set 0 false else d

/-- What its registers then show (R69, R79). -/
def Dev.reasonShown (d : Dev) (set reason off : Nat) : Dev :=
  if set < 4 then ((d.setFld .KS_STATUS_REASON set 0 reason).setFld .KS_REFOFF_OFF set 0 off).bump .KS_CNT_REFUSED set 0
  else d.setFld .KS_DSTATUS_REASON 0 0 reason

/-- What is told of it: COMMIT_REFUSED. -/
def Dev.refusalTold (d : Dev) (steward set reason off : Nat) : Dev :=
  if set < 4 then d.bayEvent set 1 0x0101 0xFF reason off else d.devEvent steward 1 0x0101 0xFF reason off

/-- The answer to the COMMIT that waits for one. -/
def Dev.refusalAnswered (d : Dev) (s : KSlot) (set reason : Nat) : Dev :=
  match s.origin with
  | some h => if s.st = .armed then d else d.completeRefused h set reason
  | none => d

theorem Dev.noteRefusal_eq (set reason off : Nat) : d.noteRefusal set reason off = (d.reasonShown set reason off).refusalTold d.steward set reason off := by
  unfold Dev.noteRefusal Dev.reasonShown Dev.refusalTold
  split <;> rfl

theorem Dev.refuseHost_eq (set reason off : Nat) : d.refuseHost set reason off =
    (((d.returned set).reasonShown set reason off).refusalTold (d.returned set).steward set reason off).refusalAnswered (d.kset set).host set reason := by
  rw [← Dev.noteRefusal_eq]; rfl

/-! ## What each step leaves -/

theorem Dev.reported_refusalTold (steward set reason off : Nat) : d.Reported (d.refusalTold steward set reason off) := by
  unfold Dev.refusalTold
  split
  · exact d.reported_bayEvent _ _ _ _ _ _
  · exact d.reported_devEvent _ _ _ _ _ _

theorem Dev.reported_refusalAnswered (s : KSlot) (set reason : Nat) : d.Reported (d.refusalAnswered s set reason) := by
  unfold Dev.refusalAnswered
  split
  · split
    · exact .refl d
    · exact d.reported_complete _ _ _ _
  · exact .refl d

theorem Dev.sigs_refusalTold (steward set reason off : Nat) {g : FaultSig} (hg : g ∈ d.fc.sigs) : g ∈ (d.refusalTold steward set reason off).fc.sigs := by
  unfold Dev.refusalTold
  split
  · exact (d.told_bayEvent _ _ _ _ _ _).sigs g hg
  · exact (d.told_devEvent _ _ _ _ _ _).sigs g hg

theorem Dev.sigs_refusalAnswered (s : KSlot) (set reason : Nat) {g : FaultSig} (hg : g ∈ d.fc.sigs) :
    g ∈ (d.refusalAnswered s set reason).fc.sigs := by
  unfold Dev.refusalAnswered
  split
  · split
    · exact hg
    · exact d.sigs_complete _ _ _ _ hg
  · exact hg

theorem Dev.reasonShown_frame (set reason off : Nat) : (d.reasonShown set reason off).ks = d.ks ∧
    (d.reasonShown set reason off).work = d.work ∧ (d.reasonShown set reason off).fc = d.fc := by
  unfold Dev.reasonShown
  split <;> exact ⟨rfl, rfl, rfl⟩

theorem Dev.returned_kset (set : Nat) : (d.returned set).kset set = { d.kset set with
    staging := ((d.kset set).pending.filter fun x => !((d.kset set).staging.any fun y => y.key == x.key)) ++ (d.kset set).staging
    pending := [], host := {} } := by
  have hback : ((d.returnPending set).setHost set {}).kset set = { (d.returnPending set).kset set with host := {} } := Dev.kset_setKset _ _ _
  have hpend : (d.returnPending set).kset set = _ := Dev.kset_setKset _ _ _
  rw [hpend] at hback
  unfold Dev.returned; dsimp only
  split <;> exact hback

theorem Dev.returned_frame (set : Nat) : (d.returned set).work = d.work ∧ (d.returned set).fc = d.fc := by
  unfold Dev.returned; dsimp only
  split <;> exact ⟨rfl, rfl⟩

/-- Its values return to staging, its pending set is empty, and its slot is free. -/
theorem Dev.refuseHost_kset (set reason off : Nat) : (d.refuseHost set reason off).kset set = { d.kset set with
    staging := ((d.kset set).pending.filter fun x => !((d.kset set).staging.any fun y => y.key == x.key)) ++ (d.kset set).staging
    pending := [], host := {} } := by
  obtain ⟨hks, -, -⟩ := (d.returned set).reasonShown_frame set reason off
  rw [Dev.refuseHost_eq, (Dev.reported_refusalAnswered _ _ _).kset, (Dev.reported_refusalTold _ _ _ _).kset, Dev.kset, hks]
  exact d.returned_kset set

/-- Nothing of the work of the bays changes. -/
theorem Dev.refuseHost_work (set reason off : Nat) : (d.refuseHost set reason off).work = d.work := by
  rw [Dev.refuseHost_eq, (Dev.reported_refusalAnswered _ _ _).work, (Dev.reported_refusalTold _ _ _ _).work,
    ((d.returned set).reasonShown_frame set reason off).2.1, (d.returned_frame set).1]

/-- No signal is lost. -/
theorem Dev.refuseHost_sigs (set reason off : Nat) {g : FaultSig} (hg : g ∈ d.fc.sigs) : g ∈ (d.refuseHost set reason off).fc.sigs := by
  rw [Dev.refuseHost_eq]
  refine Dev.sigs_refusalAnswered _ _ _ (Dev.sigs_refusalTold _ _ _ _ ?_)
  rw [((d.returned set).reasonShown_frame set reason off).2.2, (d.returned_frame set).2]
  exact hg

/-- A reason fits its field. -/
theorem reason_lt (r : Reason) : r.code < 2 ^ Fld.KS_STATUS_REASON.width := by cases r <;> decide

theorem Dev.reasonShown_reason {b : Nat} (hb : b < 4) (r : Reason) (off : Nat) : (d.reasonShown b r.code off).fld .KS_STATUS_REASON b = r.code := by
  have hcnt : RegName.off .KS_STATUS b 0 ≠ RegName.off .KS_CNT b 0 := by simp only [RegName.off, RegName.info]; omega
  have hoff : RegName.off .KS_STATUS b 0 ≠ RegName.off .KS_REFOFF b 0 := by simp only [RegName.off, RegName.info]; omega
  unfold Dev.reasonShown Dev.bump
  rw [if_pos hb, Dev.fld_setFld_reg _ .KS_CNT_REFUSED .KS_STATUS_REASON b 0 b 0 _ hcnt, Dev.fld_setFld_reg _ .KS_REFOFF_OFF .KS_STATUS_REASON b 0 b 0 _ hoff,
    Dev.fld_setFld _ .KS_STATUS_REASON b 0 _ (by decide), Nat.mod_eq_of_lt (reason_lt r)]

theorem Dev.reasonShown_count {b : Nat} (hb : b < 4) (reason off : Nat) : (d.reasonShown b reason off).fld .KS_CNT_REFUSED b =
    min (d.fld .KS_CNT_REFUSED b + 1) (2 ^ Fld.KS_CNT_REFUSED.width - 1) := by
  have hstat : RegName.off .KS_CNT b 0 ≠ RegName.off .KS_STATUS b 0 := by simp only [RegName.off, RegName.info]; omega
  have hoff : RegName.off .KS_CNT b 0 ≠ RegName.off .KS_REFOFF b 0 := by simp only [RegName.off, RegName.info]; omega
  unfold Dev.reasonShown
  rw [if_pos hb, Dev.fld_bump _ .KS_CNT_REFUSED b 0 1 (by decide), Dev.fld_setFld_reg _ .KS_REFOFF_OFF .KS_CNT_REFUSED b 0 b 0 _ hoff,
    Dev.fld_setFld_reg _ .KS_STATUS_REASON .KS_CNT_REFUSED b 0 b 0 _ hstat]

theorem Dev.returned_count {b : Nat} (hb : b < 4) : (d.returned b).fld .KS_CNT_REFUSED b = d.fld .KS_CNT_REFUSED b := by
  have hstg : RegName.off .KS_CNT b 0 ≠ RegName.off .SC_CVSTG b 0 := by simp only [RegName.off, RegName.info]; omega
  unfold Dev.returned Dev.setOn
  rw [if_pos hb, Dev.fld_setFld_reg _ .SC_CVSTG_PEND .KS_CNT_REFUSED b 0 b 0 _ hstg]
  rfl

/-- The reason shows, and the refusal has counted (R69, R79). -/
theorem Dev.refuseHost_shown {b : Nat} (hb : b < 4) (r : Reason) (off : Nat) : (d.refuseHost b r.code off).fld .KS_STATUS_REASON b = r.code ∧
    (d.refuseHost b r.code off).fld .KS_CNT_REFUSED b = min (d.fld .KS_CNT_REFUSED b + 1) (2 ^ Fld.KS_CNT_REFUSED.width - 1) := by
  rw [Dev.refuseHost_eq]
  have htold := (((d.returned b).reasonShown b r.code off).reported_refusalTold (d.returned b).steward b r.code off).trans (Dev.reported_refusalAnswered (d.kset b).host b r.code)
  constructor
  · rw [htold.fld .KS_STATUS_REASON b 0 (ks_not_report .KS_STATUS b (by simp) hb), Dev.reasonShown_reason hb]
  · rw [htold.fld .KS_CNT_REFUSED b 0 (ks_not_report .KS_CNT b (by simp) hb), Dev.reasonShown_count hb, Dev.returned_count hb]

/-- The refusal of a bay's COMMIT that waits for its answer is answered last. -/
theorem Dev.refuseHost_answer {b : Nat} {h : CmdHdr} (hb : b < 4) (horigin : (d.kset b).host.origin = some h) (hst : (d.kset b).host.st ≠ .armed)
    (reason off : Nat) : ∃ e : Dev, d.refuseHost b reason off = (e.bayEvent b 1 0x0101 0xFF reason off).completeRefused h b reason := by
  refine ⟨(d.returned b).reasonShown b reason off, ?_⟩
  rw [Dev.refuseHost_eq, Dev.refusalAnswered, horigin]
  dsimp only
  rw [if_neg hst, Dev.refusalTold, if_pos hb]

end Sys2Proof.Machine
end

section
/-! PROOFS. The COMMIT frame (R63 to R65, R69, R73). -/

namespace Sys2Proof.Machine

variable {d : Dev} {h : CmdHdr} {rec : CommitRec}

/-- The whole staging set is pending, and the slot is PREPARING with the commit's record (R63, R65). -/
def Dev.prepared (d : Dev) (set now : Nat) (h : CmdHdr) (rec : CommitRec) : Dev :=
  (d.formPending set).setHost set { st := .preparing, cmd := rec, origin := some h, prepAt := now }

theorem Dev.formPending_eq (set : Nat) : ∃ regs, d.formPending set =
    { d.setKset set { d.kset set with pending := (d.kset set).staging, staging := [] } with regs := regs } := by
  unfold Dev.formPending; dsimp only
  split <;> exact ⟨_, rfl⟩

theorem Dev.prepared_kset (set now : Nat) : (d.prepared set now h rec).kset set = { d.kset set with
    pending := (d.kset set).staging, staging := [], host := { st := .preparing, cmd := rec, origin := some h, prepAt := now } } := by
  obtain ⟨regs, hform⟩ := d.formPending_eq set
  have hkset : (d.formPending set).kset set = { d.kset set with pending := (d.kset set).staging, staging := [] } := by
    rw [hform]; exact Dev.kset_setKset _ _ _
  unfold Dev.prepared Dev.setHost
  rw [Dev.kset_setKset, hkset]

theorem Dev.prepared_work (set now : Nat) : (d.prepared set now h rec).work = d.work := by
  obtain ⟨regs, hform⟩ := d.formPending_eq set
  unfold Dev.prepared; rw [hform]; rfl

theorem Dev.prepared_regsBut (set now : Nat) : d.regsBut [RegName.off .SC_CVSTG set 0] (d.prepared set now h rec) := by
  have hform : d.regsBut [RegName.off .SC_CVSTG set 0] (d.formPending set) := by
    unfold Dev.formPending; dsimp only
    split
    · exact Dev.regsBut.trans (Dev.regsBut_of_regs rfl) (Dev.regsBut_setOn _ .SC_CVSTG_PEND set 0 true List.mem_cons_self)
    · exact Dev.regsBut_of_regs rfl
  exact hform.trans (Dev.regsBut_of_regs rfl)

/-- A COMMIT from its own seat or the console. -/
def ownsFrame (h : CmdHdr) (b : Fin 4) : Prop := h.src = .seat b ∨ h.src = .console

/-- A bay's COMMIT with no host commit under way meets its checks (R69). -/
theorem Dev.commitBay_of_idle {b : Fin 4} (hown : ownsFrame h b) (hbay : rec.bay = b.val) (hpres : d.present b = true) (hidle : (d.kset b).host.st = .idle) :
    d.commitBay h rec = match (d.prepared b d.now h rec).commitChecks b rec (d.kset b).staging with
      | some (r, off) => (d.prepared b d.now h rec).refuseHost b r.code off
      | none => d.prepared b d.now h rec := by
  have hbusy : d.hostBusy b = false := by simp [Dev.hostBusy, hidle]
  unfold Dev.commitBay
  obtain hsrc | hsrc := hown <;>
    simp only [hsrc, hbay, hpres, hbusy, beq_self_eq_true, Bool.not_true, Bool.false_eq_true, if_false] <;> rfl

/-- One with a host commit under way is refused with BUSY. -/
theorem Dev.commitBay_of_busy {b : Fin 4} (hown : ownsFrame h b) (hbay : rec.bay = b.val) (hpres : d.present b = true) (hidle : (d.kset b).host.st ≠ .idle) :
    d.commitBay h rec = (d.noteRefusal b Reason.busy.code noField).completeRefused h b Reason.busy.code := by
  have hbusy : d.hostBusy b = true := by simp [Dev.hostBusy, hidle]
  unfold Dev.commitBay
  obtain hsrc | hsrc := hown <;>
    simp only [hsrc, hbay, hpres, hbusy, beq_self_eq_true, Bool.not_true, Bool.false_eq_true, if_false, if_true]

theorem Dev.commit_of_bay {b : Fin 4} (hbay : rec.bay = b.val) : d.commit h rec = d.commitBay h rec :=
  if_neg (by omega)

/-- A device-wide COMMIT with NEXT that passes check 6 is PREPARING (R73). -/
theorem Dev.commit_of_device (hbay : rec.bay = 4) (hsteward : h.src = .console ∨ ∃ k : Fin 4, h.src = .seat k ∧ k.val = d.steward)
    (hidle : (d.kset 4).host.st = .idle) (hgen : rec.expect = false ∨ d.fld .KS_GENDEV_GEN = rec.expgen) (hnext : rec.next = true)
    (hnow : rec.now = false) (hchecks : (d.prepared 4 d.now h rec).deviceChecks (d.kset 4).staging = none) :
    d.commit h rec = d.prepared 4 d.now h rec := by
  have hbusy : d.hostBusy 4 = false := by simp [Dev.hostBusy, hidle]
  have hword : (d.prepared 4 d.now h rec).fld .KS_GENDEV_GEN = d.fld .KS_GENDEV_GEN := rfl
  have hstale : (rec.expect && (d.prepared 4 d.now h rec).fld .KS_GENDEV_GEN != rec.expgen) = false := by
    rw [hword]
    obtain hexp | heq := hgen
    · simp [hexp]
    · simp [heq]
  have hlook : d.commitDevice h rec =
      if (rec.expect && (d.prepared 4 d.now h rec).fld .KS_GENDEV_GEN != rec.expgen) = true then
        (d.prepared 4 d.now h rec).refuseHost 4 Reason.stale.code noField
      else if (!rec.next || rec.now) = true then (d.prepared 4 d.now h rec).refuseHost 4 Reason.value.code noField
      else match (d.prepared 4 d.now h rec).deviceChecks (d.kset 4).staging with
        | some (r, off) => (d.prepared 4 d.now h rec).refuseHost 4 r.code off
        | none => d.prepared 4 d.now h rec := by
    unfold Dev.commitDevice
    obtain hsrc | ⟨k, hsrc, hk⟩ := hsteward
    · simp only [hsrc, hbusy, Bool.not_true, Bool.false_eq_true, if_false]; rfl
    · simp only [hsrc, hk, hbusy, beq_self_eq_true, Bool.not_true, Bool.false_eq_true, if_false]; rfl
  rw [Dev.commit, if_pos hbay, hlook, hstale, hnext, hnow, hchecks]
  rfl

/-- A commit that has failed a check at once has its values back. -/
theorem Dev.prepared_refused_staging (b now reason off : Nat) : (((d.prepared b now h rec).refuseHost b reason off).kset b).staging = (d.kset b).staging := by
  rw [Dev.refuseHost_kset, Dev.prepared_kset]
  simp

/-- Settles O23: the moved set keeps the commit apart from the checks, whose result decides between prepared and refused. -/
theorem commitPrepares : Obligations.CommitPrepares := by
  unfold Obligations.CommitPrepares
  constructor
  · intro h rec b s hadm hbay hown hpres
    have hheard := Dev.reported_heard hadm
    have hks := hheard.kset b
    have hnow := hheard.now
    have hpres' : (s.dev.heard h 0x0010).present b = true := by
      obtain ⟨seats, heq⟩ := Dev.heard_eq hadm
      rw [heq]; exact hpres
    constructor
    · intro hidle
      have hcommit := (Dev.commit_of_bay (d := s.dev.heard h 0x0010) (h := h) hbay).trans
        (Dev.commitBay_of_idle hown hbay hpres' (by rw [hks]; exact hidle))
      rw [hks, hnow] at hcommit
      have hexec := (exec_commit h s rec).trans (State.onCommand_dev hadm hcommit)
      change ∃ t, _ ∧ _ ∧ _ ∧ _ ∧ _ ∧ (((s.dev.heard h 0x0010).prepared b s.dev.now h rec).commitChecks b rec (s.dev.kset b).staging = none → _) ∧
        (∀ r off, ((s.dev.heard h 0x0010).prepared b s.dev.now h rec).commitChecks b rec (s.dev.kset b).staging = some (r, off) → _)
      have hprep := Dev.prepared_kset (d := s.dev.heard h 0x0010) (h := h) (rec := rec) b s.dev.now
      have hwork := (Dev.prepared_work (d := s.dev.heard h 0x0010) (h := h) (rec := rec) b s.dev.now).trans hheard.work
      have hregs := hheard.regsBut.trans (Dev.prepared_regsBut (d := s.dev.heard h 0x0010) (h := h) (rec := rec) b s.dev.now)
      have hcnt : ((s.dev.heard h 0x0010).prepared b s.dev.now h rec).fld .KS_CNT_REFUSED b = s.dev.fld .KS_CNT_REFUSED b :=
        Dev.fld_of_word (x := .KS_CNT_REFUSED) (hregs _ (by simp only [RegName.off, RegName.info, List.mem_singleton]; omega)
          (ks_not_report .KS_CNT b (by simp) b.isLt))
      have hstage := Dev.prepared_refused_staging (d := s.dev.heard h 0x0010) (h := h) (rec := rec) b s.dev.now
      rw [hks] at hprep hstage
      generalize (s.dev.heard h 0x0010).prepared b s.dev.now h rec = p at hexec hprep hwork hregs hcnt hstage ⊢
      cases hchk : p.commitChecks b rec (s.dev.kset b).staging with
      | none =>
        rw [hchk] at hexec
        dsimp only at hexec
        refine ⟨_, hexec, rfl, Dev.bays_of_work hwork, Dev.tbl_of_work hwork, Dev.fs_of_work hwork, fun _ => ?_, fun r off hsome => nomatch hsome⟩
        exact ⟨congrArg Ks.pending hprep, congrArg Ks.staging hprep, congrArg Ks.host hprep, hregs⟩
      | some x =>
        obtain ⟨r, off⟩ := x
        rw [hchk] at hexec
        dsimp only at hexec
        have hwork' := (Dev.refuseHost_work b r.code off).trans hwork
        refine ⟨_, hexec, rfl, Dev.bays_of_work hwork', Dev.tbl_of_work hwork', Dev.fs_of_work hwork', (absurd · (Option.some_ne_none _)), ?_⟩
        rintro r' off' ⟨⟩
        obtain ⟨hreason, hcount⟩ := Dev.refuseHost_shown (d := p) b.isLt r off
        have hfree := Dev.refuseHost_kset (d := p) b r.code off
        refine ⟨hstage r.code off, congrArg Ks.pending hfree, congrArg (fun k : Ks => k.host.st) hfree, hreason, hcount.trans (by rw [hcnt]), ?_⟩
        exact Dev.refuseHost_answer b.isLt (by rw [hprep]) (by rw [hprep]; simp) r.code off
    · intro hbusy
      have hcommit := (Dev.commit_of_bay (d := s.dev.heard h 0x0010) (h := h) hbay).trans
        (Dev.commitBay_of_busy hown hbay hpres' (by rw [hks]; exact hbusy))
      have hexec := (exec_commit h s rec).trans (State.onCommand_dev hadm hcommit)
      rw [Dev.noteRefusal_eq, Dev.refusalTold, if_pos b.isLt] at hexec
      obtain ⟨hshown, -, -⟩ := (s.dev.heard h 0x0010).reasonShown_frame b Reason.busy.code noField
      exact ⟨_, hexec, hshown.trans hheard.ks, Dev.reasonShown_reason b.isLt .busy noField⟩
  · intro h rec s hadm hbay hsteward hidle hgen hnext hnow hchecks
    obtain ⟨seats, heq⟩ := Dev.heard_eq hadm
    have hheard := Dev.reported_heard hadm
    have hcommit : (s.dev.heard h 0x0010).commit h rec = (s.dev.heard h 0x0010).prepared 4 s.dev.now h rec := by
      have hcommit := Dev.commit_of_device (d := s.dev.heard h 0x0010) (h := h) hbay (by rw [heq]; exact hsteward) (by rw [hheard.kset]; exact hidle)
        (by rw [heq]; exact hgen) hnext hnow (by rw [hheard.kset, hheard.now]; exact hchecks)
      rw [hheard.now] at hcommit
      exact hcommit
    have hexec := (exec_commit h s rec).trans (State.onCommand_dev hadm hcommit)
    have hprep := Dev.prepared_kset (d := s.dev.heard h 0x0010) (h := h) (rec := rec) 4 s.dev.now
    rw [hheard.kset] at hprep
    have hwork := (Dev.prepared_work (d := s.dev.heard h 0x0010) (h := h) (rec := rec) 4 s.dev.now).trans hheard.work
    refine ⟨_, hexec, rfl, Dev.bays_of_work hwork, Dev.tbl_of_work hwork, congrArg Ks.pending hprep, congrArg Ks.staging hprep,
      congrArg Ks.host hprep, ?_⟩
    rw [heq]; rfl

end Sys2Proof.Machine
end

section
/-! PROOFS. CANCEL, and the start of internal commits (R70, R71, R264). -/

namespace Sys2Proof.Machine

variable {d : Dev} {h : CmdHdr}

/-- A host commit that a CANCEL ends (R70). -/
def Dev.Cancellable (d : Dev) (set : Nat) : Prop :=
  (d.kset set).host.st = .preparing ∨ (d.kset set).host.st = .checking ∨ ((d.kset set).host.st = .armed ∧ set < 4 ∧
    (d.kset set).host.carried = false ∧ (3 ≤ sub48 (d.kset set).host.target (d.ccPacer set) ∨ d.pacerQuiet set = true))

theorem Dev.cancelOk_iff (set : Nat) : d.cancelOk set = true ↔ d.Cancellable set := by
  unfold Dev.cancelOk Dev.Cancellable; dsimp only
  cases hst : (d.kset set).host.st with
  | idle => simp
  | checking => simp
  | preparing => simp
  | armed => simp [and_assoc]

/-- A CANCEL from the bay's seat, of the device-wide set from the steward, or from the console, is not refused. -/
theorem Dev.cancel_of_own {b : Fin 5}
    (hsrc : h.src = .console ∨ ∃ k : Fin 4, h.src = .seat k ∧ k.val = (if b.val = 4 then d.steward else b.val)) :
    d.cancel h b = if d.cancelOk b = true then (d.refuseHost b Reason.cancelled.code noField).complete h 0x0011 .ok []
      else d.complete h 0x0011 .busy [] := by
  unfold Dev.cancel
  obtain hsrc | ⟨k, hsrc, hk⟩ := hsrc
  · simp only [hsrc, b.isLt, if_true]
  · by_cases hdev : b.val = 4
    · simp only [hsrc, hk, hdev, if_true]
    · simp only [hsrc, hk, hdev, if_false, if_true]

/-- Every value that was pending has its field staged (R63). -/
theorem Dev.refuseHost_staged (set reason off : Nat) : ∀ x ∈ (d.kset set).pending,
    ∃ y ∈ ((d.refuseHost set reason off).kset set).staging, y.key = x.key := by
  intro x hx
  rw [Dev.refuseHost_kset]
  by_cases hlater : (d.kset set).staging.any (fun y => y.key == x.key) = true
  · obtain ⟨y, hy, hkey⟩ := List.any_eq_true.mp hlater
    exact ⟨y, List.mem_append_right _ hy, by simpa using hkey⟩
  · exact ⟨x, List.mem_append_left _ (List.mem_filter.mpr ⟨hx, by simpa using hlater⟩), rfl⟩

/-! ## The request served next -/

section
variable {k : Ks} {r : IntReq}

theorem Ks.nextReq_mem (h : k.nextReq = some r) : r ∈ k.waiting := by
  unfold Ks.nextReq at h
  split at h
  case h_1 hfault => cases h; exact List.mem_of_find?_eq_some hfault
  case h_2 =>
    split at h
    case h_1 hthermal => cases h; exact List.mem_of_find?_eq_some hthermal
    case h_2 => exact List.mem_of_head? h

/-- A fault reaction comes first. -/
theorem Ks.nextReq_of_fault (h : k.nextReq = some r) (hfault : ∃ x ∈ k.waiting, x.src = .fault) : r.src = .fault := by
  unfold Ks.nextReq at h
  split at h
  case h_1 hfind => cases h; simpa using List.find?_some hfind
  case h_2 hnone =>
    obtain ⟨x, hx, hsrc⟩ := hfault
    have hother := List.find?_eq_none.mp hnone x hx
    simp [hsrc] at hother

/-- A thermal clamp comes before registration. -/
theorem Ks.nextReq_of_thermal (h : k.nextReq = some r) (hfault : ∀ x ∈ k.waiting, x.src ≠ .fault)
    (hthermal : ∃ x ∈ k.waiting, x.src = .thermal) : r.src = .thermal := by
  unfold Ks.nextReq at h
  split at h
  case h_1 hfind => exact absurd (by simpa using List.find?_some hfind) (hfault _ (List.mem_of_find?_eq_some hfind))
  case h_2 =>
    split at h
    case h_1 hfind => cases h; simpa using List.find?_some hfind
    case h_2 hnone =>
      obtain ⟨x, hx, hsrc⟩ := hthermal
      have hother := List.find?_eq_none.mp hnone x hx
      simp [hsrc] at hother

theorem Ks.nextReq_isSome (h : k.waiting ≠ []) : k.nextReq.isSome = true := by
  unfold Ks.nextReq
  split
  · rfl
  · split
    · rfl
    · exact List.isSome_head?.mpr h

end

/-! ## The commands -/

theorem exec_internalCommitStart (b : Fin 4) (s : State) :
    exec (.internalCommitStart b) s = s.onDev (fun d => d.internalReady b) fun d => d.startInternal b := rfl

/-- The request enters the internal slot (R71). -/
theorem Dev.startInternal_of_next {b : Nat} {r : IntReq} (hnext : (d.kset b).nextReq = some r) :
    d.startInternal b = d.setKset b { d.kset b with
      int := { st := .preparing, prepAt := d.now }, intReq := some r, waiting := (d.kset b).waiting.filter (· != r) } := by
  unfold Dev.startInternal; dsimp only
  rw [hnext]

/-- Settles O25: an ARMED slot is cancelled under the one condition that the gate of CANCEL computes. -/
theorem commitEnds : Obligations.CommitEnds := by
  unfold Obligations.CommitEnds
  refine ⟨?_, ?_, fun b s hwait => Ks.nextReq_isSome hwait⟩
  · intro h b s hadm hsrc
    change (s.dev.Cancellable b → _) ∧ (¬ s.dev.Cancellable b → _)
    obtain ⟨seats, heq⟩ := Dev.heard_eq hadm
    have hheard := Dev.reported_heard hadm
    have hcancel := Dev.cancel_of_own (d := s.dev.heard h 0x0011) (b := b) (by rw [heq]; exact hsrc)
    have hok : (s.dev.heard h 0x0011).cancelOk b = s.dev.cancelOk b := by rw [heq]; rfl
    rw [hok] at hcancel
    constructor
    · intro hcan
      rw [if_pos ((Dev.cancelOk_iff b).mpr hcan)] at hcancel
      have hexec := (exec_cancel h s b).trans (State.onCommand_dev hadm hcancel)
      have hrep := Dev.reported_complete ((s.dev.heard h 0x0011).refuseHost b Reason.cancelled.code noField) h 0x0011 .ok []
      have hwork := hrep.work.trans ((Dev.refuseHost_work b _ _).trans hheard.work)
      have hkset := (hrep.kset b).trans (Dev.refuseHost_kset b _ _)
      have hstaged := Dev.refuseHost_staged (d := s.dev.heard h 0x0011) b Reason.cancelled.code noField
      rw [hheard.kset, ← hrep.kset b] at hstaged
      exact ⟨_, hexec, rfl, Dev.bays_of_work hwork, Dev.tbl_of_work hwork, congrArg (fun k : Ks => k.host.st) hkset, congrArg Ks.pending hkset,
        hstaged, _, rfl⟩
    · intro hnot
      rw [if_neg (mt (Dev.cancelOk_iff b).mp hnot)] at hcancel
      exact (exec_cancel h s b).trans (State.onCommand_dev hadm hcancel)
  · intro b r s hmodes hidle hnext
    have hwait : (s.dev.kset b).waiting ≠ [] := List.ne_nil_of_mem (Ks.nextReq_mem hnext)
    have hready : s.dev.internalReady b = true := by simp [Dev.internalReady, hidle, hwait, hmodes]
    exact ⟨(exec_internalCommitStart b s).trans (State.onDev_of hready (Dev.startInternal_of_next hnext)), Ks.nextReq_mem hnext,
      Ks.nextReq_of_fault hnext, Ks.nextReq_of_thermal hnext⟩

end Sys2Proof.Machine
end

section
/-! PROOFS. Snapshots: SNAP, SNAPRD and SNAPREL (R76, R77). -/

namespace Sys2Proof.Machine

variable {d e : Dev} {h : CmdHdr} {b k : Nat}

theorem Dev.Reported.snap (h : d.Reported e) (b k : Nat) : e.snap b k = d.snap b k := by unfold Dev.snap; rw [h.snaps]

theorem Dev.snap_setSnap (d : Dev) (b k : Nat) (x : Snap) : (d.setSnap b k x).snap b k = x := Store.get_set_self _ _ _ _

/-- The registers of a snapshot are no report's. -/
theorem snapRegs_not_report (hb : b < 4) (hk : k < 2) {o : Nat} (ho : o ∈ snapRegs b k) : o ∉ reports := by
  have hrange := snapRegs_range hb hk ho
  exact fc_not_report (by omega)

/-! ## A snapshot that latches -/

/-- The buffer with the words at the instant of the stamp. -/
def Dev.snapNow (d : Dev) (b stamp : Nat) : Snap :=
  { taken := true, pendingAt := none, words := ({ d with now := d.instantOf stamp }).snapWords b }

/-- It latches, and SNAP_READY says so. -/
theorem Dev.snapLatch_told (b k : Nat) (now : Bool) (stamp : Nat) : d.snapLatch b k now stamp =
    (d.snapTaken b k now (d.snapNow b stamp)).bayEvent b 3 0x0102 0xFF k (d.snapTaken b k now (d.snapNow b stamp)).ptActive := rfl

/-- The tag registers of a buffer that latches. -/
theorem Dev.snapTaken_tags (b k : Nat) (now : Bool) (x : Snap) : (d.snapTaken b k now x).fld .KS_SNAPGEN_GEN b k = (d.bay b).gen % 2 ^ 32 ∧
    (d.snapTaken b k now x).on .KS_SNAPCCHI_VALID b k = true ∧ (d.snapTaken b k now x).on .KS_SNAPCCHI_NOW b k = now ∧
    (d.snapTaken b k now x).fld .KS_SNAPCCLO_CC b k = (d.bay b).cc % 2 ^ 32 := by
  obtain ⟨hhi, hlo, hpair⟩ := snapRegs_apart b k
  have hgenpt : RegName.off .KS_SNAPGEN b k ≠ RegName.off .KS_SNAPPT b k := by simp only [RegName.off, RegName.info]; omega
  have hgenhi : RegName.off .KS_SNAPGEN b k ≠ RegName.off .KS_SNAPCCHI b k := by simp only [RegName.off, RegName.info]; omega
  have hgenlo : RegName.off .KS_SNAPGEN b k ≠ RegName.off .KS_SNAPCCLO b k := by simp only [RegName.off, RegName.info]; omega
  refine ⟨?_, ?_, ?_, ?_⟩
  · unfold Dev.snapTaken Dev.setOn Dev.setPair; dsimp only
    rw [Dev.fld_setFld_reg _ .KS_SNAPPT_PTACT .KS_SNAPGEN_GEN _ _ _ _ _ hgenpt, Dev.fld_setFld_reg _ .KS_SNAPCCHI_NOW .KS_SNAPGEN_GEN _ _ _ _ _ hgenhi,
      Dev.fld_setFld_reg _ .KS_SNAPCCHI_VALID .KS_SNAPGEN_GEN _ _ _ _ _ hgenhi, Dev.fld_setFld_reg _ .KS_SNAPCCHI_CC .KS_SNAPGEN_GEN _ _ _ _ _ hgenhi,
      Dev.fld_setFld_reg _ .KS_SNAPCCLO_CC .KS_SNAPGEN_GEN _ _ _ _ _ hgenlo, Dev.fld_setFld _ _ _ _ _ (by decide)]
    rfl
  · unfold Dev.snapTaken Dev.on Dev.setOn; dsimp only
    rw [Dev.fld_setFld_reg _ .KS_SNAPPT_PTACT .KS_SNAPCCHI_VALID _ _ _ _ _ hhi,
      Dev.fld_setFld_beside _ .KS_SNAPCCHI_NOW .KS_SNAPCCHI_VALID _ _ _ rfl (by decide) (by decide) (by decide), Dev.fld_setFld _ _ _ _ _ (by decide)]
    rfl
  · unfold Dev.snapTaken Dev.on Dev.setOn; dsimp only
    rw [Dev.fld_setFld_reg _ .KS_SNAPPT_PTACT .KS_SNAPCCHI_NOW _ _ _ _ _ hhi, Dev.fld_setFld _ _ _ _ _ (by decide)]
    cases now <;> rfl
  · unfold Dev.snapTaken Dev.setOn Dev.setPair; dsimp only
    rw [Dev.fld_setFld_reg _ .KS_SNAPPT_PTACT .KS_SNAPCCLO_CC _ _ _ _ _ hlo, Dev.fld_setFld_reg _ .KS_SNAPCCHI_NOW .KS_SNAPCCLO_CC _ _ _ _ _ hpair,
      Dev.fld_setFld_reg _ .KS_SNAPCCHI_VALID .KS_SNAPCCLO_CC _ _ _ _ _ hpair, Dev.fld_setFld_reg _ .KS_SNAPCCHI_CC .KS_SNAPCCLO_CC _ _ _ _ _ hpair,
      Dev.fld_setFld _ _ _ _ _ (by decide)]
    exact Nat.mod_mod _ _

theorem Dev.snapTaken_frame (b k : Nat) (now : Bool) (x : Snap) : (d.snapTaken b k now x).work = d.work ∧ (d.snapTaken b k now x).snap b k = x :=
  ⟨rfl, d.snap_setSnap b k x⟩

theorem Dev.snapLatch_work (b k : Nat) (now : Bool) (stamp : Nat) : (d.snapLatch b k now stamp).work = d.work := by
  rw [Dev.snapLatch_told, (Dev.reported_bayEvent _ _ _ _ _ _ _).work, (Dev.snapTaken_frame b k now _).1]

/-- The buffer, and the registers that tag it, once reported (R76). -/
theorem Dev.snapLatch_shown (hb : b < 4) (hk : k < 2) (hrep : (d.snapLatch b k true d.tb).Reported e) :
    (e.snap b k).taken = true ∧ (e.snap b k).pendingAt = none ∧ e.fld .KS_SNAPGEN_GEN b k = (d.bay b).gen % 2 ^ 32 ∧
    (e.snap b k).words = ({ d with now := d.instantOf d.tb }).snapWords b ∧ e.on .KS_SNAPCCHI_VALID b k = true ∧
    e.on .KS_SNAPCCHI_NOW b k = true ∧ e.fld .KS_SNAPCCLO_CC b k = (d.bay b).cc % 2 ^ 32 := by
  rw [Dev.snapLatch_told] at hrep
  have hall := (Dev.reported_bayEvent _ _ _ _ _ _ _).trans hrep
  obtain ⟨hgen, hvalid, hnow, hcc⟩ := Dev.snapTaken_tags (d := d) b k true (d.snapNow b d.tb)
  have hsnap := (hall.snap b k).trans (Dev.snapTaken_frame b k true _).2
  have hnr (r : RegName) (hr : r.off b k ∈ snapRegs b k) : r.off b k ∉ reports := snapRegs_not_report hb hk hr
  rw [hsnap, hall.fld .KS_SNAPGEN_GEN b k (hnr .KS_SNAPGEN (by simp [snapRegs])), hall.on .KS_SNAPCCHI_VALID b k (hnr .KS_SNAPCCHI (by simp [snapRegs])),
    hall.on .KS_SNAPCCHI_NOW b k (hnr .KS_SNAPCCHI (by simp [snapRegs])), hall.fld .KS_SNAPCCLO_CC b k (hnr .KS_SNAPCCLO (by simp [snapRegs]))]
  exact ⟨rfl, rfl, hgen, rfl, hvalid, hnow, hcc⟩

/-! ## SNAP -/

/-- The buffer that a SNAP takes. -/
def Dev.freeSnap (d : Dev) (b : Nat) : Option Nat := (List.range 2).find? fun k => !(d.snap b k).taken

/-- What a SNAP is answered with. -/
def snapReply (k t : Nat) : List Byte := le 1 k ++ le 3 0 ++ le 8 t

/-- A SNAP that may take a buffer: of a present bay from its seat, not of NEXT and NOW both, and in SERVICE of NOW only. -/
structure Dev.MaySnap (d : Dev) (h : CmdHdr) (b : Fin 4) (flags : Nat) : Prop where
  src : h.src = .seat b
  present : d.present b = true
  one : flags % 2 = 0 ∨ flags / 2 % 2 = 0
  mode : d.inService = false ∨ flags / 2 % 2 = 1

/-- It does by the kind of its latch point, once a buffer is free. -/
theorem Dev.snapReq_of_maySnap {b : Fin 4} {flags target : Nat} (hmay : d.MaySnap h b flags) : d.snapReq h b flags target =
    match d.freeSnap b with
    | none => d.complete h 0x0012 .busy []
    | some k =>
      if (flags / 2 % 2 == 1) = true then
        if (d.bayModes && !d.pacerQuiet b) = true then d.complete h 0x0012 .mode []
        else (d.snapLatch b k true d.tb).complete h 0x0012 .ok (snapReply k (d.bay b).cc)
      else
        let t := if (flags % 2 == 1) = true then add48 (d.ccPacer b) 1 else target
        match (if (flags % 2 == 1) = true then none else d.reachBad b t) with
        | some r => d.complete h 0x0012 .commitRefused (commitResult t 0 r.code)
        | none => (d.setSnap b k { taken := true, pendingAt := some t }).complete h 0x0012 .ok (snapReply k t) := by
  obtain ⟨hsrc, hpres, hone, hmode⟩ := hmay
  have hboth : (flags % 2 == 1 && flags / 2 % 2 == 1) = false := by
    obtain hzero | hzero := hone <;> simp [hzero]
  have hserv : (d.inService && !(flags / 2 % 2 == 1)) = false := by
    obtain hout | hnow := hmode
    · simp [hout]
    · simp [hnow]
  unfold Dev.snapReq
  simp only [hsrc, hpres, hboth, hserv, beq_self_eq_true, Bool.not_true, Bool.or_self, Bool.false_eq_true, if_false]
  rfl

/-- Whatever its answer, a SNAP leaves the work of the bays. -/
theorem Dev.snapReq_work {b : Fin 4} {flags target : Nat} (hmay : d.MaySnap h b flags) : (d.snapReq h b flags target).work = d.work := by
  have hcomplete (e : Dev) (st : Status) (p : List Byte) : (e.complete h 0x0012 st p).work = e.work := (e.reported_complete h 0x0012 st p).work
  rw [Dev.snapReq_of_maySnap hmay]
  split
  · exact hcomplete _ _ _
  · split
    · split
      · exact hcomplete _ _ _
      · exact (hcomplete _ _ _).trans (Dev.snapLatch_work _ _ _ _)
    · dsimp only
      split
      · exact hcomplete _ _ _
      · exact hcomplete _ _ _

section
variable {b : Fin 4} {flags target k : Nat} (hmay : d.MaySnap h b flags) (hfree : d.freeSnap b = some k)
include hmay hfree

theorem Dev.snapReq_of_next (hnext : flags % 2 = 1) : d.snapReq h b flags target =
    (d.setSnap b k { taken := true, pendingAt := some (add48 (d.ccPacer b) 1) }).complete h 0x0012 .ok (snapReply k (add48 (d.ccPacer b) 1)) := by
  have hnow : flags / 2 % 2 = 0 := hmay.one.resolve_left (by omega)
  rw [Dev.snapReq_of_maySnap hmay, hfree]
  simp only [hnext, hnow, beq_self_eq_true, if_true, Nat.reduceBEq, Bool.false_eq_true, if_false]

theorem Dev.snapReq_of_target (hnext : flags % 2 = 0) (hnow : flags / 2 % 2 = 0) (hreach : d.reachBad b target = none) :
    d.snapReq h b flags target = (d.setSnap b k { taken := true, pendingAt := some target }).complete h 0x0012 .ok (snapReply k target) := by
  rw [Dev.snapReq_of_maySnap hmay, hfree]
  simp only [hnext, hnow, hreach, Nat.reduceBEq, Bool.false_eq_true, if_false]

theorem Dev.snapReq_of_now (hnow : flags / 2 % 2 = 1) (hquiet : d.pacerQuiet b = true ∨ d.bayModes = false) :
    d.snapReq h b flags target = (d.snapLatch b k true d.tb).complete h 0x0012 .ok (snapReply k (d.bay b).cc) := by
  have hgo : (d.bayModes && !d.pacerQuiet b) = false := by
    obtain hq | hm := hquiet
    · simp [hq]
    · simp [hm]
  rw [Dev.snapReq_of_maySnap hmay, hfree]
  simp only [hnow, hgo, beq_self_eq_true, if_true, Bool.false_eq_true, if_false]

end

/-! ## SNAPRD and SNAPREL -/

/-- SNAPRD of an aligned range no longer than a frame. -/
theorem Dev.snapRead_of_fits {b : Fin 4} {buffer : Fin 2} {off len : Nat} (hown : ownsFrame h b) (hoff : off % 4 = 0) (hlen : len % 4 = 0)
    (hmax : len ≤ frameMax h) : d.snapRead h b buffer off len = d.complete h 0x0013 .ok ((List.range (len / 4)).flatMap fun i =>
      le 4 ((((d.snap b buffer).words.find? fun x => x.1 == off + 4 * i).map (·.2)).getD (0 : Word)).toNat) := by
  have hbuf : ¬ (2 ≤ buffer.val) := by omega
  have hfits : ¬ (frameMax h < len) := by omega
  unfold Dev.snapRead
  obtain hsrc | hsrc := hown
  · simp only [hsrc, hoff, hlen, hbuf, hfits, beq_self_eq_true, Bool.not_true, Bool.false_eq_true, if_false, bne_self_eq_false, decide_false, Bool.or_self]
  · simp only [hsrc, hoff, hlen, hbuf, hfits, b.isLt, decide_true, Bool.not_true, Bool.false_eq_true, if_false, bne_self_eq_false, decide_false,
      Bool.or_self]

theorem Dev.snapRelease_of_own {b : Fin 4} {buffer : Fin 2} (hown : ownsFrame h b) : d.snapRelease h b buffer =
    (if (d.snap b buffer).taken = true then d.snapFree b buffer else d).complete h 0x0014 .ok [] := by
  have hbuf : ¬ (2 ≤ buffer.val) := by omega
  unfold Dev.snapRelease
  obtain hsrc | hsrc := hown
  · simp only [hsrc, hbuf, beq_self_eq_true, Bool.not_true, Bool.false_eq_true, if_false]
  · simp only [hsrc, hbuf, b.isLt, decide_true, Bool.not_true, Bool.false_eq_true, if_false]

/-- A buffer that is freed: nothing pends for it, and its VALID is 0. -/
theorem Dev.snapFree_frame (b k : Nat) : (d.snapFree b k).snap b k = {} ∧ (d.snapFree b k).on .KS_SNAPCCHI_VALID b k = false ∧
    (d.snapFree b k).work = d.work ∧ d.regsBut [RegName.off .KS_SNAPCCHI b k] (d.snapFree b k) :=
  ⟨d.snap_setSnap b k {}, Dev.on_setOn _ .KS_SNAPCCHI_VALID b k false (by decide) (by decide), rfl,
    (Dev.regsBut_of_regs rfl).trans (Dev.regsBut_setOn (d.setSnap b k {}) .KS_SNAPCCHI_VALID b k false List.mem_cons_self)⟩

/-- Settles O26: one case for each of NEXT, target and NOW, of which only NOW latches at once. -/
theorem snapshots : Obligations.Snapshots := by
  unfold Obligations.Snapshots
  refine ⟨?_, ?_, ?_⟩
  · intro h b flags target s hadm hsrc hpres hone hmode
    obtain ⟨seats, heq⟩ := Dev.heard_eq hadm
    have hheard := Dev.reported_heard hadm
    have hmay : (s.dev.heard h 0x0012).MaySnap h b flags := ⟨hsrc, by rw [heq]; exact hpres, hone, by rw [heq]; exact hmode⟩
    have hfree : (s.dev.heard h 0x0012).freeSnap b = s.dev.freeSnap b := by rw [heq]; rfl
    have hcc : (s.dev.heard h 0x0012).ccPacer b = s.dev.ccPacer b := by rw [heq]; rfl
    have hexec (e : Dev) (he : (s.dev.heard h 0x0012).snapReq h b flags target = e) :=
      (exec_snap h s b flags target).trans (State.onCommand_dev hadm he)
    change (∀ k, s.dev.freeSnap b = some k → _) ∧ (s.dev.freeSnap b = none → _)
    constructor
    · intro k hk
      have hk2 : k < 2 := List.mem_range.mp (List.mem_of_find?_eq_some hk)
      have hwork := (Dev.snapReq_work (target := target) hmay).trans hheard.work
      refine ⟨_, hexec _ rfl, rfl, Dev.bays_of_work hwork, Dev.tbl_of_work hwork, ?_, ?_, ?_⟩
      · intro hnext
        have hreq := Dev.snapReq_of_next (target := target) hmay (hfree.trans hk) hnext
        rw [hcc] at hreq
        have hrep := Dev.reported_complete ((s.dev.heard h 0x0012).setSnap b k { taken := true, pendingAt := some (add48 (s.dev.ccPacer b) 1) })
          h 0x0012 .ok (snapReply k (add48 (s.dev.ccPacer b) 1))
        rw [← hreq] at hrep
        exact ⟨(hrep.snap b k).trans (Dev.snap_setSnap _ _ _ _), (hheard.regsBut.trans (Dev.regsBut_of_regs rfl)).trans hrep.regsBut, _, hreq⟩
      · intro hnext hnow hreach
        have hreq := Dev.snapReq_of_target (target := target) hmay (hfree.trans hk) hnext hnow (by rw [heq]; exact hreach)
        have hrep := Dev.reported_complete ((s.dev.heard h 0x0012).setSnap b k { taken := true, pendingAt := some target })
          h 0x0012 .ok (snapReply k target)
        rw [← hreq] at hrep
        exact ⟨(hrep.snap b k).trans (Dev.snap_setSnap _ _ _ _), (hheard.regsBut.trans (Dev.regsBut_of_regs rfl)).trans hrep.regsBut, _, hreq⟩
      · intro hnow hquiet
        have hreq := Dev.snapReq_of_now (target := target) hmay (hfree.trans hk) hnow (by rw [heq]; exact hquiet)
        have hrep := Dev.reported_complete ((s.dev.heard h 0x0012).snapLatch b k true (s.dev.heard h 0x0012).tb)
          h 0x0012 .ok (snapReply k ((s.dev.heard h 0x0012).bay b).cc)
        rw [← hreq] at hrep
        obtain ⟨htaken, hpend, hgen, hwords, hvalid, hnowbit, hcclo⟩ := Dev.snapLatch_shown b.isLt hk2 hrep
        rw [hheard.bay] at hgen hcclo hreq
        rw [Dev.snapLatch_told] at hreq
        exact ⟨htaken, hpend, hgen, hwords, hvalid, hnowbit, hcclo, _, hreq⟩
    · intro hnone
      refine hexec _ ?_
      rw [Dev.snapReq_of_maySnap hmay, hfree, hnone]
  · intro h b buffer off len s hadm hown hoff hlen hmax
    have hread := Dev.snapRead_of_fits (d := s.dev.heard h 0x0013) (buffer := buffer) hown hoff hlen hmax
    rw [(Dev.reported_heard hadm).snap] at hread
    exact (exec_snaprd h s b buffer off len).trans (State.onCommand_dev hadm hread)
  · intro h b buffer s hadm hown
    have hheard := Dev.reported_heard hadm
    have hexec := (exec_snaprel h s b buffer).trans (State.onCommand_dev hadm (Dev.snapRelease_of_own (buffer := buffer) hown))
    have hrep := Dev.reported_complete (if ((s.dev.heard h 0x0014).snap b buffer).taken = true then (s.dev.heard h 0x0014).snapFree b buffer
      else s.dev.heard h 0x0014) h 0x0014 .ok []
    rw [hheard.snap] at hexec hrep
    have hnr : RegName.off .KS_SNAPCCHI b buffer ∉ reports := snapRegs_not_report b.isLt buffer.isLt (by simp [snapRegs])
    by_cases htaken : (s.dev.snap b buffer).taken = true
    · rw [if_pos htaken] at hexec hrep
      obtain ⟨hsnap, hvalid, hwork, hregs⟩ := Dev.snapFree_frame (d := s.dev.heard h 0x0014) b buffer
      have hsnap' := (hrep.snap b buffer).trans hsnap
      have hwork' := hrep.work.trans (hwork.trans hheard.work)
      exact ⟨_, hexec, rfl, Dev.bays_of_work hwork', Dev.tbl_of_work hwork', congrArg Snap.taken hsnap',
        fun _ => ⟨(hrep.on .KS_SNAPCCHI_VALID b buffer hnr).trans hvalid, congrArg Snap.pendingAt hsnap'⟩, ⟨_, rfl⟩,
        (hheard.regsBut.trans hregs).trans hrep.regsBut⟩
    · rw [if_neg htaken] at hexec hrep
      have hall := hheard.trans hrep
      exact ⟨_, hexec, rfl, hall.bays, hall.tbl, (congrArg Snap.taken (hall.snap b buffer)).trans (by simpa using htaken),
        fun htrue => absurd htrue htaken, ⟨_, rfl⟩, hall.regsBut⟩

end Sys2Proof.Machine
end

section
/-! PROOFS. Acknowledged commits: their target, their answer, and what applies at once (R65, R68, R70, R71, R73). -/

namespace Sys2Proof.Machine

variable {d e : Dev} {b : Nat}

/-! ## The words of a set that applies -/

/-- What a register reads after fields took values depends on what it read before. -/
theorem Dev.word_withFields_congr {o : Nat} (l : List Staged) (h : e.word o = d.word o) : (e.withFields l).word o = (d.withFields l).word o := by
  unfold Dev.withFields
  induction l generalizing d e with
  | nil => exact h
  | cons x r ih =>
    refine ih ?_
    by_cases ho : o = x.off
    · subst ho; rw [Dev.word_setWord, Dev.word_setWord, h]
    · rw [Dev.word_setWord_other _ _ ho, Dev.word_setWord_other _ _ ho, h]

/-! ## Arming a host commit -/

/-- The target of a host commit (R68). -/
def Dev.armTarget (d : Dev) (b : Nat) : Nat :=
  if (d.kset b).host.cmd.next || (d.kset b).host.cmd.now then add48 (d.ccPacer b) 2 else (d.kset b).host.cmd.target

/-- The commit is ARMED for course n, and its registers show it. -/
def Dev.armed (d : Dev) (b n : Nat) : Dev :=
  (d.setHost b { (d.kset b).host with st := .armed, target := n }).setPair .KS_TGTLO_TGT .KS_TGTHI_TGT b 0 n

/-- The generation that it will make. -/
def Dev.armGen (d : Dev) (b n : Nat) (now : Bool) : Nat :=
  (d.bay b).gen + 1 + (if !now && (d.kset b).int.st = .armed && before48 (d.kset b).int.target n then 1 else 0)

/-- Its completion gives both. -/
def Dev.armAnswered (d : Dev) (origin : Option Origin) (n gen : Nat) : Dev :=
  match origin with
  | some h => d.complete h 0x0010 .ok (commitResult n (gen % 2 ^ 32) 0)
  | none => d

/-- The device with the host commit of bay b ARMED and answered. -/
def Dev.armDone (d : Dev) (b : Nat) : Dev :=
  (d.armed b (d.armTarget b)).armAnswered (d.kset b).host.origin (d.armTarget b)
    ((d.armed b (d.armTarget b)).armGen b (d.armTarget b) (d.kset b).host.cmd.now)

theorem Dev.armHost_of_now (hnow : (d.kset b).host.cmd.now = true) : d.armHost b = (d.armDone b).applyNow b := by
  unfold Dev.armHost Dev.armDone Dev.armTarget; dsimp only
  simp only [hnow, Bool.or_true, if_true]
  rfl

theorem Dev.armHost_of_reached (hnow : (d.kset b).host.cmd.now = false)
    (hreach : (d.kset b).host.cmd.next = true ∨ d.reachBad b (d.kset b).host.cmd.target = none) : d.armHost b = d.armDone b := by
  unfold Dev.armHost Dev.armDone Dev.armTarget; dsimp only
  cases hnext : (d.kset b).host.cmd.next with
  | true => simp only [hnow, Bool.or_false, if_true, Bool.false_eq_true, if_false]; rfl
  | false =>
    have hreach' := hreach.resolve_left (by simp [hnext])
    simp only [hnow, hreach', Bool.or_false, Bool.false_eq_true, if_false]; rfl

theorem Dev.armHost_of_unreached (hnow : (d.kset b).host.cmd.now = false) (hnext : (d.kset b).host.cmd.next = false) {r : Reason}
    (hreach : d.reachBad b (d.kset b).host.cmd.target = some r) : d.armHost b = d.refuseHost b r.code noField := by
  unfold Dev.armHost; dsimp only
  simp only [hnow, hnext, hreach, Bool.or_false, Bool.false_eq_true, if_false]

theorem Dev.reported_armAnswered (origin : Option Origin) (n gen : Nat) : d.Reported (d.armAnswered origin n gen) := by
  unfold Dev.armAnswered
  split
  · exact d.reported_complete _ _ _ _
  · exact .refl d

theorem Dev.armed_kset (b n : Nat) : (d.armed b n).kset b = { d.kset b with host := { (d.kset b).host with st := .armed, target := n } } :=
  d.kset_setKset b _

theorem Dev.armDone_kset (b : Nat) : (d.armDone b).kset b =
    { d.kset b with host := { (d.kset b).host with st := .armed, target := d.armTarget b } } :=
  ((Dev.reported_armAnswered _ _ _).kset b).trans (d.armed_kset b _)

theorem Dev.armed_work (b n : Nat) : (d.armed b n).work = d.work := rfl

theorem Dev.armDone_work (b : Nat) : (d.armDone b).work = d.work := (Dev.reported_armAnswered _ _ _).work.trans (d.armed_work b _)

/-- A register that shows no target reads as before. -/
theorem Dev.armDone_word {b o : Nat} (hlo : o ≠ RegName.off .KS_TGTLO b 0) (hhi : o ≠ RegName.off .KS_TGTHI b 0) (hr : o ∉ reports) :
    (d.armDone b).word o = d.word o := by
  refine ((Dev.reported_armAnswered _ _ _).2 o hr).trans ?_
  unfold Dev.armed Dev.setPair
  rw [Dev.word_setFld_other _ .KS_TGTHI_TGT b 0 _ hhi, Dev.word_setFld_other _ .KS_TGTLO_TGT b 0 _ hlo]
  rfl

/-! ## A commit with NOW applies -/

/-- What the ports take before a commit with NOW applies: the configuration blocks that change, and cleared diffusion buffers. -/
def Dev.nowPorts (d : Dev) (b : Nat) : Dev :=
  (d.portsOf b).foldl (fun e xx =>
    let e := if (d.withFields (d.kset b).pending).cfgWords xx != d.cfgWords xx && e.portReady xx
      then e.sendCfgOf (d.withFields (d.kset b).pending) xx else e
    if d.edChanges (d.withFields (d.kset b).pending) xx then e.edClear xx else e) d

theorem Dev.applyNow_eq (b : Nat) : d.applyNow b =
    (((d.nowPorts b).applyHost b).applyEffects d b).pacingApplied d b (d.nowPorts b).tb false := rfl

theorem Dev.kept_nowPorts (b : Nat) (w : Bool) : (d.nowPorts b).kept w = d.kept w := Dev.kept_foldl (fun e xx => by simp) _ d

theorem Dev.settings_nowPorts (b : Nat) : (d.nowPorts b).settings = d.settings := Dev.settings_foldl (fun e xx => by simp) _ d

theorem Dev.kept_applyNow (b : Nat) (w : Bool) : (d.applyNow b).kept w = ((d.nowPorts b).applyHost b).kept w :=
  (Dev.kept_pacingApplied _ _ _ _).trans (Dev.kept_applyEffects _ _)

theorem Dev.settings_applyNow (b : Nat) : (d.applyNow b).settings = ((d.nowPorts b).applyHost b).settings :=
  (Dev.settings_pacingApplied _ _ _ _).trans (Dev.settings_applyEffects _ _)

theorem Dev.settings_applyHost (b : Nat) : (d.applyHost b).settings = (d.withFields (d.kset b).pending).settings := by
  unfold Dev.applyHost; dsimp only
  rw [Dev.settings_applied, Dev.settings_curveApply, Dev.settings_setKset]

theorem Dev.applyHost_bay (b : Nat) : (d.applyHost b).bay b = { d.bay b with gen := ((d.bay b).gen + 1) % 2 ^ 32 } := by
  unfold Dev.applyHost; dsimp only
  rw [Dev.applied_bay, Dev.curveApply_bay, Dev.bay_setKset, Dev.withFields_bay]

/-- The slot is free and its set empty; the generation has risen, and the course stands (R66, R70). -/
theorem Dev.applyNow_done (b : Nat) : ((d.applyNow b).kset b).host = {} ∧ ((d.applyNow b).kset b).pending = [] ∧
    ((d.applyNow b).bay b).gen = ((d.bay b).gen + 1) % 2 ^ 32 ∧ ((d.applyNow b).bay b).cc = (d.bay b).cc := by
  have hkept := Dev.kept_applyNow (d := d) b false
  have hslot := (d.nowPorts b).applyHost_kset b
  have hafter := Dev.core_of_kept hkept b
  have hbefore := Dev.core_of_kept (Dev.kept_nowPorts (d := d) b false) b
  rw [Dev.applyHost_bay] at hafter
  have hgenAfter : ((d.applyNow b).bay b).gen = (((d.nowPorts b).bay b).gen + 1) % 2 ^ 32 := by have hq := congrArg Bay.gen hafter; exact hq
  have hgenBefore : ((d.nowPorts b).bay b).gen = (d.bay b).gen := by have hq := congrArg Bay.gen hbefore; exact hq
  have hccAfter : ((d.applyNow b).bay b).cc = ((d.nowPorts b).bay b).cc := by have hq := congrArg Bay.cc hafter; exact hq
  have hccBefore : ((d.nowPorts b).bay b).cc = (d.bay b).cc := by have hq := congrArg Bay.cc hbefore; exact hq
  exact ⟨(Dev.host_of_kept hkept b).trans (congrArg Ks.host hslot), (Dev.pend_of_kept hkept b).trans (congrArg Ks.pending hslot),
    hgenBefore ▸ hgenAfter, hccAfter.trans hccBefore⟩

/-- A setting that applies reads as its set gives it. -/
theorem Dev.applyNow_word {o : Nat} (b : Nat) (ho : ¬ statusOff o) :
    (d.applyNow b).word o = (d.withFields (d.kset b).pending).word o := by
  have hpend := Dev.pend_of_kept (Dev.kept_nowPorts (d := d) b false) b
  rw [Dev.word_of_settings ((Dev.settings_applyNow b).trans (Dev.settings_applyHost b)) ho, hpend]
  exact Dev.word_withFields_congr _ (Dev.word_of_settings (Dev.settings_nowPorts b) ho)

/-! ## Internal and device-wide commits -/

/-- An internal commit is ARMED for CC + 2 (R71); the tables stand. -/
theorem Dev.armInternal_kset (b : Nat) : (d.armInternal b).kset b =
    { d.kset b with int := { (d.kset b).int with st := .armed, target := add48 (d.ccPacer b) 2 } } ∧ (d.armInternal b).tbl = d.tbl := by
  have hkset : (d.setKset b { d.kset b with int := { (d.kset b).int with st := .armed, target := add48 (d.ccPacer b) 2 } }).kset b = _ :=
    d.kset_setKset b _
  unfold Dev.armInternal; dsimp only
  split
  · split
    · exact ⟨hkset, rfl⟩
    · exact ⟨hkset, rfl⟩
  · exact ⟨hkset, rfl⟩

/-- The answer to a device-wide commit, its values, its free slot, and the generation that it makes (R73). -/
def Dev.deviceSet (d : Dev) : Dev :=
  ((d.armAnswered (d.kset 4).host.origin 0 ((d.fld .KS_GENDEV_GEN + 1) % 2 ^ 32)).withFields (d.kset 4).pending)

def Dev.deviceApplied (d : Dev) : Dev :=
  (d.deviceSet.setKset 4 { d.deviceSet.kset 4 with pending := [], host := {} }).setFld .KS_GENDEV_GEN 0 0 ((d.fld .KS_GENDEV_GEN + 1) % 2 ^ 32)

/-- What follows: it is told, and the thermal engine takes the new values. -/
def Dev.deviceFollowed (d : Dev) (gen : Nat) : Dev :=
  let d := if d.reach d.steward then
      d.post d.steward 1 true (eventFrame d.steward 1 0x0100 0xFF 0xFF gen d.tb 0 0 0x0200) else d
  let d := d.scanStart.shutEvalAll
  d.presentBays.foldl (fun d b => d.thrChanged b) d

theorem Dev.armDevice_eq : d.armDevice = d.deviceApplied.deviceFollowed ((d.fld .KS_GENDEV_GEN + 1) % 2 ^ 32) := by
  unfold Dev.armDevice Dev.deviceApplied Dev.deviceSet Dev.armAnswered; dsimp only
  rw [Nat.mod_mod]
  rfl

theorem Dev.settings_deviceFollowed (gen : Nat) : (d.deviceFollowed gen).settings = d.settings := by
  unfold Dev.deviceFollowed; dsimp only
  rw [Dev.settings_foldl fun d b => Dev.settings_thrChanged b, Dev.settings_shutEvalAll, Dev.settings_scanStart]
  simp

theorem Dev.kept_deviceFollowed (gen : Nat) (w : Bool) : (d.deviceFollowed gen).kept w = d.kept w := by
  have hscan (d : Dev) : d.scanStart.kept w = d.kept w := Dev.kept_forN (fun c d => by split <;> [rfl; (split <;> rfl)]) 74 d
  have hshut (d : Dev) : d.shutEvalAll.kept w = d.kept w :=
    Dev.kept_forN (fun xx d => by unfold Dev.shutEval; simp (disch := decide)) 32 d
  unfold Dev.deviceFollowed; dsimp only
  rw [Dev.kept_foldl fun d b => by simp, hshut, hscan, Dev.kept_ite, (Dev.reported_post _ _ _ _ _).kept, ite_self]

theorem Dev.deviceApplied_word {o : Nat} (ho : o ≠ RegName.off .KS_GENDEV 0 0) (hr : o ∉ reports) :
    d.deviceApplied.word o = (d.withFields (d.kset 4).pending).word o := by
  unfold Dev.deviceApplied
  rw [Dev.word_setFld_other _ .KS_GENDEV_GEN 0 0 _ ho]
  exact Dev.word_withFields_congr _ ((Dev.reported_armAnswered _ _ _).2 o hr)

/-- A device-wide commit applies: its slot is free, its generation has risen, and the settings and fault sources are its own (R73). -/
theorem Dev.armDevice_done : (d.armDevice.kset 4).host = {} ∧ (d.armDevice.kset 4).pending = [] ∧
    d.armDevice.fld .KS_GENDEV_GEN = (d.fld .KS_GENDEV_GEN + 1) % 2 ^ 32 := by
  have hkept := Dev.kept_deviceFollowed (d := d.deviceApplied) ((d.fld .KS_GENDEV_GEN + 1) % 2 ^ 32) false
  have hset := Dev.settings_deviceFollowed (d := d.deviceApplied) ((d.fld .KS_GENDEV_GEN + 1) % 2 ^ 32)
  rw [← Dev.armDevice_eq] at hkept hset
  have hslot : d.deviceApplied.kset 4 = { d.deviceSet.kset 4 with pending := [], host := {} } := Dev.kset_setKset _ 4 _
  have hgen : d.deviceApplied.fld .KS_GENDEV_GEN = _ := Dev.fld_setFld _ .KS_GENDEV_GEN 0 0 _ (by decide)
  refine ⟨(Dev.host_of_kept hkept 4).trans (congrArg Ks.host hslot), (Dev.pend_of_kept hkept 4).trans (congrArg Ks.pending hslot), ?_⟩
  rw [Dev.fld_of_word (x := .KS_GENDEV_GEN) (Dev.word_of_settings hset (setting_not_status (r := .KS_GENDEV) (by decide) (by decide))), hgen]
  exact Nat.mod_mod _ _

theorem Dev.armDevice_word {o : Nat} (ho : ¬ statusOff o) (hne : o ≠ RegName.off .KS_GENDEV 0 0) :
    d.armDevice.word o = (d.withFields (d.kset 4).pending).word o := by
  rw [Dev.armDevice_eq, Dev.word_of_settings (Dev.settings_deviceFollowed _) ho]
  exact Dev.deviceApplied_word hne fun hr => ho (.inl hr)

theorem Dev.armDevice_fcSrc (i : Fin 64) : d.armDevice.word (RegName.off .FC_SRC i 0) = (d.withFields (d.kset 4).pending).word (RegName.off .FC_SRC i 0) := by
  have hlo : 0x20000 ≤ RegName.off .FC_SRC i 0 := by simp only [RegName.off, RegName.info]; omega
  have hhi : RegName.off .FC_SRC i 0 < 0x30000 := by simp only [RegName.off, RegName.info]; omega
  rw [Dev.armDevice_eq, Dev.fc_of_kept (Dev.kept_deviceFollowed (d := d.deviceApplied) _ false) hlo hhi]
  exact Dev.deviceApplied_word (by simp only [RegName.off, RegName.info]; omega) (fc_not_report hhi)

/-! ## The time-out -/

/-- An internal commit that ends frees its slot, and takes neither a table nor a signal (R65). -/
theorem Dev.endInternal_frame (b : Nat) : ((d.endInternal b).kset b).int = {} ∧ (d.endInternal b).tbl = d.tbl ∧
    (d.endInternal b).fc.sigs = d.fc.sigs := by
  have hint (e : Dev) (he : e.ks = (d.setKset b { d.kset b with int := {}, intReq := none }).ks) : (e.kset b).int = {} := by
    have hsame : e.kset b = (d.setKset b { d.kset b with int := {}, intReq := none }).kset b :=
      congrArg (fun ks => Store.get (fun _ => ({} : Ks)) ks b) he
    rw [hsame, Dev.kset_setKset]
  have hthr (e : Dev) (b : Nat) : (e.thrDone b false).ks = e.ks ∧ (e.thrDone b false).tbl = e.tbl ∧ (e.thrDone b false).fc = e.fc := by
    unfold Dev.thrDone; dsimp only
    split <;> exact ⟨rfl, rfl, rfl⟩
  unfold Dev.endInternal Dev.internalFailed; dsimp only
  split
  · split
    · exact ⟨hint _ rfl, rfl, rfl⟩
    · obtain ⟨hks, htbl, hfc⟩ := hthr (d.setKset b { d.kset b with int := {}, intReq := none }) b
      exact ⟨hint _ hks, htbl, congrArg Fc.sigs hfc⟩
    · exact ⟨hint _ rfl, rfl, rfl⟩
  · exact ⟨hint _ rfl, rfl, rfl⟩

/-- The time-out source is signalled (R291). -/
theorem Dev.mem_signal (d : Dev) (source unit : Nat) : ∃ g ∈ (d.signal source unit).fc.sigs, g.source = source ∧ g.stamp = d.tb :=
  ⟨_, List.mem_append_right _ List.mem_cons_self, rfl, rfl⟩

theorem Dev.prepareTimeout_frame (slot : Slot) : ((d.prepareTimeout slot).slotOf slot).st = .idle ∧ (d.prepareTimeout slot).tbl = d.tbl ∧
    ∃ g ∈ (d.prepareTimeout slot).fc.sigs, g.source = srcKsTimeout ∧ g.stamp = d.tb := by
  obtain ⟨g, hg, hsource⟩ := d.mem_signal srcKsTimeout 0xFF
  have htbl : (d.signal srcKsTimeout 0xFF).tbl = d.tbl := rfl
  unfold Dev.prepareTimeout Dev.slotOf; dsimp only
  cases slot with
  | host b =>
    exact ⟨congrArg (fun k : Ks => k.host.st) (Dev.refuseHost_kset _ _ _), Dev.tbl_of_work (Dev.refuseHost_work _ _ _), g,
      Dev.refuseHost_sigs _ _ _ hg, hsource⟩
  | internal b =>
    obtain ⟨hint, htbl', hsigs⟩ := (d.signal srcKsTimeout 0xFF).endInternal_frame b
    exact ⟨congrArg KSlot.st hint, htbl'.trans htbl, g, hsigs ▸ hg, hsource⟩
  | device =>
    exact ⟨congrArg (fun k : Ks => k.host.st) (Dev.refuseHost_kset _ _ _), Dev.tbl_of_work (Dev.refuseHost_work _ _ _), g,
      Dev.refuseHost_sigs _ _ _ hg, hsource⟩

/-! ## The commands -/

theorem exec_commitArmed (slot : Slot) (s : State) :
    exec (.commitArmed slot) s = s.onDev (fun d => d.bayModes && (d.slotOf slot).st == .preparing) fun d => d.arm slot := rfl

theorem exec_prepareTimeout (slot : Slot) (s : State) :
    exec (.prepareTimeout slot) s = s.onDev (fun d => d.prepLate slot) fun d => d.prepareTimeout slot := rfl

theorem exec_commitArmed_of {slot : Slot} {s : State} {e : Dev} (hmodes : s.dev.bayModes = true) (hst : (s.dev.slotOf slot).st = .preparing)
    (he : s.dev.arm slot = e) : exec (.commitArmed slot) s = .next { s with dev := e } :=
  (exec_commitArmed slot s).trans (State.onDev_of (by simp [hmodes, hst]) he)

/-- A target register of a bay is no setting of a port. -/
theorem setting_not_target {r : RegName} (hr : r = .SC_LEVELS ∨ r = .WV_CTL) (b : Fin 4) (xx : Fin 32) :
    r.off xx 0 ≠ RegName.off .KS_TGTLO b 0 ∧ r.off xx 0 ≠ RegName.off .KS_TGTHI b 0 := by
  obtain rfl | rfl := hr <;> simp only [RegName.off, RegName.info] <;> omega

/-- A setting of a port after a commit with NOW, from before it was ARMED. -/
theorem Dev.armedNow_reg {r : RegName} (hr : r = .SC_LEVELS ∨ r = .WV_CTL) (b : Fin 4) (xx : Fin 32) :
    ((d.armDone b).applyNow b).reg r xx = (d.withFields (d.kset b).pending).reg r xx := by
  have hstat : ¬ statusOff (r.off xx 0) := by obtain rfl | rfl := hr <;> exact setting_not_status (by decide) xx.isLt
  obtain ⟨hlo, hhi⟩ := setting_not_target hr b xx
  unfold Dev.reg
  rw [Dev.applyNow_word b hstat, Dev.armDone_kset]
  exact Dev.word_withFields_congr _ (Dev.armDone_word hlo hhi fun hrep => hstat (.inl hrep))

/-- Settles O24: each kind of commit arms or applies in its own way; the frame of its work is shared. -/
theorem commitArms : Obligations.CommitArms := by
  unfold Obligations.CommitArms
  refine ⟨?_, ?_, ?_, ?_, ?_⟩
  · intro b s hmodes hst hnow
    by_cases hreach : (s.dev.kset b).host.cmd.next = true ∨ s.dev.reachBad b (s.dev.kset b).host.cmd.target = none
    · have hexec := exec_commitArmed_of (slot := .host b) hmodes hst (Dev.armHost_of_reached hnow hreach)
      have hwork := s.dev.armDone_work b
      have hkset := s.dev.armDone_kset b
      have hpend : ((s.dev.armDone b).kset b).pending = (s.dev.kset b).pending := by rw [hkset]
      refine ⟨_, hexec, rfl, Dev.bays_of_work hwork, Dev.tbl_of_work hwork, ?_, ?_, ?_, ?_⟩
      · intro hnext
        refine ⟨congrArg (fun k : Ks => k.host.st) hkset, (congrArg (fun k : Ks => k.host.target) hkset).trans ?_, hpend⟩
        simp [Dev.armTarget, hnext]
      · intro hnext _
        refine ⟨congrArg (fun k : Ks => k.host.st) hkset, (congrArg (fun k : Ks => k.host.target) hkset).trans ?_⟩
        simp [Dev.armTarget, hnext, hnow]
      · intro _ h horigin
        refine ⟨s.dev.armed b (s.dev.armTarget b), ?_⟩
        have htarget := congrArg (fun k : Ks => k.host.target) hkset
        dsimp only at htarget ⊢
        rw [htarget]
        unfold Dev.armDone
        rw [horigin, hnow]
        unfold Dev.armGen
        rw [Dev.armed_kset]
        rfl
      · intro hnext hbad
        obtain h | h := hreach
        · simp [hnext] at h
        · exact absurd h hbad
    · obtain ⟨hnext, hbad⟩ := not_or.mp hreach
      obtain ⟨r, hr⟩ := Option.ne_none_iff_exists'.mp hbad
      have hexec := exec_commitArmed_of (slot := .host b) hmodes hst (Dev.armHost_of_unreached hnow (by simpa using hnext) hr)
      have hwork := s.dev.refuseHost_work b r.code noField
      have hkset := s.dev.refuseHost_kset b r.code noField
      exact ⟨_, hexec, rfl, Dev.bays_of_work hwork, Dev.tbl_of_work hwork, fun h => absurd h hnext, fun _ h => absurd h hbad,
        fun h => absurd h hreach, fun _ _ => ⟨congrArg (fun k : Ks => k.host.st) hkset, congrArg Ks.pending hkset⟩⟩
  · intro b s hmodes hst hnow
    have hexec := exec_commitArmed_of (slot := .host b) hmodes hst (Dev.armHost_of_now hnow)
    obtain ⟨hhost, hpend, hgen, hcc⟩ := (s.dev.armDone b).applyNow_done b
    have hbays := Dev.bays_of_work (s.dev.armDone_work b)
    have hbay : (s.dev.armDone b).bay b = s.dev.bay b := by unfold Dev.bay; rw [hbays]
    rw [hbay] at hgen hcc
    exact ⟨_, hexec, rfl, congrArg KSlot.st hhost, hpend, hgen, hcc,
      fun xx => ⟨Dev.armedNow_reg (.inl rfl) b xx, Dev.armedNow_reg (.inr rfl) b xx⟩⟩
  · intro b s hmodes hst
    have hexec := exec_commitArmed_of (slot := .internal b) hmodes hst rfl
    obtain ⟨hkset, htbl⟩ := s.dev.armInternal_kset b
    have hreq : ((s.dev.armInternal b).kset b).intReq = (s.dev.kset b).intReq := by rw [hkset]
    exact ⟨_, hexec, rfl, congrArg (fun k : Ks => k.int.st) hkset, congrArg (fun k : Ks => k.int.target) hkset, hreq, htbl⟩
  · intro s hmodes hst
    have hexec := exec_commitArmed_of (slot := .device) hmodes hst rfl
    obtain ⟨hhost, hpend, hgen⟩ := s.dev.armDevice_done
    have hword (r : RegName) (hr : r = .TM_THR0 ∨ r = .TM_THR1) (c : Fin 74) :
        s.dev.armDevice.reg r c = (s.dev.withFields (s.dev.kset 4).pending).reg r c := by
      refine Dev.armDevice_word ?_ ?_
      · obtain rfl | rfl := hr <;> exact setting_not_status (by decide) c.isLt
      · obtain rfl | rfl := hr <;> simp only [RegName.off, RegName.info] <;> omega
    exact ⟨_, hexec, rfl, congrArg KSlot.st hhost, hpend, hgen, fun c => ⟨hword .TM_THR0 (.inl rfl) c, hword .TM_THR1 (.inr rfl) c⟩,
      fun i => s.dev.armDevice_fcSrc i⟩
  · intro slot s hlate
    have hexec := (exec_prepareTimeout slot s).trans (State.onDev_of hlate rfl)
    obtain ⟨hidle, htbl, hsig⟩ := s.dev.prepareTimeout_frame slot
    refine ⟨_, hexec, rfl, hidle, hsig, htbl, ?_⟩
    rintro b rfl
    exact ⟨(Dev.refuseHost_shown b.isLt .prepareTimeout noField).1, congrArg Ks.pending (Dev.refuseHost_kset b _ _)⟩

end Sys2Proof.Machine
end

section
/-! PROOFS. A write of one word, whichever way it comes: it is the write of the bus and its answer (R50, R52, R389). -/

namespace Sys2Proof.Machine

variable {d e f : Dev} {w : Writer}

/-- Reporting, beside which the indices that a host writes stand: the tails of the command rings, the heads of the event rings. -/
structure Dev.Indices (d e : Dev) : Prop where
  reported : d.Reported e
  tails : ∀ k q, ((e.seat k).cmdq q).tail = ((d.seat k).cmdq q).tail
  heads : ∀ k q, ((e.seat k).evq q).head = ((d.seat k).evq q).head

theorem Dev.Indices.refl (d : Dev) : d.Indices d := ⟨.refl d, fun _ _ => rfl, fun _ _ => rfl⟩

theorem Dev.Indices.trans (h : d.Indices e) (k : e.Indices f) : d.Indices f :=
  ⟨h.reported.trans k.reported, fun s q => (k.tails s q).trans (h.tails s q), fun s q => (k.heads s q).trans (h.heads s q)⟩

theorem Dev.Told.indices (h : d.Told e) (hrep : d.Reported e) : d.Indices e :=
  ⟨hrep, fun k q => congrArg CmdQ.tail (h.seats.cmdq k q), h.heads⟩

/-- A command queue of the same tail. -/
theorem Dev.indices_setCmdq (d : Dev) (s : Nat) {q : Nat} {c : CmdQ} (h : c.tail = ((d.seat s).cmdq q).tail) :
    d.Indices (d.setSeat s ((d.seat s).setCmdq q c)) := by
  refine ⟨d.reported_setSeat _ _, fun k p => ?_, fun k p => ?_⟩
  · by_cases hk : k = s
    · rw [hk, d.seat_setSeat]
      by_cases hp : p = q
      · rw [hp, Seat.cmdq_setCmdq, h]
      · rw [Seat.cmdq_setCmdq_other _ _ hp]
    · rw [d.seat_setSeat_other _ hk]
  · by_cases hk : k = s
    · rw [hk, d.seat_setSeat]; rfl
    · rw [d.seat_setSeat_other _ hk]

theorem Dev.indices_complete (d : Dev) (h : CmdHdr) (op : Nat) (st : Status) (p : List Byte) : d.Indices (d.complete h op st p) := by
  have hsent (e : Dev) : e.Indices (e.completeAs h op st p) := (e.told_completeAs h op st p).indices (e.reported_completeAs h op st p)
  cases hsrc : h.src with
  | console => rw [d.complete_of_console hsrc]; exact hsent d
  | seat k =>
    rw [d.complete_of_seat hsrc]
    refine (d.indices_setCmdq k (q := h.q) ?_).trans (hsent _)
    rfl

/-- A status that is counted. -/
theorem Dev.indices_noteStatus (d : Dev) {s : Nat} (hs : s < 4) (queue : Nat) (st sent : Status) : d.Indices (d.noteStatus s queue st sent) :=
  (Dev.told_of_same (d.seats_noteStatus _ _ _ _) (d.fc_noteStatus _ _ _ _)).indices (d.reported_noteStatus _ _ _ _ hs)

theorem Dev.indices_noteMode (d : Dev) {s : Nat} (hs : s < 4) (st : Status) : d.Indices (d.noteMode s st) := by
  unfold Dev.noteMode
  split
  · exact (d.told_bump .HS_ERRCNT_REFUSED s 0 1).indices (d.reported_bump .HS_ERRCNT_REFUSED s 0 1 (report_offs s hs).2.1)
  · exact .refl d

theorem Dev.indices_noteFrameMode (d : Dev) (h : CmdHdr) (st : Status) : d.Indices (d.noteFrameMode h st) := by
  unfold Dev.noteFrameMode
  split
  · exact d.indices_noteMode (Fin.isLt _) st
  · exact .refl d

theorem Dev.indices_seatEvent (d : Dev) (s q code d0 d1 : Nat) : d.Indices (d.seatEvent s q code d0 d1) := by
  unfold Dev.seatEvent
  split
  · exact (d.told_bayEvent _ _ _ _ _ _).indices (d.reported_bayEvent _ _ _ _ _ _)
  · exact (d.told_devEvent _ _ _ _ _ _).indices (d.reported_devEvent _ _ _ _ _ _)

theorem Dev.indices_mmioRefused (d : Dev) {fn : Nat} (hfn : fn < 4) (off : Nat) (st : Status) : d.Indices (d.mmioRefused fn off st) :=
  ((d.indices_noteStatus hfn _ _ _).trans (Dev.indices_noteMode _ hfn _)).trans (Dev.indices_seatEvent _ _ _ _ _ _)

/-! ## The way of a write -/

theorem Dev.endWatch_eq (d : Dev) : ∃ con out, d.endWatch = { d with con := con, out := out } := by
  unfold Dev.endWatch
  split
  · exact ⟨_, _, rfl⟩
  · exact ⟨d.con, d.out, rfl⟩

/-- The device as a write finds it differs in the seat that took its frame, or in a watch that ended. -/
theorem Dev.atWrite_eq {o : Nat} (hopen : d.opens w o = true) : ∃ seats con out, d.atWrite w = { d with seats := seats, con := con, out := out } := by
  cases w with
  | mmio fn => exact ⟨d.seats, d.con, d.out, rfl⟩
  | frame h =>
    obtain ⟨seats, heq⟩ := Dev.heard_eq hopen
    exact ⟨seats, d.con, d.out, heq⟩
  | console =>
    obtain ⟨con, out, heq⟩ := d.endWatch_eq
    exact ⟨d.seats, con, out, heq⟩

theorem Dev.indices_atWrite {o : Nat} (hopen : d.opens w o = true) : d.Indices (d.atWrite w) := by
  cases w with
  | mmio fn => exact .refl d
  | frame h =>
    have heard : d.admits h 0x0002 false = true := hopen
    unfold Dev.atWrite; dsimp only
    cases hsrc : h.src with
    | console => rw [Dev.heard_of_console hsrc]; exact .refl d
    | seat k =>
      rw [Dev.heard_of_seat heard hsrc]
      refine d.indices_setCmdq k (q := h.q) ?_
      rfl
  | console =>
    unfold Dev.atWrite Dev.endWatch; dsimp only
    split
    · exact ⟨⟨rfl, fun _ _ => rfl⟩, fun _ _ => rfl, fun _ _ => rfl⟩
    · exact .refl d

/-- A write reaches the bus of a device that runs. -/
theorem Dev.running_of_opens {o : Nat} (hopen : d.opens w o = true) : d.running = true := by
  cases w with
  | mmio fn =>
    simp only [Dev.opens, Bool.and_eq_true, and_assoc] at hopen
    obtain ⟨hrun, -⟩ := hopen
    exact hrun
  | frame h =>
    have hadm : d.admits h 0x0002 false = true := hopen
    obtain ⟨seats, heq⟩ := Dev.heard_eq hadm
    have hstop := (Dev.admits_iff.mp hadm).2.2
    have hrun : (d.heard h 0x0002).running = d.running := by rw [heq]; rfl
    unfold Dev.stops at hstop
    rw [hrun] at hstop
    by_contra hnot
    simp [Bool.eq_false_iff.mpr hnot] at hstop
  | console =>
    simp only [Dev.opens, Bool.and_eq_true, and_assoc] at hopen
    obtain ⟨-, hrun, -⟩ := hopen
    exact hrun

/-- The answer to a write. -/
def Dev.answered (d : Dev) (w : Writer) (o : Nat) (st : Status) : Dev :=
  match w with
  | .mmio fn => if st = .ok then d else d.mmioRefused fn (refusedOff o) st
  | .frame h => (d.noteFrameMode h st).complete h 0x0002 st (le 4 (if st = .ok then 1 else 0))
  | .console => d.sayStatus st

theorem Dev.indices_answered (d : Dev) (w : Writer) (o : Nat) (st : Status) : d.Indices (d.answered w o st) := by
  cases w with
  | mmio fn =>
    unfold Dev.answered; dsimp only
    split
    · exact .refl d
    · exact d.indices_mmioRefused (by omega) _ _
  | frame h => exact (d.indices_noteFrameMode h st).trans (Dev.indices_complete _ _ _ _ _)
  | console => exact (d.told_emit _).indices (d.reported_emit _)

/-- A write that reaches the bus is the write of the bus, and its answer. -/
theorem writeBy_of_opens {v : Nv} {o : Nat} {x : Word} {e : Dev} {v' : Nv} {st : Status} (hopen : d.opens w o = true)
    (hbus : busWrite (d.atWrite w) v (whoWrites w) o x = (e, v', st)) : writeBy d v w o x = (e.answered w o st, v') := by
  cases w with
  | mmio fn =>
    simp only [Dev.opens, Bool.and_eq_true, Bool.not_eq_true', beq_iff_eq] at hopen
    obtain ⟨⟨⟨hrun, hmmio⟩, hmsix⟩, haligned⟩ := hopen
    have hmmio' : d.mmioOpen (pcieSeat fn).val = true := hmmio
    have hbus' : busWrite d v (.seat (pcieSeat fn)) o (BitVec.ofNat 32 x.toNat) = (e, v', st) := by rw [BitVec.ofNat_toNat, BitVec.setWidth_eq]; exact hbus
    simp only [writeBy, mmioWrite, hmmio', hmsix, hrun, haligned, hbus']
    rfl
  | frame h =>
    have hadm : d.admits h 0x0002 false = true := hopen
    have hbus' : busWrite (d.heard h 0x0002) v h.src o x = (e, v', st) := hbus
    have hall : writeAll (d.heard h 0x0002) v h.src [(o, x)] 0 = (e, v', (if st = .ok then 1 else 0), st) := by
      simp only [writeAll, hbus']
      split
      · rename_i hok; rw [hok]
      · rfl
    simp only [writeBy, (Dev.admits_iff.mp hadm).1, if_true, command_of_admits hadm, wr32, hall]
    rfl
  | console =>
    simp only [Dev.opens, Bool.and_eq_true, Option.isNone_iff_eq_none, Bool.not_eq_true'] at hopen
    obtain ⟨⟨⟨⟨hhears, hrun⟩, hwait⟩, hdropped⟩, hplace⟩ := hopen
    obtain ⟨hboot, hregs, hwaits, -⟩ := d.endWatch_keeps
    have hrun' : d.endWatch.running = true := by simpa only [Dev.running, hboot] using hrun
    have hplace' : (d.endWatch.inService || (ptOffset o && d.endWatch.on .PT_CFG_BENCH)) = true := by
      simpa only [Dev.inService, Dev.running, hboot, Dev.on_congr hregs] using hplace
    have hwait' : d.endWatch.con.wait = none := hwaits.trans hwait
    have hbus' : busWrite d.endWatch v .console o x = (e, v', st) := hbus
    simp only [writeBy, console, hhears, hdropped, hrun', hwait', Dev.conModeOk, conWr, hplace', conWrite, hbus']
    rfl

/-! ## The write of a register -/

/-- The registers of SERVICE and of the perturbations that PT_ACTIVE depends on. -/
def serviceRegs : List RegName :=
  [.PT_MQDLY, .PT_CREDIT, .PT_CAMSTALL, .PT_TRIGDLY, .PT_ECC, .PT_ACTIVE, .SV_PARK, .SV_FORCE, .SV_MTEMP, .SV_PEN, .SV_PLUMB]

/-- What PT_ACTIVE shows follows the registers of SERVICE and of the perturbations (R408). -/
theorem Dev.ptActive_congr (hword : ∀ r ∈ serviceRegs, ∀ i < r.info.count1, e.word (r.off i 0) = d.word (r.off i 0)) :
    e.ptActive = d.ptActive := by
  have hany {n : Nat} {p q : Nat → Bool} (hpq : ∀ k < n, p k = q k) : (List.range n).any p = (List.range n).any q := by
    rw [Bool.eq_iff_iff, List.any_eq_true, List.any_eq_true]
    constructor
    · rintro ⟨k, hk, hp⟩; exact ⟨k, hk, by rw [← hpq k (List.mem_range.mp hk), hp]⟩
    · rintro ⟨k, hk, hq⟩; exact ⟨k, hk, by rw [hpq k (List.mem_range.mp hk), hq]⟩
  have hmq : (List.range 4).any (fun j => e.fld .PT_MQDLY_DLY j != 0) = (List.range 4).any fun j => d.fld .PT_MQDLY_DLY j != 0 :=
    hany fun j hj => by rw [Dev.fld_of_word (x := .PT_MQDLY_DLY) (hword .PT_MQDLY (by decide) j hj)]
  have hcredit : (List.range 4).any (fun j => e.reg .PT_CREDIT j != 0) = (List.range 4).any fun j => d.reg .PT_CREDIT j != 0 :=
    hany fun j hj => by rw [Dev.reg, hword .PT_CREDIT (by decide) j hj, Dev.reg]
  have htrig : (List.range 4).any (fun j => e.fld .PT_TRIGDLY_MODE j != 0) = (List.range 4).any fun j => d.fld .PT_TRIGDLY_MODE j != 0 :=
    hany fun j hj => by rw [Dev.fld_of_word (x := .PT_TRIGDLY_MODE) (hword .PT_TRIGDLY (by decide) j hj)]
  have hpark : (List.range 32).any (fun j => e.reg .SV_PARK j != 0) = (List.range 32).any fun j => d.reg .SV_PARK j != 0 :=
    hany fun j hj => by rw [Dev.reg, hword .SV_PARK (by decide) j hj, Dev.reg]
  have hforce : (List.range 4).any (fun j => e.reg .SV_FORCE j != 0) = (List.range 4).any fun j => d.reg .SV_FORCE j != 0 :=
    hany fun j hj => by rw [Dev.reg, hword .SV_FORCE (by decide) j hj, Dev.reg]
  have hone (r : RegName) (hr : r ∈ serviceRegs) (hc : r.info.count1 = 1) : e.reg r = d.reg r := hword r hr 0 (by omega)
  unfold Dev.ptActive Dev.meterOn
  rw [hmq, hcredit, htrig, hpark, hforce, Dev.fld_of_word (x := .PT_CAMSTALL_GO) (hone .PT_CAMSTALL (by decide) rfl),
    Dev.fld_of_word (x := .PT_ECC_COUNT) (hone .PT_ECC (by decide) rfl), Dev.on_of_word (x := .PT_ACTIVE_FORCED) (hone .PT_ACTIVE (by decide) rfl),
    hone .SV_MTEMP (by decide) rfl, hone .SV_PEN (by decide) rfl, hone .SV_PLUMB (by decide) rfl]

/-- A register of its own offset, outside the tables, that acts at these indices and has a field that can be written. -/
structure Writable (r : RegName) (i j : Nat) : Prop where
  aligned : r.off i j % 4 = 0
  win : winAt (r.off i j) = none
  decoded : decodeOff (r.off i j) = some (r, i, j)
  acts : r.actsOn i = true
  field : r.rows.any (·.writable i) = true

/-- The register with its fields stored, and what follows. -/
def Dev.stored (d : Dev) (v : Nv) (r : RegName) (i j : Nat) (x : Word) : Dev × Nv :=
  (r.rows.foldl (fun d y => d.storeField i j x y) d).writeEffect d v r i j x

/-- A write that may reach its register is refused by the register's own rule, or stored. -/
theorem busWrite_of_mayWrite {r : RegName} {i j : Nat} {x : Word} (v : Nv) (hmay : d.mayWrite w r i j x = true) (hr : Writable r i j) :
    busWrite (d.atWrite w) v (whoWrites w) (r.off i j) x = match (d.atWrite w).ruleRefuses r i j x with
      | some st => (d.atWrite w, v, st)
      | none => (((d.atWrite w).stored v r i j x).1.ptNote (d.atWrite w).ptActive, ((d.atWrite w).stored v r i j x).2, .ok) := by
  unfold Dev.mayWrite at hmay
  simp only [Bool.and_eq_true, Option.isNone_iff_eq_none, Bool.not_eq_true'] at hmay
  obtain ⟨⟨⟨⟨⟨⟨hopen, hserv⟩, hdenied⟩, hsv⟩, hst⟩, hfrozen⟩, houtside⟩ := hmay
  obtain ⟨seats, con, out, heq⟩ := Dev.atWrite_eq hopen
  have hruns := Dev.running_of_opens hopen
  have hrun : (d.atWrite w).running = true := by rw [heq]; exact hruns
  have hserv' : ((d.atWrite w).inService && whoWrites w != .console) = false := by
    rw [heq]
    change (d.inService && whoWrites w != .console) = false
    obtain h | h := Bool.or_eq_true_iff.mp hserv
    · simp only [Bool.not_eq_true'] at h; rw [h]; rfl
    · rw [beq_iff_eq.mp h]; simp
  have hdenied' : (d.atWrite w).regDenied (whoWrites w) r i true = none := by rw [heq]; exact hdenied
  have hrefuses : (d.atWrite w).writeRefuses (whoWrites w) r i j x = (d.atWrite w).ruleRefuses r i j x := by
    have hfrozen' : (d.atWrite w).frozenHit r i j x = false := by rw [heq]; exact hfrozen
    have hsv' : (r.rows.any (fun y => y.acc == .sv) && !(d.atWrite w).svOpen (whoWrites w) r) = false := by
      rw [heq]
      change (r.rows.any (fun y => y.acc == .sv) && !d.svOpen (whoWrites w) r) = false
      obtain h | h := Bool.or_eq_true_iff.mp hsv
      · have hno : r.rows.any (fun y => y.acc == .sv) = false := by
          simpa [List.any_eq_false, List.all_eq_true] using h
        rw [hno]; rfl
      · rw [h]; simp
    have hst' : (r.rows.any (fun y => y.acc == .st) && ((d.atWrite w).regBay r i).isNone && r.info.owner != .dev) = false := by
      rw [heq]
      change (r.rows.any (fun y => y.acc == .st) && (d.regBay r i).isNone && r.info.owner != .dev) = false
      obtain h | h := Bool.or_eq_true_iff.mp hst
      · obtain h | h := Bool.or_eq_true_iff.mp h
        · have hno : r.rows.any (fun y => y.acc == .st) = false := by
            simpa [List.any_eq_false, List.all_eq_true] using h
          rw [hno]; rfl
        · have hsome : (d.regBay r i).isNone = false := by simpa using h
          rw [hsome]; simp
      · rw [beq_iff_eq.mp h]; simp
    unfold Dev.writeRefuses; dsimp only
    simp only [hr.field, hsv', hst', hfrozen', houtside, Bool.not_true, Bool.false_eq_true, if_false, Bool.or_self]
  unfold busWrite
  simp only [hr.aligned, hrun, hserv', hr.win, hr.decoded, Bool.not_true, Bool.false_eq_true, if_false, bne_self_eq_false]
  unfold writeReg
  simp only [hdenied', hr.acts, hrefuses, Bool.not_true, Bool.false_eq_true, if_false]
  rfl

end Sys2Proof.Machine
end

section
/-! PROOFS. Doorbells and ring sizes (R53, R54, R81, R87). -/

namespace Sys2Proof.Machine

variable {d e : Dev} {w : Writer} {s : State} {r : RegName} {i j : Nat} {x : Word}

/-! ## A write that is refused, and one that is stored -/

theorem Dev.opens_of_mayWrite (hmay : d.mayWrite w r i j x = true) : d.opens w (r.off i j) = true := by
  unfold Dev.mayWrite at hmay
  simp only [Bool.and_eq_true, and_assoc] at hmay
  obtain ⟨hopen, -⟩ := hmay
  exact hopen

theorem Dev.atWrite_regs {o : Nat} (hopen : d.opens w o = true) : (d.atWrite w).regs = d.regs := by
  obtain ⟨seats, con, out, heq⟩ := Dev.atWrite_eq hopen
  rw [heq]

/-- A write that the register's rule refuses is answered so. -/
theorem State.write_of_refused {st : Status} (hmay : s.dev.mayWrite w r i j x = true) (hr : Writable r i j)
    (hrule : (s.dev.atWrite w).ruleRefuses r i j x = some st) :
    s.onMach anytime (fun d v => writeBy d v w (r.off i j) x) = .next { s with dev := (s.dev.atWrite w).answered w (r.off i j) st } := by
  refine State.onMach_of (m := ((s.dev.atWrite w).answered w (r.off i j) st, s.nv)) rfl (writeBy_of_opens (Dev.opens_of_mayWrite hmay) ?_)
  rw [busWrite_of_mayWrite s.nv hmay hr, hrule]

/-- Any other is stored, and answered so; where no perturbation depends on it nothing else is told. -/
theorem State.write_of_stored (hmay : s.dev.mayWrite w r i j x = true) (hr : Writable r i j)
    (hrule : (s.dev.atWrite w).ruleRefuses r i j x = none) (hstored : (s.dev.atWrite w).stored s.nv r i j x = (e, s.nv))
    (hpt : e.ptActive = (s.dev.atWrite w).ptActive) :
    s.onMach anytime (fun d v => writeBy d v w (r.off i j) x) = .next { s with dev := e.answered w (r.off i j) .ok } := by
  refine State.onMach_of (m := (e.answered w (r.off i j) .ok, s.nv)) rfl (writeBy_of_opens (Dev.opens_of_mayWrite hmay) ?_)
  rw [busWrite_of_mayWrite s.nv hmay hr, hrule, hstored]
  dsimp only
  rw [Dev.ptNote, if_pos hpt]

theorem Dev.answered_mmio (d : Dev) (fn : Fin 2) (o : Nat) : d.answered (.mmio fn) o .ok = d := rfl

theorem Dev.ptActive_of_regs (h : e.regs = d.regs) : e.ptActive = d.ptActive := Dev.ptActive_congr fun _ _ _ _ => Dev.word_congr h _

/-! ## The registers of the rings -/

theorem writable_cqTail (fn : Fin 2) (q : Fin 4) : Writable .HS_CQTAIL fn q :=
  ⟨by revert fn q; decide, by revert fn q; decide, by revert fn q; decide, by revert fn q; decide, rfl⟩
theorem writable_eqHead (fn : Fin 2) (q : Fin 4) : Writable .HS_EQHEAD fn q :=
  ⟨by revert fn q; decide, by revert fn q; decide, by revert fn q; decide, by revert fn q; decide, rfl⟩
theorem writable_fqTail (xx : Fin 32) : Writable .RI_FQTAIL xx 0 :=
  ⟨by revert xx; decide, by revert xx; decide, by revert xx; decide, rfl, rfl⟩
theorem writable_cqSize (fn : Fin 2) (q : Fin 4) : Writable .HS_CQSIZE fn q :=
  ⟨by revert fn q; decide, by revert fn q; decide, by revert fn q; decide, by revert fn q; decide, rfl⟩
theorem writable_eqSize (fn : Fin 2) (q : Fin 4) : Writable .HS_EQSIZE fn q :=
  ⟨by revert fn q; decide, by revert fn q; decide, by revert fn q; decide, by revert fn q; decide, rfl⟩

/-! ## Indices -/

theorem Dev.stored_cqTail (d : Dev) (v : Nv) (i j : Nat) (x : Word) : d.stored v .HS_CQTAIL i j x =
    (d.setSeat i ((d.seat i).setCmdq j { (d.seat i).cmdq j with tail := wget x 0 12 }), v) := rfl

theorem Dev.stored_eqHead (d : Dev) (v : Nv) (i j : Nat) (x : Word) : d.stored v .HS_EQHEAD i j x =
    (d.setSeat i ((d.seat i).setEvq j { (d.seat i).evq j with head := wget x 0 12 }), v) := rfl

theorem Dev.stored_fqTail (d : Dev) (v : Nv) (i j : Nat) (x : Word) : d.stored v .RI_FQTAIL i j x =
    (d.setItk i { d.itk i with fq := { (d.itk i).fq with tail := wget x 0 12 } }, v) := rfl

/-- An index outside its ring is refused (R53, R87). -/
theorem Dev.ruleRefuses_index (d : Dev) (i j : Nat) (x : Word) :
    (d.ruleRefuses .HS_CQTAIL i j x = if decide (2 ^ d.fld .HS_CQSIZE_LOG2 i j ≤ wget x 0 12) = true then some .refusedAccess else none) ∧
    (d.ruleRefuses .HS_EQHEAD i j x = if decide (2 ^ d.fld .HS_EQSIZE_LOG2 i j ≤ wget x 0 12) = true then some .refusedAccess else none) ∧
    (d.ruleRefuses .RI_FQTAIL i j x = if decide (2 ^ d.fld .RI_FQSIZE_LOG2 i j ≤ wget x 0 12) = true then some .refusedAccess else none) :=
  ⟨rfl, rfl, rfl⟩

/-- A command ring whose tail moves is ready where it is no longer empty (R53). -/
theorem Dev.ringReady_setTail (d : Dev) {fn q n : Nat} (hn : n < 2 ^ d.fld .HS_CQSIZE_LOG2 fn q) :
    (d.setSeat fn ((d.seat fn).setCmdq q { (d.seat fn).cmdq q with tail := n })).ringReady fn q = (d.serves fn && d.on .HS_CQSIZE_EN fn q &&
      ((d.seat fn).cmdq q).head % 2 ^ d.fld .HS_CQSIZE_LOG2 fn q != n && d.eqRoom fn q && !d.blocked fn q) := by
  have hserves : (d.setSeat fn ((d.seat fn).setCmdq q { (d.seat fn).cmdq q with tail := n })).serves fn = d.serves fn := by
    unfold Dev.serves; rw [Dev.seat_setSeat]; rfl
  have hroom : (d.setSeat fn ((d.seat fn).setCmdq q { (d.seat fn).cmdq q with tail := n })).eqRoom fn q = d.eqRoom fn q := by
    unfold Dev.eqRoom; rw [Dev.seat_setSeat]; rfl
  unfold Dev.ringReady
  rw [hserves, hroom, Dev.seat_setSeat, Seat.cmdq_setCmdq]
  dsimp only
  have hmod : n % 2 ^ (d.setSeat fn ((d.seat fn).setCmdq q { (d.seat fn).cmdq q with tail := n })).fld .HS_CQSIZE_LOG2 fn q = n := Nat.mod_eq_of_lt hn
  rw [hmod]
  rfl

/-- An event ring whose head moves has the room up to it (R54). -/
theorem Dev.eqRoom_setHead (d : Dev) {fn q n : Nat} (hn : n < 2 ^ d.fld .HS_EQSIZE_LOG2 fn q) :
    (d.setSeat fn ((d.seat fn).setEvq q { (d.seat fn).evq q with head := n })).eqRoom fn q = (d.on .HS_EQSIZE_EN fn q &&
      (((d.seat fn).evq q).tail + 1) % 2 ^ d.fld .HS_EQSIZE_LOG2 fn q != n) := by
  unfold Dev.eqRoom
  rw [Dev.seat_setSeat, Seat.evq_setEvq]
  dsimp only
  have hmod : n % 2 ^ (d.setSeat fn ((d.seat fn).setEvq q { (d.seat fn).evq q with head := n })).fld .HS_EQSIZE_LOG2 fn q = n := Nat.mod_eq_of_lt hn
  rw [hmod]
  rfl

/-- A feed ring whose tail moves may be read where it has a descriptor (R88). -/
theorem Dev.feedReady_setTail (d : Dev) (fn : Nat) {xx n : Nat} (hn : n < 2 ^ d.fld .RI_FQSIZE_LOG2 xx) :
    (d.setItk xx { d.itk xx with fq := { (d.itk xx).fq with tail := n } }).feedReady fn xx = (d.serves fn && d.portBay xx == some fn &&
      !d.ringReady fn 0 && d.on .RI_FQSIZE_EN xx && (d.itk xx).fq.head % 2 ^ d.fld .RI_FQSIZE_LOG2 xx != n && !d.on .PT_CREDIT_FEED fn &&
      (d.itk xx).frames.isEmpty) := by
  unfold Dev.feedReady
  rw [Dev.itk_setItk]
  dsimp only
  have hmod : n % 2 ^ (d.setItk xx { d.itk xx with fq := { (d.itk xx).fq with tail := n } }).fld .RI_FQSIZE_LOG2 xx = n := Nat.mod_eq_of_lt hn
  rw [hmod]
  rfl

theorem Dev.Reported.itk (h : d.Reported e) (xx : Nat) : e.itk xx = d.itk xx := by
  have hq := congrArg Dev.intake h.1
  have hintake : e.intake = d.intake := hq
  unfold Dev.itk; rw [hintake]

/-! ## Sizes -/

/-- LOG2 and EN of a ring, stored. -/
def Dev.sized (d : Dev) (log2 en : Fld) (i j : Nat) (x : Word) : Dev := (d.setFld log2 i j (wget x 0 4)).setFld en i j (wget x 31 1)

theorem Dev.stored_cqSize (d : Dev) (v : Nv) (i j : Nat) (x : Word) : d.stored v .HS_CQSIZE i j x =
    ((d.sized .HS_CQSIZE_LOG2 .HS_CQSIZE_EN i j x).ringStopped d .HS_CQSIZE i j, v) := rfl

theorem Dev.stored_eqSize (d : Dev) (v : Nv) (i j : Nat) (x : Word) : d.stored v .HS_EQSIZE i j x =
    ((d.sized .HS_EQSIZE_LOG2 .HS_EQSIZE_EN i j x).ringStopped d .HS_EQSIZE i j, v) := rfl

/-- A ring that runs keeps its size (R53). -/
theorem Dev.ruleRefuses_size (d : Dev) (i j : Nat) (x : Word) :
    (d.ruleRefuses .HS_CQSIZE i j x =
      if (d.on .HS_CQSIZE_EN i j && wget x 0 4 != d.fld .HS_CQSIZE_LOG2 i j) = true then some .refusedAccess else none) ∧
    (d.ruleRefuses .HS_EQSIZE i j x =
      if (d.on .HS_EQSIZE_EN i j && wget x 0 4 != d.fld .HS_EQSIZE_LOG2 i j) = true then some .refusedAccess else none) := ⟨rfl, rfl⟩

/-- The two fields of the size register of a ring. -/
structure SizeFlds (log2 en : Fld) : Prop where
  reg : en.reg = log2.reg
  log2 : log2.lo = 0 ∧ log2.width = 4
  en : en.lo = 31 ∧ en.width = 1

theorem Dev.sized_fields {log2 en : Fld} (hf : SizeFlds log2 en) : (d.sized log2 en i j x).fld en i j = wget x 31 1 ∧
    (d.sized log2 en i j x).fld log2 i j = wget x 0 4 := by
  obtain ⟨hreg, ⟨hlo, hwidth⟩, hlo', hwidth'⟩ := hf
  unfold Dev.sized
  constructor
  · rw [Dev.fld_setFld _ en i j _ (by omega), hwidth']
    exact Nat.mod_eq_of_lt (wget_lt x 31 1)
  · rw [Dev.fld_setFld_beside _ en log2 i j _ hreg.symm (by omega) (by omega) (by omega), Dev.fld_setFld _ log2 i j _ (by omega), hwidth]
    exact Nat.mod_eq_of_lt (wget_lt x 0 4)

theorem Dev.sized_word {log2 en : Fld} (hf : SizeFlds log2 en) {o : Nat} (ho : o ≠ log2.reg.off i j) : (d.sized log2 en i j x).word o = d.word o := by
  unfold Dev.sized
  rw [Dev.word_setFld_other _ en i j _ (by rw [hf.reg]; exact ho), Dev.word_setFld_other _ log2 i j _ ho]

/-- A register of a ring lies above those of SERVICE. -/
theorem serviceRegs_below {r : RegName} (hr : r ∈ serviceRegs) {k : Nat} (hk : k < r.info.count1) : r.off k 0 < 0xC0000 := by
  simp only [serviceRegs, List.mem_cons, List.not_mem_nil, or_false] at hr
  obtain rfl | rfl | rfl | rfl | rfl | rfl | rfl | rfl | rfl | rfl | rfl := hr <;> simp only [RegName.off, RegName.info] at hk ⊢ <;> omega

theorem Dev.sized_ptActive {log2 en : Fld} (hf : SizeFlds log2 en) (habove : 0xC0000 ≤ log2.reg.off i j) :
    (d.sized log2 en i j x).ptActive = d.ptActive :=
  Dev.ptActive_congr fun _ hr _ hk => Dev.sized_word hf (Nat.ne_of_lt (Nat.lt_of_lt_of_le (serviceRegs_below hr hk) habove))

/-- Whether EN has gone to 0. -/
theorem Dev.on_eq_not (f : Fld) (i j : Nat) (hw : f.width = 1) : (!d.on f i j) = decide (d.fld f i j = 0) := by
  have hlt : d.fld f i j < 2 := by have h := d.fld_lt f i j; rwa [hw] at h
  unfold Dev.on
  obtain h | h : d.fld f i j = 0 ∨ d.fld f i j = 1 := by omega
  · rw [h]; rfl
  · rw [h]; rfl

/-- A command ring that EN leaves is reset (R81); nothing else changes. -/
theorem Dev.cqStopped (before d : Dev) (i j : Nat) : d.Reported (d.ringStopped before .HS_CQSIZE i j) ∧
    (d.ringStopped before .HS_CQSIZE i j).regs = d.regs ∧ ((d.ringStopped before .HS_CQSIZE i j).seat i).cmdq j =
      if before.on .HS_CQSIZE_EN i j = true ∧ d.fld .HS_CQSIZE_EN i j = 0 then {} else (d.seat i).cmdq j := by
  unfold Dev.ringStopped; dsimp only
  rw [Dev.on_eq_not .HS_CQSIZE_EN i j rfl]
  simp only [Bool.and_eq_true, decide_eq_true_eq]
  split
  · exact ⟨d.reported_setSeat _ _, rfl, by rw [Dev.seat_setSeat, Seat.cmdq_setCmdq]⟩
  · exact ⟨.refl d, rfl, rfl⟩

/-- So is an event ring. -/
theorem Dev.eqStopped (before d : Dev) (i j : Nat) : d.Reported (d.ringStopped before .HS_EQSIZE i j) ∧
    (d.ringStopped before .HS_EQSIZE i j).regs = d.regs ∧ ((d.ringStopped before .HS_EQSIZE i j).seat i).evq j =
      if before.on .HS_EQSIZE_EN i j = true ∧ d.fld .HS_EQSIZE_EN i j = 0 then {} else (d.seat i).evq j := by
  unfold Dev.ringStopped; dsimp only
  rw [Dev.on_eq_not .HS_EQSIZE_EN i j rfl]
  simp only [Bool.and_eq_true, decide_eq_true_eq]
  split
  · exact ⟨d.reported_setSeat _ _, rfl, by rw [Dev.seat_setSeat, Seat.evq_setEvq]⟩
  · exact ⟨.refl d, rfl, rfl⟩

/-! ## The commands -/

theorem exec_cqDoorbell (w : Writer) (fn : Fin 2) (q : Fin 4) (x : Word) (s : State) :
    exec (.cqDoorbell w fn q x) s = s.onMach anytime fun d v => writeBy d v w (RegName.off .HS_CQTAIL fn q) x := rfl
theorem exec_eqHeadWrite (w : Writer) (fn : Fin 2) (q : Fin 4) (x : Word) (s : State) :
    exec (.eqHeadWrite w fn q x) s = s.onMach anytime fun d v => writeBy d v w (RegName.off .HS_EQHEAD fn q) x := rfl
theorem exec_fqDoorbell (w : Writer) (xx : Fin 32) (x : Word) (s : State) :
    exec (.fqDoorbell w xx x) s = s.onMach anytime fun d v => writeBy d v w (RegName.off .RI_FQTAIL xx 0) x := rfl
theorem exec_ringEnableWrite_cq (w : Writer) (fn : Fin 2) (q : Fin 4) (x : Word) (s : State) :
    exec (.ringEnableWrite w fn false q x) s = s.onMach anytime fun d v => writeBy d v w (RegName.off .HS_CQSIZE fn q) x := rfl
theorem exec_ringEnableWrite_eq (w : Writer) (fn : Fin 2) (q : Fin 4) (x : Word) (s : State) :
    exec (.ringEnableWrite w fn true q x) s = s.onMach anytime fun d v => writeBy d v w (RegName.off .HS_EQSIZE fn q) x := rfl

/-- What a refused index leaves: no more than reporting changes. -/
theorem Dev.indices_refused {o : Nat} (hopen : d.opens w o = true) (o' : Nat) (st : Status) : d.Indices ((d.atWrite w).answered w o' st) :=
  (Dev.indices_atWrite hopen).trans (Dev.indices_answered _ w o' st)

/-- HS_CQTAIL. -/
theorem cqDoorbell_writes (w : Writer) (fn : Fin 2) (q : Fin 4) (x : Word) (s : State) (hmay : s.dev.mayWrite w .HS_CQTAIL fn q x = true) :
    ∃ t, exec (.cqDoorbell w fn q x) s = .next t ∧ t.nv = s.nv ∧ t.dev.quiet = s.dev.quiet ∧ s.dev.regsBut [] t.dev ∧
      (2 ^ s.dev.fld .HS_CQSIZE_LOG2 fn q ≤ wget x 0 12 → ((t.dev.seat fn).cmdq q).tail = ((s.dev.seat fn).cmdq q).tail) ∧
      (wget x 0 12 < 2 ^ s.dev.fld .HS_CQSIZE_LOG2 fn q → ((t.dev.seat fn).cmdq q).tail = wget x 0 12 ∧
        ∀ f, w = .mmio f → t.dev.ringReady fn q = (s.dev.serves fn && s.dev.on .HS_CQSIZE_EN fn q &&
          ((s.dev.seat fn).cmdq q).head % 2 ^ s.dev.fld .HS_CQSIZE_LOG2 fn q != wget x 0 12 && s.dev.eqRoom fn q && !s.dev.blocked fn q)) := by
  have hopen := Dev.opens_of_mayWrite hmay
  have hfound := Dev.indices_atWrite hopen
  have hrule := ((s.dev.atWrite w).ruleRefuses_index fn q x).1
  rw [Dev.fld_congr (Dev.atWrite_regs hopen) .HS_CQSIZE_LOG2 fn q] at hrule
  by_cases hin : 2 ^ s.dev.fld .HS_CQSIZE_LOG2 fn q ≤ wget x 0 12
  · rw [if_pos (decide_eq_true hin)] at hrule
    have hexec := (exec_cqDoorbell w fn q x s).trans (State.write_of_refused hmay (writable_cqTail fn q) hrule)
    have hall := Dev.indices_refused hopen (RegName.off .HS_CQTAIL fn q) .refusedAccess
    exact ⟨_, hexec, rfl, hall.reported.1, hall.reported.regsBut, fun _ => hall.tails fn q, fun hlt => absurd hlt (by omega)⟩
  · rw [if_neg (by simpa using hin)] at hrule
    have hexec := (exec_cqDoorbell w fn q x s).trans (State.write_of_stored hmay (writable_cqTail fn q) hrule (Dev.stored_cqTail _ _ fn q x)
      (Dev.ptActive_of_regs rfl))
    have hans := Dev.indices_answered ((s.dev.atWrite w).setSeat fn (((s.dev.atWrite w).seat fn).setCmdq q
      { ((s.dev.atWrite w).seat fn).cmdq q with tail := wget x 0 12 })) w (RegName.off .HS_CQTAIL fn q) .ok
    have hrep := hfound.reported.trans ((Dev.reported_setSeat _ _ _).trans hans.reported)
    refine ⟨_, hexec, rfl, hrep.1, hrep.regsBut, fun hout => absurd hout hin, fun hlt => ⟨(hans.tails fn q).trans ?_, ?_⟩⟩
    · rw [Dev.seat_setSeat, Seat.cmdq_setCmdq]
    · rintro f rfl
      exact s.dev.ringReady_setTail hlt

/-- HS_EQHEAD. -/
theorem eqHeadWrite_writes (w : Writer) (fn : Fin 2) (q : Fin 4) (x : Word) (s : State) (hmay : s.dev.mayWrite w .HS_EQHEAD fn q x = true) :
    ∃ t, exec (.eqHeadWrite w fn q x) s = .next t ∧ t.nv = s.nv ∧ t.dev.quiet = s.dev.quiet ∧ s.dev.regsBut [] t.dev ∧
      (2 ^ s.dev.fld .HS_EQSIZE_LOG2 fn q ≤ wget x 0 12 → ((t.dev.seat fn).evq q).head = ((s.dev.seat fn).evq q).head) ∧
      (wget x 0 12 < 2 ^ s.dev.fld .HS_EQSIZE_LOG2 fn q → ((t.dev.seat fn).evq q).head = wget x 0 12 ∧
        ∀ f, w = .mmio f → t.dev.eqRoom fn q = (s.dev.on .HS_EQSIZE_EN fn q &&
          (((s.dev.seat fn).evq q).tail + 1) % 2 ^ s.dev.fld .HS_EQSIZE_LOG2 fn q != wget x 0 12)) := by
  have hopen := Dev.opens_of_mayWrite hmay
  have hfound := Dev.indices_atWrite hopen
  have hrule := ((s.dev.atWrite w).ruleRefuses_index fn q x).2.1
  rw [Dev.fld_congr (Dev.atWrite_regs hopen) .HS_EQSIZE_LOG2 fn q] at hrule
  by_cases hin : 2 ^ s.dev.fld .HS_EQSIZE_LOG2 fn q ≤ wget x 0 12
  · rw [if_pos (decide_eq_true hin)] at hrule
    have hexec := (exec_eqHeadWrite w fn q x s).trans (State.write_of_refused hmay (writable_eqHead fn q) hrule)
    have hall := Dev.indices_refused hopen (RegName.off .HS_EQHEAD fn q) .refusedAccess
    exact ⟨_, hexec, rfl, hall.reported.1, hall.reported.regsBut, fun _ => hall.heads fn q, fun hlt => absurd hlt (by omega)⟩
  · rw [if_neg (by simpa using hin)] at hrule
    have hexec := (exec_eqHeadWrite w fn q x s).trans (State.write_of_stored hmay (writable_eqHead fn q) hrule (Dev.stored_eqHead _ _ fn q x)
      (Dev.ptActive_of_regs rfl))
    have hans := Dev.indices_answered ((s.dev.atWrite w).setSeat fn (((s.dev.atWrite w).seat fn).setEvq q
      { ((s.dev.atWrite w).seat fn).evq q with head := wget x 0 12 })) w (RegName.off .HS_EQHEAD fn q) .ok
    have hrep := hfound.reported.trans ((Dev.reported_setSeat _ _ _).trans hans.reported)
    refine ⟨_, hexec, rfl, hrep.1, hrep.regsBut, fun hout => absurd hout hin, fun hlt => ⟨(hans.heads fn q).trans ?_, ?_⟩⟩
    · rw [Dev.seat_setSeat, Seat.evq_setEvq]
    · rintro f rfl
      exact s.dev.eqRoom_setHead hlt

/-- RI_FQTAIL. -/
theorem fqDoorbell_writes (w : Writer) (xx : Fin 32) (x : Word) (s : State) (hmay : s.dev.mayWrite w .RI_FQTAIL xx 0 x = true) :
    ∃ t, exec (.fqDoorbell w xx x) s = .next t ∧ t.nv = s.nv ∧ (t.dev.itk xx).slots = (s.dev.itk xx).slots ∧ s.dev.regsBut [] t.dev ∧
      t.dev.tbl = s.dev.tbl ∧ t.dev.fs = s.dev.fs ∧
      (2 ^ s.dev.fld .RI_FQSIZE_LOG2 xx ≤ wget x 0 12 → (t.dev.itk xx).fq = (s.dev.itk xx).fq) ∧
      (wget x 0 12 < 2 ^ s.dev.fld .RI_FQSIZE_LOG2 xx → (t.dev.itk xx).fq = { (s.dev.itk xx).fq with tail := wget x 0 12 } ∧
        ∀ f : Fin 2, w = .mmio f → t.dev.feedReady f xx = (s.dev.serves f && s.dev.portBay xx == some f.val && !s.dev.ringReady f 0 &&
          s.dev.on .RI_FQSIZE_EN xx && (s.dev.itk xx).fq.head % 2 ^ s.dev.fld .RI_FQSIZE_LOG2 xx != wget x 0 12 &&
          !s.dev.on .PT_CREDIT_FEED f && (s.dev.itk xx).frames.isEmpty)) := by
  have hopen := Dev.opens_of_mayWrite hmay
  have hfound := (Dev.indices_atWrite hopen).reported
  have hrule := ((s.dev.atWrite w).ruleRefuses_index xx 0 x).2.2
  rw [Dev.fld_congr (Dev.atWrite_regs hopen) .RI_FQSIZE_LOG2 xx 0] at hrule
  by_cases hin : 2 ^ s.dev.fld .RI_FQSIZE_LOG2 xx ≤ wget x 0 12
  · rw [if_pos (decide_eq_true hin)] at hrule
    have hexec := (exec_fqDoorbell w xx x s).trans (State.write_of_refused hmay (writable_fqTail xx) hrule)
    have hall := (Dev.indices_refused hopen (RegName.off .RI_FQTAIL xx 0) .refusedAccess).reported
    exact ⟨_, hexec, rfl, congrArg Intake.slots (hall.itk xx), hall.regsBut, hall.tbl, hall.fs, fun _ => congrArg Intake.fq (hall.itk xx),
      fun hlt => absurd hlt (by omega)⟩
  · rw [if_neg (by simpa using hin)] at hrule
    have hexec := (exec_fqDoorbell w xx x s).trans (State.write_of_stored hmay (writable_fqTail xx) hrule (Dev.stored_fqTail _ _ xx 0 x)
      (Dev.ptActive_of_regs rfl))
    have hans := (Dev.indices_answered ((s.dev.atWrite w).setItk xx { (s.dev.atWrite w).itk xx with
      fq := { ((s.dev.atWrite w).itk xx).fq with tail := wget x 0 12 } }) w (RegName.off .RI_FQTAIL xx 0) .ok).reported
    have hitk := (hans.itk xx).trans (Dev.itk_setItk _ xx _)
    have hfq := congrArg Intake.fq hitk
    have hslots := congrArg Intake.slots hitk
    have hfrom := hfound.itk xx
    refine ⟨_, hexec, rfl, by rw [← hfrom]; exact hslots, (hfound.regsBut.trans (Dev.regsBut_of_regs rfl)).trans hans.regsBut, hans.tbl.trans hfound.tbl, hans.fs.trans hfound.fs,
      fun hout => absurd hout hin, fun hlt => ⟨by rw [← hfrom]; exact hfq, ?_⟩⟩
    rintro f rfl
    exact s.dev.feedReady_setTail f hlt

/-- What the write of a size leaves, once its ring has stopped or not. -/
theorem Dev.sized_left {log2 en : Fld} (hf : SizeFlds log2 en) {o : Nat} (hopen : d.opens w o = true)
    (hrep : ((d.atWrite w).sized log2 en i j x).Reported e) (hnr : log2.reg.off i j ∉ reports) : e.fld en i j = wget x 31 1 ∧
    e.fld log2 i j = wget x 0 4 ∧ e.quiet = d.quiet ∧ d.regsBut [log2.reg.off i j] e := by
  obtain ⟨hen, hlog2⟩ := Dev.sized_fields (d := d.atWrite w) (i := i) (j := j) (x := x) hf
  have hfound := (Dev.indices_atWrite hopen).reported
  refine ⟨(hrep.fld en i j (by rw [hf.reg]; exact hnr)).trans hen, (hrep.fld log2 i j hnr).trans hlog2, hrep.1.trans hfound.1, fun o ho hr => ?_⟩
  rw [hrep.2 o hr, Dev.sized_word hf (by simpa using ho), hfound.2 o hr]

theorem sizeFlds_cq : SizeFlds .HS_CQSIZE_LOG2 .HS_CQSIZE_EN := ⟨rfl, ⟨rfl, rfl⟩, rfl, rfl⟩
theorem sizeFlds_eq : SizeFlds .HS_EQSIZE_LOG2 .HS_EQSIZE_EN := ⟨rfl, ⟨rfl, rfl⟩, rfl, rfl⟩

theorem size_not_report (fn : Fin 2) (q : Fin 4) : RegName.off .HS_CQSIZE fn q ∉ reports ∧ RegName.off .HS_EQSIZE fn q ∉ reports := by
  revert fn q
  decide

/-- HS_CQSIZE. -/
theorem cqSize_writes (w : Writer) (fn : Fin 2) (q : Fin 4) (x : Word) (s : State) (hmay : s.dev.mayWrite w .HS_CQSIZE fn q x = true)
    (hsame : s.dev.on .HS_CQSIZE_EN fn q = true → wget x 0 4 = s.dev.fld .HS_CQSIZE_LOG2 fn q) :
    ∃ t, exec (.ringEnableWrite w fn false q x) s = .next t ∧ t.nv = s.nv ∧ t.dev.fld .HS_CQSIZE_EN fn q = wget x 31 1 ∧
      t.dev.fld .HS_CQSIZE_LOG2 fn q = wget x 0 4 ∧ t.dev.quiet = s.dev.quiet ∧ s.dev.regsBut [RegName.off .HS_CQSIZE fn q] t.dev ∧
      (∀ f, w = .mmio f → (t.dev.seat fn).cmdq q =
        (if s.dev.on .HS_CQSIZE_EN fn q = true ∧ wget x 31 1 = 0 then {} else (s.dev.seat fn).cmdq q)) := by
  have hopen := Dev.opens_of_mayWrite hmay
  have hregs := Dev.atWrite_regs hopen
  have hrule := ((s.dev.atWrite w).ruleRefuses_size fn q x).1
  rw [Dev.fld_congr hregs .HS_CQSIZE_LOG2 fn q, Dev.on_congr hregs .HS_CQSIZE_EN fn q,
    if_neg (by simpa using hsame)] at hrule
  obtain ⟨hstop, hstopRegs, hcmdq⟩ := Dev.cqStopped (s.dev.atWrite w) ((s.dev.atWrite w).sized .HS_CQSIZE_LOG2 .HS_CQSIZE_EN fn q x) fn q
  have habove : 0xC0000 ≤ RegName.off .HS_CQSIZE fn q := by simp only [RegName.off, RegName.info]; omega
  have hexec := (exec_ringEnableWrite_cq w fn q x s).trans (State.write_of_stored hmay (writable_cqSize fn q) hrule (Dev.stored_cqSize _ _ fn q x)
    ((Dev.ptActive_of_regs hstopRegs).trans (Dev.sized_ptActive sizeFlds_cq habove)))
  have hans := (Dev.indices_answered (((s.dev.atWrite w).sized .HS_CQSIZE_LOG2 .HS_CQSIZE_EN fn q x).ringStopped (s.dev.atWrite w) .HS_CQSIZE fn q) w
    (RegName.off .HS_CQSIZE fn q) .ok).reported
  have hnr := (size_not_report fn q).1
  obtain ⟨hen, hlog2, hquiet, hbut⟩ := Dev.sized_left sizeFlds_cq hopen (hstop.trans hans) hnr
  refine ⟨_, hexec, rfl, hen, hlog2, hquiet, hbut, ?_⟩
  rintro f rfl
  rw [(Dev.sized_fields sizeFlds_cq).1] at hcmdq
  exact hcmdq

/-- HS_EQSIZE. -/
theorem eqSize_writes (w : Writer) (fn : Fin 2) (q : Fin 4) (x : Word) (s : State) (hmay : s.dev.mayWrite w .HS_EQSIZE fn q x = true)
    (hsame : s.dev.on .HS_EQSIZE_EN fn q = true → wget x 0 4 = s.dev.fld .HS_EQSIZE_LOG2 fn q) :
    ∃ t, exec (.ringEnableWrite w fn true q x) s = .next t ∧ t.nv = s.nv ∧ t.dev.fld .HS_EQSIZE_EN fn q = wget x 31 1 ∧
      t.dev.fld .HS_EQSIZE_LOG2 fn q = wget x 0 4 ∧ t.dev.quiet = s.dev.quiet ∧ s.dev.regsBut [RegName.off .HS_EQSIZE fn q] t.dev ∧
      (∀ f, w = .mmio f → (t.dev.seat fn).evq q =
        (if s.dev.on .HS_EQSIZE_EN fn q = true ∧ wget x 31 1 = 0 then {} else (s.dev.seat fn).evq q)) := by
  have hopen := Dev.opens_of_mayWrite hmay
  have hregs := Dev.atWrite_regs hopen
  have hrule := ((s.dev.atWrite w).ruleRefuses_size fn q x).2
  rw [Dev.fld_congr hregs .HS_EQSIZE_LOG2 fn q, Dev.on_congr hregs .HS_EQSIZE_EN fn q,
    if_neg (by simpa using hsame)] at hrule
  obtain ⟨hstop, hstopRegs, hevq⟩ := Dev.eqStopped (s.dev.atWrite w) ((s.dev.atWrite w).sized .HS_EQSIZE_LOG2 .HS_EQSIZE_EN fn q x) fn q
  have habove : 0xC0000 ≤ RegName.off .HS_EQSIZE fn q := by simp only [RegName.off, RegName.info]; omega
  have hexec := (exec_ringEnableWrite_eq w fn q x s).trans (State.write_of_stored hmay (writable_eqSize fn q) hrule (Dev.stored_eqSize _ _ fn q x)
    ((Dev.ptActive_of_regs hstopRegs).trans (Dev.sized_ptActive sizeFlds_eq habove)))
  have hans := (Dev.indices_answered (((s.dev.atWrite w).sized .HS_EQSIZE_LOG2 .HS_EQSIZE_EN fn q x).ringStopped (s.dev.atWrite w) .HS_EQSIZE fn q) w
    (RegName.off .HS_EQSIZE fn q) .ok).reported
  have hnr := (size_not_report fn q).2
  obtain ⟨hen, hlog2, hquiet, hbut⟩ := Dev.sized_left sizeFlds_eq hopen (hstop.trans hans) hnr
  refine ⟨_, hexec, rfl, hen, hlog2, hquiet, hbut, ?_⟩
  rintro f rfl
  rw [(Dev.sized_fields sizeFlds_eq).1] at hevq
  exact hevq

/-- Settles O9: each register takes the one way of a write, to its rule and then its storing, whoever writes. -/
theorem ringWrites : Obligations.RingWrites := by
  unfold Obligations.RingWrites
  exact ⟨cqDoorbell_writes, eqHeadWrite_writes, fqDoorbell_writes, cqSize_writes, eqSize_writes⟩

end Sys2Proof.Machine
end

section
/-! PROOFS. Reads of the frame store that are checked (R85, R406): the error registers, what is told of an error, the open camera frames
that a perturbation marks, and the memory islands that an access wakes are all that they change. -/

namespace Sys2Proof.Machine

/-- The registers that an error of the frame store writes: RI_ECC, RI_ECCALO and RI_ECCAHI; and PT_ECC, whose COUNT a corrupted read uses. -/
def eccRegs : List Nat := [RegName.off .RI_ECC 0 0, RegName.off .RI_ECCALO 0 0, RegName.off .RI_ECCAHI 0 0]
def readRegs : List Nat := RegName.off .PT_ECC 0 0 :: eccRegs

/-- The device without what a checked read may change beside registers. -/
def Dev.unread (d : Dev) : Dev := { d.quiet with cams := [], isl := [] }

/-- `e` is `d` after checked reads of the frame store, which corrupt none where none is to be corrupted. -/
structure Dev.Checked (d e : Dev) : Prop where
  unread : e.unread = d.unread
  regs : d.regsBut readRegs e
  spared : d.fld .PT_ECC_COUNT = 0 → e.fld .PT_ECC_COUNT = 0

variable {d e f : Dev}

theorem Dev.Checked.refl (d : Dev) : d.Checked d := ⟨rfl, fun _ _ _ => rfl, fun h => h⟩

theorem Dev.Checked.trans (h : d.Checked e) (k : e.Checked f) : d.Checked f :=
  ⟨k.unread.trans h.unread, h.regs.trans k.regs, fun hc => k.spared (h.spared hc)⟩

theorem ptEcc_not_report : RegName.off .PT_ECC 0 0 ∉ reports := by decide
theorem eccRegs_not_report : RegName.off .RI_ECC 0 0 ∉ reports ∧ RegName.off .RI_ECCALO 0 0 ∉ reports ∧ RegName.off .RI_ECCAHI 0 0 ∉ reports := by
  decide
theorem eccRegs_distinct : RegName.off .RI_ECC 0 0 ≠ RegName.off .RI_ECCALO 0 0 ∧ RegName.off .RI_ECC 0 0 ≠ RegName.off .RI_ECCAHI 0 0 ∧
    RegName.off .RI_ECCALO 0 0 ≠ RegName.off .RI_ECCAHI 0 0 ∧ RegName.off .PT_ECC 0 0 ∉ eccRegs := by decide

theorem Dev.Reported.checked (h : d.Reported e) : d.Checked e :=
  ⟨congrArg (fun q => { q with cams := [], isl := [] }) h.1, h.regsBut, fun hc => (h.fld .PT_ECC_COUNT 0 0 ptEcc_not_report).trans hc⟩

/-! ## What they keep -/

theorem Dev.Checked.fs (h : d.Checked e) : e.fs = d.fs := by
  have hu := congrArg Dev.fs h.unread; exact hu
theorem Dev.Checked.fsBad (h : d.Checked e) : e.fsBad = d.fsBad := by
  have hu := congrArg Dev.fsBad h.unread; exact hu
theorem Dev.Checked.fsLost (h : d.Checked e) : e.fsLost = d.fsLost := by
  have hu := congrArg Dev.fsLost h.unread; exact hu
theorem Dev.Checked.tbl (h : d.Checked e) : e.tbl = d.tbl := by
  have hu := congrArg Dev.tbl h.unread; exact hu
theorem Dev.Checked.bays (h : d.Checked e) : e.bays = d.bays := by
  have hu := congrArg Dev.bays h.unread; exact hu
theorem Dev.Checked.intake (h : d.Checked e) : e.intake = d.intake := by
  have hu := congrArg Dev.intake h.unread; exact hu
theorem Dev.Checked.itk (h : d.Checked e) (xx : Nat) : e.itk xx = d.itk xx := by unfold Dev.itk; rw [h.intake]
theorem Dev.Checked.fsDflt (h : d.Checked e) : e.fsDflt = d.fsDflt := by funext a; unfold Dev.fsDflt; rw [h.fsLost]
theorem Dev.Checked.fsByte (h : d.Checked e) (a : Nat) : e.fsByte a = d.fsByte a := by unfold Dev.fsByte; rw [h.fsDflt, h.fs]
theorem Dev.Checked.fsBytes (h : d.Checked e) (a n : Nat) : e.fsBytes a n = d.fsBytes a n := by unfold Dev.fsBytes; rw [h.fsDflt, h.fs]
theorem Dev.Checked.fsWordBad (h : d.Checked e) (k : Nat) : e.fsWordBad k = d.fsWordBad k := by unfold Dev.fsWordBad; rw [h.fsBad]

/-- A field outside the registers that they write reads as before. -/
theorem Dev.Checked.fld (h : d.Checked e) (x : Fld) (i j : Nat) (hread : x.reg.off i j ∉ readRegs) (hrep : x.reg.off i j ∉ reports) :
    e.fld x i j = d.fld x i j := Dev.fld_of_word (h.regs _ hread hrep)

/-! ## The elementary steps -/

theorem Dev.checked_setWake (d : Dev) (i : Nat) (t : Option Nat) : d.Checked (d.setWake i t) := ⟨rfl, fun _ _ _ => rfl, fun h => h⟩

theorem Dev.checked_foldl {α : Type} {g : Dev → α → Dev} (h : ∀ (d : Dev) x, d.Checked (g d x)) (l : List α) (d : Dev) : d.Checked (l.foldl g d) := by
  induction l generalizing d with
  | nil => exact .refl d
  | cons x r ih => exact (h d x).trans (ih _)

theorem Dev.checked_memTouch (d : Dev) : d.Checked d.memTouch := by
  refine Dev.checked_foldl (fun d i => ?_) _ d
  split
  · exact .refl d
  · exact d.checked_setWake _ _

/-- A register of the errors is written. -/
theorem Dev.checked_setFld (d : Dev) {x : Fld} {i j : Nat} (v : Nat) (h : x.reg.off i j ∈ eccRegs) : d.Checked (d.setFld x i j v) :=
  ⟨rfl, d.regsBut_setFld x i j v (List.mem_cons_of_mem _ h),
    fun hc => (d.fld_setFld_reg x .PT_ECC_COUNT i j 0 0 v fun heq => eccRegs_distinct.2.2.2 (heq ▸ h)).trans hc⟩

theorem Dev.noteEcc_eq (d : Dev) (addr : Nat) (ue scrub : Bool) : d.noteEcc addr ue scrub =
    ((((d.bump (if ue then .RI_ECC_UE else .RI_ECC_CE) 0 0).setFld .RI_ECCALO_ADDR 0 0 (addr % 2 ^ 32)).setFld .RI_ECCAHI_ADDR 0 0
      (addr / 2 ^ 32)).setOn .RI_ECCAHI_UE 0 0 ue).setOn .RI_ECCAHI_SCRUB 0 0 scrub := rfl

theorem Dev.checked_noteEcc (d : Dev) (addr : Nat) (ue scrub : Bool) : d.Checked (d.noteEcc addr ue scrub) := by
  have hcount : (if ue then Fld.RI_ECC_UE else Fld.RI_ECC_CE).reg.off 0 0 ∈ eccRegs := by cases ue <;> decide
  rw [d.noteEcc_eq]
  exact ((((d.checked_setFld _ hcount).trans (Dev.checked_setFld _ _ (by decide))).trans (Dev.checked_setFld _ _ (by decide))).trans
    (Dev.checked_setFld _ _ (by decide))).trans (Dev.checked_setFld _ _ (by decide))

theorem Dev.reported_raiseFsUe (d : Dev) (bay : Option Nat) (unit : Nat) : d.Reported (d.raiseFsUe bay unit) := by
  unfold Dev.raiseFsUe; dsimp only
  refine Dev.Reported.trans ?_ (Dev.reported_unitEvent _ _ _ _ _ _ _)
  split
  · split
    · exact d.reported_signalAs _ _ _ _ _
    · exact d.reported_signal _ _
  · exact d.reported_signal _ _

theorem Dev.checked_ptNote (d : Dev) (old : Nat) : d.Checked (d.ptNote old) := by
  have hmark : d.Checked d.markPert := by
    unfold Dev.markPert
    split <;> exact ⟨rfl, fun _ _ _ => rfl, fun h => h⟩
  unfold Dev.ptNote
  split
  · exact .refl d
  · exact (hmark.trans (Dev.reported_devEvent _ _ _ _ _ _ _).checked).trans
      (Dev.checked_foldl (fun d b => (d.reported_devEvent _ _ _ _ _ _).checked) _ _)

/-- No read is corrupted where none is to be. -/
theorem Dev.takeEcc_of_none (h : d.fld .PT_ECC_COUNT = 0) (hit : Bool) (n : Nat) : d.takeEcc hit n = (d, 0, false) := by
  simp [Dev.takeEcc, h]

theorem Dev.checked_takeEcc (d : Dev) (hit : Bool) (n : Nat) : d.Checked (d.takeEcc hit n).1 := by
  unfold Dev.takeEcc; dsimp only
  split
  · rename_i hhit
    have hcount : d.fld .PT_ECC_COUNT ≠ 0 := by simp only [Bool.and_eq_true, bne_iff_ne] at hhit; exact hhit.1.2
    have hused (c : Nat) : d.Checked (d.setFld .PT_ECC_COUNT 0 0 c) :=
      ⟨rfl, d.regsBut_setFld .PT_ECC_COUNT 0 0 c List.mem_cons_self, fun hc => absurd hc hcount⟩
    exact (hused _).trans (Dev.checked_ptNote _ _)
  · exact .refl d

theorem checked_fsCheckBlock (bay : Option Nat) (unit : Nat) (acc : Dev × Bool) (blk : Nat) : acc.1.Checked (fsCheckBlock bay unit acc blk).1 := by
  have htake (hit : Bool) := acc.1.checked_takeEcc hit 1
  unfold fsCheckBlock; dsimp only
  split
  · exact ((htake _).trans (Dev.checked_noteEcc _ _ _ _)).trans (Dev.reported_raiseFsUe _ _ _).checked
  · split
    · exact ((htake _).trans (Dev.checked_noteEcc _ _ _ _)).trans (Dev.reported_signal _ _ _).checked
    · exact htake _

theorem Dev.checked_fsCheck (d : Dev) (bay : Option Nat) (unit addr n : Nat) : d.Checked (d.fsCheck bay unit addr n).1 := by
  have hblocks (b0 : Nat) (l : List Nat) (acc : Dev × Bool) :
      acc.1.Checked (l.foldl (fun acc i => fsCheckBlock bay unit acc (b0 + i)) acc).1 := by
    induction l generalizing acc with
    | nil => exact .refl _
    | cons i r ih => exact (checked_fsCheckBlock _ _ _ _).trans (ih _)
  unfold Dev.fsCheck
  split
  · exact .refl d
  · exact hblocks _ _ (d, false)

end Sys2Proof.Machine
end

section
/-! PROOFS. The patrol scrubber and DQS tracking (R82, R85, R86, R406). -/

namespace Sys2Proof.Machine

variable {d e : Dev}

/-- The registers of an error that has been noted. -/
theorem Dev.noteEcc_fields (d : Dev) (addr : Nat) (ue scrub : Bool) :
    (d.noteEcc addr ue scrub).fld .RI_ECC_CE = (if ue then d.fld .RI_ECC_CE else min (d.fld .RI_ECC_CE + 1) (2 ^ Fld.RI_ECC_CE.width - 1)) ∧
    (d.noteEcc addr ue scrub).fld .RI_ECC_UE = (if ue then min (d.fld .RI_ECC_UE + 1) (2 ^ Fld.RI_ECC_UE.width - 1) else d.fld .RI_ECC_UE) ∧
    (d.noteEcc addr ue scrub).fld .RI_ECCALO_ADDR = addr % 2 ^ 32 ∧ (d.noteEcc addr ue scrub).on .RI_ECCAHI_SCRUB = scrub ∧
    (d.noteEcc addr ue scrub).on .RI_ECCAHI_UE = ue := by
  rw [d.noteEcc_eq]
  refine ⟨?_, ?_, ?_, Dev.on_setOn _ _ _ _ _ (by decide) (by decide), ?_⟩
  · cases ue <;> simp (disch := decide) [Dev.setOn, Dev.fld_setFld_reg, Dev.fld_bump, Dev.fld_bump_beside]
  · cases ue <;> simp (disch := decide) [Dev.setOn, Dev.fld_setFld_reg, Dev.fld_bump, Dev.fld_bump_beside]
  · simp (disch := decide) only [Dev.setOn, Dev.fld_setFld_reg]
    rw [Dev.fld_setFld _ _ _ _ _ (by decide)]
    exact Nat.mod_mod _ _
  · rw [Dev.on_setOn_beside _ .RI_ECCAHI_SCRUB .RI_ECCAHI_UE 0 0 _ rfl (by decide) (by decide) (by decide),
      Dev.on_setOn _ _ _ _ _ (by decide) (by decide)]

theorem Dev.regsBut_noteEcc (d : Dev) (addr : Nat) (ue scrub : Bool) : d.regsBut eccRegs (d.noteEcc addr ue scrub) := by
  have hcount : (if ue then Fld.RI_ECC_UE else Fld.RI_ECC_CE).reg.off 0 0 ∈ eccRegs := by cases ue <;> decide
  rw [d.noteEcc_eq]
  exact ((((d.regsBut_bump _ 0 0 1 hcount).trans (Dev.regsBut_setFld _ _ 0 0 _ (by decide))).trans
    (Dev.regsBut_setFld _ _ 0 0 _ (by decide))).trans (Dev.regsBut_setOn _ _ 0 0 _ (by decide))).trans (Dev.regsBut_setOn _ _ 0 0 _ (by decide))

/-- The registers of the errors read alike. -/
structure Dev.SameEcc (d e : Dev) : Prop where
  count : e.word (RegName.off .RI_ECC 0 0) = d.word (RegName.off .RI_ECC 0 0)
  low : e.word (RegName.off .RI_ECCALO 0 0) = d.word (RegName.off .RI_ECCALO 0 0)
  high : e.word (RegName.off .RI_ECCAHI 0 0) = d.word (RegName.off .RI_ECCAHI 0 0)

theorem Dev.Reported.sameEcc (h : d.Reported e) : d.SameEcc e :=
  ⟨h.2 _ eccRegs_not_report.1, h.2 _ eccRegs_not_report.2.1, h.2 _ eccRegs_not_report.2.2⟩

theorem Dev.told_unitEvent (d : Dev) (bay : Option Nat) (q code unit d0 d1 : Nat) : d.Told (d.unitEvent bay q code unit d0 d1) := by
  unfold Dev.unitEvent
  split
  · exact d.told_bayEvent _ _ _ _ _ _
  · exact d.told_devEvent _ _ _ _ _ _

/-- An uncorrectable error of no bay: its signal, and then its event to the steward. -/
theorem Dev.raiseFsUe_of_none (d : Dev) (unit : Nat) : d.raiseFsUe none unit =
    (d.signal srcFsUe 0xFF).devEvent (d.signal srcFsUe 0xFF).steward 1 0x0301 unit
      ((d.signal srcFsUe 0xFF).reg .RI_ECCALO).toNat ((d.signal srcFsUe 0xFF).reg .RI_ECCAHI).toNat := rfl

theorem Dev.mem_raiseFsUe_none (d : Dev) (unit : Nat) : ∃ g ∈ (d.raiseFsUe none unit).fc.sigs, g.source = srcFsUe ∧ g.stamp = d.tb := by
  obtain ⟨g, hg, hsource, hstamp⟩ := d.mem_signal srcFsUe 0xFF
  rw [d.raiseFsUe_of_none]
  exact ⟨g, (Dev.told_devEvent _ _ _ _ _ _ _).sigs g hg, hsource, hstamp⟩

/-- The scrubber has met a corrected error in the block at `a`; and an uncorrectable one. -/
def Dev.scrubCe (d : Dev) (a : Nat) : Dev := (d.noteEcc a false true).signal srcFsCe 0xFF
def Dev.scrubUe (d : Dev) (a : Nat) : Dev := (d.noteEcc a true true).raiseFsUe none 0xFF

/-- A word that it found uncorrectable itself is marked. -/
def Dev.scrubMarked (d : Dev) (addr : Nat) (err : Option Bool) : Dev :=
  if err = some true then { d with fsBad := Store.set (fun _ => false) d.fsBad (addr / 8) true } else d

/-- A word of the block at `a` is marked uncorrectable. -/
def Dev.blockBad (d : Dev) (a : Nat) : Bool := (List.range 8).any fun i => d.fsWordBad (a / 8 + i)

theorem Dev.scrub_eq (d : Dev) (addr : Nat) (err : Option Bool) : d.scrub addr err =
    let m := d.takeEcc (d.fld .PT_ECC_TARGET == 1 && addr / 64 * 64 / 2 ^ 28 == d.fld .PT_ECC_ARG) 1
    let e := m.1.scrubMarked addr err
    if d.blockBad (addr / 64 * 64) || err = some true || (m.2.1 == 1 && m.2.2) then e.scrubUe (addr / 64 * 64)
    else if err = some false || m.2.1 == 1 then e.scrubCe (addr / 64 * 64)
    else e := rfl

/-- Where no read is to be corrupted, the block's marks and what was found decide. -/
theorem Dev.scrub_of_spared (h : d.fld .PT_ECC_COUNT = 0) (addr : Nat) (err : Option Bool) : d.scrub addr err =
    let e := d.scrubMarked addr err
    if d.blockBad (addr / 64 * 64) || err = some true then e.scrubUe (addr / 64 * 64)
    else if err = some false then e.scrubCe (addr / 64 * 64)
    else e := by
  rw [d.scrub_eq, Dev.takeEcc_of_none h]
  simp

/-- The marks are all that this changes: the word found is marked, and no mark goes. -/
theorem Dev.scrubMarked_frame (d : Dev) (addr : Nat) (err : Option Bool) : (d.scrubMarked addr err).regs = d.regs ∧
    (d.scrubMarked addr err).fs = d.fs ∧ (d.scrubMarked addr err).tb = d.tb := by
  unfold Dev.scrubMarked
  split <;> exact ⟨rfl, rfl, rfl⟩

theorem Dev.fsWordBad_scrubMarked (d : Dev) (addr : Nat) (err : Option Bool) (k : Nat) :
    (d.scrubMarked addr err).fsWordBad k = ((decide (err = some true) && k == addr / 8) || d.fsWordBad k) := by
  unfold Dev.scrubMarked Dev.fsWordBad
  split
  · rename_i herr
    by_cases h : k = addr / 8 <;> simp [herr, Store.get_set, h]
  · rename_i herr
    simp [herr]

/-- The scrubber has noted an error of the block at `a`, and all that it may change is what a checked read may. -/
structure Dev.Scrubbed (d e : Dev) (a : Nat) (ue : Bool) : Prop where
  checked : d.Checked e
  regs : d.regsBut eccRegs e
  ceCount : e.fld .RI_ECC_CE = if ue then d.fld .RI_ECC_CE else min (d.fld .RI_ECC_CE + 1) (2 ^ Fld.RI_ECC_CE.width - 1)
  ueCount : e.fld .RI_ECC_UE = if ue then min (d.fld .RI_ECC_UE + 1) (2 ^ Fld.RI_ECC_UE.width - 1) else d.fld .RI_ECC_UE
  addr : e.fld .RI_ECCALO_ADDR = a % 2 ^ 32
  scrub : e.on .RI_ECCAHI_SCRUB = true
  kind : e.on .RI_ECCAHI_UE = ue

/-- An error that is noted and then told. -/
theorem Dev.scrubbed_of_told {a : Nat} {ue : Bool} (h : (d.noteEcc a ue true).Reported e) : d.Scrubbed e a ue := by
  have hecc := h.sameEcc
  obtain ⟨hce, hue, haddr, hscrub, hahi⟩ := d.noteEcc_fields a ue true
  exact
    { checked := (d.checked_noteEcc _ _ _).trans h.checked
      regs := (d.regsBut_noteEcc _ _ _).trans h.regsBut
      ceCount := (Dev.fld_of_word (x := .RI_ECC_CE) hecc.count).trans hce
      ueCount := (Dev.fld_of_word (x := .RI_ECC_UE) hecc.count).trans hue
      addr := (Dev.fld_of_word (x := .RI_ECCALO_ADDR) hecc.low).trans haddr
      scrub := (Dev.on_of_word (x := .RI_ECCAHI_SCRUB) hecc.high).trans hscrub
      kind := (Dev.on_of_word (x := .RI_ECCAHI_UE) hecc.high).trans hahi }

theorem Dev.scrubCe_scrubbed (d : Dev) (a : Nat) : d.Scrubbed (d.scrubCe a) a false := Dev.scrubbed_of_told (Dev.reported_signal _ _ _)
theorem Dev.scrubUe_scrubbed (d : Dev) (a : Nat) : d.Scrubbed (d.scrubUe a) a true := Dev.scrubbed_of_told (Dev.reported_raiseFsUe _ _ _)

/-- What is told of them: FS_CE; FS_UE, and last RI_ECC_UNCORR to the steward. -/
theorem Dev.mem_scrubCe (d : Dev) (a : Nat) : ∃ g ∈ (d.scrubCe a).fc.sigs, g.source = srcFsCe ∧ g.stamp = d.tb := Dev.mem_signal _ _ _
theorem Dev.mem_scrubUe (d : Dev) (a : Nat) : ∃ g ∈ (d.scrubUe a).fc.sigs, g.source = srcFsUe ∧ g.stamp = d.tb := Dev.mem_raiseFsUe_none _ _
theorem Dev.scrubUe_event (d : Dev) (a : Nat) :
    ∃ e : Dev, d.scrubUe a = e.devEvent e.steward 1 0x0301 0xFF (e.reg .RI_ECCALO).toNat (e.reg .RI_ECCAHI).toNat := ⟨_, Dev.raiseFsUe_of_none _ _⟩

/-- A change of the perturbations in force writes no register but those of the reports. -/
theorem Dev.regsBut_ptNote (d : Dev) (old : Nat) : d.regsBut [] (d.ptNote old) := by
  have hmark : d.markPert.regs = d.regs := by unfold Dev.markPert; split <;> rfl
  have htold (l : List Nat) (d : Dev) : d.Reported (l.foldl (fun d b => d.devEvent b 1 0x1700 0xFF d.ptActive old) d) := by
    induction l generalizing d with
    | nil => exact .refl d
    | cons b r ih => exact (d.reported_devEvent _ _ _ _ _ _).trans (ih _)
  unfold Dev.ptNote; dsimp only
  split
  · exact Dev.regsBut_of_regs rfl
  · exact (Dev.regsBut_of_regs hmark).trans ((Dev.reported_devEvent _ _ _ _ _ _ _).trans (htold _ _)).regsBut

/-- A read that PT_ECC corrupts uses one of its COUNT, and the registers of the errors stand. -/
theorem Dev.takeEcc_of_hit (hcount : d.fld .PT_ECC_COUNT ≠ 0) : ∃ e, d.takeEcc true 1 = (e, 1, d.on .PT_ECC_TWO) ∧ d.Checked e ∧
    d.regsBut [RegName.off .PT_ECC 0 0] e ∧ e.fld .PT_ECC_COUNT = d.fld .PT_ECC_COUNT - 1 := by
  have hchecked := d.checked_takeEcc true 1
  have htake : d.takeEcc true 1 = ((d.setFld .PT_ECC_COUNT 0 0 (d.fld .PT_ECC_COUNT - 1)).ptNote d.ptActive, 1, d.on .PT_ECC_TWO) := by
    have hone : min (d.fld .PT_ECC_COUNT) 1 = 1 := by omega
    unfold Dev.takeEcc; dsimp only
    rw [hone, if_pos (by simp [hcount])]
  rw [htake] at hchecked
  have hnote := Dev.regsBut_ptNote (d.setFld .PT_ECC_COUNT 0 0 (d.fld .PT_ECC_COUNT - 1)) d.ptActive
  refine ⟨_, htake, hchecked, (d.regsBut_setFld .PT_ECC_COUNT 0 0 _ List.mem_cons_self).trans (hnote.mono fun _ h => nomatch h), ?_⟩
  have hlt := d.fld_lt .PT_ECC_COUNT 0 0
  rw [Dev.fld_of_word (hnote _ (by simp) ptEcc_not_report), Dev.fld_setFld _ _ _ _ _ (by decide), Nat.mod_eq_of_lt (by omega)]

/-- A block without a marked word whose read PT_ECC corrupts: uncorrectable where TWO says so, and corrected otherwise. -/
theorem Dev.scrub_of_hit {addr : Nat} (hcount : d.fld .PT_ECC_COUNT ≠ 0) (htarget : d.fld .PT_ECC_TARGET = 1)
    (harg : addr / 64 * 64 / 2 ^ 28 = d.fld .PT_ECC_ARG) (hbad : d.blockBad (addr / 64 * 64) = false) :
    ∃ e, d.scrub addr none = (if d.on .PT_ECC_TWO then e.scrubUe (addr / 64 * 64) else e.scrubCe (addr / 64 * 64)) ∧ d.Checked e ∧
      d.regsBut [RegName.off .PT_ECC 0 0] e ∧ e.fld .PT_ECC_COUNT = d.fld .PT_ECC_COUNT - 1 := by
  obtain ⟨e, htake, hrest⟩ := Dev.takeEcc_of_hit hcount
  refine ⟨e, ?_, hrest⟩
  rw [d.scrub_eq, htarget, harg, beq_self_eq_true, beq_self_eq_true, Bool.and_self, htake, hbad]
  simp [Dev.scrubMarked]

theorem exec_dqsTracking (channel : Fin 2) (s : State) : exec (.dqsTracking channel) s = s.onDev anytime fun d => d := rfl

/-- A scrub that is due. -/
theorem exec_patrolScrub_of_due {addr : Nat} {s : State} (err : Option Bool) (hrun : s.dev.running = true) (hen : s.dev.on .RI_SCRUB_EN = true)
    (hcap : addr < s.dev.cap) : exec (.patrolScrub addr err) s = .next { s with dev := s.dev.scrub addr err } :=
  State.onDev_of (ok := fun d => d.running && d.on .RI_SCRUB_EN && decide (addr < d.cap)) (f := fun d => d.scrub addr err)
    (by simp [hrun, hen, hcap]) rfl

/-- Settles O32: the marks of the block, what was found and PT_ECC decide between nothing, a corrected error and an uncorrectable one. -/
theorem frameStoreUpkeep : Obligations.FrameStoreUpkeep := by
  unfold Obligations.FrameStoreUpkeep
  refine ⟨fun channel s => exec_dqsTracking channel s, fun addr err s hrun hen hcap hspared => ?_,
    fun addr s hrun hen hcap hclean hcount htarget harg => ?_⟩
  · have hexec := exec_patrolScrub_of_due err hrun hen hcap
    rw [Dev.scrub_of_spared hspared] at hexec
    change (s.dev.blockBad (addr / 64 * 64) = false → err = none → _) ∧ (s.dev.blockBad (addr / 64 * 64) = false → err = some false → _) ∧
      (s.dev.blockBad (addr / 64 * 64) = true ∨ err = some true → _)
    refine ⟨fun hclean herr => ?_, fun hclean herr => ?_, fun hbad => ?_⟩
    · subst herr
      simpa [hclean, Dev.scrubMarked] using hexec
    · subst herr
      have hnoted := s.dev.scrubCe_scrubbed (addr / 64 * 64)
      simp only [hclean, Option.some.injEq, Bool.false_eq_true, decide_false, Bool.or_self, if_false, if_true, Dev.scrubMarked] at hexec
      exact ⟨_, hexec, rfl, hnoted.checked.fs, hnoted.checked.fsBad, hnoted.ceCount, hnoted.ueCount, hnoted.addr, hnoted.scrub, hnoted.kind,
        s.dev.mem_scrubCe _, hnoted.regs⟩
    · have hmeets : (s.dev.blockBad (addr / 64 * 64) || decide (err = some true)) = true := by simpa using hbad
      have hmarks := s.dev.fsWordBad_scrubMarked addr err
      obtain ⟨hmregs, hmfs, hmtb⟩ := s.dev.scrubMarked_frame addr err
      have hnoted := (s.dev.scrubMarked addr err).scrubUe_scrubbed (addr / 64 * 64)
      have hsig := (s.dev.scrubMarked addr err).mem_scrubUe (addr / 64 * 64)
      simp only [hmeets, if_true] at hexec
      refine ⟨_, hexec, rfl, hnoted.checked.fs.trans hmfs, fun herr => ?_, fun k hk => ?_, ?_, ?_, hnoted.addr, hnoted.scrub, hnoted.kind, ?_,
        Dev.scrubUe_event _ _, (Dev.regsBut_of_regs hmregs).trans hnoted.regs⟩
      · rw [hnoted.checked.fsWordBad, hmarks, herr]; simp
      · rw [hnoted.checked.fsWordBad, hmarks, hk]; simp
      · rw [hnoted.ueCount, Dev.fld_congr hmregs]; rfl
      · rw [hnoted.ceCount, Dev.fld_congr hmregs]; rfl
      · rw [← hmtb]; exact hsig
  · obtain ⟨e, hscrub, hchecked, hregs, hused⟩ := Dev.scrub_of_hit hcount htarget harg hclean
    have hexec := exec_patrolScrub_of_due none hrun hen hcap
    have hecc : e.word (RegName.off .RI_ECC 0 0) = s.dev.word (RegName.off .RI_ECC 0 0) := hregs _ (by decide) eccRegs_not_report.1
    have hcounted {f : Dev} {ue : Bool} (h : e.Scrubbed f (addr / 64 * 64) ue) : f.fld .PT_ECC_COUNT = s.dev.fld .PT_ECC_COUNT - 1 := by
      rw [← hused]; exact Dev.fld_of_word (h.regs _ eccRegs_distinct.2.2.2 ptEcc_not_report)
    rw [hscrub] at hexec
    cases htwo : s.dev.on .PT_ECC_TWO with
    | true =>
      have hnoted := e.scrubUe_scrubbed (addr / 64 * 64)
      have hall := hchecked.trans hnoted.checked
      rw [htwo, if_pos rfl] at hexec
      refine ⟨_, hexec, rfl, hall.fs, hall.fsBad, hcounted hnoted, fun _ => ?_, fun h => absurd h.symm Bool.false_ne_true⟩
      rw [← Dev.fld_of_word (x := .RI_ECC_UE) hecc]; exact hnoted.ueCount
    | false =>
      have hnoted := e.scrubCe_scrubbed (addr / 64 * 64)
      have hall := hchecked.trans hnoted.checked
      rw [htwo, if_neg Bool.false_ne_true] at hexec
      refine ⟨_, hexec, rfl, hall.fs, hall.fsBad, hcounted hnoted, fun h => absurd h Bool.false_ne_true, fun _ => ?_⟩
      rw [← Dev.fld_of_word (x := .RI_ECC_CE) hecc]; exact hnoted.ceCount

end Sys2Proof.Machine
end

section
/-! PROOFS. The completion of LOAD takes the curves that an image wrote out of the tables (R337). -/

namespace Sys2Proof.Machine

/-- LOAD about to complete with an image whose one table byte lies in the density curves of head port 0. -/
def curveImage : State := { dev := { boot := { phase := .loadApply, imgTbl := [(curvesAt 0, 5)] } } }

theorem exec_loadComplete_curveImage : exec (.loadComplete []) curveImage = .next { curveImage with dev := curveImage.dev.loadDone curveImage.nv [] } := rfl

/-- The byte has become one of the active curve bank, and no table byte is left. -/
theorem loadDone_curveImage : (curveImage.dev.loadDone curveImage.nv []).tbl = [] ∧
    ((curveImage.dev.loadDone curveImage.nv []).engine 0).curves = [(0, 5)] := by decide +kernel

/-- Refutes O52: the completion of LOAD does not leave the image's tables as they were written, for the curves of an image become the
active curve banks and leave the tables (R337). -/
theorem not_loadSteps : ¬ Obligations.LoadSteps := by
  unfold Obligations.LoadSteps
  rintro ⟨-, -, -, -, -, -, -, -, hcomplete, -⟩
  obtain ⟨t, hexec, -, -, -, htbl, -⟩ := hcomplete [] curveImage rfl
  rw [exec_loadComplete_curveImage] at hexec
  injection hexec with hdev
  have hnone := loadDone_curveImage.1
  rw [← hdev] at htbl
  rw [htbl] at hnone
  exact absurd hnone (by decide)

end Sys2Proof.Machine
end

section
/-! PROOFS. Feed frames: how one reaches its execution, and how it leaves its queue (R47, R48, R87, R88, R99). -/

namespace Sys2Proof.Machine

variable {d e : Dev} {xx : Nat}

/-! ## Completions -/

theorem Dev.Reported.ite {c : Prop} [Decidable c] {f : Dev} (h : d.Reported e) (k : d.Reported f) : d.Reported (if c then e else f) := by
  split
  · exact h
  · exact k

/-- The completion of a feed frame is a report. -/
theorem Dev.reported_feedComplete (d : Dev) (h : FeedHdr) (op : Nat) (st : Status) (p : List Byte) : d.Reported (d.feedComplete h op st p) := by
  have hnote := d.reported_noteStatus h.seat.val (32 + h.port.val) st (sentStatus h.seat.val h.replyLen p.length h.noack st) h.seat.isLt
  unfold Dev.feedComplete; dsimp only
  exact .ite hnote (.ite (.ite ((hnote.trans (Dev.reported_emit _ _)).trans (Dev.reported_raiseMsix _ _ _)) (hnote.trans (Dev.reported_emit _ _)))
    (.ite (hnote.trans (Dev.reported_emit _ _)) hnote))

theorem Dev.Reported.fsLost (h : d.Reported e) : e.fsLost = d.fsLost := by
  have hq := congrArg Dev.fsLost h.1; exact hq
theorem Dev.Reported.fsByte (h : d.Reported e) (a : Nat) : e.fsByte a = d.fsByte a := by
  unfold Dev.fsByte Dev.fsDflt; rw [h.fsLost, h.fs]
theorem Dev.Reported.fsBytes (h : d.Reported e) (a n : Nat) : e.fsBytes a n = d.fsBytes a n := by
  have hdflt : e.fsDflt = d.fsDflt := by funext k; unfold Dev.fsDflt; rw [h.fsLost]
  unfold Dev.fsBytes; rw [hdflt, h.fs]

/-! ## The end of an execution -/

/-- The intake of a port once its one frame is done. -/
def Intake.ended (t : Intake) (seq status : Nat) : Intake := { t with frames := [], fq := t.fq.remember seq status }

/-- A feed queue that holds one frame, after an attempt at it: the frame stays at the head, or leaves the queue with its completion. -/
def Dev.feedEnded (d : Dev) (xx : Nat) (x : FeedEnt) : FeedRes → Dev
  | .held y => d.setItk xx { d.itk xx with frames := [y] }
  | .done st p => ((d.setItk xx { d.itk xx with frames := [] }).feedRemember xx x.hdr.seq st.code).feedComplete x.hdr x.feed.opcode st p

theorem Dev.feedEnded_itk (d : Dev) (xx : Nat) (x : FeedEnt) (st : Status) (p : List Byte) :
    (d.feedEnded xx x (.done st p)).itk xx = (d.itk xx).ended x.hdr.seq st.code := by
  rw [Dev.feedEnded, (Dev.reported_feedComplete _ _ _ _ _).itk, Dev.feedRemember, Dev.itk_setItk, Dev.itk_setItk]
  rfl

/-- The devices differ in their intakes at most. -/
def Dev.IntakeOnly (d e : Dev) : Prop := ∃ intake, e = { d with intake := intake }

theorem Dev.IntakeOnly.refl (d : Dev) : d.IntakeOnly d := ⟨d.intake, rfl⟩

theorem Dev.intakeOnly_setItk (d : Dev) (xx : Nat) (t : Intake) : d.IntakeOnly (d.setItk xx t) := ⟨_, rfl⟩

theorem Dev.IntakeOnly.trans {f : Dev} (h : d.IntakeOnly e) (k : e.IntakeOnly f) : d.IntakeOnly f := by
  obtain ⟨i, rfl⟩ := h
  obtain ⟨j, rfl⟩ := k
  exact ⟨j, rfl⟩

theorem Dev.IntakeOnly.regs (h : d.IntakeOnly e) : e.regs = d.regs := by obtain ⟨i, rfl⟩ := h; rfl
theorem Dev.IntakeOnly.boot (h : d.IntakeOnly e) : e.boot = d.boot := by obtain ⟨i, rfl⟩ := h; rfl

/-- `e` is `d` but for its intake, which was `t`, after the completion of a feed frame. -/
structure Dev.FeedDone (d e : Dev) (t : Intake) (h : FeedHdr) (op : Nat) (st : Status) (p : List Byte) : Prop where
  fs : e.fs = d.fs
  fsLost : e.fsLost = d.fsLost
  tbl : e.tbl = d.tbl
  bays : e.bays = d.bays
  regs : d.regsBut [] e
  itk : e.itk h.port = t.ended h.seq st.code
  told : ∃ f : Dev, e = f.feedComplete h op st p

theorem Dev.feedDone_feedEnded {q : Dev} (hq : d.IntakeOnly q) (x : FeedEnt) (st : Status) (p : List Byte) :
    d.FeedDone (q.feedEnded x.hdr.port x (.done st p)) (q.itk x.hdr.port) x.hdr x.feed.opcode st p := by
  have hitk := q.feedEnded_itk x.hdr.port x st p
  obtain ⟨i, hi⟩ := (hq.trans (q.intakeOnly_setItk x.hdr.port { q.itk x.hdr.port with frames := [] })).trans
    (Dev.intakeOnly_setItk _ x.hdr.port _)
  have htold := Dev.reported_feedComplete ((q.setItk x.hdr.port { q.itk x.hdr.port with frames := [] }).feedRemember x.hdr.port x.hdr.seq st.code)
    x.hdr x.feed.opcode st p
  rw [Dev.feedRemember, hi] at htold
  rw [Dev.feedEnded, Dev.feedRemember] at hitk ⊢
  rw [hi] at hitk ⊢
  exact ⟨htold.fs, htold.fsLost, htold.tbl, htold.bays, htold.regsBut, hitk, _, rfl⟩

theorem Dev.feedRun_of_empty (h : (d.itk xx).frames = []) (fuel : Nat) : d.feedRun xx fuel = d := by
  cases fuel with
  | zero => rfl
  | succ n => rw [Dev.feedRun, h]

theorem Dev.feedRun_feedEnded (d : Dev) (xx : Nat) (x : FeedEnt) (st : Status) (p : List Byte) (fuel : Nat) :
    (d.feedEnded xx x (.done st p)).feedRun xx fuel = d.feedEnded xx x (.done st p) :=
  Dev.feedRun_of_empty (by rw [d.feedEnded_itk]; rfl) fuel

/-- The one frame of a queue is attempted again. -/
theorem Dev.feedRun_of_taken {x : FeedEnt} (hone : (d.itk xx).frames = [x]) (htaken : x.taken = true) (fuel : Nat) :
    d.feedRun xx (fuel + 1) = (d.feedExec x).1.feedEnded xx x (d.feedExec x).2 := by
  have hsame : ({ x with taken := true } : FeedEnt) = x := by rw [← htaken]
  rw [Dev.feedRun, hone]
  simp only [htaken, Bool.not_true, Bool.false_and, Bool.false_eq_true, if_false, if_true]
  rw [hsame]
  generalize d.feedExec x = m
  obtain ⟨e, r⟩ := m
  cases r with
  | held y => rfl
  | done st p => exact e.feedRun_feedEnded xx x st p fuel

/-- The device once the expected sequence number of a feed queue has been taken. -/
def Dev.feedTaken (d : Dev) (xx : Nat) : Dev := d.setItk xx { d.itk xx with fq := { (d.itk xx).fq with exp := ((d.itk xx).fq.exp + 1) % 65536 } }

/-- The one frame of a queue is attempted first, in sequence. -/
theorem Dev.feedRun_of_next {x : FeedEnt} (hone : (d.itk xx).frames = [x]) (htaken : x.taken = false)
    (hdist : seqDist (d.itk xx).fq x.hdr.seq = 0) (fuel : Nat) : d.feedRun xx (fuel + 1) =
      ((d.feedTaken xx).feedExec { x with taken := true }).1.feedEnded xx x ((d.feedTaken xx).feedExec { x with taken := true }).2 := by
  have hnext : d.feedTaken xx = d.setItk xx { d.itk xx with fq := { (d.itk xx).fq with exp := ((d.itk xx).fq.exp + 1) % 65536 }, frames := [x] } := by
    rw [← hone]; rfl
  rw [Dev.feedRun, hone]
  simp only [htaken, hdist, bne_self_eq_false, Bool.and_false, Bool.false_eq_true, if_false]
  split
  · rename_i e y hexec
    rw [hnext, hexec]; rfl
  · rename_i e st p hexec
    rw [hnext, hexec]; exact e.feedRun_feedEnded xx x st p fuel

/-! ## The arrival of a frame -/

/-- The intake with a frame alone in its queue and its sequence number taken. -/
def Intake.queued (t : Intake) (x : FeedEnt) : Intake := { t with frames := [x], fq := { t.fq with exp := (t.fq.exp + 1) % 65536 } }

/-- The device with it. -/
def Dev.feedQueued (d : Dev) (h : FeedHdr) (feed : Feed) : Dev :=
  (d.setItk h.port { d.itk h.port with frames := [{ hdr := h, feed := feed }] }).feedTaken h.port

theorem Dev.feedQueued_itk (d : Dev) (h : FeedHdr) (feed : Feed) : (d.feedQueued h feed).itk h.port =
    (d.itk h.port).queued { hdr := h, feed := feed } := by
  rw [Dev.feedQueued, Dev.feedTaken, Dev.itk_setItk, Dev.itk_setItk]
  rfl

/-- A frame for a port outside the seat's bay is refused. -/
theorem Dev.feedArrive_of_other {h : FeedHdr} (hmodes : d.bayModes = true) (hbay : d.portBay h.port ≠ some h.seat.val) (feed : Feed) :
    d.feedArrive h feed = d.feedComplete h feed.opcode .refusedBay [] := by
  unfold Dev.feedArrive
  simp [hmodes, hbay]

/-- What an attempt at the frame, alone in its queue, comes to. -/
def Dev.feedTried (d : Dev) (h : FeedHdr) (feed : Feed) : Dev × FeedRes := (d.feedQueued h feed).feedExec { hdr := h, feed := feed, taken := true }

/-- What the attempt leaves. -/
def Dev.feedAttempted (d : Dev) (h : FeedHdr) (feed : Feed) : Dev :=
  (d.feedTried h feed).1.feedEnded h.port { hdr := h, feed := feed } (d.feedTried h feed).2

/-- A frame in sequence that comes to an empty queue is attempted at once. -/
theorem Dev.feedArrive_of_alone {h : FeedHdr} (hbay : d.bayModes = true → d.portBay h.port = some h.seat.val) (hempty : (d.itk h.port).frames = [])
    (hdist : seqDist (d.itk h.port).fq h.seq = 0) (feed : Feed) :
    d.feedArrive h feed = d.feedAttempted h feed := by
  have hmine : (d.bayModes && d.portBay h.port != some h.seat.val) = false := by
    cases hm : d.bayModes with
    | false => rfl
    | true => simp [hbay hm]
  have hitk : (d.setItk h.port { d.itk h.port with frames := [{ hdr := h, feed := feed }] }).itk h.port =
    { d.itk h.port with frames := [{ hdr := h, feed := feed }] } := d.itk_setItk _ _
  unfold Dev.feedArrive
  simp only [hmine, hempty, Bool.false_eq_true, if_false, List.nil_append, List.length_nil]
  exact Dev.feedRun_of_next (by rw [hitk]) rfl (by rw [hitk]; exact hdist) 0

theorem Dev.feedQueued_intakeOnly (d : Dev) (h : FeedHdr) (feed : Feed) : d.IntakeOnly (d.feedQueued h feed) :=
  (d.intakeOnly_setItk _ _).trans (Dev.intakeOnly_setItk _ _ _)

theorem Dev.feedAttempted_done {h : FeedHdr} {feed : Feed} {b q : Dev} {st : Status} {p : List Byte} {t : Intake}
    (htried : d.feedTried h feed = (q, .done st p)) (hq : b.IntakeOnly q) (ht : q.itk h.port = t) :
    b.FeedDone (d.feedAttempted h feed) t h feed.opcode st p := by
  rw [Dev.feedAttempted, htried, ← ht]
  exact Dev.feedDone_feedEnded hq { hdr := h, feed := feed } st p

theorem Dev.feedAttempted_held {h : FeedHdr} {feed : Feed} {q : Dev} {y : FeedEnt} (htried : d.feedTried h feed = (q, .held y)) :
    d.feedAttempted h feed = q.setItk h.port { q.itk h.port with frames := [y] } := by
  rw [Dev.feedAttempted, htried]; rfl

end Sys2Proof.Machine
end

section
/-! PROOFS. FFLUSH, the resumption of a held feed frame, and the acknowledgement of a full slot (R95, R96, R99). -/

namespace Sys2Proof.Machine

variable {d : Dev}

/-- A slot holds a raster that does not lie before `raster`. -/
def slotGone (raster : Nat) (x : Nat × Option RSlot) : Bool := match x.2 with | some y => !before48 y.raster raster | none => false

theorem slotGone_not (raster : Nat) (x : Nat × Option RSlot) :
    (!slotGone raster x) = (match x.2 with | some y => before48 y.raster raster | none => true) := by
  obtain ⟨k, y⟩ := x
  cases y with
  | none => rfl
  | some y => exact Bool.not_not _

/-- FFLUSH empties slots, or is refused. -/
theorem Dev.feedExec_of_fflush {x : FeedEnt} {raster : Nat} {ok : Bool} (hmodes : d.bayModes = true) (hfeed : x.feed = .fflush raster ok) :
    d.feedExec x = if ok then
        (d.setItk x.hdr.port { d.itk x.hdr.port with slots := (d.itk x.hdr.port).slots.filter fun y => !slotGone raster y },
          .done .ok (le 4 ((d.itk x.hdr.port).slots.filter (slotGone raster)).length))
      else (d, .done .badFrame []) := by
  unfold Dev.feedExec
  simp only [hmodes, hfeed, Bool.not_true, Bool.false_eq_true, if_false]
  cases ok <;> rfl

/-- The slots that stand after FFLUSH, and how many it empties. -/
def Intake.flushed (t : Intake) (raster : Nat) : Intake := { t with slots := t.slots.filter fun y => !slotGone raster y }
def Intake.flushCount (t : Intake) (raster : Nat) : Nat := (t.slots.filter (slotGone raster)).length

/-- An FFLUSH alone in its queue, attempted: of the device the intake alone changes. -/
theorem Dev.feedTried_fflush {h : FeedHdr} (raster : Nat) (ok : Bool) (hmodes : d.bayModes = true) :
    ∃ q, d.feedTried h (.fflush raster ok) =
        (q, .done (if ok then .ok else .badFrame) (if ok then le 4 ((d.itk h.port).flushCount raster) else [])) ∧
      d.IntakeOnly q ∧ q.itk h.port = if ok then ((d.itk h.port).queued ⟨h, .fflush raster ok, false, 0, 0, 0, 0, 0⟩).flushed raster
        else (d.itk h.port).queued ⟨h, .fflush raster ok, false, 0, 0, 0, 0, 0⟩ := by
  have hqueued := d.feedQueued_intakeOnly h (.fflush raster ok)
  have hitk := d.feedQueued_itk h (.fflush raster ok)
  have htried : d.feedTried h (.fflush raster ok) = _ := Dev.feedExec_of_fflush (d := d.feedQueued h (.fflush raster ok)) hmodes rfl
  rw [htried, hitk]
  cases ok with
  | true => exact ⟨_, rfl, hqueued.trans (Dev.intakeOnly_setItk _ _ _), Dev.itk_setItk _ _ _⟩
  | false => exact ⟨_, rfl, hqueued, hitk⟩

theorem exec_fflush (h : FeedHdr) (raster len reserved : Nat) (s : State) : exec (.fflush h raster len reserved) s =
    s.onDev (fun d => d.feedOpen h) fun d => d.feedArrive h (.fflush raster (len == 8 && reserved == 0)) := rfl

/-- An FFLUSH that comes to an empty queue, in sequence. -/
theorem fflush_ends (h : FeedHdr) (raster len reserved : Nat) (s : State) (hopen : s.dev.feedOpen h = true) (hmodes : s.dev.bayModes = true)
    (hbay : s.dev.portBay h.port = some h.seat.val) (hempty : (s.dev.itk h.port).frames = []) (hdist : seqDist (s.dev.itk h.port).fq h.seq = 0) :
    ∃ t, exec (.fflush h raster len reserved) s = .next t ∧ t.nv = s.nv ∧ t.dev.fs = s.dev.fs ∧ t.dev.tbl = s.dev.tbl ∧ t.dev.bays = s.dev.bays ∧
      s.dev.regsBut [] t.dev ∧ (t.dev.itk h.port).frames = [] ∧ (t.dev.itk h.port).u = (s.dev.itk h.port).u ∧
      (t.dev.itk h.port).fq.exp = ((s.dev.itk h.port).fq.exp + 1) % 65536 ∧
      (t.dev.itk h.port).slots = (if len == 8 && reserved == 0 then (s.dev.itk h.port).flushed raster else s.dev.itk h.port).slots ∧
      ∃ d : Dev, t.dev = if len == 8 && reserved == 0 then d.feedComplete h 0x42 .ok (le 4 ((s.dev.itk h.port).flushCount raster))
        else d.feedComplete h 0x42 .badFrame [] := by
  have harrive := Dev.feedArrive_of_alone (fun _ => hbay) hempty hdist (.fflush raster (len == 8 && reserved == 0))
  have hexec := (exec_fflush h raster len reserved s).trans (State.onDev_of hopen harrive)
  generalize hok : (len == 8 && reserved == 0) = ok at hexec ⊢
  obtain ⟨q, htried, honly, hitk⟩ := Dev.feedTried_fflush (h := h) raster ok hmodes
  have hdone := Dev.feedAttempted_done htried honly hitk
  have hend := hdone.itk
  refine ⟨_, hexec, rfl, hdone.fs, hdone.tbl, hdone.bays, hdone.regs, ?_, ?_, ?_, ?_, ?_⟩
  iterate 4 (rw [hend]; cases ok <;> rfl)
  obtain ⟨f, htold⟩ := hdone.told
  exact ⟨f, htold.trans (by cases ok <;> rfl)⟩

theorem exec_feedFrameResume (xx : Fin 32) (s : State) : exec (.feedFrameResume xx) s =
    s.onDev (fun d => d.bayModes && !(d.itk xx).frames.isEmpty) fun d => d.feedRun xx ((d.itk xx).frames.length + 1) := rfl

/-- A held frame that is resumed is attempted again. -/
theorem feedFrameResume_ends {xx : Fin 32} {x : FeedEnt} {s : State} (hmodes : s.dev.bayModes = true) (hone : (s.dev.itk xx).frames = [x])
    (htaken : x.taken = true) : exec (.feedFrameResume xx) s =
      .next { s with dev := (s.dev.feedExec x).1.feedEnded xx x (s.dev.feedExec x).2 } := by
  rw [exec_feedFrameResume]
  refine State.onDev_of (by simp [hmodes, hone]) ?_
  rw [hone]
  exact Dev.feedRun_of_taken hone htaken 1

theorem exec_slotComplete (xx : Fin 32) (raster : Nat) (s : State) : exec (.slotComplete xx raster) s =
    s.onDev (fun d => d.running && d.slotAwaits xx raster) fun d => d.slotAck xx raster := rfl

theorem Dev.slotAck_of_slot {xx raster : Nat} {x : RSlot} (h : (d.itk xx).slot raster = some x) :
    d.slotAck xx raster = d.setItk xx ((d.itk xx).setSlot raster (some { x with stamp := some d.tb })) := by
  simp only [Dev.slotAck, h]

/-- Settles O31: each command makes one attempt at the head of its queue, or stamps one slot. -/
theorem feedFlushAndResume : Obligations.FeedFlushAndResume := by
  unfold Obligations.FeedFlushAndResume
  refine ⟨fun h raster len reserved s hopen hmodes hbay hempty hdist => ?_, fun xx x s hmodes hone htaken hport => ?_,
    fun xx raster x s hrun hawaits hslot => ?_⟩
  · obtain ⟨t, hexec, hnv, hfs, htbl, hbays, hregs, hframes, hu, hexp, hslots, d, htold⟩ :=
      fflush_ends h raster len reserved s hopen hmodes hbay hempty hdist
    refine ⟨t, hexec, hnv, hfs, htbl, hbays, hregs, hframes, hu, hexp, fun hlen hres => ?_, fun hbad => ?_⟩
    · have hok : (len == 8 && reserved == 0) = true := by simp [hlen, hres]
      rw [hok] at hslots htold
      exact ⟨hslots.trans (List.filter_congr fun y _ => slotGone_not raster y), d, htold⟩
    · have hok : (len == 8 && reserved == 0) = false := by
        simp only [Bool.and_eq_false_iff, beq_eq_false_iff_ne]; exact hbad
      rw [hok] at hslots htold
      exact ⟨hslots, d, htold⟩
  · refine ⟨_, feedFrameResume_ends hmodes hone htaken, rfl, fun y hheld => ?_, fun st p hdone => ?_⟩
    · rw [hheld]
      exact ⟨by rw [Dev.feedEnded, Dev.itk_setItk], rfl⟩
    · subst hport
      have hend := Dev.feedDone_feedEnded (.refl (s.dev.feedExec x).1) x st p
      rw [hdone]
      exact ⟨by rw [hend.itk]; rfl, hend.fs, hend.told⟩
  · rw [exec_slotComplete]
    exact State.onDev_of (by simp [hrun, hawaits]) (Dev.slotAck_of_slot hslot)

end Sys2Proof.Machine
end

section
/-! PROOFS. Writes of the frame store (R82, R85): the bytes written, and what the reads of the cut blocks leave. -/

namespace Sys2Proof.Machine

variable {d e : Dev}

/-- A run of keys reads back as it was written. -/
theorem Store.getRun_setRun {α : Type} [DecidableEq α] (f : Nat → α) (m : Store α) (x : Nat) (l : List α) :
    Store.getRun f (Store.setRun f m x l) x l.length = l := by
  induction l generalizing m x with
  | nil => rfl
  | cons v r ih =>
    have hhead : Store.get f (Store.setRun f (Store.set f m x v) (x + 1) r) x = v := by
      rw [Store.get_setRun_outside f _ _ _ _ (.inl (Nat.lt_succ_self x)), Store.get_set_self]
    have hrest : Store.getRun f (Store.setRun f (Store.set f m x v) (x + 1) r) (x + 1) r.length = r := ih _ _
    rw [Store.getRun] at hrest
    simp only [Store.getRun, Store.setRun, List.length_cons, List.range_succ_eq_map, List.map_cons, List.map_map, Nat.add_zero, hhead]
    refine congrArg (v :: ·) ((List.map_congr_left fun i _ => ?_).trans hrest)
    simp only [Function.comp, Nat.succ_eq_add_one, Nat.add_assoc, Nat.add_comm 1 i]

/-- The device without its frame store, and what a checked read may change. -/
def Dev.unwritten (d : Dev) : Dev := { d.unread with fs := [], fsBad := [] }

/-- The bytes `bs` have been written at `addr`. -/
structure Dev.Wrote (d e : Dev) (addr : Nat) (bs : List Byte) : Prop where
  fs : e.fs = Store.setRun d.fsDflt d.fs addr bs
  unwritten : e.unwritten = d.unwritten

section
variable {addr : Nat} {bs : List Byte} (h : d.Wrote e addr bs)
include h

theorem Dev.Wrote.bays : e.bays = d.bays := by
  have hu := congrArg Dev.bays h.unwritten; exact hu
theorem Dev.Wrote.tbl : e.tbl = d.tbl := by
  have hu := congrArg Dev.tbl h.unwritten; exact hu
theorem Dev.Wrote.intake : e.intake = d.intake := by
  have hu := congrArg Dev.intake h.unwritten; exact hu
theorem Dev.Wrote.itk (xx : Nat) : e.itk xx = d.itk xx := by unfold Dev.itk; rw [h.intake]
theorem Dev.Wrote.fsDflt : e.fsDflt = d.fsDflt := by
  have hu := congrArg Dev.fsLost h.unwritten
  have hlost : e.fsLost = d.fsLost := hu
  funext a; unfold Dev.fsDflt; rw [hlost]

theorem Dev.Wrote.fsBytes : e.fsBytes addr bs.length = bs := by
  rw [Dev.fsBytes, h.fsDflt, h.fs, Store.getRun_setRun]

theorem Dev.Wrote.fsByte {a : Nat} (ha : a < addr ∨ addr + bs.length ≤ a) : e.fsByte a = d.fsByte a := by
  rw [Dev.fsByte, h.fsDflt, h.fs, Store.get_setRun_outside _ _ _ _ _ ha]; rfl

end

theorem Dev.fsEdge_kept (d : Dev) (bay : Option Nat) (unit blk : Nat) :
    (d.fsEdge bay unit blk).unwritten = d.unwritten ∧ (d.fsEdge bay unit blk).fs = d.fs := by
  have hread := checked_fsCheckBlock bay unit (d, false) blk
  have hrest := congrArg (fun x : Dev => { x with fs := [], fsBad := [] }) hread.unread
  unfold Dev.fsEdge
  split
  · exact ⟨hrest, hread.fs⟩
  · exact ⟨hrest, hread.fs⟩

theorem Dev.fsEdges_kept (bay : Option Nat) (unit : Nat) (l : List Nat) (d : Dev) :
    (l.foldl (fun d blk => d.fsEdge bay unit blk) d).unwritten = d.unwritten ∧ (l.foldl (fun d blk => d.fsEdge bay unit blk) d).fs = d.fs := by
  induction l generalizing d with
  | nil => exact ⟨rfl, rfl⟩
  | cons blk r ih => exact ⟨(ih _).1.trans (d.fsEdge_kept bay unit blk).1, (ih _).2.trans (d.fsEdge_kept bay unit blk).2⟩

/-- The bytes are written after the reads, whatever marks then stand. -/
theorem Dev.wrote_of_read (hread : e.unwritten = d.unwritten ∧ e.fs = d.fs) (bad : Store Bool) (addr : Nat) (bs : List Byte) :
    d.Wrote { e with fsBad := bad, fs := Store.setRun e.fsDflt e.fs addr bs } addr bs := by
  obtain ⟨hrest, hfs⟩ := hread
  have hlost : e.fsLost = d.fsLost := by
    have hu := congrArg Dev.fsLost hrest; exact hu
  have hdflt : e.fsDflt = d.fsDflt := by funext a; unfold Dev.fsDflt; rw [hlost]
  refine ⟨?_, hrest⟩
  rw [← hdflt, ← hfs]

theorem Dev.fsWrite_wrote (d : Dev) (bay : Option Nat) (unit addr : Nat) (bs : List Byte) : d.Wrote (d.fsWrite bay unit addr bs) addr bs := by
  have htouch : d.memTouch.unwritten = d.unwritten ∧ d.memTouch.fs = d.fs :=
    ⟨congrArg (fun x : Dev => { x with fs := [], fsBad := [] }) d.checked_memTouch.unread, d.checked_memTouch.fs⟩
  have hedges (cuts : List Nat) := Dev.fsEdges_kept bay unit cuts d.memTouch
  unfold Dev.fsWrite; dsimp only
  split
  · rename_i hnone
    rw [List.length_eq_zero_iff.mp hnone]
    exact ⟨rfl, rfl⟩
  · exact Dev.wrote_of_read ⟨(hedges _).1.trans htouch.1, (hedges _).2.trans htouch.2⟩ _ addr bs

/-- The bytes that a course's pixels leave: the pixel stream and, in a cut last byte, the bits that it held. -/
def Dev.pixelBytes (d : Dev) (addr bits stream : Nat) : List Byte :=
  le ((bits + 7) / 8) (ofLe (d.fsBytes addr ((bits + 7) / 8)) / 2 ^ bits * 2 ^ bits + stream % 2 ^ bits)

theorem Dev.writePixels_wrote (d : Dev) (bay : Option Nat) (xx addr bits stream : Nat) :
    d.Wrote (d.writePixels bay xx addr bits stream) addr (d.pixelBytes addr bits stream) := d.fsWrite_wrote _ _ _ _

end Sys2Proof.Machine
end

section
/-! PROOFS. The courses of CDATA and CFILL (R91, R92, R94, R95, R99): what becomes of one course, and what a frame comes to. -/

namespace Sys2Proof.Machine

variable {d e : Dev}

/-! ## One course -/

/-- The pixels of a fragment are written in its slot, which then holds the raster up to their end. -/
def Dev.courseStored (d : Dev) (xx r offset pixels stream : Nat) : Dev :=
  let t := d.itk xx
  let w := d.writePixels (d.portBay xx) xx (t.slotAddr r + fmtBits t.geo.1 * offset / 8) (fmtBits t.geo.1 * pixels) stream
  w.setItk xx ((w.itk xx).setSlot r (some ⟨r, offset + pixels, none⟩))

/-- The effect of a course, by what becomes of it. -/
def Dev.courseDone (d : Dev) (xx r offset pixels stream : Nat) : CourseRes → Dev
  | .hold => d
  | .late => d.bump .RI_STALECNT_STALE xx 0
  | .ahead => d.bump .RI_CNT_AHEAD xx 0
  | .gap => d.bump .RI_CNT_GAP xx 0
  | .restart | .extend => d.courseStored xx r offset pixels stream

/-- The frame with the course counted in its disposition. -/
def FeedEnt.counted (x : FeedEnt) : CourseRes → FeedEnt
  | .hold => x
  | .late => { x with next := x.next + 1, late := x.late + 1 }
  | .ahead => { x with next := x.next + 1, ahead := x.ahead + 1 }
  | .gap => { x with next := x.next + 1, gap := x.gap + 1 }
  | .restart | .extend => { x with next := x.next + 1, acc := x.acc + 1 }

/-- The courses that a disposition counts. -/
def FeedEnt.total (x : FeedEnt) : Nat := x.acc + x.late + x.ahead + x.gap

theorem FeedEnt.counted_keeps (x : FeedEnt) {r : CourseRes} (h : r ≠ .hold) : (x.counted r).hdr = x.hdr ∧ (x.counted r).taken = x.taken ∧
    (x.counted r).next = x.next + 1 ∧ (x.counted r).total = x.total + 1 := by
  cases r with
  | hold => exact absurd rfl h
  | _ => refine ⟨rfl, rfl, rfl, ?_⟩; simp only [FeedEnt.counted, FeedEnt.total]; omega

/-- A raster starts over with its first pixel only. -/
theorem Intake.offset_of_restart {t : Intake} {eth : Bool} {r offset : Nat} (h : t.courseRes eth r offset = .restart) : offset = 0 := by
  by_contra hoff
  unfold Intake.courseRes at h
  rw [if_neg hoff] at h
  split at h
  · cases h
  · split at h
    · cases eth <;> cases h
    · split at h
      · cases h
      · split at h
        · split at h <;> cases h
        · cases h

/-- A function by recursion on a number, at a successor: the recursion's step, with the function at the predecessor at hand. -/
theorem brecOn_of_succ {α : Type} {F : (n : Nat) → Nat.below (motive := fun _ => α) n → α} {k n : Nat} (hn : n = k + 1) {p : α → Prop}
    (h : ∀ b, (∃ b', b ≍ (⟨Nat.brecOn (motive := fun _ => α) k F, b'⟩ : Nat.below (motive := fun _ => α) (k + 1))) → p (F n b)) :
    p (Nat.brecOn (motive := fun _ => α) n F) := by
  subst hn
  exact h _ ⟨_, HEq.rfl⟩

/-- A match on zero or a successor takes the second branch at a successor. -/
theorem match_of_succ {β : Nat → Type} {γ : Type} {m : (α : Nat → Type) → (n : Nat) → (Unit → α 0) → ((k : Nat) → α (k + 1)) → α n} {k n : Nat}
    {zero : Unit → β 0 → γ} {succ : (k : Nat) → β (k + 1) → γ} {b : β n} {b' : β (k + 1)} {c : γ} (hn : n = k + 1) (hb : b ≍ b')
    (hm : ∀ α zero succ, m α (k + 1) zero succ = succ k) (h : succ k b' = c) : m (fun n => β n → γ) n zero succ b = c := by
  subst hn hb
  rwa [hm]

/-- One course of a frame with courses left: a course that has to wait holds it; any other is done and counted, and the next one follows.
The generated equation of `Dev.feedCourses` is taken apart by hand: comparing its two sides at once, the kernel would evaluate the course's
result, and not end. -/
theorem Dev.feedCourses_of_succ {x : FeedEnt} {raster offset pixels : Nat} {stream : Nat → Nat} {r : CourseRes}
    (h : (d.itk x.hdr.port).courseRes (2 ≤ x.hdr.seat.val) (add48 raster x.next) offset = r) {k n : Nat} (hn : n = k + 1) :
    d.feedCourses x raster offset pixels stream n = if r = .hold then (d, .held x) else
      (d.courseDone x.hdr.port (add48 raster x.next) offset pixels (stream x.next) r).feedCourses (x.counted r) raster offset pixels stream k := by
  conv_lhs => delta Dev.feedCourses
  refine brecOn_of_succ (α := Dev → FeedEnt → Dev × FeedRes) hn (p := fun f => f d x = _) fun b ⟨b', hb⟩ => ?_
  conv_lhs => delta Dev.feedCourses._f
  refine match_of_succ hn hb (fun _ _ _ => rfl) ?_
  have hrec : Nat.brecOn (motive := fun _ => Dev → FeedEnt → Dev × FeedRes) k (Dev.feedCourses._f raster offset pixels stream) =
      fun d y => Dev.feedCourses d y raster offset pixels stream k := by
    delta Dev.feedCourses; rfl
  rw [hrec]
  obtain ⟨res, hcr⟩ : ∃ res, res = @Intake.courseRes := ⟨_, rfl⟩
  rw [← hcr] at h ⊢
  dsimp only
  rw [h]
  cases r with
  | hold => exact (if_pos rfl).symm
  | restart =>
    have hoff := Intake.offset_of_restart (hcr ▸ h)
    subst hoff
    rw [if_neg (by decide)]
    simp only [Dev.courseDone, Dev.courseStored, FeedEnt.counted, Nat.mul_zero, Nat.zero_div, Nat.zero_add, Nat.add_zero]
  | _ => rw [if_neg (by decide)]; simp only [Dev.courseDone, Dev.courseStored, FeedEnt.counted]

/-- A course that has to wait holds its frame. -/
theorem Dev.feedCourses_of_hold {x : FeedEnt} {raster offset pixels : Nat} {stream : Nat → Nat}
    (h : (d.itk x.hdr.port).courseRes (2 ≤ x.hdr.seat.val) (add48 raster x.next) offset = .hold) (k : Nat) :
    d.feedCourses x raster offset pixels stream (k + 1) = (d, .held x) :=
  (Dev.feedCourses_of_succ h rfl).trans (if_pos rfl)

/-- Any other course is done and counted, and the next one follows. -/
theorem Dev.feedCourses_of_done {x : FeedEnt} {raster offset pixels : Nat} {stream : Nat → Nat} {r : CourseRes}
    (h : (d.itk x.hdr.port).courseRes (2 ≤ x.hdr.seat.val) (add48 raster x.next) offset = r) (hr : r ≠ .hold) (k : Nat) :
    d.feedCourses x raster offset pixels stream (k + 1) =
      (d.courseDone x.hdr.port (add48 raster x.next) offset pixels (stream x.next) r).feedCourses (x.counted r) raster offset pixels stream k :=
  (Dev.feedCourses_of_succ h rfl).trans (if_neg hr)

/-! ## What a course keeps -/

/-- The bays, the tables and the command queue of the port are as before. -/
structure Dev.CourseKept (d e : Dev) (xx : Nat) : Prop where
  bays : e.bays = d.bays
  tbl : e.tbl = d.tbl
  fq : (e.itk xx).fq = (d.itk xx).fq

theorem Dev.CourseKept.trans {f : Dev} {xx : Nat} (h : d.CourseKept e xx) (k : e.CourseKept f xx) : d.CourseKept f xx :=
  ⟨k.bays.trans h.bays, k.tbl.trans h.tbl, k.fq.trans h.fq⟩

theorem Intake.setSlot_keeps (t : Intake) (r : Nat) (x : Option RSlot) : (t.setSlot r x).fq = t.fq ∧ (t.setSlot r x).frames = t.frames ∧
    (t.setSlot r x).geo = t.geo := by
  unfold Intake.setSlot
  split <;> exact ⟨rfl, rfl, rfl⟩

/-- A slot reads back as it was written, where the port has a ring. -/
theorem Intake.slot_setSlot {t : Intake} (h : t.geo.2.2.2 ≠ 0) (r : Nat) (x : Option RSlot) : (t.setSlot r x).slot r = x := by
  unfold Intake.slot Intake.setSlot
  rw [if_neg h, if_neg h]
  exact Store.get_set_self _ _ _ _

/-- The device with the pixels of a fragment written. -/
def Dev.courseWritten (d : Dev) (xx r offset pixels stream : Nat) : Dev :=
  d.writePixels (d.portBay xx) xx ((d.itk xx).slotAddr r + fmtBits (d.itk xx).geo.1 * offset / 8) (fmtBits (d.itk xx).geo.1 * pixels) stream

theorem Dev.courseStored_eq (d : Dev) (xx r offset pixels stream : Nat) : d.courseStored xx r offset pixels stream =
    (d.courseWritten xx r offset pixels stream).setItk xx ((d.itk xx).setSlot r (some ⟨r, offset + pixels, none⟩)) := by
  have hwrote := d.writePixels_wrote (d.portBay xx) xx ((d.itk xx).slotAddr r + fmtBits (d.itk xx).geo.1 * offset / 8)
    (fmtBits (d.itk xx).geo.1 * pixels) stream
  unfold Dev.courseStored Dev.courseWritten; dsimp only
  rw [hwrote.itk]

theorem Dev.courseWritten_wrote (d : Dev) (xx r offset pixels stream : Nat) : d.Wrote (d.courseWritten xx r offset pixels stream)
    ((d.itk xx).slotAddr r + fmtBits (d.itk xx).geo.1 * offset / 8)
    (d.pixelBytes ((d.itk xx).slotAddr r + fmtBits (d.itk xx).geo.1 * offset / 8) (fmtBits (d.itk xx).geo.1 * pixels) stream) :=
  d.writePixels_wrote _ _ _ _ _

theorem Dev.courseDone_kept (d : Dev) (xx r offset pixels stream : Nat) (c : CourseRes) :
    d.CourseKept (d.courseDone xx r offset pixels stream c) xx := by
  have hstored : d.CourseKept (d.courseStored xx r offset pixels stream) xx := by
    have hwrote := d.courseWritten_wrote xx r offset pixels stream
    rw [d.courseStored_eq]
    exact ⟨hwrote.bays, hwrote.tbl, by rw [Dev.itk_setItk]; exact ((d.itk xx).setSlot_keeps _ _).1⟩
  cases c with
  | restart => exact hstored
  | extend => exact hstored
  | _ => exact ⟨rfl, rfl, rfl⟩

/-! ## The courses of a frame -/

/-- What executing `k` courses of a frame may come to: it is held at one of them, or each of them has a disposition. -/
def FeedRes.accounts (x : FeedEnt) (k : Nat) : FeedRes → Prop
  | .held y => y.hdr = x.hdr ∧ y.taken = x.taken ∧ y.next < x.next + k
  | .done st p => st = .ok ∧ ∃ y : FeedEnt, y.total = x.total + k ∧ p = y.disposition

theorem Dev.feedCourses_accounts (raster offset pixels : Nat) (stream : Nat → Nat) (k : Nat) (d : Dev) (x : FeedEnt) :
    d.CourseKept (d.feedCourses x raster offset pixels stream k).1 x.hdr.port ∧ (d.feedCourses x raster offset pixels stream k).2.accounts x k := by
  induction k generalizing d x with
  | zero => exact ⟨⟨rfl, rfl, rfl⟩, rfl, x, rfl, rfl⟩
  | succ k ih =>
    generalize hres : (d.itk x.hdr.port).courseRes (2 ≤ x.hdr.seat.val) (add48 raster x.next) offset = r
    by_cases hr : r = .hold
    · rw [Dev.feedCourses_of_hold (hr ▸ hres)]
      exact ⟨⟨rfl, rfl, rfl⟩, rfl, rfl, by omega⟩
    · have hkept := d.courseDone_kept x.hdr.port (add48 raster x.next) offset pixels (stream x.next) r
      obtain ⟨hhdr, htaken, hnext, htotal⟩ := x.counted_keeps hr
      rw [Dev.feedCourses_of_done hres hr]
      obtain ⟨hrest, hacc⟩ := ih (d.courseDone x.hdr.port (add48 raster x.next) offset pixels (stream x.next) r) (x.counted r)
      rw [hhdr] at hrest
      refine ⟨hkept.trans hrest, ?_⟩
      revert hacc
      generalize (Dev.feedCourses _ _ _ _ _ _ _).2 = m
      cases m with
      | held y => rintro ⟨h1, h2, h3⟩; exact ⟨h1.trans hhdr, h2.trans htaken, by omega⟩
      | done st p => rintro ⟨hst, y, hy, hp⟩; exact ⟨hst, y, by omega, hp⟩

end Sys2Proof.Machine
end

section
/-! PROOFS. CDATA and CFILL (R88 to R95). -/

namespace Sys2Proof.Machine

variable {d e : Dev}

/-- The fields of a CDATA frame, or with `fill` of a CFILL frame (R89). -/
structure CourseFrame where
  fill : Bool
  raster : Nat
  count : Nat
  offset : Nat
  pixels : Nat
  format : Nat
  reserved : Nat
  value : Nat
  len : Nat
  data : List Byte

namespace CourseFrame

variable (x : CourseFrame)

/-- The opcode of the frame, the instruction that brings it, and the frame in its queue. -/
def opcode : Nat := if x.fill then 0x41 else 0x40
def instr (h : FeedHdr) : Instr :=
  if x.fill then .cfill h x.raster x.count x.offset x.pixels x.format x.reserved x.value x.len
  else .cdata h x.raster x.count x.offset x.pixels x.format x.reserved x.value x.data
def feed : Feed :=
  if x.fill then .cfill x.raster x.count x.offset x.pixels x.format x.reserved x.value x.len
  else .cdata x.raster x.count x.offset x.pixels x.format x.reserved x.value x.data

/-- Whether the header passes R90 for the ring of a port. -/
def headerOk (geo : Nat × Nat × Nat × Nat) : Bool :=
  feedHeaderOk geo (!x.fill) x.count x.offset x.pixels x.format x.reserved x.value (if x.fill then x.len else 16 + x.data.length)

/-- The bytes of one course of CDATA, and the pixels of a course as a bit stream (R91). -/
def courseBytes (geo : Nat × Nat × Nat × Nat) : Nat := (x.pixels * fmtBits geo.1 + 31) / 32 * 4
def stream (geo : Nat × Nat × Nat × Nat) (k : Nat) : Nat :=
  if x.fill then fillStream (fmtBits geo.1) x.pixels x.value else ofLe ((x.data.drop (k * x.courseBytes geo)).take (x.courseBytes geo))

theorem feed_opcode : x.feed.opcode = x.opcode := by
  unfold feed opcode
  cases x.fill <;> rfl

theorem exec_instr (h : FeedHdr) (s : State) : exec (x.instr h) s = s.onDev (fun d => d.feedOpen h) fun d => d.feedArrive h x.feed := by
  unfold instr feed
  cases x.fill <;> rfl

end CourseFrame

/-- The first execution of a frame: refused by the mode, by a port without ring or by its header, or its courses one by one. -/
theorem Dev.feedExec_of_courses {x : CourseFrame} {y : FeedEnt} (hfeed : y.feed = x.feed) (hnew : y.next = 0) :
    d.feedExec y = if d.bayModes = false then (d, .done .mode [])
      else if (d.itk y.hdr.port).geo.2.2.2 = 0 then (d, .done .refusedAccess [])
      else if x.headerOk (d.itk y.hdr.port).geo = false then (d, .done .badFrame [])
      else d.feedCourses y x.raster x.offset x.pixels (x.stream (d.itk y.hdr.port).geo) x.count := by
  unfold Dev.feedExec CourseFrame.headerOk CourseFrame.stream CourseFrame.courseBytes
  unfold CourseFrame.feed at hfeed
  cases hfill : x.fill <;> simp only [hfill, Bool.false_eq_true, if_true, if_false] at hfeed ⊢ <;>
    simp only [hfeed, hnew, bne_self_eq_false, Bool.false_and, Bool.false_eq_true, if_false, Nat.sub_zero, Bool.not_eq_true', Bool.not_true,
      Bool.not_false]

/-! ## The frame alone in its queue -/

variable (d) (h : FeedHdr) (x : CourseFrame)

/-- The frame at its first attempt. -/
def CourseFrame.entry : FeedEnt := { hdr := h, feed := x.feed, taken := true }

/-- What its courses come to. -/
def Dev.coursesDone : Dev × FeedRes :=
  (d.feedQueued h x.feed).feedCourses (x.entry h) x.raster x.offset x.pixels (x.stream (d.itk h.port).geo) x.count

theorem Dev.feedTried_of_courses : d.feedTried h x.feed = if d.bayModes = false then (d.feedQueued h x.feed, .done .mode [])
    else if (d.itk h.port).geo.2.2.2 = 0 then (d.feedQueued h x.feed, .done .refusedAccess [])
    else if x.headerOk (d.itk h.port).geo = false then (d.feedQueued h x.feed, .done .badFrame [])
    else d.coursesDone h x := by
  have hgeo : ((d.feedQueued h x.feed).itk h.port).geo = (d.itk h.port).geo := by rw [d.feedQueued_itk]; rfl
  have hexec := Dev.feedExec_of_courses (d := d.feedQueued h x.feed) (x := x) (y := x.entry h) rfl rfl
  rw [show ((d.feedQueued h x.feed).itk (x.entry h).hdr.port).geo = (d.itk h.port).geo from hgeo] at hexec
  exact hexec

variable {d h x}

/-- A frame of courses in sequence, alone in its queue, is attempted. -/
theorem exec_courses_alone {s : State} (hopen : s.dev.feedOpen h = true) (hbay : s.dev.bayModes = true → s.dev.portBay h.port = some h.seat.val)
    (hempty : (s.dev.itk h.port).frames = []) (hdist : seqDist (s.dev.itk h.port).fq h.seq = 0) :
    exec (x.instr h) s = .next { s with dev := s.dev.feedAttempted h x.feed } :=
  (x.exec_instr h s).trans (State.onDev_of hopen (Dev.feedArrive_of_alone hbay hempty hdist x.feed))

/-- A frame that is refused leaves its queue, and of the device nothing but the intake changes. -/
theorem Dev.courses_refused {st : Status} (htried : d.feedTried h x.feed = (d.feedQueued h x.feed, .done st [])) :
    d.FeedDone (d.feedAttempted h x.feed) ((d.itk h.port).queued { hdr := h, feed := x.feed }) h x.opcode st [] := by
  rw [← x.feed_opcode]
  exact Dev.feedAttempted_done htried (d.feedQueued_intakeOnly h x.feed) (d.feedQueued_itk h x.feed)

/-- A frame whose courses are executed: it is held at one of them, or ends with a disposition for each of them. -/
theorem Dev.courses_account (htried : d.feedTried h x.feed = d.coursesDone h x) :
    (d.feedAttempted h x.feed).bays = d.bays ∧ (d.feedAttempted h x.feed).tbl = d.tbl ∧
    ((d.feedAttempted h x.feed).itk h.port).fq.exp = ((d.itk h.port).fq.exp + 1) % 65536 ∧
    ((((d.feedAttempted h x.feed).itk h.port).frames = [] ∧ ∃ y : FeedEnt, y.total = x.count ∧
        ∃ f : Dev, d.feedAttempted h x.feed = f.feedComplete h x.opcode .ok y.disposition) ∨
      ∃ y : FeedEnt, ((d.feedAttempted h x.feed).itk h.port).frames = [y] ∧ y.hdr = h ∧ y.taken = true ∧ y.next < x.count) := by
  have haccounts := Dev.feedCourses_accounts x.raster x.offset x.pixels (x.stream (d.itk h.port).geo) x.count (d.feedQueued h x.feed) (x.entry h)
  rw [← Dev.coursesDone] at haccounts
  obtain ⟨hkept, hacc⟩ := haccounts
  have hexp : ((d.coursesDone h x).1.itk h.port).fq.exp = ((d.itk h.port).fq.exp + 1) % 65536 := by
    rw [show ((d.coursesDone h x).1.itk h.port).fq = _ from hkept.fq, show (x.entry h).hdr.port = h.port from rfl, d.feedQueued_itk]; rfl
  generalize hm : d.coursesDone h x = m at htried hkept hacc hexp
  obtain ⟨e, r⟩ := m
  cases r with
  | held y =>
    rw [Dev.feedAttempted_held htried, Dev.itk_setItk]
    obtain ⟨hhdr, htaken, hnext⟩ := hacc
    exact ⟨hkept.bays, hkept.tbl, hexp, .inr ⟨y, rfl, hhdr, htaken, by simpa [CourseFrame.entry] using hnext⟩⟩
  | done st p =>
    obtain ⟨hst, y, htotal, hp⟩ := hacc
    have hdone := Dev.feedAttempted_done htried (.refl e) rfl
    rw [x.feed_opcode, hst, hp] at hdone
    refine ⟨hdone.bays.trans hkept.bays, hdone.tbl.trans hkept.tbl, by rw [hdone.itk]; exact hexp, .inl ⟨by rw [hdone.itk]; rfl, y, ?_, hdone.told⟩⟩
    simpa [CourseFrame.entry, FeedEnt.total] using htotal

/-! ## A frame of one course -/

theorem Intake.courseRes_queued (t : Intake) (y : FeedEnt) (eth : Bool) (r offset : Nat) : (t.queued y).courseRes eth r offset = t.courseRes eth r offset := by
  unfold Intake.courseRes Intake.inWindow Intake.awaitsBoundary Intake.slot
  rfl

theorem add48_zero {r : Nat} (h : r < 2 ^ 48) : add48 r 0 = r := Nat.mod_eq_of_lt h

theorem Dev.coursesDone_of_one (hcount : x.count = 1) (hraster : x.raster < 2 ^ 48) {r : CourseRes}
    (hres : (d.itk h.port).courseRes (2 ≤ h.seat.val) x.raster x.offset = r) : d.coursesDone h x = if r = .hold then (d.feedQueued h x.feed, .held (x.entry h))
      else ((d.feedQueued h x.feed).courseDone h.port x.raster x.offset x.pixels (x.stream (d.itk h.port).geo 0) r,
        .done .ok ((x.entry h).counted r).disposition) := by
  have hsame : ((d.feedQueued h x.feed).itk h.port).courseRes (2 ≤ h.seat.val) (add48 x.raster 0) x.offset = r := by
    rw [d.feedQueued_itk, Intake.courseRes_queued, add48_zero hraster, hres]
  have hone := Dev.feedCourses_of_succ (x := x.entry h) (pixels := x.pixels) (stream := x.stream (d.itk h.port).geo) hsame hcount
  rw [show add48 x.raster (x.entry h).next = x.raster from add48_zero hraster] at hone
  exact hone

section
variable {t : Intake} {op : Nat} {st : Status} {p : List Byte} (hdone : d.FeedDone e t h op st p)
include hdone

theorem Dev.FeedDone.fsDflt : e.fsDflt = d.fsDflt := by funext a; unfold Dev.fsDflt; rw [hdone.fsLost]
theorem Dev.FeedDone.fsByte (a : Nat) : e.fsByte a = d.fsByte a := by unfold Dev.fsByte; rw [hdone.fsDflt, hdone.fs]
theorem Dev.FeedDone.fsBytes (a n : Nat) : e.fsBytes a n = d.fsBytes a n := by unfold Dev.fsBytes; rw [hdone.fsDflt, hdone.fs]
theorem Dev.FeedDone.fld (y : Fld) (i j : Nat) (hy : y.reg.off i j ∉ reports) : e.fld y i j = d.fld y i j :=
  Dev.fld_of_word (hdone.regs _ List.not_mem_nil hy)

end

theorem Dev.IntakeOnly.fs (h : d.IntakeOnly e) : e.fs = d.fs := by
  obtain ⟨i, rfl⟩ := h
  rfl

theorem Dev.courseDone_unstored (d : Dev) (xx r offset pixels stream : Nat) {c : CourseRes} (hrestart : c ≠ .restart) (hextend : c ≠ .extend) :
    (d.courseDone xx r offset pixels stream c).fs = d.fs ∧ (d.courseDone xx r offset pixels stream c).itk xx = d.itk xx := by
  cases c with
  | restart => exact absurd rfl hrestart
  | extend => exact absurd rfl hextend
  | _ => exact ⟨rfl, rfl⟩

/-- The counters of the intake lie above the registers that reports change. -/
theorem intakeCounters_not_report (xx : Nat) : RegName.off .RI_STALECNT xx 0 ∉ reports ∧ RegName.off .RI_CNT xx 0 ∉ reports := by
  simp only [reports, RegName.off, RegName.info, List.mem_cons, List.not_mem_nil, or_false]
  omega

/-- The device after the one course of a frame. -/
def Dev.courseEnd (d : Dev) (h : FeedHdr) (x : CourseFrame) (r : CourseRes) : Dev :=
  (d.feedQueued h x.feed).courseDone h.port x.raster x.offset x.pixels (x.stream (d.itk h.port).geo 0) r

section
variable {r : CourseRes} (htried : d.feedTried h x.feed = d.coursesDone h x) (hcount : x.count = 1) (hraster : x.raster < 2 ^ 48)
  (hres : (d.itk h.port).courseRes (2 ≤ h.seat.val) x.raster x.offset = r)
include htried hcount hraster hres

theorem Dev.course_held (hr : r = .hold) : d.feedAttempted h x.feed = (d.feedQueued h x.feed).setItk h.port
    { (d.feedQueued h x.feed).itk h.port with frames := [x.entry h] } := by
  rw [Dev.coursesDone_of_one hcount hraster hres, if_pos hr] at htried
  exact Dev.feedAttempted_held htried

theorem Dev.course_done (hr : r ≠ .hold) : (d.courseEnd h x r).FeedDone (d.feedAttempted h x.feed) ((d.courseEnd h x r).itk h.port) h x.opcode .ok
    ((x.entry h).counted r).disposition := by
  rw [Dev.coursesDone_of_one hcount hraster hres, if_neg hr] at htried
  rw [← x.feed_opcode]
  rw [← Dev.courseEnd] at htried
  exact Dev.feedAttempted_done htried (.refl _) rfl

/-- A course that is not stored leaves the frame store and the slots as they are. -/
theorem Dev.course_unstored (hrestart : r ≠ .restart) (hextend : r ≠ .extend) :
    (d.feedAttempted h x.feed).fs = d.fs ∧ ((d.feedAttempted h x.feed).itk h.port).slots = (d.itk h.port).slots := by
  have hfs := (d.feedQueued_intakeOnly h x.feed).fs
  by_cases hr : r = .hold
  · rw [Dev.course_held htried hcount hraster hres hr, Dev.itk_setItk, d.feedQueued_itk]
    exact ⟨hfs, rfl⟩
  · have hdone := Dev.course_done htried hcount hraster hres hr
    obtain ⟨hend, hitk⟩ := Dev.courseDone_unstored (d.feedQueued h x.feed) h.port x.raster x.offset x.pixels (x.stream (d.itk h.port).geo 0)
      hrestart hextend
    rw [hdone.fs, hdone.itk, Dev.courseEnd, hend, hitk, d.feedQueued_itk]
    exact ⟨hfs, rfl⟩

/-- A course that is discarded counts. -/
theorem Dev.course_counted (hr : r ≠ .hold) {y : Fld} (hend : d.courseEnd h x r = (d.feedQueued h x.feed).bump y h.port 0)
    (hlow : y.lo + y.width ≤ 32) (hy : y.reg.off h.port 0 ∉ reports) :
    (d.feedAttempted h x.feed).fld y h.port = min (d.fld y h.port + 1) (2 ^ y.width - 1) := by
  have hdone := Dev.course_done htried hcount hraster hres hr
  rw [hdone.fld y h.port 0 hy, hend, Dev.fld_bump _ y h.port 0 1 hlow, Dev.fld_congr (d.feedQueued_intakeOnly h x.feed).regs]

/-- A course that is stored: its slot, and the bytes of the frame store. -/
theorem Dev.course_stored (hstored : r = .restart ∨ r = .extend) (hring : (d.itk h.port).geo.2.2.2 ≠ 0) {addr bits : Nat}
    (haddr : addr = (d.itk h.port).slotAddr x.raster + fmtBits (d.itk h.port).geo.1 * x.offset / 8) (hbits : bits = fmtBits (d.itk h.port).geo.1 * x.pixels) :
    ((d.feedAttempted h x.feed).itk h.port).slot x.raster = some ⟨x.raster, x.offset + x.pixels, none⟩ ∧
    ((d.feedAttempted h x.feed).itk h.port).frames = [] ∧
    (d.feedAttempted h x.feed).fsBytes addr ((bits + 7) / 8) = d.pixelBytes addr bits (x.stream (d.itk h.port).geo 0) ∧
    ∀ a, (a < addr ∨ addr + (bits + 7) / 8 ≤ a) → (d.feedAttempted h x.feed).fsByte a = d.fsByte a := by
  have hr : r ≠ .hold := by rcases hstored with rfl | rfl <;> decide
  have hdone := Dev.course_done htried hcount hraster hres hr
  have hend : d.courseEnd h x r = (d.feedQueued h x.feed).courseStored h.port x.raster x.offset x.pixels (x.stream (d.itk h.port).geo 0) := by
    rcases hstored with rfl | rfl <;> rfl
  have hwrote := (d.feedQueued h x.feed).courseWritten_wrote h.port x.raster x.offset x.pixels (x.stream (d.itk h.port).geo 0)
  rw [d.feedQueued_itk] at hwrote
  rw [Dev.courseStored_eq, d.feedQueued_itk] at hend
  have haddr' : ((d.itk h.port).queued { hdr := h, feed := x.feed }).slotAddr x.raster +
      fmtBits ((d.itk h.port).queued { hdr := h, feed := x.feed }).geo.1 * x.offset / 8 = addr := haddr.symm
  have hbits' : fmtBits ((d.itk h.port).queued { hdr := h, feed := x.feed }).geo.1 * x.pixels = bits := hbits.symm
  rw [haddr', hbits'] at hwrote
  generalize (d.feedQueued h x.feed).courseWritten h.port x.raster x.offset x.pixels (x.stream (d.itk h.port).geo 0) = w at hwrote hend
  rw [hend] at hdone
  have hitk := hdone.itk
  rw [Dev.itk_setItk] at hitk
  have hlen : ((d.feedQueued h x.feed).pixelBytes addr bits (x.stream (d.itk h.port).geo 0)).length = (bits + 7) / 8 := le_length _ _
  refine ⟨?_, by rw [hitk]; rfl, ?_, fun a ha => ?_⟩
  · rw [hitk]
    exact Intake.slot_setSlot (t := (d.itk h.port).queued { hdr := h, feed := x.feed }) hring x.raster _
  · rw [hdone.fsBytes, ← hlen]
    exact hwrote.fsBytes
  · rw [hdone.fsByte]
    exact hwrote.fsByte (by rwa [hlen])

end

/-! ## What becomes of a frame -/

/-- The pixels of the first course. -/
theorem CourseFrame.stream_zero (geo : Nat × Nat × Nat × Nat) : x.stream geo 0 =
    if x.fill then fillStream (fmtBits geo.1) x.pixels x.value else ofLe (x.data.take ((x.pixels * fmtBits geo.1 + 31) / 32 * 4)) := by
  unfold CourseFrame.stream CourseFrame.courseBytes
  rw [Nat.zero_mul, List.drop_zero]

/-- A refused frame at the device that its execution leaves. -/
theorem courses_refused {s : State} {st : Status} (hopen : s.dev.feedOpen h = true)
    (hbay : s.dev.bayModes = true → s.dev.portBay h.port = some h.seat.val) (hempty : (s.dev.itk h.port).frames = [])
    (hdist : seqDist (s.dev.itk h.port).fq h.seq = 0) (htried : s.dev.feedTried h x.feed = (s.dev.feedQueued h x.feed, .done st [])) :
    ∃ t, exec (x.instr h) s = .next t ∧ t.nv = s.nv ∧ t.dev.fs = s.dev.fs ∧ s.dev.regsBut [] t.dev ∧
      (t.dev.itk h.port).slots = (s.dev.itk h.port).slots ∧ (t.dev.itk h.port).fq.exp = ((s.dev.itk h.port).fq.exp + 1) % 65536 ∧
      ∃ d : Dev, t.dev = d.feedComplete h x.opcode st [] := by
  have hdone := Dev.courses_refused htried
  have hitk := hdone.itk
  exact ⟨_, exec_courses_alone hopen hbay hempty hdist, rfl, hdone.fs, hdone.regs, by rw [hitk]; rfl, by rw [hitk]; rfl, hdone.told⟩

/-- Settles O30: a frame alone in its queue is refused, or its courses are decided one by one; a frame of one course by the one decision. -/
theorem feedStores : Obligations.FeedStores := by
  unfold Obligations.FeedStores
  intro fill h raster count offset pixels format reserved value len data i stream op t0 s ht0 hop hi hstream hopen hempty hraster
  obtain ⟨x, hx⟩ : ∃ x : CourseFrame, x = ⟨fill, raster, count, offset, pixels, format, reserved, value, len, data⟩ := ⟨_, rfl⟩
  have hinstr : i = x.instr h := by rw [hi, hx]; rfl
  have hopcode : op = x.opcode := by rw [hop, hx]; rfl
  have hok : feedHeaderOk t0.geo (!fill) count offset pixels format reserved value (if fill then len else 16 + data.length) = x.headerOk t0.geo := by
    rw [hx]; rfl
  have hbits : stream = x.stream t0.geo 0 := by rw [hstream, x.stream_zero, hx]
  have hr : x.raster = raster := by rw [hx]
  have hc : x.count = count := by rw [hx]
  have ho : x.offset = offset := by rw [hx]
  have hp : x.pixels = pixels := by rw [hx]
  clear hx hi hop hstream
  rw [hok, hinstr, hopcode, hbits, ← hr, ← hc, ← ho, ← hp, ht0]
  subst ht0
  rw [← hr] at hraster
  have htried := s.dev.feedTried_of_courses h x
  refine ⟨fun hmodes hother => ?_, fun hmodes hdist => ?_, fun hmodes hbay hdist => ⟨fun hbad => ?_, fun hring hgood => ?_⟩⟩
  · rw [x.exec_instr, ← x.feed_opcode]
    exact State.onDev_of hopen (Dev.feedArrive_of_other hmodes hother x.feed)
  · rw [if_pos hmodes] at htried
    obtain ⟨t, hexec, hnv, hfs, hregs, hslots, hexp, htold⟩ :=
      courses_refused hopen (fun hm => absurd (hm.symm.trans hmodes) (by decide)) hempty hdist htried
    exact ⟨t, hexec, hnv, hfs, hslots, htold⟩
  · rw [if_neg (by rw [hmodes]; decide)] at htried
    by_cases hring : (s.dev.itk h.port).geo.2.2.2 = 0
    · rw [if_pos hring] at htried ⊢
      exact courses_refused hopen (fun _ => hbay) hempty hdist htried
    · rw [if_neg hring, if_pos (hbad.resolve_left hring)] at htried
      rw [if_neg hring]
      exact courses_refused hopen (fun _ => hbay) hempty hdist htried
  · rw [if_neg (by rw [hmodes]; decide), if_neg hring, if_neg (by rw [hgood]; decide)] at htried
    obtain ⟨hbays, htbl, hexp, houtcome⟩ := Dev.courses_account htried
    refine ⟨_, exec_courses_alone hopen (fun _ => hbay) hempty hdist, rfl, hbays, htbl, hexp, ?_, fun hone => ⟨fun hres => ?_, fun hrestart hextend => ?_,
      fun hres => ?_, fun hres => ?_, fun hres => ?_, fun hres => ?_⟩⟩
    · rcases houtcome with ⟨hframes, y, htotal, f, htold⟩ | hheld
      · exact .inl ⟨hframes, y.acc, y.late, y.ahead, y.gap, htotal, f, htold⟩
      · exact .inr hheld
    · obtain ⟨hslot, hframes, hbytes, hbeside⟩ := Dev.course_stored htried hone hraster rfl hres hring rfl rfl
      refine ⟨hslot, hframes, ?_, hbytes, hbeside⟩
      rcases hres with hres | hres <;> exact (Dev.course_done htried hone hraster hres (by decide)).told
    · exact Dev.course_unstored htried hone hraster rfl hrestart hextend
    · exact ⟨(Dev.course_done htried hone hraster hres (by decide)).told,
        Dev.course_counted htried hone hraster hres (by decide) (y := .RI_STALECNT_STALE) rfl (by decide) (intakeCounters_not_report _).1⟩
    · exact ⟨(Dev.course_done htried hone hraster hres (by decide)).told,
        Dev.course_counted htried hone hraster hres (by decide) (y := .RI_CNT_AHEAD) rfl (by decide) (intakeCounters_not_report _).2⟩
    · exact ⟨(Dev.course_done htried hone hraster hres (by decide)).told,
        Dev.course_counted htried hone hraster hres (by decide) (y := .RI_CNT_GAP) rfl (by decide) (intakeCounters_not_report _).2⟩
    · refine ⟨x.entry h, ?_, rfl, rfl, rfl⟩
      rw [Dev.course_held htried hone hraster hres rfl, Dev.itk_setItk]

end Sys2Proof.Machine
end

section
/-! PROOFS. A read through BAR2 (R85, R107): word by word, each checked, and what reaches the function byte by byte. -/

namespace Sys2Proof.Machine

variable {d e : Dev}

/-! ## The bytes that a seat sees -/

/-- A byte address lies in a word that the seat's aperture reaches. -/
def Dev.bar2Mine (d : Dev) (fn : Fin 4) (a : Nat) : Bool := d.fsReach (.seat fn) (a / 4 * 4) && decide (a / 4 * 4 < d.cap)

/-- It does, and the word cannot be corrected. -/
def Dev.bar2Bad (d : Dev) (fn : Fin 4) (a : Nat) : Bool := d.bar2Mine fn a && d.fsWordBad (a / 8)

/-- The byte that the aperture returns. -/
def Dev.bar2Byte (d : Dev) (fn : Fin 4) (a : Nat) : Byte := if d.bar2Mine fn a then (if d.fsWordBad (a / 8) then 0xFF else d.fsByte a) else 0

/-- The registers of the cameras' buffers, and the frame store's capacity, lie beside those that a checked read changes. -/
theorem reach_not_read (n : Nat) :
    (RegName.off .CM_BUF n 0 ∉ readRegs ∧ RegName.off .CM_BUF n 0 ∉ reports) ∧ (RegName.off .CM_BUFN n 0 ∉ readRegs ∧ RegName.off .CM_BUFN n 0 ∉ reports) ∧
    (RegName.off .CM_GEOM n 0 ∉ readRegs ∧ RegName.off .CM_GEOM n 0 ∉ reports) ∧ (RegName.off .RI_FSSTAT 0 0 ∉ readRegs ∧ RegName.off .RI_FSSTAT 0 0 ∉ reports) := by
  simp only [readRegs, eccRegs, reports, RegName.off, RegName.info, List.mem_cons, List.not_mem_nil, or_false]
  omega

section
variable (h : d.Checked e)
include h

theorem Dev.Checked.sameAssign : d.SameAssign e := h.regs.sameAssign (by decide)

theorem Dev.Checked.inRing (b a : Nat) : e.inRing b a = d.inRing b a := by
  unfold Dev.inRing Dev.portsOf Dev.itk
  simp only [h.sameAssign.portBay, h.intake]

theorem Dev.Checked.inCamBuf (b a : Nat) : e.inCamBuf b a = d.inCamBuf b a := by
  have hfld (x : Fld) (n : Nat) (hx : x.reg.off n 0 ∉ readRegs ∧ x.reg.off n 0 ∉ reports) := h.fld x n 0 hx.1 hx.2
  unfold Dev.inCamBuf
  simp only [h.sameAssign.camBay, fun n => hfld .CM_BUF_BASE n (reach_not_read n).1, fun n => hfld .CM_BUF_FMT n (reach_not_read n).1,
    fun n => hfld .CM_BUFN_COUNT n (reach_not_read n).2.1, fun n => hfld .CM_GEOM_WIDTH n (reach_not_read n).2.2.1,
    fun n => hfld .CM_GEOM_ROWS n (reach_not_read n).2.2.1]

theorem Dev.Checked.bar2Mine (fn : Fin 4) (a : Nat) : e.bar2Mine fn a = d.bar2Mine fn a := by
  have hcap : e.cap = d.cap := by
    unfold Dev.cap
    rw [h.fld .RI_FSSTAT_CAPMIB 0 0 (reach_not_read 0).2.2.2.1 (reach_not_read 0).2.2.2.2]
  unfold Dev.bar2Mine Dev.fsReach
  simp only [h.inRing, h.inCamBuf, hcap]

theorem Dev.Checked.bar2Bad (fn : Fin 4) (a : Nat) : e.bar2Bad fn a = d.bar2Bad fn a := by
  unfold Dev.bar2Bad
  rw [h.bar2Mine, h.fsWordBad]

theorem Dev.Checked.bar2Byte (fn : Fin 4) (a : Nat) : e.bar2Byte fn a = d.bar2Byte fn a := by
  unfold Dev.bar2Byte
  rw [h.bar2Mine, h.fsWordBad, h.fsByte]

end

/-! ## One word -/

theorem Dev.checked_fsWord (d : Dev) (who : Src) (a : Nat) : d.Checked (d.fsWord who a).1 := by
  unfold Dev.fsWord; dsimp only
  split
  · exact .refl d
  · exact d.checked_memTouch.trans (Dev.checked_fsCheck _ _ _ _ _)

/-- A number that bytes spell fits them, and they are its bytes. -/
theorem ofLe_lt (bs : List Byte) : ofLe bs < 256 ^ bs.length := by
  induction bs with
  | nil => exact Nat.one_pos
  | cons b r ih =>
    have hb := b.isLt
    rw [ofLe, List.length_cons, Nat.pow_succ]
    omega

theorem le_ofLe (bs : List Byte) : le bs.length (ofLe bs) = bs := by
  induction bs with
  | nil => rfl
  | cons b r ih =>
    have hb := b.isLt
    have hhead : BitVec.ofNat 8 (b.toNat + 256 * ofLe r) = b := BitVec.eq_of_toNat_eq (by rw [BitVec.toNat_ofNat]; omega)
    rw [List.length_cons, le_succ, ofLe, hhead, show (b.toNat + 256 * ofLe r) / 256 = ofLe r by omega, ih]

/-- The bytes of a word that is read are those that stand in the frame store. -/
theorem le_word_of_stored (d : Dev) (a : Nat) : le 4 (BitVec.ofNat 32 (ofLe (d.fsBytes a 4))).toNat = (List.range 4).map fun j => d.fsByte (a + j) := by
  have hlen : (d.fsBytes a 4).length = 4 := by simp [Dev.fsBytes, Store.getRun]
  have hlt := ofLe_lt (d.fsBytes a 4)
  have hsame := le_ofLe (d.fsBytes a 4)
  rw [hlen] at hlt hsame
  rw [BitVec.toNat_ofNat, Nat.mod_eq_of_lt (show _ < 2 ^ 32 from hlt), hsame]
  rfl

/-- What an aligned word reads as where no read is to be corrupted: its bytes, and whether it is poisoned. -/
theorem Dev.fsWord_bytes {fn : Fin 4} {a : Nat} (ha : a % 4 = 0) (hcount : d.fld .PT_ECC_COUNT = 0) :
    le 4 (d.fsWord (.seat fn) a).2.1.toNat = (List.range 4).map (fun j => d.bar2Byte fn (a + j)) ∧ (d.fsWord (.seat fn) a).2.2 = d.bar2Bad fn a := by
  have hword (j : Nat) (hj : j < 4) : d.bar2Mine fn (a + j) = d.bar2Mine fn a ∧ (a + j) / 8 = a / 8 := by
    unfold Dev.bar2Mine
    rw [show (a + j) / 4 * 4 = a / 4 * 4 by omega]
    exact ⟨rfl, by omega⟩
  have hbytes : (List.range 4).map (fun j => d.bar2Byte fn (a + j)) =
      (List.range 4).map fun j => if d.bar2Mine fn a then (if d.fsWordBad (a / 8) then 0xFF else d.fsByte (a + j)) else 0 :=
    List.map_congr_left fun j hj => by rw [Dev.bar2Byte, (hword j (List.mem_range.mp hj)).1, (hword j (List.mem_range.mp hj)).2]
  have hread := d.checked_memTouch.trans (Dev.checked_fsCheck d.memTouch none 0xFF a 4)
  have hreach : (!d.fsReach (.seat fn) a || decide (d.cap ≤ a)) = !d.bar2Mine fn a := by
    unfold Dev.bar2Mine
    rw [show a / 4 * 4 = a by omega, Bool.not_and, ← decide_not, decide_eq_decide.mpr Nat.not_lt]
  rw [hbytes]
  unfold Dev.fsWord Dev.bar2Bad; dsimp only
  rw [hcount, hread.fsBytes, hreach]
  simp only [bne_self_eq_false, Bool.and_false, Bool.false_and, Bool.or_false]
  have hzero : le 4 (0 : Word).toNat = (List.range 4).map fun _ => 0 := by decide
  have hones : le 4 (0xFFFFFFFF : Word).toNat = (List.range 4).map fun _ => 0xFF := by decide
  cases hmine : d.bar2Mine fn a with
  | false => exact ⟨hzero, rfl⟩
  | true =>
    cases hbad : d.fsWordBad (a / 8) with
    | true => exact ⟨hones, rfl⟩
    | false => exact ⟨le_word_of_stored d a, rfl⟩

/-! ## The words of a read -/

theorem Dev.bar2Words_bytes (fn : Fin 4) (n : Nat) (d : Dev) {a : Nat} (ha : a % 4 = 0) (hcount : d.fld .PT_ECC_COUNT = 0) :
    d.Checked (d.bar2Words fn a n).1 ∧ (d.bar2Words fn a n).2.1 = (List.range (4 * n)).map (fun j => d.bar2Byte fn (a + j)) ∧
    ((d.bar2Words fn a n).2.2 = true ↔ ∃ i < n, d.bar2Bad fn (a + 4 * i) = true) := by
  induction n generalizing d a with
  | zero => exact ⟨.refl d, rfl, by simp [Dev.bar2Words]⟩
  | succ n ih =>
    have hfirst := d.checked_fsWord (.seat fn) a
    obtain ⟨hbytes, hbad⟩ := Dev.fsWord_bytes (fn := fn) ha hcount
    obtain ⟨hrest, hbytes', hbad'⟩ := ih (d.fsWord (.seat fn) a).1 (a := a + 4) (by omega) (hfirst.spared hcount)
    refine ⟨hfirst.trans hrest, ?_, ?_⟩
    · rw [Dev.bar2Words]
      dsimp only
      rw [hbytes, hbytes', show 4 * (n + 1) = 4 + 4 * n by omega, List.range_add, List.map_append, List.map_map]
      refine congrArg (List.map (fun j => d.bar2Byte fn (a + j)) (List.range 4) ++ ·) (List.map_congr_left fun j _ => ?_)
      rw [Function.comp, hfirst.bar2Byte, Nat.add_assoc]
    · rw [Dev.bar2Words]
      dsimp only
      rw [Bool.or_eq_true, hbad, hbad', Nat.exists_lt_succ_left]
      simp only [hfirst.bar2Bad, Nat.mul_zero, Nat.add_zero, Nat.mul_succ, Nat.add_assoc, Nat.add_comm 4]

/-- A word of the read is poisoned exactly where a byte of it is. -/
theorem Dev.bar2Bad_iff {fn : Fin 4} {base off len : Nat} (halign : base % 4 = off % 4) (hlen : 0 < len) :
    (∃ i < (off % 4 + len + 3) / 4, d.bar2Bad fn (base - off % 4 + 4 * i) = true) ↔ ∃ j < len, d.bar2Bad fn (base + j) = true := by
  have hword {x y : Nat} (h4 : x / 4 = y / 4) : d.bar2Bad fn x = d.bar2Bad fn y := by
    unfold Dev.bar2Bad Dev.bar2Mine
    rw [h4, show x / 8 = y / 8 by omega]
  constructor
  · rintro ⟨i, hi, hbad⟩
    refine ⟨4 * i - off % 4, by omega, ?_⟩
    rwa [hword (y := base - off % 4 + 4 * i) (by omega)]
  · rintro ⟨j, hj, hbad⟩
    refine ⟨(off % 4 + j) / 4, by omega, ?_⟩
    rwa [hword (y := base + j) (by omega)]

/-- A read through BAR2 of a running function, where no read is to be corrupted. -/
theorem Dev.bar2Read_bytes {fn : Fin 4} {base off len : Nat} (hrun : d.running = true) (hopen : d.mmioOpen fn.val = true)
    (hcount : d.fld .PT_ECC_COUNT = 0) (hlen : 0 < len) (hbase : base = 2 ^ 30 * d.fld .RI_B2BASE_BASE fn.val + off) :
    ∃ e bs bad, d.bar2Read fn off len = e.emit (.bar2Read fn.val off bs bad) ∧ d.Checked e ∧ bs.length = len ∧
      (∀ j, j < len → bs.getD j 0 = d.bar2Byte fn (base + j)) ∧ (bad = true ↔ ∃ j < len, d.bar2Bad fn (base + j) = true) := by
  have halign : base % 4 = off % 4 := by omega
  obtain ⟨hchecked, hbytes, hbad⟩ := Dev.bar2Words_bytes fn ((off % 4 + len + 3) / 4) d (a := base - off % 4) (by omega) hcount
  refine ⟨_, ((d.bar2Words fn (base - off % 4) ((off % 4 + len + 3) / 4)).2.1.drop (off % 4)).take len, _, ?_, hchecked, ?_, fun j hj => ?_,
    hbad.trans (Dev.bar2Bad_iff halign hlen)⟩
  · unfold Dev.bar2Read
    rw [hrun, hopen, hbase]
    rfl
  · rw [hbytes, List.length_take, List.length_drop, List.length_map, List.length_range]
    omega
  · rw [hbytes, List.getD_eq_getElem?_getD, List.getElem?_take_of_lt hj, List.getElem?_drop, List.getElem?_map,
      List.getElem?_range (by omega), Option.map_some, Option.getD_some]
    congr 1
    omega

end Sys2Proof.Machine
end

section
/-! PROOFS. The accesses of a PCIe function, and its failures (R42, R52, R58, R107, R291, R311). -/

namespace Sys2Proof.Machine

variable {d e : Dev}

/-! ## Configuration requests -/

theorem exec_pcieConfigRequest (fn : Fin 2) (write : Option Word) (dword : Nat) (s : State) :
    exec (.pcieConfigRequest fn write dword) s = s.onDev anytime fun d => d.configRequest fn write dword := rfl

theorem Dev.configRequest_of_load {fn : Nat} (hup : d.pcieUp fn = true) (hload : d.running = false) (write : Option Word) (dword : Nat) :
    d.configRequest fn write dword = d.emit (.config fn true 0) := by
  simp [Dev.configRequest, hup, hload]

theorem Dev.configRequest_write {fn : Nat} (hup : d.pcieUp fn = true) (hrun : d.running = true) (data : Word) (dword : Nat) :
    d.configRequest fn (some data) dword = (d.configWrite fn dword data).emit (.config fn false 0) := by
  simp [Dev.configRequest, hup, hrun]

theorem Dev.configRequest_read {fn : Nat} (hup : d.pcieUp fn = true) (hrun : d.running = true) (dword : Nat) :
    d.configRequest fn none dword = d.nextFree.emit (.config fn false (d.configWord fn dword)) := by
  simp [Dev.configRequest, hup, hrun]

/-- The seats but for what they hold of their configuration. -/
def Dev.ConfigOnly (d e : Dev) (fn : Nat) : Prop := { e with seats := d.seats } = d ∧ (∀ j : Fin 4, j.val ≠ fn → e.seat j = d.seat j) ∧
  { e.seat fn with bars := (d.seat fn).bars, d3 := (d.seat fn).d3 } = d.seat fn

theorem Dev.configOnly_setSeat (fn : Nat) {x : Seat} (hx : { x with bars := (d.seat fn).bars, d3 := (d.seat fn).d3 } = d.seat fn) :
    d.ConfigOnly (d.setSeat fn x) fn :=
  ⟨rfl, fun j hj => d.seat_setSeat_other x hj, by rw [d.seat_setSeat]; exact hx⟩

/-- A configuration write sets a base address register or the power state, or nothing. -/
theorem Dev.configWrite_configOnly (d : Dev) (fn dword : Nat) (data : Word) : d.ConfigOnly (d.configWrite fn dword data) fn := by
  unfold Dev.configWrite; dsimp only
  split
  · exact Dev.configOnly_setSeat fn rfl
  · split
    · split
      · exact Dev.configOnly_setSeat fn rfl
      · split
        · exact Dev.configOnly_setSeat fn rfl
        · exact ⟨rfl, fun _ _ => rfl, rfl⟩
    · exact ⟨rfl, fun _ _ => rfl, rfl⟩

/-! ## Refused accesses -/

/-- The device once the status of a refused access has been noted (R81). -/
def Dev.noted (d : Dev) (fn : Nat) (st : Status) : Dev := (d.noteStatus fn (4 * fn + 1) st st).noteMode fn st

theorem Dev.mmioRefused_eq (d : Dev) (fn off : Nat) (st : Status) : d.mmioRefused fn off st = (d.noted fn st).seatEvent fn 1 0x0203 off st.code := rfl

theorem Dev.reported_noted (d : Dev) {fn : Nat} (hfn : fn < 4) (st : Status) : d.Reported (d.noted fn st) :=
  ((d.indices_noteStatus hfn _ _ _).trans (Dev.indices_noteMode _ hfn _)).reported

theorem Dev.told_mmioRefused (d : Dev) (fn off : Nat) (st : Status) : d.Told (d.mmioRefused fn off st) := by
  have hmode (e : Dev) : e.Told (e.noteMode fn st) := by
    unfold Dev.noteMode
    split
    · exact e.told_bump _ _ _ _
    · exact .refl e
  have hevent (e : Dev) : e.Told (e.seatEvent fn 1 0x0203 off st.code) := by
    unfold Dev.seatEvent
    split
    · exact e.told_bayEvent _ _ _ _ _ _
    · exact e.told_devEvent _ _ _ _ _ _
  exact ((Dev.told_of_same (d.seats_noteStatus _ _ _ _) (d.fc_noteStatus _ _ _ _)).trans (hmode _)).trans (hevent _)

/-- HS_ERRLAST stands beside HS_ERRCNT. -/
theorem Dev.errlast_bump (d : Dev) (s : Nat) {y : Fld} (hy : y.reg = .HS_ERRCNT) : (d.bump y s 0).fld .HS_ERRLAST_STATUS s = d.fld .HS_ERRLAST_STATUS s :=
  d.fld_setFld_reg y .HS_ERRLAST_STATUS s 0 s 0 _ (by rw [hy]; simp only [RegName.off, RegName.info]; omega)

/-- The status that left is the last one noted. -/
theorem Dev.errlast_noted (d : Dev) (fn : Nat) {st : Status} (hst : st ≠ .ok) : (d.noted fn st).fld .HS_ERRLAST_STATUS fn = st.code := by
  have hwidth : st.code % 2 ^ Fld.HS_ERRLAST_STATUS.width = st.code := Nat.mod_eq_of_lt (by cases st <;> decide)
  have hlast : ((d.setFld .HS_ERRLAST_STATUS fn 0 st.code).setFld .HS_ERRLAST_QUEUE fn 0 (4 * fn + 1)).fld .HS_ERRLAST_STATUS fn = st.code := by
    rw [Dev.fld_setFld_beside _ .HS_ERRLAST_QUEUE .HS_ERRLAST_STATUS fn 0 _ rfl (by decide) (by decide) (by decide),
      d.fld_setFld .HS_ERRLAST_STATUS fn 0 _ (by decide), hwidth]
  have hnote : (d.noteStatus fn (4 * fn + 1) st st).fld .HS_ERRLAST_STATUS fn = st.code := by
    unfold Dev.noteStatus
    rw [if_neg hst]
    dsimp only
    split
    · rw [Dev.errlast_bump _ _ rfl, hlast]
    · split
      · rw [Dev.errlast_bump _ _ rfl, hlast]
      · exact hlast
  unfold Dev.noted Dev.noteMode
  split
  · rw [Dev.errlast_bump _ _ rfl, hnote]
  · exact hnote

/-- A write that changes the device and the tally only where its status is OK. -/
def RefusedWhole (d : Dev) (v : Nv) (m : Dev × Nv × Status) : Prop := m.2.2 ≠ .ok → m.1 = d ∧ m.2.1 = v

/-- A write of a register, and of the bus, is refused as a whole. -/
theorem writeReg_refusedWhole (d : Dev) (v : Nv) (who : Src) (r : RegName) (i j : Nat) (w : Word) : RefusedWhole d v (writeReg d v who r i j w) := by
  unfold writeReg
  split
  · exact fun _ => ⟨rfl, rfl⟩
  · split
    · exact fun _ => ⟨rfl, rfl⟩
    · split
      · exact fun _ => ⟨rfl, rfl⟩
      · exact fun h => absurd rfl h

theorem busWrite_refusedWhole (d : Dev) (v : Nv) (who : Src) (o : Nat) (w : Word) : RefusedWhole d v (busWrite d v who o w) := by
  unfold busWrite
  split
  · exact fun _ => ⟨rfl, rfl⟩
  · split
    · exact fun _ => ⟨rfl, rfl⟩
    · split
      · exact fun _ => ⟨rfl, rfl⟩
      · split
        · split
          · exact fun _ => ⟨rfl, rfl⟩
          · split
            · exact fun _ => ⟨rfl, rfl⟩
            · exact fun h => absurd rfl h
        · split
          · exact writeReg_refusedWhole _ _ _ _ _ _ _
          · exact fun _ => ⟨rfl, rfl⟩

/-- The status of a write of a function through BAR0: one aligned dword with every byte enable is the bus's to judge. -/
def Dev.mmioStatus (d : Dev) (v : Nv) (fn : Fin 4) (addr size : Nat) (en : Bool) (value : Nat) : Status :=
  if addr % 4 ≠ 0 ∨ size ≠ 4 ∨ en = false then .refusedAccess else (busWrite d v (.seat fn) addr (BitVec.ofNat 32 value)).2.2

theorem mmioWrite_of_refused {v : Nv} {fn : Fin 4} {addr size value : Nat} {en : Bool} (hrun : d.running = true) (hopen : d.mmioOpen fn.val = true)
    (hmsix : inMsix addr = false) (hst : d.mmioStatus v fn addr size en value ≠ .ok) :
    mmioWrite d v fn addr size en value = (d.mmioRefused fn.val (refusedOff addr) (d.mmioStatus v fn addr size en value), v) := by
  have hshape : (addr % 4 != 0 || size != 4 || !en) = decide (addr % 4 ≠ 0 ∨ size ≠ 4 ∨ en = false) := by
    rw [Bool.eq_iff_iff]
    simp [or_assoc]
  unfold mmioWrite
  unfold Dev.mmioStatus at hst ⊢
  simp only [hrun, hopen, hmsix, hshape, Bool.not_true, Bool.or_self, Bool.false_eq_true, if_false, decide_eq_true_eq]
  split
  · rfl
  · rename_i hwhole
    rw [if_neg hwhole] at hst
    obtain ⟨hd, hv⟩ := busWrite_refusedWhole d v (.seat fn) addr (BitVec.ofNat 32 value) hst
    rw [if_neg hst, hd, hv]

/-! ## The writes -/

theorem exec_registerWrite (fn : Fin 2) (addr size : Nat) (en : Bool) (value : Nat) (s : State) : exec (.registerWrite fn addr size en value) s =
    s.onMach anytime fun d v => release (mmioWrite d v (pcieSeat fn) addr size en value) := rfl

theorem exec_apertureWrite (fn : Fin 2) (bar2 : Bool) (off : Nat) (s : State) : exec (.apertureWrite fn bar2 off) s =
    s.onDev anytime fun d => d.apertureWrite fn off := rfl

theorem exec_bar2Read (fn : Fin 2) (off len : Nat) (s : State) : exec (.bar2Read fn off len) s =
    s.onDev anytime fun d => d.bar2Read (pcieSeat fn) off len := rfl

/-- A dword written through BAR0 whose write is accepted. -/
theorem registerWrite_of_accepted {fn : Fin 2} {addr : Nat} {x : Word} {s : State} (hacc : s.dev.accepts s.nv (.mmio fn) addr x)
    (hnone : (s.dev.written s.nv (.mmio fn) addr x).1.noneWithheld) : exec (.registerWrite fn addr 4 true x.toNat) s =
      .next { s with dev := (s.dev.written s.nv (.mmio fn) addr x).1, nv := (s.dev.written s.nv (.mmio fn) addr x).2 } := by
  have hwrite : mmioWrite s.dev s.nv (pcieSeat fn) addr 4 true x.toNat = s.dev.written s.nv (.mmio fn) addr x :=
    writeBy_accepted s.dev s.nv (.mmio fn) addr x hacc
  have hrelease := (congrArg release hwrite).trans (release_of_noneWithheld hnone)
  exact (exec_registerWrite fn addr 4 true x.toNat s).trans
    (State.onMach_of (f := fun d v => release (mmioWrite d v (pcieSeat fn) addr 4 true x.toNat)) rfl hrelease)

/-- One that is refused. -/
theorem registerWrite_of_refused {fn : Fin 2} {addr size value : Nat} {en : Bool} {s : State} (hrun : s.dev.running = true)
    (hopen : s.dev.mmioOpen fn.val = true) (hmsix : inMsix addr = false) (hnone : s.dev.noneWithheld)
    (hst : s.dev.mmioStatus s.nv (pcieSeat fn) addr size en value ≠ .ok) : exec (.registerWrite fn addr size en value) s =
      .next { s with dev := s.dev.mmioRefused fn.val (refusedOff addr) (s.dev.mmioStatus s.nv (pcieSeat fn) addr size en value) } := by
  generalize hjudged : s.dev.mmioStatus s.nv (pcieSeat fn) addr size en value = st at hst ⊢
  have hnone' := (s.dev.told_mmioRefused fn.val (refusedOff addr) st).seats.noneWithheld hnone
  have hwrite : mmioWrite s.dev s.nv (pcieSeat fn) addr size en value = (s.dev.mmioRefused fn.val (refusedOff addr) st, s.nv) := by
    rw [mmioWrite_of_refused hrun hopen hmsix (by rwa [hjudged]), hjudged]
    rfl
  have hrelease := (congrArg release hwrite).trans (release_of_noneWithheld hnone')
  exact (exec_registerWrite fn addr size en value s).trans
    (State.onMach_of (f := fun d v => release (mmioWrite d v (pcieSeat fn) addr size en value)) rfl hrelease)

/-! ## Failures -/

theorem exec_seatFetchTimeout (k : Fin 2) (s : State) : exec (.seatFetchTimeout k) s =
    s.onDev (fun d => d.running && d.on .HS_CTL_EN k) fun d => d.seatError k := rfl

theorem exec_pcieFatalError (k : Fin 2) (s : State) : exec (.pcieFatalError k) s = s.onDev (fun d => d.running) fun d => d.seatError k := rfl

/-- A seat's error is noted with the seat and signalled. -/
theorem Dev.seatError_told (d : Dev) (k : Nat) : (d.seatError k).quiet = d.quiet ∧ (d.seatError k).regs = d.regs ∧
    ∃ c, (d.seatError k).fc.sigs = d.fc.sigs ++ [⟨srcSeatErr, k, none, d.tb, c, false, none⟩] :=
  ⟨((d.reported_setSeat k _).trans (Dev.reported_signal _ _ _)).1, rfl, _, rfl⟩

/-- Settles O6: each access is answered, stored, or refused and reported. -/
theorem pcieAccesses : Obligations.PcieAccesses := by
  unfold Obligations.PcieAccesses
  refine ⟨fun fn write dword s hup hload => ?_, fun fn data dword s hup hrun => ?_, fun fn s hup hrun => ?_, fun fn bar2 off s hrun hopen => ?_,
    fun fn off len s hrun hopen hcount hlen => ?_, fun k s hrun => ⟨fun hen => ?_, ?_⟩, fun fn addr x s hacc hnone => ?_,
    fun fn addr size value en s hrun hopen hmsix hnone hbad => ?_⟩
  · rw [exec_pcieConfigRequest]
    exact State.onDev_of rfl (Dev.configRequest_of_load hup hload write dword)
  · obtain ⟨hrest, hothers, hseat⟩ := s.dev.configWrite_configOnly fn dword data
    rw [exec_pcieConfigRequest]
    exact ⟨_, State.onDev_of rfl (Dev.configRequest_write hup hrun data dword), hrest, hothers, hseat⟩
  · rw [exec_pcieConfigRequest]
    exact State.onDev_of rfl (Dev.configRequest_read hup hrun 0)
  · have hnoted := s.dev.reported_noted (fn := fn.val) (by omega) .refusedAccess
    rw [exec_apertureWrite]
    refine ⟨_, State.onDev_of rfl ?_, hnoted.1, hnoted.regsBut, hnoted.fs, s.dev.errlast_noted fn (by decide)⟩
    rw [Dev.apertureWrite, hrun, hopen, Bool.and_self, if_pos rfl, Dev.mmioRefused_eq]
  · obtain ⟨e, bs, bad, hread, hchecked, hlength, hbytes, hbad⟩ := Dev.bar2Read_bytes (fn := pcieSeat fn) (off := off) hrun hopen hcount hlen rfl
    rw [exec_bar2Read]
    refine ⟨_, bs, bad, State.onDev_of rfl hread, rfl, rfl, hlength, hchecked.fs, hchecked.tbl, hbytes, hbad.trans ?_⟩
    exact exists_congr fun j => and_congr_right fun _ => Bool.and_eq_true_iff
  · obtain ⟨hquiet, hregs, hsigs⟩ := s.dev.seatError_told k
    exact ⟨_, (exec_seatFetchTimeout k s).trans (State.onDev_of (by rw [hrun, hen]; rfl) rfl), rfl, rfl, hquiet, hregs, hsigs⟩
  · obtain ⟨hquiet, hregs, hsigs⟩ := s.dev.seatError_told k
    exact ⟨_, (exec_pcieFatalError k s).trans (State.onDev_of hrun rfl), rfl, rfl, hquiet, hregs, hsigs⟩
  · exact registerWrite_of_accepted hacc hnone
  · have hst : s.dev.mmioStatus s.nv (pcieSeat fn) addr size en value ≠ .ok := by
      unfold Dev.mmioStatus
      split
      · decide
      · rename_i hwhole
        simp only [not_or] at hwhole
        exact hbad.resolve_left hwhole.1 |>.resolve_left hwhole.2.1 |>.resolve_left hwhole.2.2
    have hnoted := s.dev.reported_noted (fn := fn.val) (by omega) (s.dev.mmioStatus s.nv (pcieSeat fn) addr size en value)
    refine ⟨_, _, (registerWrite_of_refused hrun hopen hmsix hnone hst).trans ?_, rfl, hnoted.1, hnoted.regsBut, s.dev.errlast_noted fn hst⟩
    rw [Dev.mmioRefused_eq]
    rfl

end Sys2Proof.Machine
end

section
/-! PROOFS. Pixels as they enter the pipeline: bit replication, and what lies outside the course (R114, R116). -/

namespace Sys2Proof.Machine

/-- The repeated high bits lie below the shifted value, so that their sum is their union. -/
theorem expand12_of_eight_bits {v : Nat} (hv : v < 256) : expand12 0 v = (v <<< 4) ||| (v >>> 4) := by
  have hbelow : v >>> 4 < 2 ^ 4 := by rw [Nat.shiftRight_eq_div_pow]; omega
  rw [← Nat.shiftLeft_add_eq_or_of_lt hbelow, Nat.shiftLeft_eq, Nat.shiftRight_eq_div_pow]
  rfl

theorem expand12_of_ten_bits {v : Nat} (hv : v < 1024) : expand12 1 v = (v <<< 2) ||| (v >>> 8) := by
  have hbelow : v >>> 8 < 2 ^ 2 := by rw [Nat.shiftRight_eq_div_pow]; omega
  rw [← Nat.shiftLeft_add_eq_or_of_lt hbelow, Nat.shiftLeft_eq, Nat.shiftRight_eq_div_pow]
  rfl

theorem pxAt_of_inside (edge : Bool) {px : List Nat} {j v : Nat} (h : px[j]? = some v) : pxAt edge px j = v := by
  obtain ⟨hj, -⟩ := List.getElem?_eq_some_iff.mp h
  unfold pxAt
  rw [if_pos (by omega), Int.toNat_natCast, List.getD_eq_getElem?_getD, h, Option.getD_some]

theorem pxAt_of_outside (edge : Bool) {px : List Nat} {j : Int} (h : j < 0 ∨ (px.length : Int) ≤ j) :
    pxAt edge px j = if !edge then 0 else if j < 0 then px.getD 0 0 else px.getD (px.length - 1) 0 :=
  if_neg (by omega)

theorem pxAt_of_before {px : List Nat} {j : Int} {v : Nat} (h : j < 0) (hv : px.head? = some v) : pxAt true px j = v := by
  rw [pxAt_of_outside true (.inl h), if_neg (by decide), if_pos h, List.getD_eq_getElem?_getD, ← List.head?_eq_getElem?, hv, Option.getD_some]

theorem pxAt_of_after {px : List Nat} {j : Int} {v : Nat} (h : (px.length : Int) ≤ j) (hv : px.getLast? = some v) : pxAt true px j = v := by
  rw [pxAt_of_outside true (.inr h), if_neg (by decide), if_neg (by omega), List.getD_eq_getElem?_getD, ← List.getLast?_eq_getElem?, hv,
    Option.getD_some]

/-- Settles O50: replication by its two widths, and a pixel by whether it lies inside the course, before it or after it. -/
theorem pixelExpansion : Obligations.PixelExpansion := by
  unfold Obligations.PixelExpansion
  exact ⟨fun v => expand12_of_eight_bits v.isLt, fun v => expand12_of_ten_bits v.isLt, rfl, rfl, rfl, rfl,
    fun _ edge _ _ => pxAt_of_inside edge, fun _ _ => pxAt_of_outside false, fun _ _ _ => pxAt_of_before, fun _ _ _ => pxAt_of_after⟩

end Sys2Proof.Machine
end

section
/-! PROOFS. Writes of the table windows: what the bus makes of one, and the four bytes that it leaves (R126, R134, R446). -/

namespace Sys2Proof.Machine

variable {d e f : Dev} {w : Writer} {win : Win} {off k : Nat} {x : Word}

/-! ## What reporting leaves -/

theorem Dev.Reported.cvBank (h : d.Reported e) : e.cvBank = d.cvBank := by
  have hq := congrArg Dev.cvBank h.1; exact hq
theorem Dev.Reported.stagingByte (h : d.Reported e) (b o : Nat) : e.stagingByte b o = d.stagingByte b o := by
  unfold Dev.stagingByte Dev.bank; rw [h.cvBank]
theorem Dev.Reported.engine (h : d.Reported e) (xx : Nat) : e.engine xx = d.engine xx := by
  have hq := congrArg Dev.engines h.1
  have hengines : e.engines = d.engines := hq
  unfold Dev.engine; rw [hengines]

/-! ## The way to the table -/

theorem Dev.opens_of_mayStore (hmay : d.mayStore w off win = true) : d.opens w off = true := by
  unfold Dev.mayStore at hmay
  simp only [Bool.and_eq_true, and_assoc] at hmay
  obtain ⟨hopen, -⟩ := hmay
  exact hopen

/-- What an access has done when its write is judged does not bear on the table's rule. -/
theorem Dev.winRefuses_atWrite (hopen : d.opens w off = true) (who : Src) :
    (d.atWrite w).winRefuses who win k x = d.winRefuses who win k x := by
  obtain ⟨seats, con, out, heq⟩ := Dev.atWrite_eq hopen
  rw [heq]; rfl

/-- A write that may reach its table is refused by the table's own rule, or stored. -/
theorem busWrite_of_mayStore (v : Nv) (hwin : winAt off = some (win, k)) (haligned : off % 4 = 0) (hmay : d.mayStore w off win = true) :
    busWrite (d.atWrite w) v (whoWrites w) off x =
      (d.winRefuses (whoWrites w) win k x).elim ((d.atWrite w).winStore win off k x, v, .ok) fun st => (d.atWrite w, v, st) := by
  have hopen := Dev.opens_of_mayStore hmay
  rw [← Dev.winRefuses_atWrite hopen]
  unfold Dev.mayStore at hmay
  simp only [Bool.and_eq_true, Option.isNone_iff_eq_none] at hmay
  obtain ⟨⟨-, hserv⟩, hdenied⟩ := hmay
  obtain ⟨seats, con, out, heq⟩ := Dev.atWrite_eq hopen
  have hruns := Dev.running_of_opens hopen
  have hrun : (d.atWrite w).running = true := by rw [heq]; exact hruns
  have hserv' : ((d.atWrite w).inService && whoWrites w != .console) = false := by
    rw [heq]
    change (d.inService && whoWrites w != .console) = false
    obtain h | h := Bool.or_eq_true_iff.mp hserv
    · simp only [Bool.not_eq_true'] at h; rw [h]; rfl
    · rw [beq_iff_eq.mp h]; simp
  have hdenied' : (d.atWrite w).winDenied (whoWrites w) win true = none := by rw [heq]; exact hdenied
  unfold busWrite
  simp only [haligned, hrun, hserv', hwin, hdenied', Bool.not_true, Bool.false_eq_true, if_false, bne_self_eq_false]
  cases (d.atWrite w).winRefuses (whoWrites w) win k x <;> rfl

/-- The four commands are one write, by whichever table they name. -/
theorem exec_of_tableWrites {i : Instr}
    (hi : i ∈ [Instr.tableWrite w off x, .waveformBankWrite w off x, .footprintWrite w off x, .cameraTableWrite w off x]) (s : State) :
    exec i s = s.onMach anytime fun d v => writeBy d v w off x := by
  simp only [List.mem_cons, List.not_mem_nil, or_false] at hi
  obtain rfl | rfl | rfl | rfl := hi <;> rfl

/-! ## The word stored -/

/-- A key of a run that has been written. -/
theorem Store.get_setRun_inside {α : Type} [DecidableEq α] (g : Nat → α) (m : Store α) (o : Nat) (l : List α) {j : Nat} (hj : j < l.length) :
    Store.get g (Store.setRun g m o l) (o + j) = l[j] := by
  have hrun := Store.getRun_setRun g m o l
  unfold Store.getRun at hrun
  have hat := List.getElem_of_eq hrun (i := j) (by simpa using hj)
  simpa using hat

/-- A byte of a word that has been written. -/
theorem Store.get_setRun_le (g : Nat → Byte) (m : Store Byte) (o n : Nat) (j : Fin 4) :
    Store.get g (Store.setRun g m o (le 4 n)) (o + j) = BitVec.ofNat 8 (n / 2 ^ (8 * j.val)) := by
  rw [Store.get_setRun_inside g m o (le 4 n) (by rw [le_length]; exact j.isLt)]
  simp [le]

/-- The registers that count cleared diffusion buffers. -/
def clearCounts : List Nat := (List.range 32).map fun xx => Fld.SC_CNT_EDCLR.reg.off xx 0

/-- `e` is `d` with the word `x` written at byte `k` of a table, which is the offset `off`, within the bits that the table holds. -/
structure Dev.TableWrote (d e : Dev) (win : Win) (off k : Nat) (x : Word) : Prop where
  fs : e.fs = d.fs
  regs : d.regsBut clearCounts e
  others : ∀ a, (win.mask k = 0 ∨ a < off ∨ off + 4 ≤ a ∨ ∃ b, win = .staging b) → Store.get tblByte e.tbl a = Store.get tblByte d.tbl a
  word : win.mask k ≠ 0 → (∀ b, win ≠ .staging b) → ∀ j : Fin 4,
    Store.get tblByte e.tbl (off + j) = BitVec.ofNat 8 ((x &&& win.mask k).toNat / 2 ^ (8 * j.val))
  staged : win.mask k ≠ 0 → ∀ b, win = .staging b → ∀ j : Fin 4,
    e.stagingByte b (k + j) = BitVec.ofNat 8 ((x &&& win.mask k).toNat / 2 ^ (8 * j.val))
  cleared : win.mask k ≠ 0 → ∀ xx : Fin 32, (win = .lut xx ∨ win = .lv xx) → (e.engine xx).cur = [] ∧ (e.engine xx).tent = none

/-- Reporting before a write and after it does not count. -/
theorem Dev.Reported.tableWrote {d' e' : Dev} (hbefore : d.Reported d') (h : d'.TableWrote e win off k x) (hafter : e.Reported e') :
    d.TableWrote e' win off k x where
  fs := (hafter.fs.trans h.fs).trans hbefore.fs
  regs := (hbefore.regsBut.trans h.regs).trans hafter.regsBut
  others a ha := by rw [hafter.tbl, h.others a ha, hbefore.tbl]
  word hmask hnot j := by rw [hafter.tbl, h.word hmask hnot j]
  staged hmask b hb j := by rw [hafter.stagingByte, h.staged hmask b hb j]
  cleared hmask xx hlevel := by rw [hafter.engine]; exact h.cleared hmask xx hlevel

/-- A word of which its table holds no bit. -/
theorem Dev.tableWrote_of_masked (d : Dev) (hmask : win.mask k = 0) : d.TableWrote d win off k x where
  fs := rfl
  regs _ _ _ := rfl
  others _ _ := rfl
  word h := absurd hmask h
  staged h := absurd hmask h
  cleared h := absurd hmask h

/-- One of a staging bank. -/
theorem Dev.tableWrote_setStaging (d : Dev) (b off k : Nat) (x : Word) :
    d.TableWrote (d.setStaging b k (le 4 (x &&& Win.mask (.staging b) k).toNat)) (.staging b) off k x where
  fs := rfl
  regs _ _ _ := rfl
  others _ _ := rfl
  word _ h := absurd rfl (h b)
  staged _ b' hb j := by
    obtain rfl : b = b' := by simpa using hb
    unfold Dev.setStaging Dev.setBank Dev.stagingByte Dev.bank
    rw [Store.get_set_self]
    exact Store.get_setRun_le curveByte _ k _ j
  cleared _ _ h := by simp at h

/-- One of a table in `tbl`, with the diffusion buffers cleared where it is a level table. -/
theorem Dev.tableWrote_of_tbl (hmask : win.mask k ≠ 0) (hnot : ∀ b, win ≠ .staging b) (hfs : e.fs = d.fs) (hregs : d.regsBut clearCounts e)
    (htbl : e.tbl = Store.setRun tblByte d.tbl off (le 4 (x &&& win.mask k).toNat))
    (hclear : ∀ xx : Fin 32, (win = .lut xx ∨ win = .lv xx) → (e.engine xx).cur = [] ∧ (e.engine xx).tent = none) :
    d.TableWrote e win off k x where
  fs := hfs
  regs := hregs
  others a ha := by
    rw [htbl]
    refine Store.get_setRun_outside tblByte _ off a _ ?_
    rw [le_length]
    obtain h | h | h | ⟨b, hb⟩ := ha
    · exact absurd h hmask
    · exact .inl h
    · exact .inr h
    · exact absurd hb (hnot b)
  word _ _ j := by rw [htbl]; exact Store.get_setRun_le tblByte _ off _ j
  staged _ b hb := absurd hb (hnot b)
  cleared _ := hclear

/-! ## The tables -/

/-- A level table, where it is one that an offset lies in, is that of one of the 32 ports. -/
def levelOfPort : Option (Win × Nat) → Prop
  | some (.lut xx, _) | some (.lv xx, _) => xx < 32
  | _ => True

theorem levelOfPort_winAt (o : Nat) : levelOfPort (winAt o) := by
  unfold winAt
  repeat' (refine iteInduction (motive := levelOfPort) (fun _ => ?_) fun _ => ?_)
  any_goals exact True.intro
  all_goals
    change _ / 0x4000 < 32
    omega

theorem port_of_winAt {xx : Nat} (hwin : winAt off = some (win, k)) (hlevel : win = .lut xx ∨ win = .lv xx) : xx < 32 := by
  have hport := levelOfPort_winAt off
  rw [hwin] at hport
  obtain rfl | rfl := hlevel <;> exact hport

theorem Dev.engine_edClear (d : Dev) (xx : Nat) : (d.edClear xx).engine xx = { d.engine xx with cur := [], tent := none } :=
  Dev.engine_setEngine d xx _

theorem Dev.regsBut_edClear (d : Dev) {xx : Nat} (hxx : xx < 32) : d.regsBut clearCounts (d.edClear xx) :=
  (d.setEngine xx { d.engine xx with cur := [], tent := none }).regsBut_bump .SC_CNT_EDCLR xx 0 1
    (List.mem_map.mpr ⟨xx, List.mem_range.mpr hxx, rfl⟩)

theorem Dev.winStore_of_masked (d : Dev) (hmask : win.mask k = 0) (off : Nat) (x : Word) : d.winStore win off k x = d := by
  unfold Dev.winStore; split <;> exact if_pos hmask

theorem Dev.winStore_staging (d : Dev) {b : Nat} (hmask : Win.mask (.staging b) k ≠ 0) (off : Nat) (x : Word) :
    d.winStore (.staging b) off k x = d.setStaging b k (le 4 (x &&& Win.mask (.staging b) k).toNat) := if_neg hmask

theorem Dev.winStore_level (d : Dev) (hmask : win.mask k ≠ 0) {xx : Nat} (hlevel : win = .lut xx ∨ win = .lv xx) (off : Nat) (x : Word) :
    d.winStore win off k x = (d.setTbl off (le 4 (x &&& win.mask k).toNat)).edClear xx := by
  obtain rfl | rfl := hlevel
  · simp only [Dev.winStore, if_neg hmask]
  · simp only [Dev.winStore, if_neg hmask]

theorem Dev.winStore_other (d : Dev) (hmask : win.mask k ≠ 0) (hstaging : ∀ b, win ≠ .staging b) (hlevel : ∀ xx, ¬ (win = .lut xx ∨ win = .lv xx))
    (off : Nat) (x : Word) : d.winStore win off k x = d.setTbl off (le 4 (x &&& win.mask k).toNat) := by
  unfold Dev.winStore
  split
  · exact absurd rfl (hstaging _)
  · exact absurd (.inl rfl) (hlevel _)
  · exact absurd (.inr rfl) (hlevel _)
  · exact if_neg hmask

/-- What a stored write leaves, by the kind of its table. -/
theorem Dev.tableWrote_winStore (d : Dev) (hwin : winAt off = some (win, k)) (x : Word) : d.TableWrote (d.winStore win off k x) win off k x := by
  by_cases hmask : win.mask k = 0
  · rw [d.winStore_of_masked hmask]
    exact d.tableWrote_of_masked hmask
  by_cases hstaging : ∃ b, win = .staging b
  · obtain ⟨b, rfl⟩ := hstaging
    rw [d.winStore_staging hmask]
    exact d.tableWrote_setStaging b off k x
  have hnot := not_exists.mp hstaging
  by_cases hlevel : ∃ xx, win = .lut xx ∨ win = .lv xx
  · obtain ⟨xx, hlevel⟩ := hlevel
    rw [d.winStore_level hmask hlevel]
    refine Dev.tableWrote_of_tbl hmask hnot rfl (Dev.regsBut_edClear _ (port_of_winAt hwin hlevel)) rfl fun yy hyy => ?_
    obtain rfl : xx = yy := by
      obtain rfl | rfl := hlevel <;> simpa using hyy
    rw [Dev.engine_edClear]
    exact ⟨rfl, rfl⟩
  · have hplain := not_exists.mp hlevel
    rw [d.winStore_other hmask hnot hplain]
    exact Dev.tableWrote_of_tbl hmask hnot rfl (Dev.regsBut_of_regs rfl) rfl fun yy hyy => absurd hyy (hplain yy)

/-- Settles O10: whichever command and path, the write is that of the bus, which the table's rule refuses or lets store its word, and its
answer. -/
theorem tableWrites : Obligations.TableWrites := by
  unfold Obligations.TableWrites
  intro w off x s win k hwin hmay haligned i hi
  have hopen := Dev.opens_of_mayStore hmay
  have hfound := (Dev.indices_atWrite hopen).reported
  have hbus := busWrite_of_mayStore (x := x) s.nv hwin haligned hmay
  rw [exec_of_tableWrites hi]
  cases hrule : s.dev.winRefuses (whoWrites w) win k x with
  | some st =>
    rw [hrule] at hbus
    have hall := (Dev.indices_refused hopen off st).reported
    exact ⟨_, State.onMach_of rfl (writeBy_of_opens hopen hbus), rfl, hall.fs, fun _ => ⟨hall.1, hall.regsBut⟩, fun h => by simp at h⟩
  | none =>
    rw [hrule] at hbus
    have hall := hfound.tableWrote ((s.dev.atWrite w).tableWrote_winStore hwin x) (Dev.indices_answered _ w off .ok).reported
    exact ⟨_, State.onMach_of rfl (writeBy_of_opens hopen hbus), rfl, hall.fs, fun h => absurd rfl h,
      fun _ => ⟨hall.regs, hall.others, hall.word, hall.staged, hall.cleared⟩⟩

end Sys2Proof.Machine
end

section
/-! PROOFS. The curve staging bank: what a write of SC_CVSTG asks, what it leaves, and the end of a claim copy (R121). -/

namespace Sys2Proof.Machine

variable {d e : Dev} {w : Writer} {i : Nat} {x : Word} {head claim valid arm : Nat}

/-! ## A word of SC_CVSTG -/

/-- HEAD, CLAIM, VALID and ARM of a word of SC_CVSTG. -/
structure CvWord (x : Word) (head claim valid arm : Nat) : Prop where
  head : Fld.of .SC_CVSTG_HEAD x = head
  claim : Fld.of .SC_CVSTG_CLAIM x = claim
  valid : Fld.of .SC_CVSTG_VALID x = valid
  arm : Fld.of .SC_CVSTG_ARM x = arm

theorem cvWord (x : Word) :
    CvWord x (Fld.of .SC_CVSTG_HEAD x) (Fld.of .SC_CVSTG_CLAIM x) (Fld.of .SC_CVSTG_VALID x) (Fld.of .SC_CVSTG_ARM x) := ⟨rfl, rfl, rfl, rfl⟩

theorem wget_wput_of_lt {lo wd v : Nat} (x : Word) (h : lo + wd ≤ 32) (hv : v < 2 ^ wd) : wget (wput x lo wd v) lo wd = v :=
  (wget_wput_self x lo wd v h).trans (Nat.mod_eq_of_lt hv)

section
variable (h : CvWord x head claim valid arm) {v : Nat}
include h

theorem CvWord.putHead (hv : v < 2 ^ 5) : CvWord (wput x 0 5 v) v claim valid arm where
  head := wget_wput_of_lt x (by decide) hv
  claim := (wget_wput_other x 0 5 8 1 v (by decide) (by decide) (by decide)).trans h.claim
  valid := (wget_wput_other x 0 5 9 1 v (by decide) (by decide) (by decide)).trans h.valid
  arm := (wget_wput_other x 0 5 10 1 v (by decide) (by decide) (by decide)).trans h.arm

theorem CvWord.putClaim (hv : v < 2 ^ 1) : CvWord (wput x 8 1 v) head v valid arm where
  head := (wget_wput_other x 8 1 0 5 v (by decide) (by decide) (by decide)).trans h.head
  claim := wget_wput_of_lt x (by decide) hv
  valid := (wget_wput_other x 8 1 9 1 v (by decide) (by decide) (by decide)).trans h.valid
  arm := (wget_wput_other x 8 1 10 1 v (by decide) (by decide) (by decide)).trans h.arm

theorem CvWord.putValid (hv : v < 2 ^ 1) : CvWord (wput x 9 1 v) head claim v arm where
  head := (wget_wput_other x 9 1 0 5 v (by decide) (by decide) (by decide)).trans h.head
  claim := (wget_wput_other x 9 1 8 1 v (by decide) (by decide) (by decide)).trans h.claim
  valid := wget_wput_of_lt x (by decide) hv
  arm := (wget_wput_other x 9 1 10 1 v (by decide) (by decide) (by decide)).trans h.arm

theorem CvWord.putArm (hv : v < 2 ^ 1) : CvWord (wput x 10 1 v) head claim valid v where
  head := (wget_wput_other x 10 1 0 5 v (by decide) (by decide) (by decide)).trans h.head
  claim := (wget_wput_other x 10 1 8 1 v (by decide) (by decide) (by decide)).trans h.claim
  valid := (wget_wput_other x 10 1 9 1 v (by decide) (by decide) (by decide)).trans h.valid
  arm := wget_wput_of_lt x (by decide) hv

end

/-- The word that leaves the register as it is: it claims nothing. -/
theorem Dev.cvWord_keepWord (d : Dev) (i : Nat) :
    CvWord (d.keepWord .SC_CVSTG i 0) (d.fld .SC_CVSTG_HEAD i) 0 0 (d.fld .SC_CVSTG_ARM i) := by
  have hzero : CvWord 0 0 0 0 0 := ⟨rfl, rfl, rfl, rfl⟩
  exact (hzero.putHead (d.fld_lt .SC_CVSTG_HEAD i 0)).putArm (d.fld_lt .SC_CVSTG_ARM i 0)

/-! ## What the register's rule refuses -/

theorem Dev.cvRefuses_of_cvWord (hx : CvWord x head claim valid arm) (d : Dev) (i : Nat) : d.cvRefuses i x =
    (d.portBay head != some i || ((d.on .SC_CVSTG_ARM i || d.on .SC_CVSTG_PEND i) && (head != d.fld .SC_CVSTG_HEAD i || claim == 1)) ||
      (arm == 1 && (!d.on .SC_CVSTG_VALID i || head != d.fld .SC_CVSTG_HEAD i || claim == 1 || d.on .SC_CVSTG_CLAIM i))) := by
  obtain ⟨rfl, rfl, rfl, rfl⟩ := hx
  rfl

theorem Dev.ruleRefuses_cvStg (d : Dev) (i j : Nat) (x : Word) :
    d.ruleRefuses .SC_CVSTG i j x = if d.cvRefuses i x = true then some .refusedAccess else none := rfl

theorem Dev.cvRefuses_atWrite {o : Nat} (hopen : d.opens w o = true) : (d.atWrite w).cvRefuses i x = d.cvRefuses i x := by
  obtain ⟨seats, con, out, heq⟩ := Dev.atWrite_eq hopen
  rw [heq]; rfl

/-! ## What a stored write leaves -/

theorem writable_cvStg (b : Fin 4) : Writable .SC_CVSTG b 0 :=
  ⟨by revert b; decide, by revert b; decide, by revert b; decide, rfl, rfl⟩

theorem cvStg_not_report (b : Fin 4) : RegName.off .SC_CVSTG b 0 ∉ reports := by
  revert b; decide

/-- HEAD and ARM as written; VALID is lost where HEAD changes, and CLAIM set where it is asked for. -/
def Dev.cvStored (d : Dev) (i : Nat) (x : Word) : Dev :=
  let e := (d.setFld .SC_CVSTG_HEAD i 0 (Fld.of .SC_CVSTG_HEAD x)).setFld .SC_CVSTG_ARM i 0 (Fld.of .SC_CVSTG_ARM x)
  let e := if e.fld .SC_CVSTG_HEAD i != d.fld .SC_CVSTG_HEAD i then e.setOn .SC_CVSTG_VALID i 0 false else e
  if Fld.of .SC_CVSTG_CLAIM x == 1 then e.setOn .SC_CVSTG_CLAIM i 0 true else e

theorem Dev.stored_cvStg (d : Dev) (v : Nv) (i : Nat) (x : Word) : d.stored v .SC_CVSTG i 0 x = (d.cvStored i x, v) := rfl

/-- `e` is `d` but for SC_CVSTG of bay `i`, which has taken a head, a claim and an arming, and for what reporting changes. -/
structure Dev.CvTaken (d e : Dev) (i head claim arm : Nat) : Prop where
  quiet : e.quiet = d.quiet
  regs : d.regsBut [RegName.off .SC_CVSTG i 0] e
  word : CvWord (e.word (RegName.off .SC_CVSTG i 0)) head (if claim = 1 then 1 else d.fld .SC_CVSTG_CLAIM i)
    (if head = d.fld .SC_CVSTG_HEAD i then d.fld .SC_CVSTG_VALID i else 0) arm

theorem Dev.word_setFld (d : Dev) (f : Fld) (i j v : Nat) :
    (d.setFld f i j v).word (f.reg.off i j) = wput (d.word (f.reg.off i j)) f.lo f.width v := d.word_setWord _ _

theorem Dev.cvWord_cvStored (hx : CvWord x head claim valid arm) (d : Dev) (i : Nat) :
    CvWord ((d.cvStored i x).word (RegName.off .SC_CVSTG i 0)) head (if claim = 1 then 1 else d.fld .SC_CVSTG_CLAIM i)
      (if head = d.fld .SC_CVSTG_HEAD i then d.fld .SC_CVSTG_VALID i else 0) arm := by
  obtain ⟨rfl, rfl, -, rfl⟩ := hx
  unfold Dev.cvStored; dsimp only
  generalize he : (d.setFld .SC_CVSTG_HEAD i 0 (Fld.of .SC_CVSTG_HEAD x)).setFld .SC_CVSTG_ARM i 0 (Fld.of .SC_CVSTG_ARM x) = e
  have hput : CvWord (e.word (RegName.off .SC_CVSTG i 0)) (Fld.of .SC_CVSTG_HEAD x) (d.fld .SC_CVSTG_CLAIM i) (d.fld .SC_CVSTG_VALID i)
      (Fld.of .SC_CVSTG_ARM x) := by
    rw [← he, Dev.word_setFld _ .SC_CVSTG_ARM, Dev.word_setFld _ .SC_CVSTG_HEAD]
    exact ((cvWord _).putHead (wget_lt x 0 5)).putArm (wget_lt x 10 1)
  have hhead : e.fld .SC_CVSTG_HEAD i = Fld.of .SC_CVSTG_HEAD x := hput.head
  generalize hf : (if e.fld .SC_CVSTG_HEAD i != d.fld .SC_CVSTG_HEAD i then e.setOn .SC_CVSTG_VALID i 0 false else e) = f
  have hdrop : CvWord (f.word (RegName.off .SC_CVSTG i 0)) (Fld.of .SC_CVSTG_HEAD x) (d.fld .SC_CVSTG_CLAIM i)
      (if Fld.of .SC_CVSTG_HEAD x = d.fld .SC_CVSTG_HEAD i then d.fld .SC_CVSTG_VALID i else 0) (Fld.of .SC_CVSTG_ARM x) := by
    rw [← hf, hhead]
    by_cases hsame : Fld.of .SC_CVSTG_HEAD x = d.fld .SC_CVSTG_HEAD i
    · rw [if_pos hsame, if_neg (by simpa using hsame)]
      exact hput
    · rw [if_neg hsame, if_pos (by simpa using hsame), Dev.setOn, Dev.word_setFld _ .SC_CVSTG_VALID]
      exact hput.putValid (by decide)
  by_cases hclaim : Fld.of .SC_CVSTG_CLAIM x = 1
  · rw [if_pos hclaim, if_pos (by simpa using hclaim), Dev.setOn, Dev.word_setFld _ .SC_CVSTG_CLAIM]
    exact hdrop.putClaim (by decide)
  · rw [if_neg hclaim, if_neg (by simpa using hclaim)]
    exact hdrop

theorem Dev.quiet_cvStored (d : Dev) (i : Nat) (x : Word) : (d.cvStored i x).quiet = d.quiet := by
  unfold Dev.cvStored; dsimp only
  split <;> split <;> rfl

theorem Dev.word_setOn_where_other (d : Dev) (c : Bool) (f : Fld) (i j : Nat) (v : Bool) {o : Nat} (ho : o ≠ f.reg.off i j) :
    (if c then d.setOn f i j v else d).word o = d.word o := by
  split
  · exact d.word_setOn_other f i j v ho
  · rfl

theorem Dev.word_cvStored_other (d : Dev) (i : Nat) (x : Word) {o : Nat} (ho : o ≠ RegName.off .SC_CVSTG i 0) :
    (d.cvStored i x).word o = d.word o := by
  have hput := (Dev.word_setFld_other _ .SC_CVSTG_ARM i 0 (Fld.of .SC_CVSTG_ARM x) ho).trans
    (d.word_setFld_other .SC_CVSTG_HEAD i 0 (Fld.of .SC_CVSTG_HEAD x) ho)
  exact ((Dev.word_setOn_where_other _ _ .SC_CVSTG_CLAIM i 0 true ho).trans (Dev.word_setOn_where_other _ _ .SC_CVSTG_VALID i 0 false ho)).trans hput

theorem Dev.cvTaken_cvStored (hx : CvWord x head claim valid arm) (d : Dev) (i : Nat) : d.CvTaken (d.cvStored i x) i head claim arm :=
  ⟨d.quiet_cvStored i x, fun _ ho _ => d.word_cvStored_other i x (by simpa using ho), Dev.cvWord_cvStored hx d i⟩

/-- No perturbation depends on it. -/
theorem Dev.ptActive_cvStored (d : Dev) (i : Nat) (x : Word) : (d.cvStored i x).ptActive = d.ptActive := by
  refine Dev.ptActive_congr fun r hr k hk => d.word_cvStored_other i x ?_
  have hbelow := serviceRegs_below hr hk
  simp only [RegName.off, RegName.info] at hbelow ⊢
  omega

/-- Reporting before a write and after it does not count. -/
theorem Dev.Reported.cvTaken {d' e' : Dev} {b : Fin 4} (hbefore : d.Reported d') (h : d'.CvTaken e b head claim arm) (hafter : e.Reported e') :
    d.CvTaken e' b head claim arm where
  quiet := (hafter.1.trans h.quiet).trans hbefore.1
  regs := (hbefore.regsBut.trans h.regs).trans hafter.regsBut
  word := by
    have hnot := cvStg_not_report b
    rw [hafter.2 _ hnot, ← hbefore.fld .SC_CVSTG_CLAIM b 0 hnot, ← hbefore.fld .SC_CVSTG_HEAD b 0 hnot, ← hbefore.fld .SC_CVSTG_VALID b 0 hnot]
    exact h.word

theorem Dev.CvTaken.fld_head (h : d.CvTaken e i head claim arm) : e.fld .SC_CVSTG_HEAD i = head := h.word.head

theorem Dev.CvTaken.on_valid (h : d.CvTaken e i head claim arm) :
    e.on .SC_CVSTG_VALID i = (d.on .SC_CVSTG_VALID i && d.fld .SC_CVSTG_HEAD i == head) := by
  have hvalid : e.fld .SC_CVSTG_VALID i = _ := h.word.valid
  unfold Dev.on
  rw [hvalid]
  by_cases hsame : head = d.fld .SC_CVSTG_HEAD i
  · simp [hsame]
  · simp [hsame, Ne.symm hsame]

theorem Dev.CvTaken.on_claim (h : d.CvTaken e i head 1 arm) : e.on .SC_CVSTG_CLAIM i = true := beq_iff_eq.mpr h.word.claim

theorem Dev.CvTaken.on_arm (h : d.CvTaken e i head claim 1) : e.on .SC_CVSTG_ARM i = true := beq_iff_eq.mpr h.word.arm

theorem Dev.tables_of_quiet (h : e.quiet = d.quiet) : e.tbl = d.tbl ∧ e.cvBank = d.cvBank := by
  have htbl := congrArg Dev.tbl h
  have hbank := congrArg Dev.cvBank h
  exact ⟨htbl, hbank⟩

/-! ## A write -/

/-- A write of fields is the write of the word that gives them their values. -/
theorem State.onMach_writeFields (s : State) (w : Writer) (r : RegName) (i j : Nat) (fields : List (Fld × Nat)) :
    s.onMach anytime (fun d v => writeFields d v w r i j fields) =
      s.onMach anytime fun d v => writeBy d v w (r.off i j) (s.dev.fieldsWord r i j fields) := by
  simp only [State.onMach, writeFields]

/-- A write that may reach the register is taken, or refused by its rule, and then leaves the registers. -/
theorem cvStg_write {b : Fin 4} {s : State} {fields : List (Fld × Nat)} (hmay : s.dev.mayWriteFields w .SC_CVSTG b 0 fields)
    (hword : s.dev.fieldsWord .SC_CVSTG b 0 fields = x) (hx : CvWord x head claim valid arm) :
    ∃ e, s.onMach anytime (fun d v => writeFields d v w .SC_CVSTG b 0 fields) = .next { s with dev := e } ∧ e.tbl = s.dev.tbl ∧
      e.cvBank = s.dev.cvBank ∧ (s.dev.cvRefuses b x = true → s.dev.regsBut [] e) ∧
      (s.dev.cvRefuses b x = false → s.dev.CvTaken e b head claim arm) := by
  rw [Dev.mayWriteFields, hword] at hmay
  rw [State.onMach_writeFields, hword]
  have hopen := Dev.opens_of_mayWrite hmay
  have hrule := (s.dev.atWrite w).ruleRefuses_cvStg b 0 x
  rw [Dev.cvRefuses_atWrite hopen] at hrule
  by_cases href : s.dev.cvRefuses b x = true
  · rw [if_pos href] at hrule
    have hall := (Dev.indices_refused hopen (RegName.off .SC_CVSTG b 0) .refusedAccess).reported
    obtain ⟨htbl, hbank⟩ := Dev.tables_of_quiet hall.1
    exact ⟨_, State.write_of_refused hmay (writable_cvStg b) hrule, htbl, hbank, fun _ => hall.regsBut, fun h => absurd (href.symm.trans h) (by decide)⟩
  · rw [if_neg href] at hrule
    have htaken := (Dev.indices_atWrite hopen).reported.cvTaken (Dev.cvTaken_cvStored hx _ b)
      (Dev.indices_answered _ w (RegName.off .SC_CVSTG b 0) .ok).reported
    obtain ⟨htbl, hbank⟩ := Dev.tables_of_quiet htaken.quiet
    exact ⟨_, State.write_of_stored hmay (writable_cvStg b) hrule (Dev.stored_cvStg _ _ b x) (Dev.ptActive_cvStored _ b x), htbl, hbank,
      fun h => absurd h href, fun _ => htaken⟩

/-! ## The commands -/

theorem exec_curveHeadWrite (w : Writer) (b : Fin 4) (head : Fin 32) (s : State) : exec (.curveHeadWrite w b head) s =
    s.onMach anytime fun d v => writeFields d v w .SC_CVSTG b 0 [(.SC_CVSTG_HEAD, head)] := rfl
theorem exec_curveClaim (w : Writer) (b : Fin 4) (s : State) : exec (.curveClaim w b) s =
    s.onMach anytime fun d v => writeFields d v w .SC_CVSTG b 0 [(.SC_CVSTG_CLAIM, 1)] := rfl
theorem exec_curveArm (w : Writer) (b : Fin 4) (s : State) : exec (.curveArm w b) s =
    s.onMach anytime fun d v => writeFields d v w .SC_CVSTG b 0 [(.SC_CVSTG_ARM, 1)] := rfl
theorem exec_curveCopyDone (b : Fin 4) (s : State) : exec (.curveCopyDone b) s =
    s.onDev (fun d => d.running && d.on .SC_CVSTG_CLAIM b) fun d => d.claimDone b := rfl

/-- HEAD. -/
theorem curveHeadWrite_writes (w : Writer) (b : Fin 4) (head : Fin 32) (s : State)
    (hmay : s.dev.mayWriteFields w .SC_CVSTG b 0 [(.SC_CVSTG_HEAD, head.val)]) (hbay : s.dev.portBay head = some b.val) :
    ∃ t, exec (.curveHeadWrite w b head) s = .next t ∧ t.nv = s.nv ∧ t.dev.tbl = s.dev.tbl ∧ t.dev.cvBank = s.dev.cvBank ∧
      (s.dev.on .SC_CVSTG_ARM b = false → s.dev.on .SC_CVSTG_PEND b = false → t.dev.fld .SC_CVSTG_HEAD b = head.val ∧
        t.dev.on .SC_CVSTG_VALID b = (s.dev.on .SC_CVSTG_VALID b && s.dev.fld .SC_CVSTG_HEAD b == head.val) ∧
        s.dev.regsBut [RegName.off .SC_CVSTG b 0] t.dev) ∧
      ((s.dev.on .SC_CVSTG_ARM b = true ∨ s.dev.on .SC_CVSTG_PEND b = true) → s.dev.fld .SC_CVSTG_HEAD b ≠ head.val →
        s.dev.regsBut [] t.dev) := by
  have hx := (s.dev.cvWord_keepWord b).putHead head.isLt
  have hrule := Dev.cvRefuses_of_cvWord hx s.dev b
  obtain ⟨e, hexec, htbl, hbank, hrefused, htaken⟩ := cvStg_write hmay rfl hx
  refine ⟨_, (exec_curveHeadWrite w b head s).trans hexec, rfl, htbl, hbank, fun harm hpend => ?_, fun hheld hmoves => hrefused (hrule.trans ?_)⟩
  · have hfree : (s.dev.fld .SC_CVSTG_ARM b == 1) = false := harm
    have hset := htaken (hrule.trans (by simp [hbay, harm, hpend, hfree]))
    exact ⟨hset.fld_head, hset.on_valid, hset.regs⟩
  · simp [hheld, hmoves.symm]

/-- CLAIM. -/
theorem curveClaim_writes (w : Writer) (b : Fin 4) (s : State) (hmay : s.dev.mayWriteFields w .SC_CVSTG b 0 [(.SC_CVSTG_CLAIM, 1)])
    (hbay : s.dev.portBay (s.dev.fld .SC_CVSTG_HEAD b) = some b.val) (harm : s.dev.on .SC_CVSTG_ARM b = false)
    (hpend : s.dev.on .SC_CVSTG_PEND b = false) :
    ∃ t, exec (.curveClaim w b) s = .next t ∧ t.nv = s.nv ∧ t.dev.on .SC_CVSTG_CLAIM b = true ∧
      t.dev.fld .SC_CVSTG_HEAD b = s.dev.fld .SC_CVSTG_HEAD b ∧ t.dev.tbl = s.dev.tbl ∧ t.dev.cvBank = s.dev.cvBank ∧
      s.dev.regsBut [RegName.off .SC_CVSTG b 0] t.dev := by
  have hx := (s.dev.cvWord_keepWord b).putClaim (v := 1) (by decide)
  have hfree : (s.dev.fld .SC_CVSTG_ARM b == 1) = false := harm
  obtain ⟨e, hexec, htbl, hbank, -, htaken⟩ := cvStg_write hmay rfl hx
  have hset := htaken ((Dev.cvRefuses_of_cvWord hx s.dev b).trans (by simp [hbay, harm, hpend, hfree]))
  exact ⟨_, (exec_curveClaim w b s).trans hexec, rfl, hset.on_claim, hset.fld_head, htbl, hbank, hset.regs⟩

/-- ARM. -/
theorem curveArm_writes (w : Writer) (b : Fin 4) (s : State) (hmay : s.dev.mayWriteFields w .SC_CVSTG b 0 [(.SC_CVSTG_ARM, 1)])
    (hbay : s.dev.portBay (s.dev.fld .SC_CVSTG_HEAD b) = some b.val) (hvalid : s.dev.on .SC_CVSTG_VALID b = true)
    (hclaim : s.dev.on .SC_CVSTG_CLAIM b = false) :
    ∃ t, exec (.curveArm w b) s = .next t ∧ t.nv = s.nv ∧ t.dev.on .SC_CVSTG_ARM b = true ∧ t.dev.on .SC_CVSTG_VALID b = true ∧
      t.dev.fld .SC_CVSTG_HEAD b = s.dev.fld .SC_CVSTG_HEAD b ∧ t.dev.tbl = s.dev.tbl ∧ t.dev.cvBank = s.dev.cvBank ∧
      s.dev.regsBut [RegName.off .SC_CVSTG b 0] t.dev := by
  have hx := (s.dev.cvWord_keepWord b).putArm (v := 1) (by decide)
  obtain ⟨e, hexec, htbl, hbank, -, htaken⟩ := cvStg_write hmay rfl hx
  have hset := htaken ((Dev.cvRefuses_of_cvWord hx s.dev b).trans (by simp [hbay, hvalid, hclaim]))
  exact ⟨_, (exec_curveArm w b s).trans hexec, rfl, hset.on_arm, hset.on_valid.trans (by simp [hvalid]), hset.fld_head, htbl, hbank, hset.regs⟩

theorem Dev.bank_setBank (d : Dev) (b : Nat) (m : Option (Store Byte)) : (d.setBank b m).bank b = m := Store.get_set_self _ _ _ _

/-- The end of a claim copy. -/
theorem Dev.claimDone_copies (d : Dev) (b : Nat) : (d.claimDone b).bank b = some (d.engine (d.fld .SC_CVSTG_HEAD b)).curves ∧
    (d.claimDone b).on .SC_CVSTG_VALID b = true ∧ (d.claimDone b).on .SC_CVSTG_CLAIM b = false ∧
    { d.claimDone b with regs := d.regs, cvBank := d.cvBank } = d ∧ ∀ o, o ≠ RegName.off .SC_CVSTG b 0 → (d.claimDone b).word o = d.word o := by
  refine ⟨d.bank_setBank b (some (d.engine (d.fld .SC_CVSTG_HEAD b)).curves), ?_, Dev.on_setOn _ .SC_CVSTG_CLAIM b 0 false (by decide) (by decide), rfl,
    fun o ho => ?_⟩
  · exact (Dev.on_setOn_beside _ .SC_CVSTG_CLAIM .SC_CVSTG_VALID b 0 false rfl (by decide) (by decide) (by decide)).trans
      (Dev.on_setOn _ .SC_CVSTG_VALID b 0 true (by decide) (by decide))
  · exact (Dev.word_setOn_other _ .SC_CVSTG_CLAIM b 0 false ho).trans (Dev.word_setOn_other _ .SC_CVSTG_VALID b 0 true ho)

/-- Settles O11: the three writes take one way, to the register's rule and then its storing, and the copy is written out. -/
theorem curveStaging : Obligations.CurveStaging := by
  unfold Obligations.CurveStaging
  refine ⟨curveHeadWrite_writes, curveClaim_writes, curveArm_writes, fun b s hrun hclaim => ?_⟩
  exact ⟨_, (exec_curveCopyDone b s).trans (State.onDev_of (by simp [hrun, hclaim]) rfl), rfl, s.dev.claimDone_copies b⟩

end Sys2Proof.Machine
end

section
/-! PROOFS. The fields that an operation of the position units writes: every other field of their registers reads as before. -/

namespace Sys2Proof.Machine

variable {d e f : Dev} {flds : List Fld} {x y : Fld} {i j : Nat}

/-- The registers that position channels, pacers, compare engines and emulation outputs read and write. -/
def paceRegs : List RegName :=
  [.GL_BAYRES, .GL_BAYCMP, .KS_BAYCTL, .FC_FENCE2, .RI_BAYRATE, .PT_TRIGDLY, .PS_CFG, .PS_RATE, .PS_LIMLO, .PS_LIMHI, .PS_DB, .PS_SPDWIN,
   .PS_STALL, .PS_SSI, .PS_SSIT, .PS_CMD, .PS_PREVAL, .PS_POS, .PS_ZLAT, .PS_SPEED, .PS_SPDTBLO, .PS_SPDTBHI, .PS_STAT, .PS_ERRCNT,
   .PC_CTL, .PC_RATLO, .PC_RATHI, .PC_GEN, .PC_PERIOD, .PC_RATE, .CP_CTL, .CP_PERIOD, .CP_STAT, .CP_CNT, .EM_CFG, .EM_RATIO, .EM_ZPER,
   .EM_STAT, .EM_LOST, .EM_POS, .HP_OSCTL, .HP_BAYSTAT]

theorem paceRegs_decoded : ∀ r ∈ paceRegs, ∀ i < r.info.count1, decodeOff (r.off i 0) = some (r, i, 0) := by decide

theorem paceRegs_not_report : ∀ r ∈ paceRegs, ∀ i < r.info.count1, r.off i 0 ∉ reports := by decide

/-- Two fields share no bit, wherever they stand. -/
def Fld.apart (x y : Fld) : Bool := x.reg != y.reg || decide (x.lo + x.width ≤ y.lo) || decide (y.lo + y.width ≤ x.lo)

/-- A field of those registers that shares no bit with any of a list. -/
def Fld.clear (x : Fld) (flds : List Fld) : Bool := paceRegs.contains x.reg && decide (x.lo + x.width ≤ 32) && flds.all x.apart

theorem Fld.clear_iff : x.clear flds = true ↔ x.reg ∈ paceRegs ∧ x.lo + x.width ≤ 32 ∧ ∀ y ∈ flds, x.apart y = true := by
  simp [Fld.clear, and_assoc]

/-- Every field beside those of a list reads as before. -/
def Dev.sameFlds (flds : List Fld) (d e : Dev) : Prop := ∀ x i, x.clear flds = true → i < x.reg.info.count1 → e.fld x i = d.fld x i

theorem Dev.sameFlds.refl (flds : List Fld) (d : Dev) : Dev.sameFlds flds d d := fun _ _ _ _ => rfl

theorem Dev.sameFlds.trans (h : Dev.sameFlds flds d e) (k : Dev.sameFlds flds e f) : Dev.sameFlds flds d f :=
  fun x i hx hi => (k x i hx hi).trans (h x i hx hi)

theorem Dev.sameFlds.mono {flds' : List Fld} (h : Dev.sameFlds flds d e) (hsub : ∀ y ∈ flds, y ∈ flds') : Dev.sameFlds flds' d e := fun x i hx hi => by
  obtain ⟨hreg, hfits, hapart⟩ := Fld.clear_iff.mp hx
  exact h x i (Fld.clear_iff.mpr ⟨hreg, hfits, fun y hy => hapart y (hsub y hy)⟩) hi

theorem Dev.sameFlds_of_regs (h : e.regs = d.regs) : Dev.sameFlds flds d e := fun _ _ _ _ => Dev.fld_congr h _ _ _

theorem Dev.Reported.sameFlds (h : d.Reported e) : Dev.sameFlds flds d e := fun x i hx hi =>
  h.fld x i 0 (paceRegs_not_report _ (Fld.clear_iff.mp hx).1 i hi)

/-- One field is written. -/
theorem Dev.sameFlds_setFld (d : Dev) (hy : y ∈ flds) (hknown : y.clear [] = true) (hj : j < y.reg.info.count1) (v : Nat) :
    Dev.sameFlds flds d (d.setFld y j 0 v) := fun x i hx hi => by
  obtain ⟨hreg, hfits, hapart⟩ := Fld.clear_iff.mp hx
  obtain ⟨hreg', hfits', -⟩ := Fld.clear_iff.mp hknown
  by_cases hoff : x.reg.off i 0 = y.reg.off j 0
  · have hsame := (paceRegs_decoded _ hreg i hi).symm.trans ((congrArg decodeOff hoff).trans (paceRegs_decoded _ hreg' j hj))
    obtain ⟨hr, rfl⟩ : x.reg = y.reg ∧ i = j := by simpa using hsame
    have hbits := hapart y hy
    simp only [Fld.apart, hr, bne_self_eq_false, Bool.false_or, Bool.or_eq_true, decide_eq_true_eq] at hbits
    exact d.fld_setFld_beside y x i 0 v hr hfits' hfits hbits.symm
  · exact d.fld_setFld_reg y x j 0 i 0 v hoff

section
variable (h : Dev.sameFlds flds d e) (hx : x.clear flds = true) (hi : i < x.reg.info.count1)
include h hx hi

theorem Dev.sameFlds.fld : e.fld x i = d.fld x i := h x i hx hi
theorem Dev.sameFlds.on : e.on x i = d.on x i := by unfold Dev.on; rw [h.fld hx hi]
theorem Dev.sameFlds.sfld : e.sfld x i = d.sfld x i := by unfold Dev.sfld; rw [h.fld hx hi]
theorem Dev.sameFlds.fbit (n : Nat) : e.fbit x i 0 n = d.fbit x i 0 n := by unfold Dev.fbit; rw [h.fld hx hi]

end

end Sys2Proof.Machine
end

section
/-! PROOFS. The counters of position channels (R151, R152, R156): what a load leaves, and what it writes. -/

namespace Sys2Proof.Machine

variable {d e f : Dev} {offs : List Nat} {flds : List Fld} {x y : Fld} {i j n : Nat}

/-- `e` is `d` but for some fields, in some registers, and for what reporting changes. -/
structure Dev.Writes (offs : List Nat) (flds : List Fld) (d e : Dev) : Prop where
  regs : d.regsBut offs e
  same : Dev.sameFlds flds d e
  quiet : e.quiet = d.quiet

theorem Dev.Writes.refl (offs : List Nat) (flds : List Fld) (d : Dev) : Dev.Writes offs flds d d := ⟨fun _ _ _ => rfl, .refl flds d, rfl⟩

theorem Dev.Writes.trans (h : Dev.Writes offs flds d e) (k : Dev.Writes offs flds e f) : Dev.Writes offs flds d f :=
  ⟨h.regs.trans k.regs, h.same.trans k.same, k.quiet.trans h.quiet⟩

theorem Dev.Writes.mono {flds' : List Fld} (h : Dev.Writes offs flds d e) (hsub : ∀ y ∈ flds, y ∈ flds') : Dev.Writes offs flds' d e :=
  ⟨h.regs, h.same.mono hsub, h.quiet⟩

theorem Dev.Reported.writes (h : d.Reported e) : Dev.Writes offs flds d e := ⟨h.regsBut, h.sameFlds, h.1⟩

theorem Dev.writes_setFld (d : Dev) (hy : y ∈ flds) (hknown : y.clear [] = true) (hj : j < y.reg.info.count1) (hoff : y.reg.off j 0 ∈ offs) (v : Nat) :
    Dev.Writes offs flds d (d.setFld y j 0 v) := ⟨d.regsBut_setFld y j 0 v hoff, d.sameFlds_setFld hy hknown hj v, rfl⟩

theorem Dev.writes_setOn (d : Dev) (hy : y ∈ flds) (hknown : y.clear [] = true) (hj : j < y.reg.info.count1) (hoff : y.reg.off j 0 ∈ offs) (b : Bool) :
    Dev.Writes offs flds d (d.setOn y j 0 b) := d.writes_setFld hy hknown hj hoff _

theorem Dev.writes_bump (d : Dev) (hy : y ∈ flds) (hknown : y.clear [] = true) (hj : j < y.reg.info.count1) (hoff : y.reg.off j 0 ∈ offs) (k : Nat) :
    Dev.Writes offs flds d (d.bump y j 0 k) := d.writes_setFld hy hknown hj hoff _

theorem Dev.writes_setFbit (d : Dev) (hy : y ∈ flds) (hknown : y.clear [] = true) (hj : j < y.reg.info.count1) (hoff : y.reg.off j 0 ∈ offs) (k : Nat)
    (b : Bool) : Dev.Writes offs flds d (d.setFbit y j 0 k b) := d.writes_setFld hy hknown hj hoff _

/-- An event of a unit that is told unless its flag stood. -/
theorem Dev.writes_event (d : Dev) (was : Bool) (bay : Option Nat) (q code unit d0 d1 : Nat) :
    Dev.Writes offs flds d (if was then d else d.unitEvent bay q code unit d0 d1) := by
  split
  · exact .refl _ _ d
  · exact (d.reported_unitEvent _ _ _ _ _ _).writes

/-! ## The units that stand beside the registers -/

/-- What no report changes of the device beside its registers. -/
theorem Dev.of_quiet {α : Type} (π : Dev → α) (hπ : ∀ d : Dev, π d.quiet = π d) (h : e.quiet = d.quiet) : π e = π d :=
  (hπ e).symm.trans ((congrArg π h).trans (hπ d))

theorem Dev.tb_of_quiet (h : e.quiet = d.quiet) : e.tb = d.tb := Dev.of_quiet Dev.tb (fun _ => rfl) h
theorem Dev.Writes.ps (h : Dev.Writes offs flds d e) : e.ps = d.ps := Dev.of_quiet Dev.ps (fun _ => rfl) h.quiet
theorem Dev.Writes.ems (h : Dev.Writes offs flds d e) : e.ems = d.ems := Dev.of_quiet Dev.ems (fun _ => rfl) h.quiet
theorem Dev.Writes.bays (h : Dev.Writes offs flds d e) : e.bays = d.bays := Dev.of_quiet Dev.bays (fun _ => rfl) h.quiet
theorem Dev.Writes.tbl (h : Dev.Writes offs flds d e) : e.tbl = d.tbl := Dev.of_quiet Dev.tbl (fun _ => rfl) h.quiet
theorem Dev.Writes.fs (h : Dev.Writes offs flds d e) : e.fs = d.fs := Dev.of_quiet Dev.fs (fun _ => rfl) h.quiet
theorem Dev.Writes.psc (h : Dev.Writes offs flds d e) (n : Nat) : e.psc n = d.psc n := by unfold Dev.psc; rw [h.ps]
theorem Dev.Writes.em (h : Dev.Writes offs flds d e) (k : Nat) : e.em k = d.em k := by unfold Dev.em; rw [h.ems]
theorem Dev.Writes.bay (h : Dev.Writes offs flds d e) (b : Nat) : e.bay b = d.bay b := by unfold Dev.bay; rw [h.bays]
theorem Dev.Writes.pc (h : Dev.Writes offs flds d e) (b : Nat) : e.pc b = d.pc b := by unfold Dev.pc; rw [h.bay]

/-! ## What is read of the assignment -/

theorem Dev.psBay_congr (h : Dev.sameFlds flds d e) (hclear : Fld.clear .GL_BAYRES_PS flds = true) (n : Nat) : e.psBay n = d.psBay n := by
  have hbit (b : Nat) (hb : b < 4) : e.fbit .GL_BAYRES_PS b 0 n = d.fbit .GL_BAYRES_PS b 0 n := h.fbit hclear hb n
  simp [Dev.psBay, Dev.ownerOf, List.range_succ, List.find?, hbit]

theorem Dev.emBay_congr (h : Dev.sameFlds flds d e) (hclear : Fld.clear .GL_BAYRES_EM flds = true) (n : Nat) : e.emBay n = d.emBay n := by
  have hbit (b : Nat) (hb : b < 4) : e.fbit .GL_BAYRES_EM b 0 n = d.fbit .GL_BAYRES_EM b 0 n := h.fbit hclear hb n
  simp [Dev.emBay, Dev.ownerOf, List.range_succ, List.find?, hbit]

theorem Dev.psFenced_congr (h : Dev.sameFlds flds d e) (hclear : Fld.clear .FC_FENCE2_PS flds = true) (n : Nat) : e.psFenced n = d.psFenced n :=
  h.fbit hclear (i := 0) (by decide) n

theorem Dev.pacedBy_congr (h : Dev.sameFlds flds d e) (hclear : Fld.clear .GL_BAYRES_PS flds = true) (hchan : Fld.clear .PC_CTL_CHAN flds = true)
    (hsrc : ∀ b, (e.pc b).src = (d.pc b).src) (n : Nat) : e.pacedBy n = d.pacedBy n := by
  have hfld (b : Nat) (hb : b < 4) : e.fld .PC_CTL_CHAN b = d.fld .PC_CTL_CHAN b := h.fld hchan hb
  simp [Dev.pacedBy, List.range_succ, List.find?, hsrc, hfld, Dev.psBay_congr h hclear]

theorem Dev.emulators_congr (h : Dev.sameFlds flds d e) (hclear : Fld.clear .GL_BAYRES_EM flds = true) (hen : Fld.clear .EM_CFG_EN flds = true)
    (hsrc : Fld.clear .EM_CFG_SRC flds = true) (src : Nat) (b : Option Nat) : e.emulators src b = d.emulators src b := by
  refine List.filter_congr fun k hk => ?_
  have hlt : k < 4 := List.mem_range.mp hk
  rw [h.on hen hlt, h.fld hsrc hlt, Dev.emBay_congr h hclear]

/-! ## Counters -/

/-- The fields that a loaded count writes. -/
def countFlds : List Fld := [.PS_POS_COUNT, .PS_STAT_LIMIT]

/-- The registers of a channel that a count writes. -/
def countOffs (n : Nat) : List Nat := [RegName.off .PS_STAT n 0, RegName.off .PS_POS n 0]

/-- The count that a load leaves: within the limits unless WRAP is 1 (R152). -/
def Dev.countOf (d : Dev) (n : Nat) (v : Int) : Int :=
  if d.on .PS_CFG_WRAP n then v else clampInt (d.sfld .PS_LIMLO_LIM n) (d.sfld .PS_LIMHI_LIM n) v

theorem Dev.countOf_congr (h : Dev.sameFlds flds d e) (hn : n < 8) (hwrap : Fld.clear .PS_CFG_WRAP flds = true) (hlo : Fld.clear .PS_LIMLO_LIM flds = true)
    (hhi : Fld.clear .PS_LIMHI_LIM flds = true) (v : Int) : e.countOf n v = d.countOf n v := by
  unfold Dev.countOf; rw [h.on hwrap hn, h.sfld hlo hn, h.sfld hhi hn]

theorem enc_lt (w : Nat) (v : Int) : enc w v < 2 ^ w := by
  have hpos : (0 : Int) < ((2 ^ w : Nat) : Int) := by exact_mod_cast Nat.two_pow_pos w
  have hlt := Int.emod_lt_of_pos v hpos
  have hge := Int.emod_nonneg v hpos.ne'
  unfold enc; omega

section
variable (hn : n < 8) (hoffs : ∀ o ∈ countOffs n, o ∈ offs)
include hn hoffs

theorem Dev.loadCount_writes (d : Dev) (v : Int) : Dev.Writes offs countFlds d (d.loadCount n v) := by
  have hpos (w : Nat) := d.writes_setFld (y := .PS_POS_COUNT) (flds := countFlds) (by decide) (by decide) hn (hoffs _ (by simp [countOffs])) w
  unfold Dev.loadCount; dsimp only
  split
  · exact hpos _
  · split
    · exact hpos _
    · exact (hpos _).trans ((Dev.writes_setOn _ (y := .PS_STAT_LIMIT) (by decide) (by decide) hn (hoffs _ (by simp [countOffs])) true).trans
        (Dev.writes_event _ _ _ _ _ _ _ _))

end

theorem Dev.loadCount_count (d : Dev) (hn : n < 8) (v : Int) : (d.loadCount n v).fld .PS_POS_COUNT n = enc 32 (d.countOf n v) := by
  have hpos (w : Int) : (d.setFld .PS_POS_COUNT n 0 (enc 32 w)).fld .PS_POS_COUNT n = enc 32 w :=
    (d.fld_setFld .PS_POS_COUNT n 0 _ (by decide)).trans (Nat.mod_eq_of_lt (enc_lt 32 w))
  unfold Dev.loadCount Dev.countOf; dsimp only
  split
  · exact hpos _
  · split
    · exact hpos _
    · refine Eq.trans ?_ (hpos _)
      have hlimit (g : Dev) := g.writes_setOn (y := .PS_STAT_LIMIT) (flds := [.PS_STAT_LIMIT]) (j := n) (offs := countOffs n) (by decide) (by decide) hn
        (by simp [countOffs]) true
      exact ((hlimit _).trans (Dev.writes_event _ _ _ _ _ _ _ _)).same.fld (by decide) hn

/-- A preload with no increment of the same cycle. -/
theorem Dev.preload_eq (d : Dev) (hn : n < 8) (hcyc : (d.psc n).cyc.1 ≠ d.tb ∨ (d.psc n).cyc.2 = 0) :
    d.preload n = if d.psFenced n then d else d.loadCount n (d.sfld .PS_PREVAL_VAL n) := by
  have htb := Dev.tb_of_quiet (d.loadCount_writes hn (fun _ ho => ho) (d.sfld .PS_PREVAL_VAL n)).quiet
  unfold Dev.preload; dsimp only
  rw [htb]
  obtain h | h := hcyc <;> simp [h]

theorem Dev.preload_writes (d : Dev) (hn : n < 8) (hoffs : ∀ o ∈ countOffs n, o ∈ offs) : Dev.Writes offs countFlds d (d.preload n) := by
  unfold Dev.preload; dsimp only
  split
  · exact .refl _ _ d
  · split
    · exact (d.loadCount_writes hn hoffs _).trans (Dev.loadCount_writes hn hoffs _ _)
    · exact d.loadCount_writes hn hoffs _

end Sys2Proof.Machine
end

section
/-! PROOFS. Writes of PS_CMD: PRELOAD and MOVE, and the stall watches that start (R152, R155, R156). -/

namespace Sys2Proof.Machine

variable {d e : Dev} {w : Writer} {n : Nat} {x : Word} {flds : List Fld}

/-! ## The stall watches -/

/-- What a watch depends on: MOVE, TIMEOUT, and the bay that the channel paces. -/
theorem Dev.stallWatched_congr (hn : n < 8) (h : Dev.sameFlds flds d e) (hmove : Fld.clear .PS_CMD_MOVE flds = true)
    (hlimit : Fld.clear .PS_STALL_TIMEOUT flds = true) (hres : Fld.clear .GL_BAYRES_PS flds = true) (hchan : Fld.clear .PC_CTL_CHAN flds = true)
    (hbays : e.bays = d.bays) : e.stallWatched n = d.stallWatched n := by
  have hbay : e.bay = d.bay := funext fun b => by unfold Dev.bay; rw [hbays]
  have hpaced : e.pacedBy n = d.pacedBy n := Dev.pacedBy_congr h hres hchan (fun b => by unfold Dev.pc; rw [hbay]) n
  unfold Dev.stallWatched Dev.stallArmed
  rw [h.on hmove hn, h.fld hlimit hn, hpaced, hbay]

/-- The watch of channel `n` starts. -/
def Dev.watchedFrom (d : Dev) (n : Nat) : PsChan := { d.psc n with stallFrom := d.tb, stalled := false }

/-- The watches of the first `m` channels that a change makes run start from it. -/
theorem Dev.restartTo_spec (before : Dev) (m : Nat) (d : Dev) :
    let e := forN m (fun n d => if d.stallWatched n && !before.stallWatched n then
      d.setPsc n { d.psc n with stallFrom := d.tb, stalled := false } else d) d
    (∃ ps, e = { d with ps := ps }) ∧
      ∀ k, e.psc k = if k < m ∧ (d.stallWatched k && !before.stallWatched k) = true then d.watchedFrom k else d.psc k := by
  induction m with
  | zero => exact ⟨⟨d.ps, rfl⟩, fun k => by simp [forN]⟩
  | succ m ih =>
    dsimp only at ih ⊢
    rw [forN_succ]
    generalize forN m _ d = e at ih
    obtain ⟨⟨ps, rfl⟩, hpsc⟩ := ih
    have hwatch : Dev.stallWatched { d with ps := ps } m = d.stallWatched m := rfl
    have htb : Dev.tb { d with ps := ps } = d.tb := rfl
    have hm : Dev.psc { d with ps := ps } m = d.psc m := by rw [hpsc, if_neg (by omega)]
    rw [hwatch, htb, hm]
    split
    · rename_i hset
      refine ⟨⟨_, rfl⟩, fun k => ?_⟩
      by_cases hk : k = m
      · subst hk
        rw [Dev.psc_setPsc, if_pos ⟨by omega, hset⟩]; rfl
      · rw [Dev.psc_setPsc_other _ _ hk, hpsc]
        simp only [show k < m + 1 ↔ k < m by omega]
    · rename_i hnot
      refine ⟨⟨_, rfl⟩, fun k => ?_⟩
      rw [hpsc]
      by_cases hk : k = m
      · subst hk
        rw [if_neg (by omega), if_neg fun h => hnot h.2]
      · simp only [show k < m + 1 ↔ k < m by omega]

theorem Dev.restartStalls_frame (d before : Dev) : (d.restartStalls before).regs = d.regs ∧ (d.restartStalls before).bays = d.bays ∧
    (d.restartStalls before).tbl = d.tbl := by
  obtain ⟨ps, heq⟩ := (Dev.restartTo_spec before 8 d).1
  have hrest : d.restartStalls before = { d with ps := ps } := heq
  rw [hrest]; exact ⟨rfl, rfl, rfl⟩

theorem Dev.restartStalls_psc (d before : Dev) (hn : n < 8) : (d.restartStalls before).psc n =
    if (d.stallWatched n && !before.stallWatched n) = true then d.watchedFrom n else d.psc n := by
  refine ((Dev.restartTo_spec before 8 d).2 n).trans ?_
  simp only [hn, true_and]

/-! ## The register -/

theorem writable_psCmd (n : Fin 8) : Writable .PS_CMD n 0 :=
  ⟨by revert n; decide, by revert n; decide, by revert n; decide, rfl, rfl⟩

theorem Dev.ruleRefuses_psCmd (d : Dev) (i j : Nat) (x : Word) : d.ruleRefuses .PS_CMD i j x = none := rfl

/-- What a write of PS_CMD stores, before the watches start: MOVE as written, and the preload that is asked for. -/
def Dev.commanded (d : Dev) (n : Nat) (x : Word) : Dev :=
  let e := d.setFld .PS_CMD_MOVE n 0 (Fld.of .PS_CMD_MOVE x)
  if Fld.of .PS_CMD_PRELOAD x == 1 then e.preload n else e

theorem Dev.stored_psCmd (d : Dev) (v : Nv) (n : Nat) (x : Word) :
    d.stored v .PS_CMD n 0 x = ((d.commanded n x).restartStalls d, v) := rfl

/-- The words that MOVE and PRELOAD write: PRELOAD leaves MOVE at its value. -/
theorem Dev.fieldsWord_move (d : Dev) (n : Nat) (v : Bool) :
    Fld.of .PS_CMD_MOVE (d.fieldsWord .PS_CMD n 0 [(.PS_CMD_MOVE, bit v)]) = bit v ∧
      Fld.of .PS_CMD_PRELOAD (d.fieldsWord .PS_CMD n 0 [(.PS_CMD_MOVE, bit v)]) = 0 := by
  have hmove := wget_wput_of_lt (v := bit v) (d.keepWord .PS_CMD n 0) (lo := 0) (wd := 1) (by decide) (by cases v <;> decide)
  have hkeep : d.keepWord .PS_CMD n 0 = wput 0 0 1 (d.fld .PS_CMD_MOVE n) := rfl
  refine ⟨hmove, ?_⟩
  exact (wget_wput_other _ 0 1 1 1 (bit v) (by decide) (by decide) (by decide)).trans
    (hkeep ▸ (wget_wput_other 0 0 1 1 1 _ (by decide) (by decide) (by decide)).trans (by decide))

theorem Dev.fieldsWord_preload (d : Dev) (n : Nat) :
    Fld.of .PS_CMD_MOVE (d.fieldsWord .PS_CMD n 0 [(.PS_CMD_PRELOAD, 1)]) = d.fld .PS_CMD_MOVE n ∧
      Fld.of .PS_CMD_PRELOAD (d.fieldsWord .PS_CMD n 0 [(.PS_CMD_PRELOAD, 1)]) = 1 := by
  have hkeep : d.keepWord .PS_CMD n 0 = wput 0 0 1 (d.fld .PS_CMD_MOVE n) := rfl
  refine ⟨?_, wget_wput_of_lt (d.keepWord .PS_CMD n 0) (lo := 1) (wd := 1) (by decide) (by decide)⟩
  exact (wget_wput_other _ 1 1 0 1 1 (by decide) (by decide) (by decide)).trans
    (hkeep ▸ wget_wput_of_lt 0 (by decide) (d.fld_lt .PS_CMD_MOVE n 0))

/-! ## A write -/

/-- The fields and registers that a write of PS_CMD changes. -/
def commandFlds : List Fld := .PS_CMD_MOVE :: countFlds

theorem Dev.commanded_writes (d : Dev) (hn : n < 8) (x : Word) {offs : List Nat} (hcmd : RegName.off .PS_CMD n 0 ∈ offs)
    (hoffs : Fld.of .PS_CMD_PRELOAD x = 1 → ∀ o ∈ countOffs n, o ∈ offs) : Dev.Writes offs commandFlds d (d.commanded n x) := by
  have hmove := d.writes_setFld (y := .PS_CMD_MOVE) (flds := commandFlds) (by decide) (by decide) hn hcmd (Fld.of .PS_CMD_MOVE x)
  unfold Dev.commanded; dsimp only
  split
  · rename_i hask
    exact hmove.trans ((Dev.preload_writes _ hn (hoffs (by simpa using hask))).mono fun y hy => List.mem_cons_of_mem _ hy)
  · exact hmove

/-- No perturbation depends on a register of the channels. -/
theorem Dev.ptActive_of_channel {offs : List Nat} (h : d.regsBut offs e) (habove : ∀ o ∈ offs, 0x80000 ≤ o) : e.ptActive = d.ptActive := by
  refine Dev.ptActive_congr fun r hr k hk => h _ (fun ho => ?_) fun hrep => ?_
  · have hlow : ∀ r ∈ serviceRegs, ∀ k < r.info.count1, r.off k 0 < 0x80000 := by decide
    exact absurd (hlow r hr k hk) (Nat.not_lt.mpr (habove _ ho))
  · have hnot : ∀ r ∈ serviceRegs, ∀ k < r.info.count1, r.off k 0 ∉ reports := by decide
    exact hnot r hr k hk hrep

/-- `f` is `c` once the watch of channel `n` that was not running in `d` has started, but for what reporting changes. -/
structure Dev.Started (d c f : Dev) (n : Nat) : Prop where
  regs : c.regsBut [] f
  same : Dev.sameFlds [] c f
  bays : f.bays = c.bays
  tbl : f.tbl = c.tbl
  chan : f.psc n = if (c.stallWatched n && !d.stallWatched n) = true then c.watchedFrom n else c.psc n

theorem Dev.Reported.psc (h : d.Reported e) (n : Nat) : e.psc n = d.psc n := by
  unfold Dev.psc; rw [Dev.of_quiet Dev.ps (fun _ => rfl) h.1]

theorem Dev.started_of_reported (d c : Dev) (hn : n < 8) (h : (c.restartStalls d).Reported e) : Dev.Started d c e n := by
  obtain ⟨hregs, hbays, htbl⟩ := c.restartStalls_frame d
  exact ⟨(Dev.regsBut_of_regs hregs).trans h.regsBut, (Dev.sameFlds_of_regs hregs).trans h.sameFlds, h.bays.trans hbays, h.tbl.trans htbl,
    (h.psc n).trans (c.restartStalls_psc d hn)⟩

/-- What a write of PS_CMD that may reach it comes to: the device as the write finds it stores the fields, and watches start. -/
theorem psCmd_write {n : Fin 8} {s : State} {fields : List (Fld × Nat)} (hmay : s.dev.mayWriteFields w .PS_CMD n 0 fields)
    (hword : s.dev.fieldsWord .PS_CMD n 0 fields = x) :
    ∃ d f, s.onMach anytime (fun d v => writeFields d v w .PS_CMD n 0 fields) = .next { s with dev := f } ∧ s.dev.Reported d ∧
      Dev.Started d (d.commanded n x) f n := by
  rw [Dev.mayWriteFields, hword] at hmay
  rw [State.onMach_writeFields, hword]
  have hopen := Dev.opens_of_mayWrite hmay
  have hwrites := (s.dev.atWrite w).commanded_writes n.isLt x (offs := RegName.off .PS_CMD n 0 :: countOffs n) (by simp)
    fun _ o ho => List.mem_cons_of_mem _ ho
  have hpt : (((s.dev.atWrite w).commanded n x).restartStalls (s.dev.atWrite w)).ptActive = (s.dev.atWrite w).ptActive := by
    refine (Dev.ptActive_of_regs (Dev.restartStalls_frame _ _).1).trans (Dev.ptActive_of_channel hwrites.regs fun o ho => ?_)
    simp only [countOffs, RegName.off, RegName.info, List.mem_cons, List.not_mem_nil, or_false] at ho
    omega
  exact ⟨_, _, State.write_of_stored hmay (writable_psCmd n) (Dev.ruleRefuses_psCmd _ n 0 x) (Dev.stored_psCmd _ _ n x) hpt,
    (Dev.indices_atWrite hopen).reported, Dev.started_of_reported _ _ n.isLt (Dev.indices_answered _ w (RegName.off .PS_CMD n 0) .ok).reported⟩

theorem exec_move (w : Writer) (n : Fin 8) (v : Bool) (s : State) : exec (.move w n v) s =
    s.onMach anytime fun d m => writeFields d m w .PS_CMD n 0 [(.PS_CMD_MOVE, bit v)] := rfl

theorem exec_preload (w : Writer) (n : Fin 8) (s : State) : exec (.preload w n) s =
    s.onMach anytime fun d m => writeFields d m w .PS_CMD n 0 [(.PS_CMD_PRELOAD, 1)] := rfl

/-- MOVE. -/
theorem move_writes (w : Writer) (n : Fin 8) (v : Bool) (s : State) (hmay : s.dev.mayWriteFields w .PS_CMD n 0 [(.PS_CMD_MOVE, bit v)]) :
    ∃ t, exec (.move w n v) s = .next t ∧ t.nv = s.nv ∧ t.dev.on .PS_CMD_MOVE n = v ∧ t.dev.bays = s.dev.bays ∧
      (∀ b : Fin 4, t.dev.pc b = s.dev.pc b) ∧ t.dev.tbl = s.dev.tbl ∧ s.dev.regsBut [RegName.off .PS_CMD n 0] t.dev ∧
      (t.dev.stallWatched n = true → s.dev.stallWatched n = false →
        (t.dev.psc n).stallFrom = s.dev.tb ∧ (t.dev.psc n).stalled = false) ∧
      (t.dev.stallWatched n = false ∨ s.dev.stallWatched n = true → t.dev.psc n = s.dev.psc n) := by
  obtain ⟨d, f, hexec, hbefore, hstart⟩ := psCmd_write hmay rfl
  obtain ⟨hmove, hpre⟩ := s.dev.fieldsWord_move n v
  generalize s.dev.fieldsWord .PS_CMD n 0 [(.PS_CMD_MOVE, bit v)] = x at hmove hpre hexec hstart
  have hcmd : d.commanded n x = d.setOn .PS_CMD_MOVE n 0 v := by unfold Dev.commanded; rw [hmove, hpre]; rfl
  rw [hcmd] at hstart
  have hset := d.on_setOn .PS_CMD_MOVE n 0 v (by decide) (by decide)
  have hput := d.writes_setOn (y := .PS_CMD_MOVE) (offs := [RegName.off .PS_CMD n 0]) (flds := [.PS_CMD_MOVE]) (by decide) (by decide) n.isLt
    (by simp) v
  generalize d.setOn .PS_CMD_MOVE n 0 v = c at hstart hset hput
  have hbays := (hstart.bays.trans hput.bays).trans hbefore.bays
  have hnew : f.stallWatched n = c.stallWatched n :=
    Dev.stallWatched_congr n.isLt hstart.same (by decide) (by decide) (by decide) (by decide) hstart.bays
  have hold : d.stallWatched n = s.dev.stallWatched n :=
    Dev.stallWatched_congr n.isLt (hbefore.sameFlds (flds := [])) (by decide) (by decide) (by decide) (by decide) hbefore.bays
  have hpsc : c.psc n = s.dev.psc n := (hput.psc n).trans (hbefore.psc n)
  have hchan : f.psc n = if (f.stallWatched n && !s.dev.stallWatched n) = true then s.dev.watchedFrom n else s.dev.psc n := by
    rw [hstart.chan, hnew, hold]
    unfold Dev.watchedFrom
    rw [hpsc, Dev.tb_of_quiet hput.quiet, Dev.tb_of_quiet hbefore.1]
  refine ⟨_, (exec_move w n v s).trans hexec, rfl, (hstart.same.on (x := .PS_CMD_MOVE) (by decide) n.isLt).trans hset, hbays,
    fun b => by unfold Dev.pc Dev.bay; rw [hbays], (hstart.tbl.trans hput.tbl).trans hbefore.tbl, ?_, fun hnow hwas => ?_, fun hno => ?_⟩
  · exact hbefore.regsBut.trans (hput.regs.trans (hstart.regs.mono (by simp)))
  · rw [hchan, if_pos (by rw [hnow, hwas]; rfl)]; exact ⟨rfl, rfl⟩
  · rw [hchan, if_neg]
    obtain h | h := hno <;> simp [h]

/-- PRELOAD. -/
theorem preload_writes (w : Writer) (n : Fin 8) (s : State) (hmay : s.dev.mayWriteFields w .PS_CMD n 0 [(.PS_CMD_PRELOAD, 1)])
    (hcyc : (s.dev.psc n).cyc.1 ≠ s.dev.tb ∨ (s.dev.psc n).cyc.2 = 0) :
    ∃ t, exec (.preload w n) s = .next t ∧ t.nv = s.nv ∧ t.dev.bays = s.dev.bays ∧ (∀ b : Fin 4, t.dev.pc b = s.dev.pc b) ∧
      t.dev.tbl = s.dev.tbl ∧
      t.dev.fld .PS_POS_COUNT n = (if s.dev.psFenced n then s.dev.fld .PS_POS_COUNT n else enc 32 (s.dev.countOf n (s.dev.sfld .PS_PREVAL_VAL n))) ∧
      t.dev.fld .PS_CMD_MOVE n = s.dev.fld .PS_CMD_MOVE n ∧
      s.dev.regsBut [RegName.off .PS_CMD n 0, RegName.off .PS_POS n 0, RegName.off .PS_STAT n 0] t.dev := by
  obtain ⟨d, f, hexec, hbefore, hstart⟩ := psCmd_write hmay rfl
  obtain ⟨hmove, hpre⟩ := s.dev.fieldsWord_preload n
  generalize s.dev.fieldsWord .PS_CMD n 0 [(.PS_CMD_PRELOAD, 1)] = x at hmove hpre hexec hstart
  have hcmd : d.commanded n x = (d.setFld .PS_CMD_MOVE n 0 (s.dev.fld .PS_CMD_MOVE n)).preload n := by unfold Dev.commanded; rw [hmove, hpre]; rfl
  rw [hcmd] at hstart
  have hset := d.fld_setFld .PS_CMD_MOVE n 0 (s.dev.fld .PS_CMD_MOVE n) (by decide)
  have hput := d.writes_setFld (y := .PS_CMD_MOVE) (offs := [RegName.off .PS_CMD n 0, RegName.off .PS_POS n 0, RegName.off .PS_STAT n 0])
    (flds := [.PS_CMD_MOVE]) (by decide) (by decide) n.isLt (by simp) (s.dev.fld .PS_CMD_MOVE n)
  generalize d.setFld .PS_CMD_MOVE n 0 (s.dev.fld .PS_CMD_MOVE n) = g at hput hset hstart
  have hload := g.preload_writes (offs := [RegName.off .PS_CMD n 0, RegName.off .PS_POS n 0, RegName.off .PS_STAT n 0]) n.isLt (by simp [countOffs])
  have hbays := ((hstart.bays.trans hload.bays).trans hput.bays).trans hbefore.bays
  have hsame := (hbefore.sameFlds (flds := [.PS_CMD_MOVE])).trans hput.same
  have hcyc' : (g.psc n).cyc.1 ≠ g.tb ∨ (g.psc n).cyc.2 = 0 := by
    rw [hput.psc, hbefore.psc, Dev.tb_of_quiet hput.quiet, Dev.tb_of_quiet hbefore.1]; exact hcyc
  have hcount : (g.preload n).fld .PS_POS_COUNT n =
      if s.dev.psFenced n then s.dev.fld .PS_POS_COUNT n else enc 32 (s.dev.countOf n (s.dev.sfld .PS_PREVAL_VAL n)) := by
    rw [g.preload_eq n.isLt hcyc', apply_ite (fun d => Dev.fld d .PS_POS_COUNT n), Dev.psFenced_congr hsame (by decide),
      g.loadCount_count n.isLt, hsame.fld (x := .PS_POS_COUNT) (by decide) n.isLt, hsame.sfld (x := .PS_PREVAL_VAL) (by decide) n.isLt,
      Dev.countOf_congr hsame n.isLt (by decide) (by decide) (by decide)]
  have hkeep := (hstart.same.fld (x := .PS_CMD_MOVE) (by decide) n.isLt).trans (hload.same.fld (x := .PS_CMD_MOVE) (by decide) n.isLt)
  exact ⟨_, (exec_preload w n s).trans hexec, rfl, hbays, fun b => by unfold Dev.pc Dev.bay; rw [hbays],
    ((hstart.tbl.trans hload.tbl).trans hput.tbl).trans hbefore.tbl,
    (hstart.same.fld (x := .PS_POS_COUNT) (by decide) n.isLt).trans hcount,
    hkeep.trans (hset.trans (Nat.mod_eq_of_lt (Dev.fld_lt _ _ _ _))),
    hbefore.regsBut.trans ((hput.regs.trans hload.regs).trans (hstart.regs.mono (by simp)))⟩

/-- Settles O12: the write reaches the register's rule, which stores MOVE, loads the counter where that is asked, and starts the watches. -/
theorem positionWrites : Obligations.PositionWrites := by
  unfold Obligations.PositionWrites
  exact ⟨move_writes, preload_writes⟩

end Sys2Proof.Machine
end

section
/-! PROOFS. What the position units may change beside registers, and the counts that reach an emulation output (R168). -/

namespace Sys2Proof.Machine

variable {d e f : Dev} {offs : List Nat} {flds : List Fld} {n k : Nat}

/-- The device without what reporting changes and without the position units, bays, commits and cameras. -/
def Dev.ground (d : Dev) : Dev := { d.quiet with ps := [], ems := [], bays := [], ks := [], cams := [], cpe := [], cmpT := [] }

/-- `e` is `d` but for some fields, in some registers, for the position units, bays, commits and cameras, and for what reporting changes. -/
structure Dev.Moves (offs : List Nat) (flds : List Fld) (d e : Dev) : Prop where
  regs : d.regsBut offs e
  same : Dev.sameFlds flds d e
  ground : e.ground = d.ground

theorem Dev.Moves.refl (offs : List Nat) (flds : List Fld) (d : Dev) : Dev.Moves offs flds d d := ⟨fun _ _ _ => rfl, .refl flds d, rfl⟩

theorem Dev.Moves.trans (h : Dev.Moves offs flds d e) (k : Dev.Moves offs flds e f) : Dev.Moves offs flds d f :=
  ⟨h.regs.trans k.regs, h.same.trans k.same, k.ground.trans h.ground⟩

theorem Dev.Moves.mono {flds' : List Fld} (h : Dev.Moves offs flds d e) (hsub : ∀ y ∈ flds, y ∈ flds') : Dev.Moves offs flds' d e :=
  ⟨h.regs, h.same.mono hsub, h.ground⟩

theorem Dev.Writes.moves (h : Dev.Writes offs flds d e) : Dev.Moves offs flds d e :=
  ⟨h.regs, h.same, congrArg (fun d : Dev => { d with ps := [], ems := [], bays := [], ks := [], cams := [], cpe := [], cmpT := [] }) h.quiet⟩

/-- Only units change. -/
theorem Dev.moves_of_regs (hregs : e.regs = d.regs) (hground : e.ground = d.ground) : Dev.Moves offs flds d e :=
  ⟨Dev.regsBut_of_regs hregs, Dev.sameFlds_of_regs hregs, hground⟩

theorem Dev.moves_setEm (d : Dev) (n : Nat) (x : Emul) : Dev.Moves offs flds d (d.setEm n x) := Dev.moves_of_regs rfl rfl
theorem Dev.moves_setPsc (d : Dev) (n : Nat) (x : PsChan) : Dev.Moves offs flds d (d.setPsc n x) := Dev.moves_of_regs rfl rfl
theorem Dev.moves_setPc (d : Dev) (b : Nat) (x : Pacer) : Dev.Moves offs flds d (d.setPc b x) := Dev.moves_of_regs rfl rfl
theorem Dev.moves_setKset (d : Dev) (b : Nat) (x : Ks) : Dev.Moves offs flds d (d.setKset b x) := Dev.moves_of_regs rfl rfl

theorem Dev.moves_cams (d : Dev) (cams : Store Cam) : Dev.Moves offs flds d { d with cams := cams } := Dev.moves_of_regs rfl rfl

/-- What stands beside registers and units. -/
theorem Dev.of_ground {α : Type} (π : Dev → α) (hπ : ∀ d : Dev, π d.ground = π d) (h : e.ground = d.ground) : π e = π d :=
  (hπ e).symm.trans ((congrArg π h).trans (hπ d))

theorem Dev.Moves.tbl (h : Dev.Moves offs flds d e) : e.tbl = d.tbl := Dev.of_ground Dev.tbl (fun _ => rfl) h.ground
theorem Dev.Moves.fs (h : Dev.Moves offs flds d e) : e.fs = d.fs := Dev.of_ground Dev.fs (fun _ => rfl) h.ground
theorem Dev.Moves.tb (h : Dev.Moves offs flds d e) : e.tb = d.tb := Dev.of_ground Dev.tb (fun _ => rfl) h.ground

/-! ## One output -/

/-- The fields in which an emulation output shows what it loses. -/
def emFlds : List Fld := [.EM_LOST_LOST, .EM_STAT_EMULAG]

/-- Their registers are among some offsets. -/
def emOffs (offs : List Nat) : Prop := ∀ k < 4, RegName.off .EM_LOST k 0 ∈ offs ∧ RegName.off .EM_STAT k 0 ∈ offs

/-- The counts that source increments make at an emulation output (R168). -/
def Emul.steps (x : Emul) (num den inc : Int) : Int :=
  let a := x.a + inc * num
  if a ≥ 0 then a / max 1 den else -((-a) / max 1 den)

/-- What an emulation output makes of them: its backlog is bounded. -/
def Emul.fed (x : Emul) (num den inc : Int) : Emul :=
  { x with a := x.a + inc * num - x.steps num den inc * max 1 den, k := clampInt (-65535) 65535 (x.k + x.steps num den inc) }

/-- The output after them. -/
def Dev.emFed (d : Dev) (n : Nat) (inc : Int) : Emul := (d.em n).fed (d.fld .EM_RATIO_N n) (d.fld .EM_RATIO_D n) inc

/-- What of a backlog is lost. -/
def excessOf (k : Int) : Int := if k > 65535 then k - 65535 else if k < -65535 then -65535 - k else 0

/-- The loss is counted, and told when it is the first. -/
def Dev.emLost (d : Dev) (n : Nat) (excess : Int) : Dev :=
  if excess = 0 then d
  else
    let e := (d.bump .EM_LOST_LOST n 0 excess.toNat).setOn .EM_STAT_EMULAG n 0 true
    if d.on .EM_STAT_EMULAG n then e else e.unitEvent (e.emBay n) 1 0x0900 n (e.fld .EM_LOST_LOST n) 0

/-- The excess of the backlog that source increments give. -/
def Dev.emExcess (d : Dev) (n : Nat) (inc : Int) : Int :=
  excessOf ((d.em n).k + (d.em n).steps (d.fld .EM_RATIO_N n) (d.fld .EM_RATIO_D n) inc)

theorem Dev.emulate_eq (d : Dev) (n : Nat) (inc : Int) : d.emulate n inc = (d.setEm n (d.emFed n inc)).emLost n (d.emExcess n inc) := rfl

theorem Dev.emLost_writes (d : Dev) (hn : n < 4) (hoffs : emOffs offs) (excess : Int) : Dev.Writes offs emFlds d (d.emLost n excess) := by
  obtain ⟨hlost, hstat⟩ := hoffs n hn
  unfold Dev.emLost; dsimp only
  split
  · exact .refl _ _ _
  · exact (d.writes_bump (y := .EM_LOST_LOST) (by decide) (by decide) hn hlost _).trans
      ((Dev.writes_setOn _ (y := .EM_STAT_EMULAG) (by decide) (by decide) hn hstat true).trans (Dev.writes_event _ _ _ _ _ _ _ _))

/-- `e` is `d` after counts that reach emulation outputs: beside what they lose, only the outputs change. -/
structure Dev.Feeds (offs : List Nat) (d e : Dev) : Prop where
  moves : Dev.Moves offs emFlds d e
  ps : e.ps = d.ps
  bays : e.bays = d.bays

theorem Dev.Feeds.refl (offs : List Nat) (d : Dev) : Dev.Feeds offs d d := ⟨.refl _ _ d, rfl, rfl⟩

theorem Dev.Feeds.trans (h : Dev.Feeds offs d e) (k : Dev.Feeds offs e f) : Dev.Feeds offs d f :=
  ⟨h.moves.trans k.moves, k.ps.trans h.ps, k.bays.trans h.bays⟩

theorem Dev.emulate_feeds (d : Dev) (hn : n < 4) (hoffs : emOffs offs) (inc : Int) : Dev.Feeds offs d (d.emulate n inc) := by
  rw [Dev.emulate_eq]
  have hlost := (d.setEm n (d.emFed n inc)).emLost_writes hn hoffs (d.emExcess n inc)
  exact ⟨(d.moves_setEm n _).trans hlost.moves, hlost.ps, hlost.bays⟩

theorem Dev.emulate_ems (d : Dev) (hn : n < 4) (inc : Int) : (d.emulate n inc).ems = (d.setEm n (d.emFed n inc)).ems := by
  rw [Dev.emulate_eq]
  exact (Dev.emLost_writes _ hn (offs := (List.range 4).flatMap fun k => [RegName.off .EM_LOST k 0, RegName.off .EM_STAT k 0])
    (by simp only [emOffs]; decide) _).ems

theorem Dev.emulate_em (d : Dev) (hn : n < 4) (inc : Int) : (d.emulate n inc).em n = d.emFed n inc := by
  unfold Dev.em; rw [d.emulate_ems hn]; exact d.em_setEm n _

theorem Dev.emulate_em_other (d : Dev) (hn : n < 4) (hk : k ≠ n) (inc : Int) : (d.emulate n inc).em k = d.em k := by
  unfold Dev.em; rw [d.emulate_ems hn]; exact d.em_setEm_other _ hk

theorem Dev.emFed_congr (h : Dev.sameFlds flds d e) (hn : n < 4) (hem : e.em n = d.em n) (hnum : Fld.clear .EM_RATIO_N flds = true)
    (hden : Fld.clear .EM_RATIO_D flds = true) (inc : Int) : e.emFed n inc = d.emFed n inc := by
  unfold Dev.emFed; rw [hem, h.fld hnum hn, h.fld hden hn]

/-! ## Several outputs -/

theorem Dev.mem_emulators {d : Dev} {src k : Nat} {b : Option Nat} (h : k ∈ d.emulators src b) : k < 4 ∧ d.fld .EM_CFG_SRC k = src := by
  simp only [Dev.emulators, List.mem_filter, List.mem_range, Bool.and_eq_true, beq_iff_eq] at h
  obtain ⟨hlt, ⟨⟨-, hsrc⟩, -⟩, -⟩ := h
  exact ⟨hlt, hsrc⟩

theorem Dev.nodup_emulators (d : Dev) (src : Nat) (b : Option Nat) : (d.emulators src b).Nodup := List.nodup_range.filter _

theorem Dev.emulate_foldl_feeds (hoffs : emOffs offs) (inc : Dev → Int) (l : List Nat) (hl : ∀ k ∈ l, k < 4) (d : Dev) :
    Dev.Feeds offs d (l.foldl (fun d k => d.emulate k (inc d)) d) := by
  induction l generalizing d with
  | nil => exact .refl _ d
  | cons n r ih =>
    rw [List.forall_mem_cons] at hl
    exact (d.emulate_feeds hl.1 hoffs (inc d)).trans (ih hl.2 _)

theorem Dev.emulate_foldl_em_other (inc : Dev → Int) (l : List Nat) (hl : ∀ k ∈ l, k < 4) (hk : k ∉ l) (d : Dev) :
    (l.foldl (fun d k => d.emulate k (inc d)) d).em k = d.em k := by
  induction l generalizing d with
  | nil => rfl
  | cons n r ih =>
    rw [List.forall_mem_cons] at hl
    rw [List.mem_cons, not_or] at hk
    exact (ih hl.2 hk.2 _).trans (d.emulate_em_other hl.1 hk.1 _)

/-- Each output of a list takes the increments once. -/
theorem Dev.emulate_foldl_em (inc : Int) (l : List Nat) (hl : ∀ k ∈ l, k < 4) (hnodup : l.Nodup) (hk : k ∈ l) (d : Dev) :
    (l.foldl (fun d k => d.emulate k inc) d).em k = d.emFed k inc := by
  induction l generalizing d with
  | nil => exact absurd hk List.not_mem_nil
  | cons n r ih =>
    rw [List.forall_mem_cons] at hl
    rw [List.nodup_cons] at hnodup
    rw [List.foldl_cons]
    by_cases hkn : k = n
    · subst hkn
      rw [Dev.emulate_foldl_em_other (fun _ => inc) r hl.2 hnodup.1, d.emulate_em hl.1]
    · have hin : k ∈ r := (List.mem_cons.mp hk).resolve_left hkn
      have hsame := (d.emulate_feeds (offs := (List.range 4).flatMap fun k => [RegName.off .EM_LOST k 0, RegName.off .EM_STAT k 0]) hl.1
        (by simp only [emOffs]; decide) inc).moves.same
      rw [ih hl.2 hnodup.2 hin, Dev.emFed_congr hsame (hl.2 k hin) (d.emulate_em_other hl.1 hkn inc) (by decide) (by decide)]

end Sys2Proof.Machine
end

section
/-! PROOFS. Triggers: issued at once or delayed (R18, R61, R62, R66, R163, R168, R405). -/

namespace Sys2Proof.Machine

variable {d e f : Dev} {offs : List Nat} {b c k t stamp : Nat}

/-! ## What a perturbation that ends may tell -/

theorem Dev.reported_devEventsNow (l : List Nat) (q code unit d1 : Nat) (d : Dev) :
    d.Reported (l.foldl (fun d b => d.devEvent b q code unit d.ptActive d1) d) := by
  induction l generalizing d with
  | nil => exact .refl d
  | cons s r ih => exact (d.reported_devEvent _ _ _ _ _ _).trans (ih _)

theorem Dev.markPert_eq (d : Dev) : ∃ cams, d.markPert = { d with cams := cams } := by
  unfold Dev.markPert; dsimp only
  split
  · exact ⟨d.cams, rfl⟩
  · exact ⟨_, rfl⟩

/-- PT_CHANGED marks camera frames, and is told (R236, R408). -/
theorem Dev.ptNote_told (d : Dev) (old : Nat) : ∃ cams, Dev.Reported { d with cams := cams } (d.ptNote old) := by
  unfold Dev.ptNote; dsimp only
  split
  · exact ⟨d.cams, .refl d⟩
  · obtain ⟨cams, heq⟩ := d.markPert_eq
    rw [heq]
    exact ⟨cams, (Dev.reported_devEvent _ _ _ _ _ _ _).trans (Dev.reported_devEventsNow _ _ _ _ _ _)⟩

/-! ## A trigger that is issued -/

/-- The fields that an issued trigger writes, and those that a trigger writes when PT_TRIGDLY may delay it. -/
def issueFlds : List Fld := .PC_PERIOD_CYC :: emFlds
def trigFlds : List Fld := .PT_TRIGDLY_MODE :: issueFlds

/-- What a trigger does not change of a pacer: its source, position, interpolator and generator. -/
def Pacer.course (x : Pacer) : Pacer := { x with trigs := [], stop := none, lastTrig := none, recent := [], delayed := [] }

/-- The pacer with a trigger issued. -/
def Pacer.issued (x : Pacer) (stamp : Nat) (hold : Option Nat) : Pacer :=
  { x with trigs := x.trigs ++ [⟨stamp, hold⟩], stop := none, lastTrig := some stamp,
           recent := stamp :: (x.recent.filter fun t => decide (stamp < t + ms 10)) }

/-- The stop that a trigger carries: a registered one, or that of nSTOPb while it is low (R62). -/
def Dev.stopNow (d : Dev) (b : Nat) : Option Nat := (d.pc b).stop.or (if d.nstopLow b then some 1 else none)

/-- `e` is `d` with a trigger of bay `b` issued. -/
structure Dev.Issues (offs : List Nat) (b stamp : Nat) (d e : Dev) : Prop where
  moves : Dev.Moves offs issueFlds d e
  ps : e.ps = d.ps
  bays : e.bays = (d.setPc b ((d.pc b).issued stamp (d.stopNow b))).bays
  period : ∀ l, (d.pc b).lastTrig = some l → e.fld .PC_PERIOD_CYC b = min (stamp - l) 0xFFFFFF
  em : ∀ k < 4, d.fld .EM_CFG_SRC k ≠ 8 → e.em k = d.em k

/-- PC_PERIOD takes the interval from the last trigger. -/
def Dev.periodTaken (d : Dev) (b stamp : Nat) : Dev :=
  match (d.pc b).lastTrig with
  | some t => d.setFld .PC_PERIOD_CYC b 0 (min (stamp - t) 0xFFFFFF)
  | none => d

theorem Dev.periodTaken_writes (d : Dev) (hb : b < 4) (hoff : RegName.off .PC_PERIOD b 0 ∈ offs) (stamp : Nat) :
    Dev.Writes offs [.PC_PERIOD_CYC] d (d.periodTaken b stamp) := by
  unfold Dev.periodTaken
  split
  · exact d.writes_setFld (y := .PC_PERIOD_CYC) (by decide) (by decide) hb hoff _
  · exact .refl _ _ d

theorem Dev.periodTaken_period (d : Dev) {l : Nat} (hl : (d.pc b).lastTrig = some l) :
    (d.periodTaken b stamp).fld .PC_PERIOD_CYC b = min (stamp - l) 0xFFFFFF := by
  simp only [Dev.periodTaken, hl]
  exact (d.fld_setFld .PC_PERIOD_CYC b 0 _ (by decide)).trans (Nat.mod_eq_of_lt (show _ < 2 ^ 24 by omega))

/-- An armed commit whose target is the course after the trigger's is carried by it (R66). -/
def Dev.carries (d : Dev) (b k : Nat) : Dev :=
  let mark (s : KSlot) : KSlot := if s.st = .armed && s.target == add48 k 1 then { s with carried := true } else s
  d.setKset b { d.kset b with host := mark (d.kset b).host, int := mark (d.kset b).int }

/-- The trigger before it reaches the emulation outputs. -/
def Dev.trigged (d : Dev) (b stamp : Nat) : Dev :=
  ((d.periodTaken b stamp).setPc b ((d.pc b).issued stamp ((d.pc b).stop.or (if (d.periodTaken b stamp).nstopLow b then some 1 else none)))).carries b
    (add48 (d.bay b).cc ((d.pc b).trigs.length + 1))

theorem Dev.issueNow_eq (d : Dev) (b stamp : Nat) : d.issueNow b stamp =
    ((d.trigged b stamp).emulators 8 (some b)).foldl (fun e n => e.emulate n (if e.reverseNow b then -1 else 1)) (d.trigged b stamp) := rfl

theorem Dev.nstopLow_congr {flds : List Fld} (h : Dev.Writes offs flds d e) (hclear : Fld.clear .KS_BAYCTL_NSTOPEN flds = true) (hb : b < 4) :
    e.nstopLow b = d.nstopLow b := by
  have hnstop : e.nstop = d.nstop := Dev.of_quiet Dev.nstop (fun _ => rfl) h.quiet
  have hnow : e.now = d.now := Dev.of_quiet Dev.now (fun _ => rfl) h.quiet
  unfold Dev.nstopLow
  rw [h.same.on hclear hb, hnstop, hnow]

theorem Dev.bays_setPc_congr (h : e.bays = d.bays) (b : Nat) (y : Pacer) : (e.setPc b y).bays = (d.setPc b y).bays := by
  unfold Dev.setPc Dev.setBay Dev.bay; rw [h]

theorem Dev.trigged_spec (d : Dev) (hb : b < 4) (hoff : RegName.off .PC_PERIOD b 0 ∈ offs) (stamp : Nat) :
    Dev.Moves offs [.PC_PERIOD_CYC] d (d.trigged b stamp) ∧ (d.trigged b stamp).ps = d.ps ∧ (d.trigged b stamp).ems = d.ems ∧
      (d.trigged b stamp).bays = (d.setPc b ((d.pc b).issued stamp (d.stopNow b))).bays ∧
      (d.trigged b stamp).regs = (d.periodTaken b stamp).regs := by
  have hput := d.periodTaken_writes hb hoff stamp
  refine ⟨hput.moves.trans ((Dev.moves_setPc _ _ _).trans (Dev.moves_setKset _ _ _)), hput.ps, hput.ems, ?_, rfl⟩
  refine (Dev.bays_setPc_congr hput.bays b _).trans ?_
  rw [Dev.nstopLow_congr hput (by decide) hb]
  rfl

theorem Dev.issueNow_issues (d : Dev) (hb : b < 4) (hoff : RegName.off .PC_PERIOD b 0 ∈ offs) (hem : emOffs offs) (stamp : Nat) :
    Dev.Issues offs b stamp d (d.issueNow b stamp) := by
  obtain ⟨hmoves, hps, hems, hbays, hregs⟩ := d.trigged_spec hb hoff stamp
  have hfeed := Dev.emulate_foldl_feeds hem (fun e => if e.reverseNow b then -1 else 1) ((d.trigged b stamp).emulators 8 (some b))
    (fun k hk => (Dev.mem_emulators hk).1) (d.trigged b stamp)
  rw [Dev.issueNow_eq]
  refine ⟨(hmoves.mono (by simp [issueFlds])).trans (hfeed.moves.mono fun y hy => List.mem_cons_of_mem _ hy), hfeed.ps.trans hps, hfeed.bays.trans hbays,
    fun l hl => ?_, fun k hk hsrc => ?_⟩
  · refine (hfeed.moves.same.fld (x := .PC_PERIOD_CYC) (by decide) hb).trans ((Dev.fld_congr hregs _ _ _).trans (d.periodTaken_period hl))
  · refine (Dev.emulate_foldl_em_other _ _ (fun k hk => (Dev.mem_emulators hk).1) (fun hin => hsrc ?_) _).trans (by unfold Dev.em; rw [hems])
    rw [← hmoves.same.fld (x := .EM_CFG_SRC) (by decide) hk]
    exact (Dev.mem_emulators hin).2

section
variable (h : Dev.Issues offs b stamp d e)
include h

theorem Dev.Issues.pc : e.pc b = (d.pc b).issued stamp (d.stopNow b) := by
  have hbay : e.bay b = (d.setPc b ((d.pc b).issued stamp (d.stopNow b))).bay b := by unfold Dev.bay; rw [h.bays]
  unfold Dev.pc; rw [hbay]; exact d.pc_setPc b _

theorem Dev.Issues.bay_other (hc : c ≠ b) : e.bay c = d.bay c := by
  have hbay : e.bay c = (d.setPc b ((d.pc b).issued stamp (d.stopNow b))).bay c := by unfold Dev.bay; rw [h.bays]
  rw [hbay]; exact d.bay_setBay_other _ hc

end

/-! ## A trigger that PT_TRIGDLY may delay -/

/-- A single delay ends (R405). -/
def Dev.delayEnds (d : Dev) (b : Nat) : Dev := if d.fld .PT_TRIGDLY_MODE b = 2 then (d.setFld .PT_TRIGDLY_MODE b 0 0).ptNote d.ptActive else d

/-- The delay of a trigger. -/
def Dev.delayOf (d : Dev) (b : Nat) : Nat :=
  if d.fld .PT_TRIGDLY_MODE b = 1 || d.fld .PT_TRIGDLY_MODE b = 2 then d.fld .PT_TRIGDLY_CYC b else 0

/-- The cycle to which a trigger is delayed: behind those already delayed. -/
def Pacer.delayedTo (y : Pacer) (t delay : Nat) : Nat :=
  match y.delayed.getLast? with
  | some l => max (t + delay) (l + 1)
  | none => t + delay
def Dev.delayedTo (d : Dev) (b t : Nat) : Nat := (d.pc b).delayedTo t (d.delayOf b)

theorem Dev.issueTrigger_eq (d : Dev) (b t : Nat) : d.issueTrigger b t =
    if d.delayOf b = 0 && (d.pc b).delayed.getLast?.isNone then (d.delayEnds b).issueNow b t
    else (d.delayEnds b).setPc b { (d.delayEnds b).pc b with delayed := (d.pc b).delayed ++ [d.delayedTo b t] } := rfl

theorem Dev.delayEnds_moves (d : Dev) (hb : b < 4) (hoff : RegName.off .PT_TRIGDLY b 0 ∈ offs) :
    Dev.Moves offs [.PT_TRIGDLY_MODE] d (d.delayEnds b) ∧ (d.delayEnds b).ps = d.ps ∧ (d.delayEnds b).bays = d.bays ∧ (d.delayEnds b).ems = d.ems := by
  unfold Dev.delayEnds
  split
  · have hput := d.writes_setFld (y := .PT_TRIGDLY_MODE) (offs := offs) (flds := [.PT_TRIGDLY_MODE]) (by decide) (by decide) hb hoff 0
    obtain ⟨cams, htold⟩ := (d.setFld .PT_TRIGDLY_MODE b 0 0).ptNote_told d.ptActive
    have htell := htold.writes (offs := offs) (flds := [.PT_TRIGDLY_MODE])
    refine ⟨hput.moves.trans ((Dev.moves_cams _ cams).trans htell.moves), htell.ps,
      htell.bays, htell.ems⟩
  · exact ⟨.refl _ _ d, rfl, rfl, rfl⟩

theorem Dev.delayEnds_mode (d : Dev) (hb : b < 4) :
    (d.delayEnds b).fld .PT_TRIGDLY_MODE b = if d.fld .PT_TRIGDLY_MODE b = 2 then 0 else d.fld .PT_TRIGDLY_MODE b := by
  unfold Dev.delayEnds
  split
  · obtain ⟨cams, htold⟩ := (d.setFld .PT_TRIGDLY_MODE b 0 0).ptNote_told d.ptActive
    exact (htold.sameFlds (flds := [])).fld (x := .PT_TRIGDLY_MODE) (by decide) hb |>.trans (d.fld_setFld .PT_TRIGDLY_MODE b 0 0 (by decide))
  · rfl

/-- `e` is `d` with a trigger of bay `b` issued or delayed. -/
structure Dev.Triggers (offs : List Nat) (b : Nat) (d e : Dev) : Prop where
  moves : Dev.Moves offs trigFlds d e
  ps : e.ps = d.ps
  bays : ∃ y : Pacer, y.course = (d.pc b).course ∧ e.bays = (d.setPc b y).bays
  em : ∀ k < 4, d.fld .EM_CFG_SRC k ≠ 8 → e.em k = d.em k

theorem Dev.issueTrigger_triggers (d : Dev) (hb : b < 4) (hperiod : RegName.off .PC_PERIOD b 0 ∈ offs) (hdelay : RegName.off .PT_TRIGDLY b 0 ∈ offs)
    (hem : emOffs offs) (t : Nat) : Dev.Triggers offs b d (d.issueTrigger b t) := by
  obtain ⟨hends, hps, hbays, hems⟩ := d.delayEnds_moves hb hdelay
  have hends' := hends.mono (flds' := trigFlds) (by simp [trigFlds])
  have hpc : (d.delayEnds b).pc b = d.pc b := by unfold Dev.pc Dev.bay; rw [hbays]
  have hemk (k : Nat) : (d.delayEnds b).em k = d.em k := by unfold Dev.em; rw [hems]
  rw [Dev.issueTrigger_eq]
  split
  · have hissue := (d.delayEnds b).issueNow_issues hb hperiod hem t
    refine ⟨hends'.trans (hissue.moves.mono fun y hy => List.mem_cons_of_mem _ hy), hissue.ps.trans hps,
      ⟨_, ?_, hissue.bays.trans (Dev.bays_setPc_congr hbays b _)⟩, fun k hk hsrc => (hissue.em k hk ?_).trans (hemk k)⟩
    · rw [hpc]; rfl
    · rw [hends.same.fld (x := .EM_CFG_SRC) (by decide) hk]; exact hsrc
  · refine ⟨hends'.trans (Dev.moves_setPc _ _ _), hps, ⟨_, ?_, Dev.bays_setPc_congr hbays b _⟩, fun k _ _ => hemk k⟩
    rw [hpc]; rfl

theorem Dev.Triggers.pc (h : Dev.Triggers offs b d e) (c : Nat) : (e.pc c).course = (d.pc c).course := by
  obtain ⟨y, hy, hbays⟩ := h.bays
  have hbay : e.bay c = (d.setPc b y).bay c := by unfold Dev.bay; rw [hbays]
  unfold Dev.pc
  rw [hbay]
  by_cases hc : c = b
  · subst hc
    exact (congrArg Pacer.course (d.pc_setPc c y)).trans hy
  · rw [show (d.setPc b y).bay c = d.bay c from d.bay_setBay_other _ hc]

end Sys2Proof.Machine
end

section
/-! PROOFS. The triggers of the generator, the interpolator and PT_TRIGDLY, and the rate count (R159, R162, R163, R282, R405). -/

namespace Sys2Proof.Machine

variable {d e f : Dev} {b c k t x : Nat} {y : Pacer}

/-! ## A pacer that moves on and issues -/

/-- The registers that an issued trigger writes. -/
def issueOffs (b : Nat) : List Nat :=
  [RegName.off .PC_PERIOD b 0] ++ (List.finRange 4).flatMap fun k => [RegName.off .EM_LOST k 0, RegName.off .EM_STAT k 0]

theorem emOffs_issueOffs (b : Nat) : emOffs (issueOffs b) := by
  have hin : emOffs ((List.finRange 4).flatMap fun k => [RegName.off .EM_LOST k 0, RegName.off .EM_STAT k 0]) := by unfold emOffs; decide
  exact fun k hk => ⟨List.mem_append_right _ (hin k hk).1, List.mem_append_right _ (hin k hk).2⟩

/-- `e` is `d` with the trigger of cycle `x` issued at bay `b`, whose pacer had moved on to `y`. -/
structure Dev.IssuedFrom (b x : Nat) (y : Pacer) (d e : Dev) : Prop where
  pc : e.pc b = y.issued x (d.stopNow b)
  others : ∀ c, c ≠ b → e.bay c = d.bay c
  period : ∀ l, (d.pc b).lastTrig = some l → e.fld .PC_PERIOD_CYC b = min (x - l) 0xFFFFFF
  regs : d.regsBut (issueOffs b) e

/-- A pacer moves on without its stop and last trigger. -/
structure Pacer.Onward (x y : Pacer) : Prop where
  stop : y.stop = x.stop
  lastTrig : y.lastTrig = x.lastTrig

theorem Dev.IssuedFrom.read {α : Type} (h : Dev.IssuedFrom b x y d e) (π : Pacer → α) : π (e.pc b) = π (y.issued x (d.stopNow b)) := congrArg π h.pc

theorem Dev.issueNow_after (hb : b < 4) (hy : (d.pc b).Onward y) : Dev.IssuedFrom b x y d ((d.setPc b y).issueNow b x) := by
  have hissue := (d.setPc b y).issueNow_issues hb (offs := issueOffs b) (by simp [issueOffs]) (emOffs_issueOffs b) x
  have hstop : (d.setPc b y).stopNow b = d.stopNow b := by
    unfold Dev.stopNow
    rw [d.pc_setPc, hy.stop]
    rfl
  refine ⟨?_, fun c hc => ?_, fun l hl => hissue.period l ?_, hissue.moves.regs⟩
  · rw [hissue.pc, d.pc_setPc, hstop]
  · exact (hissue.bay_other hc).trans (d.bay_setBay_other _ hc)
  · rw [d.pc_setPc, hy.lastTrig, hl]

theorem Dev.issueTrigger_of_now (hmode : d.fld .PT_TRIGDLY_MODE b = 0) (hnone : (d.pc b).delayed = []) : d.issueTrigger b t = d.issueNow b t := by
  rw [Dev.issueTrigger_eq, if_pos (by simp [Dev.delayOf, hmode, hnone])]
  unfold Dev.delayEnds
  rw [if_neg (by omega)]

theorem Dev.delayOf_of_mode (hmode : d.fld .PT_TRIGDLY_MODE b = 1 ∨ d.fld .PT_TRIGDLY_MODE b = 2) : d.delayOf b = d.fld .PT_TRIGDLY_CYC b :=
  if_pos (by simpa using hmode)

theorem Dev.issueTrigger_of_delay (hmode : d.fld .PT_TRIGDLY_MODE b = 1 ∨ d.fld .PT_TRIGDLY_MODE b = 2) (hcyc : 0 < d.fld .PT_TRIGDLY_CYC b) :
    d.issueTrigger b t = (d.delayEnds b).setPc b { (d.delayEnds b).pc b with delayed := (d.pc b).delayed ++ [d.delayedTo b t] } := by
  rw [Dev.issueTrigger_eq, Dev.delayOf_of_mode hmode, if_neg (by simp; omega)]

theorem Dev.delayedTo_setPc (hmode : d.fld .PT_TRIGDLY_MODE b = 1 ∨ d.fld .PT_TRIGDLY_MODE b = 2) :
    (d.setPc b y).delayedTo b t = y.delayedTo t (d.fld .PT_TRIGDLY_CYC b) := by
  have hdelay : (d.setPc b y).delayOf b = d.fld .PT_TRIGDLY_CYC b := Dev.delayOf_of_mode hmode
  rw [Dev.delayedTo, hdelay, d.pc_setPc]

/-- The pacer with a trigger of cycle `x` delayed by `delay` cycles, behind those already delayed. -/
def Pacer.behind (y : Pacer) (x delay : Nat) : Pacer := { y with delayed := y.delayed ++ [y.delayedTo x delay] }

/-- `e` is `d` with the trigger of cycle `x` at bay `b` delayed, whose pacer had moved on to `y`. -/
structure Dev.DelayedFrom (b x : Nat) (y : Pacer) (d e : Dev) : Prop where
  pc : e.pc b = y.behind x (d.fld .PT_TRIGDLY_CYC b)
  mode : e.fld .PT_TRIGDLY_MODE b = if d.fld .PT_TRIGDLY_MODE b = 2 then 0 else d.fld .PT_TRIGDLY_MODE b

theorem Dev.DelayedFrom.read {α : Type} (h : Dev.DelayedFrom b x y d e) (π : Pacer → α) : π (e.pc b) = π (y.behind x (d.fld .PT_TRIGDLY_CYC b)) :=
  congrArg π h.pc

theorem Dev.issueTrigger_delayed (hb : b < 4) (hmode : d.fld .PT_TRIGDLY_MODE b = 1 ∨ d.fld .PT_TRIGDLY_MODE b = 2)
    (hcyc : 0 < d.fld .PT_TRIGDLY_CYC b) : Dev.DelayedFrom b t y d ((d.setPc b y).issueTrigger b t) := by
  obtain ⟨-, -, hbays, -⟩ := (d.setPc b y).delayEnds_moves hb (offs := [RegName.off .PT_TRIGDLY b 0]) (by simp)
  have hpc : ((d.setPc b y).delayEnds b).pc b = y := by unfold Dev.pc Dev.bay; rw [hbays]; exact d.pc_setPc b y
  have hdelay : (d.setPc b y).issueTrigger b t = _ := Dev.issueTrigger_of_delay (d := d.setPc b y) hmode hcyc
  rw [hdelay]
  refine ⟨?_, (d.setPc b y).delayEnds_mode hb⟩
  rw [Dev.pc_setPc, hpc, d.pc_setPc, Dev.delayedTo_setPc hmode]
  rfl

/-! ## The commands -/

theorem exec_generatorTrigger (b : Fin 4) (s : State) : exec (.generatorTrigger b) s =
    s.onDev (fun d => d.bayModes && d.genDue b) fun d => d.genIssue b := rfl
theorem exec_interpolatedTrigger (b : Fin 4) (s : State) : exec (.interpolatedTrigger b) s =
    s.onDev (fun d => d.bayModes && d.interpDue b) fun d => d.interpIssue b := rfl
theorem exec_delayedTriggerIssue (b : Fin 4) (s : State) : exec (.delayedTriggerIssue b) s =
    s.onDev (fun d => d.bayModes && d.delayedDue b) fun d => d.issueDelayed b := rfl
theorem exec_pacerRateUpdate (b : Fin 4) (s : State) : exec (.pacerRateUpdate b) s =
    s.onDev (fun d => d.running && d.present b && decide ((d.pc b).rateNext ≤ d.tb)) fun d => d.rateUpdate b := rfl

/-- The pacer whose interpolated crossing is issued. -/
def Pacer.crossed (x : Pacer) (t : Nat) : Pacer := { x with q := x.qAt t, qT := max t x.qT, m := x.m + 1 }

theorem Dev.interpIssue_of_cross (h : (d.pc b).nextCross = some t) : d.interpIssue b = (d.setPc b ((d.pc b).crossed t)).issueTrigger b t := by
  simp only [Dev.interpIssue, h]
  rfl

theorem Dev.issueDelayed_of_next {rest : List Nat} (h : (d.pc b).delayed = t :: rest) :
    d.issueDelayed b = (d.setPc b { d.pc b with delayed := rest }).issueNow b t := by
  simp only [Dev.issueDelayed, h]

/-- A command that lets the pacer of its bay move on, and then issues a trigger there. -/
theorem trigger_issues {i : Instr} {s : State} {b : Fin 4} {y : Pacer}
    (hexec : exec i s = .next { s with dev := (s.dev.setPc b y).issueTrigger b x }) (hy : (s.dev.pc b).Onward y)
    (hqueue : y.delayed = (s.dev.pc b).delayed) :
    (s.dev.fld .PT_TRIGDLY_MODE b = 0 → (s.dev.pc b).delayed = [] →
      ∃ t, exec i s = .next t ∧ t.nv = s.nv ∧ t.pending = s.pending ∧ Dev.IssuedFrom b x y s.dev t.dev) ∧
    ((s.dev.fld .PT_TRIGDLY_MODE b = 1 ∨ s.dev.fld .PT_TRIGDLY_MODE b = 2) → 0 < s.dev.fld .PT_TRIGDLY_CYC b →
      ∃ t, exec i s = .next t ∧ t.nv = s.nv ∧ t.pending = s.pending ∧ Dev.DelayedFrom b x y s.dev t.dev) := by
  refine ⟨fun hmode hnone => ⟨_, hexec, rfl, rfl, ?_⟩, fun hmode hcyc => ⟨_, hexec, rfl, rfl, Dev.issueTrigger_delayed b.isLt hmode hcyc⟩⟩
  have hnow := Dev.issueTrigger_of_now (d := s.dev.setPc b y) (t := x) hmode (by rw [Dev.pc_setPc, hqueue]; exact hnone)
  exact hnow ▸ Dev.issueNow_after b.isLt hy

/-! ## The rate count -/

/-- The triggers of the last 10 ms (R163). -/
def Dev.recentCount (d : Dev) (b : Nat) : Nat := ((d.pc b).recent.filter fun t => decide (d.tb < t + ms 10)).length

/-- The rate count before the rate test. -/
def Dev.rated (d : Dev) (b : Nat) : Dev :=
  let e := (d.setPc b { d.pc b with rateNext := d.tb + us 100 }).setFld .PC_RATE_CNT b 0 (min 0xFFFF (d.recentCount b))
  if e.fld .RI_BAYRATE_MAXHZ b < 100 * d.recentCount b then e.setOn .RI_BAYRATE_OVER b 0 true else e

theorem Dev.rateUpdate_eq (d : Dev) (b : Nat) : d.rateUpdate b = (d.rated b).thrEval b true := rfl

/-- The registers of the rate count. -/
def rateOffs (b : Nat) : List Nat := [RegName.off .PC_RATE b 0, RegName.off .RI_BAYRATE b 0]

theorem rateOffs_above (hb : b < 4) : ∀ o ∈ rateOffs b, 0x90000 ≤ o := by
  simp only [rateOffs, RegName.off, RegName.info, List.mem_cons, List.not_mem_nil, or_false]
  omega

theorem Dev.rated_word (d : Dev) {o : Nat} (ho : o ∉ rateOffs b) : (d.rated b).word o = d.word o := by
  obtain ⟨hrate, hbay⟩ : o ≠ RegName.off .PC_RATE b 0 ∧ o ≠ RegName.off .RI_BAYRATE b 0 := by simpa [rateOffs] using ho
  have hcnt : ((d.setPc b { d.pc b with rateNext := d.tb + us 100 }).setFld .PC_RATE_CNT b 0 (min 0xFFFF (d.recentCount b))).word o = d.word o :=
    Dev.word_setFld_other _ .PC_RATE_CNT b 0 _ hrate
  unfold Dev.rated; dsimp only
  split
  · exact (Dev.word_setFld_other _ .RI_BAYRATE_OVER b 0 _ hbay).trans hcnt
  · exact hcnt

theorem Dev.rated_counts (d : Dev) (hb : b < 4) : (d.rated b).fld .PC_RATE_CNT b = min 0xFFFF (d.recentCount b) ∧
    (d.rated b).on .RI_BAYRATE_OVER b = (d.on .RI_BAYRATE_OVER b || decide (d.fld .RI_BAYRATE_MAXHZ b < 100 * d.recentCount b)) ∧
    (d.rated b).bays = (d.setPc b { d.pc b with rateNext := d.tb + us 100 }).bays := by
  have hne : RegName.off .PC_RATE b 0 ≠ RegName.off .RI_BAYRATE b 0 := by simp only [RegName.off, RegName.info]; omega
  have hcnt : ((d.setPc b { d.pc b with rateNext := d.tb + us 100 }).setFld .PC_RATE_CNT b 0 (min 0xFFFF (d.recentCount b))).fld .PC_RATE_CNT b =
      min 0xFFFF (d.recentCount b) := (Dev.fld_setFld _ .PC_RATE_CNT b 0 _ (by decide)).trans (Nat.mod_eq_of_lt (show _ < 2 ^ 16 by omega))
  have hmax : ((d.setPc b { d.pc b with rateNext := d.tb + us 100 }).setFld .PC_RATE_CNT b 0 (min 0xFFFF (d.recentCount b))).fld .RI_BAYRATE_MAXHZ b =
      d.fld .RI_BAYRATE_MAXHZ b := Dev.fld_setFld_reg _ .PC_RATE_CNT .RI_BAYRATE_MAXHZ b 0 b 0 _ hne.symm
  have hover : ((d.setPc b { d.pc b with rateNext := d.tb + us 100 }).setFld .PC_RATE_CNT b 0 (min 0xFFFF (d.recentCount b))).on .RI_BAYRATE_OVER b =
      d.on .RI_BAYRATE_OVER b := Dev.on_of_word (Dev.word_setFld_other _ .PC_RATE_CNT b 0 _ hne.symm)
  unfold Dev.rated; dsimp only
  rw [hmax]
  split
  next hlt => exact ⟨(Dev.fld_setFld_reg _ .RI_BAYRATE_OVER .PC_RATE_CNT b 0 b 0 _ hne).trans hcnt,
    (Dev.on_setOn _ .RI_BAYRATE_OVER b 0 true (by decide) (by decide)).trans (by simp [hlt]), rfl⟩
  next hge => exact ⟨hcnt, hover.trans (by simp [hge]), rfl⟩

/-! ## The rate test -/

/-- The throttle of a bay moved: its status and counters, beside what reporting changes, and no bay. -/
structure Dev.Throttled (b : Nat) (d e : Dev) : Prop where
  regs : d.regsBut [RegName.off .TM_BSTAT b 0, RegName.off .TM_TCNT b 0] e
  bays : e.bays = d.bays

theorem Dev.Throttled.trans (h : Dev.Throttled b d e) (k : Dev.Throttled b e f) : Dev.Throttled b d f := ⟨h.regs.trans k.regs, k.bays.trans h.bays⟩

theorem Dev.throttled_of_eq (hregs : e.regs = d.regs) (hbays : e.bays = d.bays) : Dev.Throttled b d e := ⟨Dev.regsBut_of_regs hregs, hbays⟩

theorem Dev.throttled_setThrq (d : Dev) (b : Nat) (low : Bool) : Dev.Throttled b d (d.setThrq b low) := by
  unfold Dev.setThrq
  split
  · exact Dev.throttled_of_eq rfl rfl
  · refine Dev.Throttled.trans (e := d.setOn .TM_BSTAT_THRQ b 0 low) ⟨Dev.regsBut_setOn _ _ _ _ _ List.mem_cons_self, rfl⟩ ?_
    unfold Dev.pinOut
    split <;> exact Dev.throttled_of_eq rfl rfl

theorem Dev.throttled_thrEvent (d : Dev) (b what unit : Nat) : Dev.Throttled b d (d.thrEvent b what unit) :=
  ⟨(d.reported_bayEvent _ _ _ _ _ _).regsBut, (d.reported_bayEvent _ _ _ _ _ _).bays⟩

theorem Dev.throttled_thrIdle (d : Dev) (b : Nat) : Dev.Throttled b d (d.thrIdle b) := by
  have hidle : Dev.Throttled b d ((d.setThro b {}).setFld .TM_BSTAT_STATE b 0 0) := ⟨(d.setThro b {}).regsBut_setFld _ _ _ _ List.mem_cons_self, rfl⟩
  exact hidle.trans ((Dev.throttled_setThrq _ b false).trans (Dev.throttled_thrEvent _ _ _ _))

theorem Dev.throttled_asked (d : Dev) (b : Nat) (x : Throttle) :
    Dev.Throttled b d ((((d.setThro b x).setFld .TM_BSTAT_STATE b 0 1).bump .TM_TCNT_REQ b 0)) :=
  ⟨((d.setThro b x).regsBut_setFld .TM_BSTAT_STATE b 0 1 List.mem_cons_self).trans (Dev.regsBut_bump _ .TM_TCNT_REQ b 0 1 (List.mem_cons_of_mem _ List.mem_cons_self)), rfl⟩

theorem Dev.throttled_thrEval (d : Dev) (b : Nat) (test : Bool) : Dev.Throttled b d (d.thrEval b test) := by
  have hsame : Dev.Throttled b d d := Dev.throttled_of_eq rfl rfl
  have henforce : Dev.Throttled b d (d.thrEnforce b) := Dev.throttled_of_eq rfl rfl
  have hrelease : Dev.Throttled b d (d.thrRelease b) := Dev.throttled_of_eq rfl rfl
  unfold Dev.thrEval; dsimp only
  split
  · exact hsame
  · split
    · split
      · exact hsame
      · exact (d.throttled_asked b _).trans ((Dev.throttled_setThrq _ b true).trans (Dev.throttled_thrEvent _ _ _ _))
    · split
      · exact hsame
      · split
        · exact d.throttled_thrIdle b
        · exact iteInduction (motive := Dev.Throttled b d) (fun _ => henforce) fun _ => hsame
    · split
      · exact hsame
      · split
        · split
          · exact hrelease
          · exact hsame
        · split
          · exact henforce
          · exact hsame

/-- A bay in whose scope no channel throttles stays IDLE. -/
theorem Dev.thrEval_idle (hstate : d.fld .TM_BSTAT_STATE b = 0) (hports : d.thrPorts b = []) (test : Bool) : d.thrEval b test = d := by
  unfold Dev.thrEval; dsimp only
  split
  · rfl
  · simp only [hstate]

/-- A bay whose grace ran out is throttled while it prints too fast. -/
theorem Dev.thrEval_enforce {x : Nat} (hrun : d.bayModes = true) (hpresent : d.present b = true) (hstate : d.fld .TM_BSTAT_STATE b = 1) (hports : d.thrPorts b ≠ [])
    (hfree : (d.thro b).busy = none) (hgrace : (d.thro b).graceEnd = some x) (hdue : x ≤ d.now) (hstandby : (d.bay b).mode ≠ .standby)
    (hhold : (d.bay b).mode ≠ .hold) (hfast : d.fld .TM_TACT_RATE b < d.fld .PC_RATE_CNT b * 100) : d.thrEval b true = d.thrEnforce b := by
  have hrunning : d.running = true := (Bool.and_eq_true_iff.mp hrun).1
  unfold Dev.thrEval; dsimp only
  rw [if_neg (by simp [hpresent, hrunning])]
  simp only [hstate, hfree, hgrace]
  cases hmode : (d.bay b).mode <;> simp_all

theorem Dev.rated_frame (d : Dev) (b : Nat) : (d.rated b).boot = d.boot ∧ (d.rated b).thr = d.thr ∧ (d.rated b).now = d.now := by
  unfold Dev.rated; dsimp only
  split <;> exact ⟨rfl, rfl, rfl⟩

/-- The rate test reads nothing that the rate count writes. -/
theorem Dev.rated_reads (d : Dev) (hb : b < 4) : (d.rated b).thrPorts b = d.thrPorts b ∧ (d.rated b).present b = d.present b ∧
    (d.rated b).fld .TM_BSTAT_STATE b = d.fld .TM_BSTAT_STATE b ∧ (d.rated b).fld .TM_TACT_RATE b = d.fld .TM_TACT_RATE b := by
  have hlow {o : Nat} (ho : o < 0x90000) : (d.rated b).word o = d.word o := d.rated_word fun hin => absurd (rateOffs_above hb o hin) (by omega)
  have hassign : d.SameAssign (d.rated b) := fun o ho => hlow (by omega)
  have hports : (d.rated b).portsOf b = d.portsOf b := List.filter_congr fun xx _ => by rw [hassign.portBay xx]
  have hscope (c : Nat) (hc : c < 74) (xx : Nat) : (d.rated b).inScope c xx = d.inScope c xx := by
    unfold Dev.inScope Dev.fbit
    rw [Dev.fld_of_word (x := .TM_SCOPE_HP) (hlow (by simp only [RegName.off, RegName.info]; omega))]
  have hthrot (c : Nat) (hc : c < 74) : (d.rated b).on .TM_STAT_THROT c = d.on .TM_STAT_THROT c :=
    Dev.on_of_word (hlow (by simp only [RegName.off, RegName.info]; omega))
  refine ⟨?_, hassign.present b, ?_, ?_⟩
  · unfold Dev.thrPorts
    rw [hports]
    refine List.filter_congr fun xx _ => ?_
    rw [Bool.eq_iff_iff, List.any_eq_true, List.any_eq_true]
    refine exists_congr fun c => and_congr_right fun hc => ?_
    rw [hscope c (List.mem_range.mp hc), hthrot c (List.mem_range.mp hc)]
  · exact Dev.fld_of_word (x := .TM_BSTAT_STATE) (hlow (by simp only [RegName.off, RegName.info]; omega))
  · exact Dev.fld_of_word (x := .TM_TACT_RATE) (hlow (by simp only [RegName.off, RegName.info]; omega))

/-- The rate count stands after the rate test. -/
theorem Dev.rateUpdate_counts (d : Dev) (hb : b < 4) : (d.rateUpdate b).fld .PC_RATE_CNT b = min 0xFFFF (d.recentCount b) ∧
    (d.rateUpdate b).on .RI_BAYRATE_OVER b = (d.on .RI_BAYRATE_OVER b || decide (d.fld .RI_BAYRATE_MAXHZ b < 100 * d.recentCount b)) ∧
    ((d.rateUpdate b).pc b).rateNext = d.tb + us 100 := by
  obtain ⟨hcnt, hover, hbays⟩ := d.rated_counts hb
  obtain ⟨hregs, hkeep⟩ := (d.rated b).throttled_thrEval b true
  have hword {o : Nat} (ho : o ∈ rateOffs b) : (d.rateUpdate b).word o = (d.rated b).word o := by
    have habove := rateOffs_above hb o ho
    refine hregs o ?_ fun hreport => ?_
    · simp only [RegName.off, RegName.info, List.mem_cons, List.not_mem_nil, or_false]; omega
    · simp only [rateOffs, reports, RegName.off, RegName.info, List.mem_cons, List.not_mem_nil, or_false] at ho hreport; omega
  refine ⟨(Dev.fld_of_word (x := .PC_RATE_CNT) (hword List.mem_cons_self)).trans hcnt,
    (Dev.on_of_word (x := .RI_BAYRATE_OVER) (hword (List.mem_cons_of_mem _ List.mem_cons_self))).trans hover, ?_⟩
  have hbay : (d.rateUpdate b).bay b = (d.setPc b { d.pc b with rateNext := d.tb + us 100 }).bay b := by
    unfold Dev.bay; rw [Dev.rateUpdate_eq, hkeep, hbays]
  exact (congrArg (fun y : Bay => y.pc.rateNext) hbay).trans (congrArg Pacer.rateNext (d.pc_setPc b _))

/-- The rate test of a bay whose grace ran out, while it prints too fast. -/
theorem Dev.rateUpdate_enforce (hb : b < 4) (hmodes : d.bayModes = true) (hpresent : d.present b = true) (hstate : d.fld .TM_BSTAT_STATE b = 1)
    (hports : d.thrPorts b ≠ []) (hfree : (d.thro b).busy = none) (hgrace : (d.thro b).graceEnd = some x) (hdue : x ≤ d.now)
    (hstandby : (d.bay b).mode ≠ .standby) (hhold : (d.bay b).mode ≠ .hold)
    (hfast : d.fld .TM_TACT_RATE b < min 0xFFFF (d.recentCount b) * 100) : d.rateUpdate b = (d.rated b).thrEnforce b := by
  obtain ⟨hports', hpresent', hstate', hlimit⟩ := d.rated_reads hb
  obtain ⟨hcnt, -, hbays⟩ := d.rated_counts hb
  obtain ⟨hboot, hthr, hnow⟩ := d.rated_frame b
  have hmode : ((d.rated b).bay b).mode = (d.bay b).mode := by
    have hbay : (d.rated b).bay b = (d.setPc b { d.pc b with rateNext := d.tb + us 100 }).bay b := by unfold Dev.bay; rw [hbays]
    rw [hbay]
    exact (congrArg Bay.mode (d.bay_setBay b _) :)
  rw [Dev.rateUpdate_eq]
  refine Dev.thrEval_enforce (x := x) ?_ (hpresent'.trans hpresent) (hstate'.trans hstate) (by rw [hports']; exact hports) ?_ ?_ ?_
    (hmode ▸ hstandby) (hmode ▸ hhold) ?_
  · unfold Dev.bayModes Dev.running; rw [hboot]; exact hmodes
  · unfold Dev.thro; rw [hthr]; exact hfree
  · unfold Dev.thro; rw [hthr]; exact hgrace
  · rw [hnow]; exact hdue
  · rw [hlimit, hcnt]; exact hfast

/-- Settles O38: each due trigger lets its pacer move on and then issues or is delayed; the rate test comes after the rate count. -/
theorem triggersIssued : Obligations.TriggersIssued := by
  unfold Obligations.TriggersIssued
  refine ⟨?_, ?_, ?_, ?_⟩
  · intro b x s hmodes hdue hx
    have hrun : s.dev.genIssue b = (s.dev.setPc b { s.dev.pc b with genNext := x + s.dev.fld .PC_GEN_PERIOD b }).issueTrigger b x := by rw [hx]; rfl
    obtain ⟨hnow, hdelay⟩ := trigger_issues ((exec_generatorTrigger b s).trans (State.onDev_of (by rw [hmodes, hdue]; rfl) hrun)) ⟨rfl, rfl⟩ rfl
    refine ⟨fun hmode hnone => ?_, fun hmode hcyc => ?_⟩
    · obtain ⟨t, hexec, hnv, hpending, hissued⟩ := hnow hmode hnone
      refine ⟨t, hexec, hnv, hpending, hissued.read Pacer.trigs, hissued.read Pacer.stop, hissued.read Pacer.genNext,
        hissued.read Pacer.lastTrig, hissued.period, fun c hc => hissued.others c (Fin.val_ne_of_ne hc), hissued.regs⟩
    · obtain ⟨t, hexec, hnv, hpending, hdelayed⟩ := hdelay hmode hcyc
      refine ⟨t, hexec, hnv, hpending, hdelayed.read Pacer.trigs, hdelayed.read Pacer.genNext,
        hdelayed.read Pacer.stop, hdelayed.read Pacer.delayed, hdelayed.mode⟩
  · intro b x s hmodes hdue hcross
    obtain ⟨hnow, hdelay⟩ := trigger_issues ((exec_interpolatedTrigger b s).trans
      (State.onDev_of (by rw [hmodes, hdue]; rfl) (Dev.interpIssue_of_cross hcross))) ⟨rfl, rfl⟩ rfl
    refine ⟨fun hmode hnone => ?_, fun hmode hcyc => ?_⟩
    · obtain ⟨t, hexec, hnv, hpending, hissued⟩ := hnow hmode hnone
      refine ⟨t, hexec, hnv, hpending, hissued.read Pacer.trigs, hissued.read Pacer.stop, hissued.read Pacer.m, hissued.read Pacer.p,
        hissued.read Pacer.lastTrig, hissued.period, fun c hc => hissued.others c (Fin.val_ne_of_ne hc), hissued.regs⟩
    · obtain ⟨t, hexec, hnv, hpending, hdelayed⟩ := hdelay hmode hcyc
      refine ⟨t, hexec, hnv, hpending, hdelayed.read Pacer.trigs, hdelayed.read Pacer.m, hdelayed.read Pacer.p,
        hdelayed.read Pacer.stop, hdelayed.read Pacer.delayed, hdelayed.mode⟩
  · intro b x rest s hmodes hdelayed hdue
    have hok : (s.dev.bayModes && s.dev.delayedDue b) = true := by simp [Dev.delayedDue, hmodes, hdelayed, hdue]
    have hissued := Dev.issueNow_after (d := s.dev) (y := { s.dev.pc b with delayed := rest }) (x := x) b.isLt ⟨rfl, rfl⟩
    refine ⟨_, (exec_delayedTriggerIssue b s).trans (State.onDev_of hok (Dev.issueDelayed_of_next hdelayed)), rfl, rfl,
      hissued.read Pacer.delayed, hissued.read Pacer.trigs, hissued.read Pacer.stop, hissued.read Pacer.lastTrig,
      hissued.period, fun c hc => hissued.others c (Fin.val_ne_of_ne hc), hissued.regs⟩
  · intro b s hrun hpresent hdue
    obtain ⟨hcnt, hover, hnext⟩ := s.dev.rateUpdate_counts b.isLt
    obtain ⟨hports, -, hstate, -⟩ := s.dev.rated_reads b.isLt
    refine ⟨_, (exec_pacerRateUpdate b s).trans (State.onDev_of (by simp [hrun, hpresent, hdue]) rfl), rfl, rfl, hcnt, hover, hnext, ?_, ?_⟩
    · intro hidle hnone
      have hstays : s.dev.rateUpdate b = s.dev.rated b := Dev.thrEval_idle (hstate.trans hidle) (hports.trans hnone) true
      rw [hstays]
      exact fun o ho _ => s.dev.rated_word ho
    · intro x hasked hsome hfree hgrace hlapsed hmodes hstandby hhold hfast
      exact ⟨_, Dev.rateUpdate_enforce b.isLt hmodes hpresent hasked hsome hfree hgrace hlapsed hstandby hhold (hcnt ▸ hfast)⟩

end Sys2Proof.Machine
end

section
/-! PROOFS. What the pins of the position units and the camera triggers that follow them leave, and the counts and pulses of an emulation output
(R167, R168, R169, R237). -/

namespace Sys2Proof.Machine

variable {d e f : Dev} {n : Nat}

/-- A quantity that no step of a loop changes. -/
theorem forN_keeps {α β : Type} {π : α → β} {g : Nat → α → α} (h : ∀ k a, π (g k a) = π a) (n : Nat) (a : α) : π (forN n g a) = π a := by
  induction n with
  | zero => rfl
  | succ n ih => rw [forN_succ, h, ih]

/-! ## Pins and cameras -/

/-- The device without the messages of its pins and without its cameras. -/
def Dev.unpinned (d : Dev) : Dev := { d with out := [], cams := [] }

theorem Dev.of_unpinned {α : Type} (π : Dev → α) (hπ : ∀ d : Dev, π d.unpinned = π d) (h : e.unpinned = d.unpinned) : π e = π d :=
  (hπ e).symm.trans ((congrArg π h).trans (hπ d))

section
variable (h : e.unpinned = d.unpinned)
include h

theorem Dev.regs_of_unpinned : e.regs = d.regs := Dev.of_unpinned Dev.regs (fun _ => rfl) h
theorem Dev.em_of_unpinned (n : Nat) : e.em n = d.em n := Dev.of_unpinned (fun d => d.em n) (fun _ => rfl) h
theorem Dev.cp_of_unpinned (n : Nat) : e.cp n = d.cp n := Dev.of_unpinned (fun d => d.cp n) (fun _ => rfl) h
theorem Dev.cmpT_of_unpinned : e.cmpT = d.cmpT := Dev.of_unpinned Dev.cmpT (fun _ => rfl) h
theorem Dev.tb_of_unpinned : e.tb = d.tb := Dev.of_unpinned Dev.tb (fun _ => rfl) h
theorem Dev.tbl_of_unpinned : e.tbl = d.tbl := Dev.of_unpinned Dev.tbl (fun _ => rfl) h

end

theorem Dev.unpinned_pinOut (d : Dev) (p : Nat) (level : Option Bool) : (d.pinOut p level).unpinned = d.unpinned := by
  unfold Dev.pinOut
  split <;> rfl

theorem Dev.unpinned_cmpPins (d before : Dev) (mask : Nat) : (d.cmpPins before mask).unpinned = d.unpinned :=
  forN_keeps (π := Dev.unpinned) (fun _ d => iteInduction (motive := fun e : Dev => e.unpinned = d.unpinned)
    (fun _ => d.unpinned_pinOut _ _) fun _ => rfl) 16 d

theorem Dev.unpinned_camPulse (d : Dev) (n t till : Nat) : (d.camPulse n t till).unpinned = d.unpinned := by
  have hready : ∀ e : Dev, e.unpinned = d.unpinned → Dev.unpinned (if !e.camLive n || (e.cam n).pulseEnd.isSome then e
      else (e.setCam n { e.cam n with
        pulseEnd := some till, pulseTag := some (match e.camBay n with | some b => (e.bay b).cc | none => 0), pulsed := true,
        watch := if (e.cam n).watch.isSome then (e.cam n).watch else some t }).trigPin n true t) = d.unpinned := by
    intro e he
    split
    · exact he
    · exact he
  unfold Dev.camPulse; dsimp only
  apply hready
  split
  · split <;> rfl
  · rfl

theorem Dev.unpinned_camFollowCmp (d before : Dev) : (d.camFollowCmp before).unpinned = d.unpinned := by
  refine forN_keeps (π := Dev.unpinned) (fun n d => ?_) 4 d
  dsimp only
  split
  · rfl
  · split
    · exact d.unpinned_camPulse _ _ _
    · split <;> rfl

theorem Dev.unpinned_emPin (d : Dev) (n which : Nat) (level : Bool) : (d.emPin n which level).unpinned = d.unpinned := d.unpinned_pinOut _ _

/-- An output that changes, and one of its pins. -/
theorem Dev.emPinned (d : Dev) (n : Nat) (x : Emul) (which : Nat) (level : Bool) : ((d.setEm n x).emPin n which level).regs = d.regs ∧
    ((d.setEm n x).emPin n which level).tb = d.tb ∧ ((d.setEm n x).emPin n which level).em n = x := by
  have hpin := (d.setEm n x).unpinned_emPin n which level
  exact ⟨(Dev.regs_of_unpinned hpin :), (Dev.tb_of_unpinned hpin :), (Dev.em_of_unpinned hpin n).trans (d.em_setEm n x)⟩

/-! ## The pulses of an emulation output -/

theorem exec_emulationPulseEnd (n : Fin 4) (s : State) : exec (.emulationPulseEnd n) s =
    s.onDev (fun d => d.running && d.emPulseDue n) fun d => d.emPulseStop n := rfl
theorem exec_emulationEdge (n : Fin 4) (s : State) : exec (.emulationEdge n) s = s.onDev (fun d => d.emDue n) fun d => d.emEmit n := rfl

/-- The output with its step pulse, and with its Z pulse, ended when that has run out (R169). -/
def Emul.stepFallen (x : Emul) (tb : Nat) : Emul :=
  match x.pulseEnd with
  | some t => if t ≤ tb then { x with lvA := false, pulseEnd := none, edgeAt := tb } else x
  | none => x
def Emul.zFallen (x : Emul) (tb : Nat) : Emul :=
  match x.zEnd with
  | some t => if t ≤ tb then { x with lvZ := false, zEnd := none } else x
  | none => x

/-- The device with its step pulse ended. -/
def Dev.stepStop (d : Dev) (n : Nat) : Dev :=
  match (d.em n).pulseEnd with
  | some t => if t ≤ d.tb then (d.setEm n { d.em n with lvA := false, pulseEnd := none, edgeAt := d.tb }).emPin n 0 false else d
  | none => d
def Dev.zStop (d : Dev) (n : Nat) : Dev :=
  match (d.em n).zEnd with
  | some t => if t ≤ d.tb then (d.setEm n { d.em n with lvZ := false, zEnd := none }).emPin n 2 false else d
  | none => d

theorem Dev.emPulseStop_eq (d : Dev) (n : Nat) : d.emPulseStop n = (d.stepStop n).zStop n := rfl

theorem Dev.stepStop_spec (d : Dev) (n : Nat) : (d.stepStop n).regs = d.regs ∧ (d.stepStop n).tb = d.tb ∧ (d.stepStop n).em n = (d.em n).stepFallen d.tb := by
  unfold Dev.stepStop Emul.stepFallen
  split
  · split
    · exact d.emPinned n _ 0 false
    · exact ⟨rfl, rfl, rfl⟩
  · exact ⟨rfl, rfl, rfl⟩

theorem Dev.zStop_spec (d : Dev) (n : Nat) : (d.zStop n).regs = d.regs ∧ (d.zStop n).em n = (d.em n).zFallen d.tb := by
  unfold Dev.zStop Emul.zFallen
  split
  · split
    · obtain ⟨hregs, -, hem⟩ := d.emPinned n { d.em n with lvZ := false, zEnd := none } 2 false
      exact ⟨hregs, hem⟩
    · exact ⟨rfl, rfl⟩
  · exact ⟨rfl, rfl⟩

theorem Dev.emPulseStop_spec (d : Dev) (n : Nat) : (d.emPulseStop n).regs = d.regs ∧ (d.emPulseStop n).em n = ((d.em n).stepFallen d.tb).zFallen d.tb := by
  obtain ⟨hregs, htb, hem⟩ := d.stepStop_spec n
  obtain ⟨hregs', hem'⟩ := (d.stepStop n).zStop_spec n
  rw [Dev.emPulseStop_eq]
  exact ⟨hregs'.trans hregs, by rw [hem', hem, htb]⟩

/-- A Z pulse leaves the step and its backlog, a step pulse the Z pulse. -/
theorem Emul.zFallen_step (x : Emul) (tb : Nat) : (x.zFallen tb).pulseEnd = x.pulseEnd ∧ (x.zFallen tb).lvA = x.lvA ∧ (x.zFallen tb).lvB = x.lvB ∧
    (x.zFallen tb).edgeAt = x.edgeAt ∧ (x.zFallen tb).k = x.k := by
  unfold Emul.zFallen
  split
  · split <;> exact ⟨rfl, rfl, rfl, rfl, rfl⟩
  · exact ⟨rfl, rfl, rfl, rfl, rfl⟩

theorem Emul.stepFallen_z (x : Emul) (tb : Nat) : (x.stepFallen tb).zEnd = x.zEnd ∧ (x.stepFallen tb).lvB = x.lvB ∧ (x.stepFallen tb).k = x.k := by
  unfold Emul.stepFallen
  split
  · split <;> exact ⟨rfl, rfl, rfl⟩
  · exact ⟨rfl, rfl, rfl⟩

theorem Emul.stepFallen_of {x : Emul} {t tb : Nat} (h : x.pulseEnd = some t) (hdue : t ≤ tb) :
    x.stepFallen tb = { x with lvA := false, pulseEnd := none, edgeAt := tb } := by simp only [Emul.stepFallen, h, if_pos hdue]

theorem Emul.zFallen_of {x : Emul} {t tb : Nat} (h : x.zEnd = some t) (hdue : t ≤ tb) : x.zFallen tb = { x with lvZ := false, zEnd := none } := by
  simp only [Emul.zFallen, h, if_pos hdue]

/-- A step pulse, and a Z pulse, that has run out. -/
theorem emulationPulseEnd_step {n : Fin 4} {s : State} {t : Nat} (hok : (s.dev.running && s.dev.emPulseDue n) = true)
    (h : (s.dev.em n).pulseEnd = some t) (hdue : t ≤ s.dev.tb) :
    ∃ t, exec (.emulationPulseEnd n) s = .next t ∧ t.nv = s.nv ∧ t.dev.regs = s.dev.regs ∧ (t.dev.em n).pulseEnd = none ∧
      (t.dev.em n).lvA = false ∧ (t.dev.em n).edgeAt = s.dev.tb ∧ (t.dev.em n).k = (s.dev.em n).k := by
  obtain ⟨hregs, hem⟩ := s.dev.emPulseStop_spec n
  obtain ⟨hpulse, hlvA, -, hedge, hk⟩ := Emul.zFallen_step ((s.dev.em n).stepFallen s.dev.tb) s.dev.tb
  rw [← hem, Emul.stepFallen_of h hdue] at hpulse hlvA hedge hk
  exact ⟨_, (exec_emulationPulseEnd n s).trans (State.onDev_of hok rfl), rfl, hregs, hpulse, hlvA, hedge, hk⟩

theorem emulationPulseEnd_z {n : Fin 4} {s : State} {t : Nat} (hok : (s.dev.running && s.dev.emPulseDue n) = true)
    (h : (s.dev.em n).zEnd = some t) (hdue : t ≤ s.dev.tb) :
    ∃ t, exec (.emulationPulseEnd n) s = .next t ∧ t.nv = s.nv ∧ t.dev.regs = s.dev.regs ∧ (t.dev.em n).zEnd = none ∧
      (t.dev.em n).lvZ = false ∧ (t.dev.em n).lvB = (s.dev.em n).lvB ∧ (t.dev.em n).k = (s.dev.em n).k := by
  obtain ⟨hregs, hem⟩ := s.dev.emPulseStop_spec n
  obtain ⟨hz, hlvB, hk⟩ := (s.dev.em n).stepFallen_z s.dev.tb
  rw [Emul.zFallen_of (hz.trans h) hdue] at hem
  refine ⟨_, (exec_emulationPulseEnd n s).trans (State.onDev_of hok rfl), rfl, hregs, ?_, ?_, ?_, ?_⟩
  · rw [hem]
  · rw [hem]
  · rw [hem]; exact hlvB
  · rw [hem]; exact hk

/-- A pulse holds while EN is 0 or the source is fenced. -/
theorem emulationPulseEnd_holds {n : Fin 4} {s : State} (h : s.dev.on .EM_CFG_EN n = false ∨ s.dev.emFenced n = true) :
    exec (.emulationPulseEnd n) s = .next s := by
  have hdue : s.dev.emPulseDue n = false := by
    unfold Dev.emPulseDue
    obtain hoff | hfenced := h
    · rw [hoff]; rfl
    · rw [hfenced, Bool.not_true, Bool.and_false]; rfl
  rw [exec_emulationPulseEnd, State.onDev, hdue, Bool.and_false]
  rfl

/-! ## The counts of an emulation output -/

/-- One count taken from the backlog. -/
def Dev.emTake (d : Dev) (n : Nat) (s : Int) : Dev :=
  (d.setFld .EM_POS_POS n 0 (enc 32 (d.sfld .EM_POS_POS n + s))).setEm n { d.em n with k := (d.em n).k - s, edgeAt := d.tb }

/-- The levels of A and B after a quadrature count (R168). -/
def quadNext (a b up : Bool) : Bool × Bool :=
  let np := (quadPlace ((if a then 1 else 0) + (if b then 2 else 0)) + (if up then 1 else 3)) % 4
  (np == 1 || np == 2, np == 2 || np == 3)

theorem quadNext_spec : ∀ (k : Fin 4) (a b up : Bool),
    (a, b) = [(false, false), (true, false), (true, true), (false, true)].getD k (false, false) →
    quadNext a b up = (if up then [(true, false), (true, true), (false, true), (false, false)].getD k (false, false)
      else [(false, true), (false, false), (true, false), (true, true)].getD k (false, false)) := by decide

/-- The direction of the backlog, as a count. -/
def Emul.sense (x : Emul) : Int := if 0 < x.k then 1 else -1

theorem Emul.sense_up (x : Emul) : decide (x.sense = 1) = decide (0 < x.k) := by
  unfold Emul.sense
  split
  · rename_i h; simp [h]
  · rename_i h; simp [h]

/-- The output after a count: in step/direction form A rises for a time, in quadrature form the levels move by one place. -/
def Emul.counted (x : Emul) (tb : Nat) : Emul := { x with k := x.k - x.sense, edgeAt := tb }
def Emul.stepped (x : Emul) (tb ivl : Nat) : Emul := { x.counted tb with lvA := true, pulseEnd := some (tb + ivl) }
def Emul.turned (x : Emul) (tb : Nat) (q : Bool × Bool) : Emul := { x.counted tb with lvA := q.1, lvB := q.2 }

/-- An output with its Z pulse aside. -/
def Emul.noZ (x : Emul) : Emul := { x with lvZ := false, zNext := false, zEnd := none }

/-- Z after a count moves the Z pulse alone. -/
theorem Dev.emZ_spec (d : Dev) (n : Nat) : (d.emZ n).regs = d.regs ∧ ((d.emZ n).em n).noZ = (d.em n).noZ := by
  have hsplit : ∃ hit : Bool, d.emZ n =
      if hit then (d.setEm n { d.em n with lvZ := true, zNext := false, zEnd := some (d.tb + d.fld .EM_CFG_MINIVL n) }).emPin n 2 true else d := ⟨_, rfl⟩
  obtain ⟨hit, hz⟩ := hsplit
  rw [hz]
  split
  · obtain ⟨hregs, -, hem⟩ := d.emPinned n { d.em n with lvZ := true, zNext := false, zEnd := some (d.tb + d.fld .EM_CFG_MINIVL n) } 2 true
    exact ⟨hregs, (congrArg Emul.noZ hem :)⟩
  · exact ⟨rfl, rfl⟩

/-- The device after a quadrature count to levels `q`, and after a step. -/
def Dev.quadTo (d : Dev) (n : Nat) (q : Bool × Bool) : Dev :=
  let e := (d.emTake n (d.em n).sense).setEm n { (d.emTake n (d.em n).sense).em n with lvA := q.1, lvB := q.2 }
  Dev.emZ (if q.1 != (d.em n).lvA then e.emPin n 0 q.1 else e.emPin n 1 q.2) n
def Dev.stepOf (d : Dev) (n : Nat) : Dev :=
  Dev.emZ (((d.emTake n (d.em n).sense).setEm n { (d.emTake n (d.em n).sense).em n with
    lvA := true, pulseEnd := some ((d.emTake n (d.em n).sense).tb + (d.emTake n (d.em n).sense).fld .EM_CFG_MINIVL n) }).emPin n 0 true) n

theorem Dev.emEmit_eq (d : Dev) (n : Nat) : d.emEmit n = if d.on .EM_CFG_STEPDIR n then
      if (d.em n).lvB != decide ((d.em n).sense = 1) then
        (d.setEm n { d.em n with lvB := decide ((d.em n).sense = 1), edgeAt := d.tb }).emPin n 1 (decide ((d.em n).sense = 1))
      else d.stepOf n
    else d.quadTo n (quadNext (d.em n).lvA (d.em n).lvB (decide ((d.em n).sense = 1))) := rfl

/-- A direction that changes moves B alone (R169). -/
theorem Dev.emEmit_turn {up : Bool} (hform : d.on .EM_CFG_STEPDIR n = true) (hup : up = decide (0 < (d.em n).k)) (hturn : (d.em n).lvB ≠ up) :
    d.emEmit n = (d.setEm n { d.em n with lvB := up, edgeAt := d.tb }).emPin n 1 up := by
  rw [Dev.emEmit_eq, Emul.sense_up, ← hup, if_pos hform, if_pos (by simpa using hturn)]

theorem Dev.emEmit_step {up : Bool} (hform : d.on .EM_CFG_STEPDIR n = true) (hup : up = decide (0 < (d.em n).k)) (hset : (d.em n).lvB = up) :
    d.emEmit n = d.stepOf n := by
  rw [Dev.emEmit_eq, Emul.sense_up, ← hup, if_pos hform, if_neg (by simpa using hset)]

theorem Dev.emEmit_quad (hform : d.on .EM_CFG_STEPDIR n = false) :
    d.emEmit n = d.quadTo n (quadNext (d.em n).lvA (d.em n).lvB (decide (0 < (d.em n).k))) := by
  rw [Dev.emEmit_eq, Emul.sense_up, if_neg (by simp [hform])]

/-- Counts up and down wrap. -/
theorem enc_sgn_succ {a : Nat} (h : a < 2 ^ 32) : enc 32 (sgn 32 a + 1) = (a + 1) % 2 ^ 32 := by
  unfold enc sgn
  split <;> omega

theorem enc_sgn_pred {a : Nat} (h : a < 2 ^ 32) : enc 32 (sgn 32 a + -1) = (a + 2 ^ 32 - 1) % 2 ^ 32 := by
  unfold enc sgn
  split <;> omega

theorem Dev.emTake_spec (d : Dev) (n : Nat) (hn : n < 4) (s : Int) : Dev.Moves [RegName.off .EM_POS n 0] [.EM_POS_POS] d (d.emTake n s) ∧
    (d.emTake n s).em n = { d.em n with k := (d.em n).k - s, edgeAt := d.tb } ∧
    (d.emTake n s).fld .EM_POS_POS n = enc 32 (sgn 32 (d.fld .EM_POS_POS n) + s) := by
  refine ⟨(d.writes_setFld (y := .EM_POS_POS) List.mem_cons_self (by decide) hn List.mem_cons_self _).moves.trans (Dev.moves_setEm _ _ _), (by unfold Dev.emTake; exact Dev.em_setEm _ n _), ?_⟩
  exact (d.fld_setFld .EM_POS_POS n 0 _ (by decide)).trans (Nat.mod_eq_of_lt (enc_lt 32 _))

/-- The output after a count, with its Z pulse aside, whatever its form; `x` gives its levels and step pulse. -/
theorem Dev.emCounted (d : Dev) {n : Nat} (hn : n < 4) (x : Emul) (which : Nat) (level : Bool) :
    d.regsBut [RegName.off .EM_POS n 0] ((((d.emTake n (d.em n).sense).setEm n x).emPin n which level).emZ n) ∧
    ((((d.emTake n (d.em n).sense).setEm n x).emPin n which level).emZ n).fld .EM_POS_POS n = enc 32 (sgn 32 (d.fld .EM_POS_POS n) + (d.em n).sense) ∧
    (((((d.emTake n (d.em n).sense).setEm n x).emPin n which level).emZ n).em n).noZ = x.noZ := by
  obtain ⟨⟨hregs, -, -⟩, -, hpos⟩ := d.emTake_spec n hn (d.em n).sense
  obtain ⟨hpin, -, hem⟩ := (d.emTake n (d.em n).sense).emPinned n x which level
  obtain ⟨hz, hnoz⟩ := (((d.emTake n (d.em n).sense).setEm n x).emPin n which level).emZ_spec n
  exact ⟨hregs.trans (Dev.regsBut_of_regs (hz.trans hpin)), (Dev.fld_congr (hz.trans hpin) _ _ _).trans hpos, by rw [hnoz, hem]⟩

/-- A count in step/direction form, with the direction set: A rises for MINIVL. -/
theorem Dev.stepOf_spec (d : Dev) (hn : n < 4) : d.regsBut [RegName.off .EM_POS n 0] (d.stepOf n) ∧
    (d.stepOf n).fld .EM_POS_POS n = enc 32 (sgn 32 (d.fld .EM_POS_POS n) + (d.em n).sense) ∧
    ((d.stepOf n).em n).noZ = ((d.em n).stepped d.tb (d.fld .EM_CFG_MINIVL n)).noZ := by
  obtain ⟨⟨-, hsame, -⟩, hem, -⟩ := d.emTake_spec n hn (d.em n).sense
  unfold Dev.stepOf
  rw [hem, hsame.fld (x := .EM_CFG_MINIVL) (by decide) hn]
  exact d.emCounted hn _ 0 true

/-- A quadrature count: the levels move by one place. -/
theorem Dev.quadTo_spec (d : Dev) (hn : n < 4) (q : Bool × Bool) : d.regsBut [RegName.off .EM_POS n 0] (d.quadTo n q) ∧
    (d.quadTo n q).fld .EM_POS_POS n = enc 32 (sgn 32 (d.fld .EM_POS_POS n) + (d.em n).sense) ∧
    ((d.quadTo n q).em n).noZ = ((d.em n).turned d.tb q).noZ := by
  obtain ⟨-, hem, -⟩ := d.emTake_spec n hn (d.em n).sense
  unfold Dev.quadTo
  dsimp only
  rw [hem]
  split
  · exact d.emCounted hn _ 0 q.1
  · exact d.emCounted hn _ 1 q.2

theorem Emul.of_noZ {x y : Emul} (h : x.noZ = y.noZ) : x.k = y.k ∧ x.edgeAt = y.edgeAt ∧ x.lvA = y.lvA ∧ x.lvB = y.lvB ∧ x.pulseEnd = y.pulseEnd :=
  ⟨(congrArg Emul.k h :), (congrArg Emul.edgeAt h :), (congrArg Emul.lvA h :), (congrArg Emul.lvB h :), (congrArg Emul.pulseEnd h :)⟩

/-- What a count makes of the backlog, and of the position. -/
theorem Emul.sense_count {x : Emul} {up : Bool} (hup : up = decide (0 < x.k)) {a : Nat} (ha : a < 2 ^ 32) :
    x.k - x.sense = (if up then x.k - 1 else x.k + 1) ∧ enc 32 (sgn 32 a + x.sense) = (if up then a + 1 else a + 2 ^ 32 - 1) % 2 ^ 32 := by
  unfold Emul.sense
  subst hup
  by_cases hk : 0 < x.k
  · rw [if_pos hk, decide_eq_true hk, if_pos rfl, if_pos rfl]
    exact ⟨rfl, enc_sgn_succ ha⟩
  · rw [if_neg hk, decide_eq_false hk, if_neg Bool.false_ne_true, if_neg Bool.false_ne_true]
    exact ⟨Int.sub_neg x.k 1, enc_sgn_pred ha⟩

/-! ## What a due count does (R168, R169) -/

section
variable {up : Bool} (d : Dev) (hn : n < 4) (hup : up = decide (0 < (d.em n).k))
include hup

theorem Dev.emEmit_turns (hform : d.on .EM_CFG_STEPDIR n = true) (hturn : (d.em n).lvB ≠ up) : ((d.emEmit n).em n).lvB = up ∧
    ((d.emEmit n).em n).k = (d.em n).k ∧ ((d.emEmit n).em n).lvA = (d.em n).lvA ∧ (d.emEmit n).regs = d.regs := by
  obtain ⟨hregs, -, hem⟩ := d.emPinned n { d.em n with lvB := up, edgeAt := d.tb } 1 up
  rw [Dev.emEmit_turn hform hup hturn]
  exact ⟨(congrArg Emul.lvB hem :), (congrArg Emul.k hem :), (congrArg Emul.lvA hem :), hregs⟩

include hn

theorem Dev.emEmit_regs : d.regsBut [RegName.off .EM_POS n 0] (d.emEmit n) := by
  by_cases hform : d.on .EM_CFG_STEPDIR n = true
  · by_cases hset : (d.em n).lvB = up
    · rw [Dev.emEmit_step hform hup hset]
      exact (d.stepOf_spec hn).1
    · exact Dev.regsBut_of_regs (d.emEmit_turns hup hform hset).2.2.2
  · rw [Dev.emEmit_quad (by simpa using hform)]
    exact (d.quadTo_spec hn _).1

theorem Dev.emEmit_counts (hform : d.on .EM_CFG_STEPDIR n = false ∨ (d.em n).lvB = up) :
    ((d.emEmit n).em n).k = (if up then (d.em n).k - 1 else (d.em n).k + 1) ∧ ((d.emEmit n).em n).edgeAt = d.tb ∧
    (d.emEmit n).fld .EM_POS_POS n = (if up then d.fld .EM_POS_POS n + 1 else d.fld .EM_POS_POS n + 2 ^ 32 - 1) % 2 ^ 32 := by
  obtain ⟨hk, hcount⟩ := Emul.sense_count hup (d.fld_lt .EM_POS_POS n 0)
  rw [← hk, ← hcount]
  by_cases hstep : d.on .EM_CFG_STEPDIR n = true
  · have hset : (d.em n).lvB = up := hform.resolve_left (by simp [hstep])
    obtain ⟨-, hpos, hem⟩ := d.stepOf_spec hn
    obtain ⟨hk', hedge, -⟩ := Emul.of_noZ hem
    rw [Dev.emEmit_step hstep hup hset]
    exact ⟨hk', hedge, hpos⟩
  · obtain ⟨-, hpos, hem⟩ := d.quadTo_spec hn (quadNext (d.em n).lvA (d.em n).lvB (decide (0 < (d.em n).k)))
    obtain ⟨hk', hedge, -⟩ := Emul.of_noZ hem
    rw [Dev.emEmit_quad (by simpa using hstep)]
    exact ⟨hk', hedge, hpos⟩

theorem Dev.emEmit_steps (hform : d.on .EM_CFG_STEPDIR n = true) (hset : (d.em n).lvB = up) :
    ((d.emEmit n).em n).lvA = true ∧ ((d.emEmit n).em n).pulseEnd = some (d.tb + d.fld .EM_CFG_MINIVL n) := by
  obtain ⟨-, -, hem⟩ := d.stepOf_spec hn
  obtain ⟨-, -, hlvA, -, hpulse⟩ := Emul.of_noZ hem
  rw [Dev.emEmit_step hform hup hset]
  exact ⟨hlvA, hpulse⟩

end

theorem Dev.emEmit_levels (d : Dev) (hn : n < 4) (hform : d.on .EM_CFG_STEPDIR n = false) :
    (((d.emEmit n).em n).lvA, ((d.emEmit n).em n).lvB) = quadNext (d.em n).lvA (d.em n).lvB (decide (0 < (d.em n).k)) := by
  obtain ⟨-, -, hem⟩ := d.quadTo_spec hn (quadNext (d.em n).lvA (d.em n).lvB (decide (0 < (d.em n).k)))
  obtain ⟨-, -, hlvA, hlvB, -⟩ := Emul.of_noZ hem
  rw [Dev.emEmit_quad hform, hlvA, hlvB]
  rfl

end Sys2Proof.Machine
end

section
/-! PROOFS. Compare matches and pulses (R165, R166, R167). -/

namespace Sys2Proof.Machine

variable {d e f : Dev} {n o k : Nat}

theorem exec_compareMatch (e : Fin 8) (s : State) : exec (.compareMatch e) s =
    s.onDev (fun d => d.cmpDue e) fun d => (d.cmpFire e).camFollowCmp d := rfl
theorem exec_comparePulseEnd (e : Fin 8) (o : Fin 16) (s : State) : exec (.comparePulseEnd e o) s =
    s.onDev (fun d => d.running && d.pulseDue e o) fun d => (d.pulseStop e o).camFollowCmp d := rfl

/-! ## A pulse that ends -/

/-- The engine with its pulse on an output ended. -/
def CpEngine.unpulsed (x : CpEngine) (o : Nat) : CpEngine := { x with pulses := Store.set (fun _ => none) x.pulses o none }

theorem Dev.pulseStop_unpinned (d : Dev) (n o : Nat) :
    ((d.pulseStop n o).camFollowCmp d).unpinned = (d.setCp n ((d.cp n).unpulsed o)).unpinned :=
  (Dev.unpinned_camFollowCmp _ d).trans (Dev.unpinned_cmpPins _ d _)

theorem comparePulseEnd_ends (n : Fin 8) (o : Fin 16) {s : State} (hrun : s.dev.running = true) (hdue : s.dev.pulseDue n o = true) :
    ∃ t, exec (.comparePulseEnd n o) s = .next t ∧ t.nv = s.nv ∧ t.dev.regs = s.dev.regs ∧ t.dev.cmpT = s.dev.cmpT ∧
      Store.get (fun _ => none) (t.dev.cp n).pulses o = none ∧ (t.dev.cp n).run = (s.dev.cp n).run ∧
      ∀ k : Fin 8, k ≠ n → t.dev.cp k = s.dev.cp k := by
  have hpins := s.dev.pulseStop_unpinned n o
  have hexec := (exec_comparePulseEnd n o s).trans (State.onDev_of (by rw [hrun, hdue]; rfl) rfl)
  generalize (s.dev.pulseStop n o).camFollowCmp s.dev = e at hpins hexec
  have hcp : e.cp n = (s.dev.cp n).unpulsed o := (Dev.cp_of_unpinned hpins n).trans (Dev.cp_setCp _ _ _)
  refine ⟨_, hexec, rfl, (Dev.regs_of_unpinned hpins :), (Dev.cmpT_of_unpinned hpins :), ?_, ?_, fun k hk => ?_⟩
  · rw [hcp]
    exact Store.get_set_self (fun _ => none) (s.dev.cp n).pulses o none
  · rw [hcp]
    rfl
  · exact (Dev.cp_of_unpinned hpins k).trans (Dev.cp_setCp_other _ _ (Fin.val_ne_of_ne hk))

/-! ## The outputs that an entry drives -/

/-- A mask of the outputs that a predicate takes. -/
theorem forN_mask (p : Nat → Bool) (n : Nat) : forN n (fun o acc => if p o then acc + 2 ^ o else acc) 0 < 2 ^ n ∧
    ∀ o < n, forN n (fun o acc => if p o then acc + 2 ^ o else acc) 0 / 2 ^ o % 2 = if p o then 1 else 0 := by
  induction n with
  | zero => exact ⟨Nat.one_pos, fun o ho => absurd ho (Nat.not_lt_zero o)⟩
  | succ n ih =>
    obtain ⟨hlt, hbits⟩ := ih
    rw [forN_succ]
    generalize forN n (fun o acc => if p o then acc + 2 ^ o else acc) 0 = m at hlt hbits ⊢
    have hpow : 2 ^ (n + 1) = 2 ^ n + 2 ^ n := by rw [pow_succ]; omega
    refine ⟨by split <;> omega, fun o ho => ?_⟩
    by_cases hon : o = n
    · subst hon
      split
      · rw [Nat.add_div_right _ (Nat.two_pow_pos o), Nat.div_eq_of_lt hlt]
      · rw [Nat.div_eq_of_lt hlt]
    · have hlow : o < n := by omega
      rw [← hbits o hlow]
      split
      · obtain ⟨j, hj⟩ : ∃ j, 2 ^ n = 2 ^ o * (2 * j) := ⟨2 ^ (n - o - 1), by rw [← pow_succ', ← pow_add]; congr 1; omega⟩
        rw [hj, Nat.add_mul_div_left _ _ (Nat.two_pow_pos o), Nat.add_mul_mod_self_left]
      · rfl

/-- An entry's effect on one output: a toggle for width 0, and a pulse otherwise (R167). -/
def Dev.cmpDrive (d : Dev) (n width o : Nat) : Dev :=
  if width = 0 then { d with cmpT := Store.set (fun _ => false) d.cmpT o (!Store.get (fun _ => false) d.cmpT o) }
  else d.setCp n { d.cp n with pulses := Store.set (fun _ => none) (d.cp n).pulses o (some (d.tb + 2 * width)) }

/-- The outputs of an entry that its engine's bay owns. -/
def Dev.cmpOwn (d : Dev) (n : Nat) : Nat :=
  forN 16 (fun o acc => if (d.cp n).mask / 2 ^ o % 2 = 1 && d.cmpBay o == d.cpeBay n then acc + 2 ^ o else acc) 0

/-- The outputs below `k` driven. -/
def Dev.cmpDriven (d : Dev) (n own width k : Nat) : Dev := forN k (fun o d => if own / 2 ^ o % 2 = 0 then d else d.cmpDrive n width o) d

/-- The device without toggles and engines. -/
def Dev.uncompared (d : Dev) : Dev := { d with cpe := [], cmpT := [] }

theorem Dev.of_uncompared {α : Type} (π : Dev → α) (hπ : ∀ d : Dev, π d.uncompared = π d) (h : e.uncompared = d.uncompared) : π e = π d :=
  (hπ e).symm.trans ((congrArg π h).trans (hπ d))

/-- What driving some outputs leaves, and what becomes of each output. -/
structure Dev.Drives (n width : Nat) (driven : Nat → Prop) [DecidablePred driven] (d e : Dev) : Prop where
  frame : e.uncompared = d.uncompared
  engine : e.cp n = { d.cp n with pulses := (e.cp n).pulses }
  toggle : ∀ o, Store.get (fun _ => false) e.cmpT o =
    if driven o ∧ width = 0 then !Store.get (fun _ => false) d.cmpT o else Store.get (fun _ => false) d.cmpT o
  pulse : ∀ o, Store.get (fun _ => none) (e.cp n).pulses o =
    if driven o ∧ width ≠ 0 then some (d.tb + 2 * width) else Store.get (fun _ => none) (d.cp n).pulses o

theorem Dev.cmpDriven_drives (d : Dev) (n own width k : Nat) :
    Dev.Drives n width (fun o => o < k ∧ own / 2 ^ o % 2 = 1) d (d.cmpDriven n own width k) := by
  induction k with
  | zero => exact ⟨rfl, rfl, fun o => by simp; rfl, fun o => by simp; rfl⟩
  | succ k ih =>
    have hstep : d.cmpDriven n own width (k + 1) =
      if own / 2 ^ k % 2 = 0 then d.cmpDriven n own width k else (d.cmpDriven n own width k).cmpDrive n width k := forN_succ _ _ _
    rw [hstep]
    obtain ⟨hframe, hengine, htoggle, hpulse⟩ := ih
    have htb : (d.cmpDriven n own width k).tb = d.tb := Dev.of_uncompared Dev.tb (fun _ => rfl) hframe
    generalize d.cmpDriven n own width k = e at hframe hengine htoggle hpulse htb
    by_cases hbit : own / 2 ^ k % 2 = 0
    · rw [if_pos hbit]
      have hsame (o : Nat) : (o < k + 1 ∧ own / 2 ^ o % 2 = 1) ↔ (o < k ∧ own / 2 ^ o % 2 = 1) := by
        refine ⟨fun h => ⟨?_, h.2⟩, fun h => ⟨by omega, h.2⟩⟩
        have hne : o ≠ k := fun heq => by rw [heq] at h; omega
        omega
      exact ⟨hframe, hengine, fun o => by simp only [htoggle, hsame], fun o => by simp only [hpulse, hsame]⟩
    · rw [if_neg hbit]
      have hmore (o : Nat) (hok : o ≠ k) : (o < k + 1 ∧ own / 2 ^ o % 2 = 1) ↔ (o < k ∧ own / 2 ^ o % 2 = 1) := by
        refine ⟨fun h => ⟨by omega, h.2⟩, fun h => ⟨by omega, h.2⟩⟩
      have hbit' : own / 2 ^ k % 2 = 1 := by omega
      unfold Dev.cmpDrive
      by_cases hwidth : width = 0
      · rw [if_pos hwidth]
        refine ⟨hframe, hengine, fun o => ?_, fun o => ?_⟩
        · rw [Store.get_set]
          by_cases hok : o = k
          · subst hok
            simp [htoggle, hwidth, hbit']
          · simp only [if_neg hok, htoggle, hmore o hok]
        · have hp := hpulse o
          simp only [hwidth, ne_eq, not_true_eq_false, and_false, if_false] at hp ⊢
          exact hp
      · rw [if_neg hwidth]
        refine ⟨hframe, ?_, fun o => ?_, fun o => ?_⟩
        · rw [Dev.cp_setCp, hengine]
        · have ht := htoggle o
          simp only [hwidth, and_false, if_false] at ht ⊢
          exact ht
        · rw [Dev.cp_setCp, Store.get_set, htb]
          by_cases hok : o = k
          · subst hok
            simp [hwidth, hbit']
          · simp only [if_neg hok, hpulse, hmore o hok]

/-! ## The next entry -/

/-- The fields of an engine's status. -/
def cpFlds : List Fld := [.CP_STAT_PTR, .CP_STAT_LAP, .CP_STAT_RUN, .CP_STAT_LATE, .CP_STAT_DONE]

/-- `e` is `d` with an engine at another entry, or stopped: its outputs stay. -/
structure Dev.Rearms (n : Nat) (d e : Dev) : Prop where
  moves : Dev.Moves [RegName.off .CP_STAT n 0] cpFlds d e
  cmpT : e.cmpT = d.cmpT
  pulses : (e.cp n).pulses = (d.cp n).pulses

theorem Dev.Rearms.trans (h : Dev.Rearms n d e) (k : Dev.Rearms n e f) : Dev.Rearms n d f :=
  ⟨h.moves.trans k.moves, k.cmpT.trans h.cmpT, k.pulses.trans h.pulses⟩

theorem Dev.moves_setCp (d : Dev) (n : Nat) (x : CpEngine) {offs : List Nat} {flds : List Fld} : Dev.Moves offs flds d (d.setCp n x) := Dev.moves_of_regs rfl rfl

theorem Dev.Writes.cpe {offs : List Nat} {flds : List Fld} (h : Dev.Writes offs flds d e) : e.cpe = d.cpe := Dev.of_quiet Dev.cpe (fun _ => rfl) h.quiet
theorem Dev.Writes.cp {offs : List Nat} {flds : List Fld} (h : Dev.Writes offs flds d e) (n : Nat) : e.cp n = d.cp n := by unfold Dev.cp; rw [h.cpe]
theorem Dev.Writes.cmpT {offs : List Nat} {flds : List Fld} (h : Dev.Writes offs flds d e) : e.cmpT = d.cmpT :=
  Dev.of_quiet Dev.cmpT (fun _ => rfl) h.quiet

/-- An engine takes an entry of its list in a lap (R166). -/
def CpEngine.armed (x : CpEngine) (d : Dev) (n i lap : Nat) : CpEngine :=
  { x with run := true, idx := i, lap := lap, target := enc 32 (sgn 32 (d.tb32 (listAt n + 8 * i)) + (lap : Int) * d.sfld .CP_PERIOD_PERIOD n),
           width := d.tb16 (listAt n + 8 * i + 4), mask := d.tb16 (listAt n + 8 * i + 6) }

/-- The status of an engine at an entry. -/
def Dev.cmpShown (d : Dev) (n i lap : Nat) : Dev :=
  (((d.setFld .CP_STAT_PTR n 0 i).setFld .CP_STAT_LAP n 0 (min lap 4095)).setOn .CP_STAT_RUN n 0 true)

/-- An entry already reached is late. -/
def Dev.cmpLate (d : Dev) (n i : Nat) : Dev :=
  if 0 ≤ d.cmpGap n then
    let e := d.setOn .CP_STAT_LATE n 0 true
    if (e.cp n).lateSaid then e else (e.setCp n { e.cp n with lateSaid := true }).unitEvent (e.cpeBay n) 1 0x0801 n i (e.cmpValue n)
  else d

theorem Dev.cmpArm_eq (d : Dev) (n i lap : Nat) : d.cmpArm n i lap = ((d.setCp n ((d.cp n).armed d n i lap)).cmpShown n i lap).cmpLate n i := rfl

theorem Dev.cmpShown_writes (d : Dev) (hn : n < 8) (i lap : Nat) : Dev.Writes [RegName.off .CP_STAT n 0] cpFlds d (d.cmpShown n i lap) :=
  ((d.writes_setFld (y := .CP_STAT_PTR) (by decide) (by decide) hn List.mem_cons_self i).trans
    (Dev.writes_setFld _ (y := .CP_STAT_LAP) (by decide) (by decide) hn List.mem_cons_self _)).trans
    (Dev.writes_setOn _ (y := .CP_STAT_RUN) (by decide) (by decide) hn List.mem_cons_self true)

theorem Dev.cmpShown_ptr (d : Dev) (hn : n < 8) (i lap : Nat) : (d.cmpShown n i lap).fld .CP_STAT_PTR n = i % 1024 := by
  have hlap := (d.setFld .CP_STAT_PTR n 0 i).writes_setFld (y := .CP_STAT_LAP) (flds := [.CP_STAT_LAP, .CP_STAT_RUN]) (offs := [RegName.off .CP_STAT n 0]) (by decide) (by decide) hn
    List.mem_cons_self (min lap 4095)
  have hrun := Dev.writes_setOn ((d.setFld .CP_STAT_PTR n 0 i).setFld .CP_STAT_LAP n 0 (min lap 4095)) (y := .CP_STAT_RUN)
    (flds := [.CP_STAT_LAP, .CP_STAT_RUN]) (offs := [RegName.off .CP_STAT n 0]) (by decide) (by decide) hn List.mem_cons_self true
  exact ((hlap.trans hrun).same.fld (x := .CP_STAT_PTR) (by decide) hn).trans (d.fld_setFld .CP_STAT_PTR n 0 i (by decide))

/-- What a late entry changes: its mark, and that it is told once. -/
theorem Dev.cmpLate_spec (d : Dev) (hn : n < 8) (i : Nat) : Dev.Moves [RegName.off .CP_STAT n 0] [.CP_STAT_LATE] d (d.cmpLate n i) ∧
    (d.cmpLate n i).cmpT = d.cmpT ∧ (d.cmpLate n i).cp n = { d.cp n with lateSaid := ((d.cmpLate n i).cp n).lateSaid } := by
  unfold Dev.cmpLate
  dsimp only
  split
  · have hlate := d.writes_setOn (y := .CP_STAT_LATE) (flds := [.CP_STAT_LATE]) (offs := [RegName.off .CP_STAT n 0]) List.mem_cons_self (by decide) hn List.mem_cons_self true
    have hcp := hlate.cp n
    have hcmpT := hlate.cmpT
    generalize d.setOn .CP_STAT_LATE n 0 true = e at hlate hcp hcmpT
    split
    · exact ⟨hlate.moves, hcmpT, by rw [hcp]⟩
    · have htold := (e.setCp n { e.cp n with lateSaid := true }).reported_unitEvent (e.cpeBay n) 1 0x0801 n i (e.cmpValue n)
      generalize (e.setCp n { e.cp n with lateSaid := true }).unitEvent (e.cpeBay n) 1 0x0801 n i (e.cmpValue n) = f at htold
      have hput := htold.writes (offs := [RegName.off .CP_STAT n 0]) (flds := [.CP_STAT_LATE])
      have hcp' : f.cp n = { e.cp n with lateSaid := true } := (hput.cp n).trans (Dev.cp_setCp _ _ _)
      exact ⟨hlate.moves.trans ((e.moves_setCp n _).trans hput.moves), hput.cmpT.trans hcmpT, by rw [hcp', hcp]⟩
  · exact ⟨.refl _ _ d, rfl, rfl⟩

theorem Dev.cmpArm_spec (d : Dev) (hn : n < 8) (i lap : Nat) : Dev.Rearms n d (d.cmpArm n i lap) ∧ (d.cmpArm n i lap).fld .CP_STAT_PTR n = i % 1024 ∧
    (d.cmpArm n i lap).cp n = { (d.cp n).armed d n i lap with lateSaid := ((d.cmpArm n i lap).cp n).lateSaid } := by
  rw [Dev.cmpArm_eq]
  have hshown := (d.setCp n ((d.cp n).armed d n i lap)).cmpShown_writes hn i lap
  have hptr := (d.setCp n ((d.cp n).armed d n i lap)).cmpShown_ptr hn i lap
  have hcp := (hshown.cp n).trans (d.cp_setCp n _)
  generalize (d.setCp n ((d.cp n).armed d n i lap)).cmpShown n i lap = e at hshown hptr hcp
  obtain ⟨hmoves, hcmpT, hlate⟩ := e.cmpLate_spec hn i
  rw [hcp] at hlate
  refine ⟨⟨((d.moves_setCp n _).trans hshown.moves).trans (hmoves.mono (by simp [cpFlds])), hcmpT.trans hshown.cmpT, ?_⟩,
    (hmoves.same.fld (x := .CP_STAT_PTR) (by decide) hn).trans hptr, hlate⟩
  rw [hlate]
  rfl

/-- An engine past its last entry stops (R166). -/
def Dev.cmpDone (d : Dev) (n : Nat) : Dev :=
  let e := ((d.setCp n { d.cp n with run := false }).setOn .CP_STAT_RUN n 0 false).setOn .CP_STAT_DONE n 0 true
  e.unitEvent (e.cpeBay n) 1 0x0800 n (e.fld .CP_STAT_LAP n) (e.fld .CP_CNT_FIRED n)

theorem Dev.cmpDone_spec (d : Dev) (hn : n < 8) : Dev.Rearms n d (d.cmpDone n) ∧ ((d.cmpDone n).cp n).run = false ∧
    (d.cmpDone n).on .CP_STAT_RUN n = false ∧ (d.cmpDone n).on .CP_STAT_DONE n = true := by
  have hput (g : Dev) : Dev.Writes [RegName.off .CP_STAT n 0] cpFlds g ((g.setOn .CP_STAT_RUN n 0 false).setOn .CP_STAT_DONE n 0 true) :=
    (g.writes_setOn (y := .CP_STAT_RUN) (by decide) (by decide) hn List.mem_cons_self false).trans
      (Dev.writes_setOn _ (y := .CP_STAT_DONE) (by decide) (by decide) hn List.mem_cons_self true)
  have hrun (g : Dev) : ((g.setOn .CP_STAT_RUN n 0 false).setOn .CP_STAT_DONE n 0 true).on .CP_STAT_RUN n = false :=
    (Dev.on_setOn_beside _ .CP_STAT_DONE .CP_STAT_RUN n 0 true rfl (by decide) (by decide) (by decide)).trans
      (g.on_setOn .CP_STAT_RUN n 0 false (by decide) (by decide))
  have hdone (g : Dev) : ((g.setOn .CP_STAT_RUN n 0 false).setOn .CP_STAT_DONE n 0 true).on .CP_STAT_DONE n = true :=
    Dev.on_setOn _ .CP_STAT_DONE n 0 true (by decide) (by decide)
  have hcp := (hput (d.setCp n { d.cp n with run := false })).cp n
  replace hput := hput (d.setCp n { d.cp n with run := false })
  replace hrun := hrun (d.setCp n { d.cp n with run := false })
  replace hdone := hdone (d.setCp n { d.cp n with run := false })
  unfold Dev.cmpDone
  dsimp only
  generalize ((d.setCp n { d.cp n with run := false }).setOn .CP_STAT_RUN n 0 false).setOn .CP_STAT_DONE n 0 true = e at hput hrun hdone hcp
  have htold := e.reported_unitEvent (e.cpeBay n) 1 0x0800 n (e.fld .CP_STAT_LAP n) (e.fld .CP_CNT_FIRED n)
  generalize e.unitEvent (e.cpeBay n) 1 0x0800 n (e.fld .CP_STAT_LAP n) (e.fld .CP_CNT_FIRED n) = f at htold
  have htell := htold.writes (offs := [RegName.off .CP_STAT n 0]) (flds := [])
  have hcp' : f.cp n = { d.cp n with run := false } := (htell.cp n).trans (hcp.trans (Dev.cp_setCp _ _ _))
  refine ⟨⟨((d.moves_setCp n _).trans hput.moves).trans (htell.moves.mono (by simp)), htell.cmpT.trans hput.cmpT, by rw [hcp']⟩, by rw [hcp'], ?_, ?_⟩
  · exact (htell.same.on (x := .CP_STAT_RUN) (by decide) hn).trans hrun
  · exact (htell.same.on (x := .CP_STAT_DONE) (by decide) hn).trans hdone

/-! ## A match -/

/-- The outputs driven, and the match counted. -/
def Dev.cmpFired (d : Dev) (n : Nat) : Dev :=
  ((d.cmpDriven n (d.cmpOwn n) (d.cp n).width 16).cmpPins d (d.cmpOwn n)).bump .CP_CNT_FIRED n 0

theorem Dev.cmpFire_eq (d : Dev) (n : Nat) : d.cmpFire n =
    if (d.cp n).idx = (d.cmpFired n).fld .CP_CTL_LAST n then
      if (d.cmpFired n).on .CP_CTL_CYCLIC n then (d.cmpFired n).cmpArm n 0 ((d.cp n).lap + 1) else (d.cmpFired n).cmpDone n
    else (d.cmpFired n).cmpArm n ((d.cp n).idx + 1) (d.cp n).lap := rfl

/-- The outputs that the engine's bay owns. -/
theorem Dev.cmpOwn_bit (d : Dev) (n o : Nat) (ho : o < 16) :
    d.cmpOwn n / 2 ^ o % 2 = 1 ↔ (d.cp n).mask / 2 ^ o % 2 = 1 ∧ d.cmpBay o = d.cpeBay n := by
  unfold Dev.cmpOwn
  rw [(forN_mask (fun o => (d.cp n).mask / 2 ^ o % 2 = 1 && d.cmpBay o == d.cpeBay n) 16).2 o ho]
  simp

/-- What a match leaves before the next entry. -/
structure Dev.Fires (n : Nat) (d e : Dev) : Prop where
  moves : Dev.Moves [RegName.off .CP_CNT n 0] [.CP_CNT_FIRED] d e
  engine : e.cp n = { d.cp n with pulses := (e.cp n).pulses }
  count : e.fld .CP_CNT_FIRED n = min (d.fld .CP_CNT_FIRED n + 1) (2 ^ 32 - 1)
  toggle : ∀ o, Store.get (fun _ => false) e.cmpT o = if (o < 16 ∧ d.cmpOwn n / 2 ^ o % 2 = 1) ∧ (d.cp n).width = 0
    then !Store.get (fun _ => false) d.cmpT o else Store.get (fun _ => false) d.cmpT o
  pulse : ∀ o, Store.get (fun _ => none) (e.cp n).pulses o = if (o < 16 ∧ d.cmpOwn n / 2 ^ o % 2 = 1) ∧ (d.cp n).width ≠ 0
    then some (d.tb + 2 * (d.cp n).width) else Store.get (fun _ => none) (d.cp n).pulses o

theorem Dev.cmpFired_fires (d : Dev) (hn : n < 8) : Dev.Fires n d (d.cmpFired n) := by
  obtain ⟨hframe, hengine, htoggle, hpulse⟩ := d.cmpDriven_drives n (d.cmpOwn n) (d.cp n).width 16
  have hpins := (d.cmpDriven n (d.cmpOwn n) (d.cp n).width 16).unpinned_cmpPins d (d.cmpOwn n)
  unfold Dev.cmpFired
  generalize (d.cmpDriven n (d.cmpOwn n) (d.cp n).width 16).cmpPins d (d.cmpOwn n) = f at hpins
  generalize d.cmpDriven n (d.cmpOwn n) (d.cp n).width 16 = e at hframe hengine htoggle hpulse hpins
  have hregs : f.regs = d.regs := (Dev.regs_of_unpinned hpins).trans (Dev.of_uncompared Dev.regs (fun _ => rfl) hframe)
  have hmoves : Dev.Moves [RegName.off .CP_CNT n 0] [.CP_CNT_FIRED] d f :=
    Dev.moves_of_regs hregs
      ((Dev.of_unpinned Dev.ground (fun _ => rfl) hpins).trans (Dev.of_uncompared Dev.ground (fun _ => rfl) hframe))
  have hput := f.writes_bump (y := .CP_CNT_FIRED) (flds := [.CP_CNT_FIRED]) (offs := [RegName.off .CP_CNT n 0]) List.mem_cons_self (by decide) hn
    List.mem_cons_self 1
  have hcp : (f.bump .CP_CNT_FIRED n 0).cp n = e.cp n := Dev.cp_of_unpinned hpins n
  have hcmpT : (f.bump .CP_CNT_FIRED n 0).cmpT = e.cmpT := (Dev.cmpT_of_unpinned hpins :)
  refine ⟨hmoves.trans hput.moves, ?_, ?_, fun o => ?_, fun o => ?_⟩
  · rw [hcp]; exact hengine
  · exact (f.fld_bump .CP_CNT_FIRED n 0 1 (by decide)).trans (congrArg (fun v => min (v + 1) (2 ^ 32 - 1)) (Dev.fld_congr hregs _ _ _))
  · rw [hcmpT]; exact htoggle o
  · rw [hcp]; exact hpulse o

theorem Dev.cmpFire_rearms (d : Dev) (hn : n < 8) : Dev.Rearms n (d.cmpFired n) (d.cmpFire n) := by
  rw [Dev.cmpFire_eq]
  split
  · split
    · exact ((d.cmpFired n).cmpArm_spec hn _ _).1
    · exact ((d.cmpFired n).cmpDone_spec hn).1
  · exact ((d.cmpFired n).cmpArm_spec hn _ _).1

/-- A match whose effect on the camera triggers is done: `e` is the device then. -/
structure Dev.Matched (n : Nat) (d e : Dev) : Prop where
  tbl : e.tbl = d.tbl
  regs : d.regsBut [RegName.off .CP_CNT n 0, RegName.off .CP_STAT n 0] e
  count : e.fld .CP_CNT_FIRED n = min (d.fld .CP_CNT_FIRED n + 1) (2 ^ 32 - 1)

theorem Dev.regsBut.of_regs {offs : List Nat} (h : d.regsBut offs e) (hregs : f.regs = e.regs) : d.regsBut offs f := h.trans (Dev.regsBut_of_regs hregs)

theorem Dev.cmpFire_matched (d : Dev) (hn : n < 8) : Dev.Matched n d (d.cmpFire n) := by
  obtain ⟨⟨hregs, -, hground⟩, -, hcount, -, -⟩ := d.cmpFired_fires hn
  obtain ⟨⟨hregs', hsame', hground'⟩, -, -⟩ := d.cmpFire_rearms hn
  refine ⟨(Dev.of_ground Dev.tbl (fun _ => rfl) hground').trans (Dev.of_ground Dev.tbl (fun _ => rfl) hground),
    (hregs.mono (by simp)).trans (hregs'.mono (by simp)), (hsame'.fld (x := .CP_CNT_FIRED) (by decide) hn).trans hcount⟩

/-- The owned outputs of the entry, toggled or pulsed. -/
theorem Dev.cmpFire_owned (d : Dev) (hn : n < 8) (ho : o < 16) (hmask : (d.cp n).mask / 2 ^ o % 2 = 1) (hown : d.cmpBay o = d.cpeBay n) :
    if (d.cp n).width = 0 then Store.get (fun _ => false) (d.cmpFire n).cmpT o = !Store.get (fun _ => false) d.cmpT o
    else Store.get (fun _ => none) ((d.cmpFire n).cp n).pulses o = some (d.tb + 2 * (d.cp n).width) := by
  obtain ⟨-, -, -, htoggle, hpulse⟩ := d.cmpFired_fires hn
  obtain ⟨-, hcmpT, hpulses⟩ := d.cmpFire_rearms hn
  have hbit : o < 16 ∧ d.cmpOwn n / 2 ^ o % 2 = 1 := ⟨ho, (d.cmpOwn_bit n o ho).mpr ⟨hmask, hown⟩⟩
  rw [hcmpT, hpulses, htoggle, hpulse]
  split
  next hwidth => exact if_pos ⟨hbit, hwidth⟩
  next hwidth => exact if_pos ⟨hbit, hwidth⟩

/-- The other outputs stay. -/
theorem Dev.cmpFire_other (d : Dev) (hn : n < 8) (ho : o < 16) (hother : (d.cp n).mask / 2 ^ o % 2 = 0 ∨ d.cmpBay o ≠ d.cpeBay n) :
    Store.get (fun _ => false) (d.cmpFire n).cmpT o = Store.get (fun _ => false) d.cmpT o ∧
    Store.get (fun _ => none) ((d.cmpFire n).cp n).pulses o = Store.get (fun _ => none) (d.cp n).pulses o := by
  obtain ⟨-, -, -, htoggle, hpulse⟩ := d.cmpFired_fires hn
  obtain ⟨-, hcmpT, hpulses⟩ := d.cmpFire_rearms hn
  have hbit : ¬ (o < 16 ∧ d.cmpOwn n / 2 ^ o % 2 = 1) := by
    rintro ⟨-, hone⟩
    obtain ⟨hmask, hown⟩ := (d.cmpOwn_bit n o ho).mp hone
    obtain hzero | hne := hother
    · omega
    · exact hne hown
  rw [hcmpT, hpulses, htoggle, hpulse]
  exact ⟨if_neg fun h => hbit h.1, if_neg fun h => hbit h.1⟩

/-- The settings of an engine that a match reads stand when it is counted. -/
theorem Dev.cmpFired_reads (d : Dev) (hn : n < 8) : (d.cmpFired n).fld .CP_CTL_LAST n = d.fld .CP_CTL_LAST n ∧
    (d.cmpFired n).on .CP_CTL_CYCLIC n = d.on .CP_CTL_CYCLIC n ∧ (d.cmpFired n).sfld .CP_PERIOD_PERIOD n = d.sfld .CP_PERIOD_PERIOD n ∧
    (d.cmpFired n).tbl = d.tbl := by
  obtain ⟨⟨-, hsame, hground⟩, -⟩ := d.cmpFired_fires hn
  exact ⟨hsame.fld (x := .CP_CTL_LAST) (by decide) hn, hsame.on (x := .CP_CTL_CYCLIC) (by decide) hn,
    hsame.sfld (x := .CP_PERIOD_PERIOD) (by decide) hn, Dev.of_ground Dev.tbl (fun _ => rfl) hground⟩

/-- The next entry is armed. -/
theorem Dev.cmpFire_next (d : Dev) (hn : n < 8) (hmore : (d.cp n).idx ≠ d.fld .CP_CTL_LAST n) :
    ((d.cmpFire n).cp n).run = true ∧ ((d.cmpFire n).cp n).idx = (d.cp n).idx + 1 ∧ (d.cmpFire n).fld .CP_STAT_PTR n = ((d.cp n).idx + 1) % 1024 ∧
    ((d.cmpFire n).cp n).target =
      enc 32 (sgn 32 (d.tb32 (listAt n + 8 * ((d.cp n).idx + 1))) + ((d.cp n).lap : Int) * d.sfld .CP_PERIOD_PERIOD n) := by
  obtain ⟨hlast, -, hperiod, htbl⟩ := d.cmpFired_reads hn
  have hfire : d.cmpFire n = (d.cmpFired n).cmpArm n ((d.cp n).idx + 1) (d.cp n).lap := by
    rw [Dev.cmpFire_eq, hlast, if_neg hmore]
  obtain ⟨-, hptr, hcp⟩ := (d.cmpFired n).cmpArm_spec hn ((d.cp n).idx + 1) (d.cp n).lap
  rw [← hfire] at hptr hcp
  have hread (a : Nat) : (d.cmpFired n).tb32 a = d.tb32 a := by unfold Dev.tb32 Dev.tb16 Dev.tb8; rw [htbl]
  refine ⟨(congrArg CpEngine.run hcp :), (congrArg CpEngine.idx hcp :), hptr, (congrArg CpEngine.target hcp :).trans ?_⟩
  rw [← hread, ← hperiod]
  rfl

/-- After LAST, entry 0 of the next lap when CYCLIC, and the end otherwise. -/
theorem Dev.cmpFire_lap (d : Dev) (hn : n < 8) (hlast : (d.cp n).idx = d.fld .CP_CTL_LAST n) (hcyclic : d.on .CP_CTL_CYCLIC n = true) :
    ((d.cmpFire n).cp n).run = true ∧ ((d.cmpFire n).cp n).idx = 0 ∧ ((d.cmpFire n).cp n).lap = (d.cp n).lap + 1 := by
  obtain ⟨hlast', hcyclic', -, -⟩ := d.cmpFired_reads hn
  have hfire : d.cmpFire n = (d.cmpFired n).cmpArm n 0 ((d.cp n).lap + 1) := by
    rw [Dev.cmpFire_eq, hlast', if_pos hlast, hcyclic', if_pos hcyclic]
  obtain ⟨-, -, hcp⟩ := (d.cmpFired n).cmpArm_spec hn 0 ((d.cp n).lap + 1)
  rw [← hfire] at hcp
  exact ⟨(congrArg CpEngine.run hcp :), (congrArg CpEngine.idx hcp :), (congrArg CpEngine.lap hcp :)⟩

theorem Dev.cmpFire_end (d : Dev) (hn : n < 8) (hlast : (d.cp n).idx = d.fld .CP_CTL_LAST n) (hcyclic : d.on .CP_CTL_CYCLIC n = false) :
    ((d.cmpFire n).cp n).run = false ∧ (d.cmpFire n).on .CP_STAT_RUN n = false ∧ (d.cmpFire n).on .CP_STAT_DONE n = true := by
  obtain ⟨hlast', hcyclic', -, -⟩ := d.cmpFired_reads hn
  have hfire : d.cmpFire n = (d.cmpFired n).cmpDone n := by
    rw [Dev.cmpFire_eq, hlast', if_pos hlast, hcyclic', if_neg (by simp [hcyclic])]
  rw [hfire]
  exact ((d.cmpFired n).cmpDone_spec hn).2

/-- Settles O40: a match drives its outputs and arms the next entry, and the pins and the cameras that follow change neither. -/
theorem compareAndEmulation : Obligations.CompareAndEmulation := by
  unfold Obligations.CompareAndEmulation
  refine ⟨?_, fun n o s hrun hdue => comparePulseEnd_ends n o hrun hdue, ?_, ?_, fun n s hholds => emulationPulseEnd_holds hholds⟩
  · intro n s hdue
    have hexec := (exec_compareMatch n s).trans (State.onDev_of hdue rfl)
    obtain ⟨htbl, hregs, hcount⟩ := s.dev.cmpFire_matched n.isLt
    have howned (o : Fin 16) := s.dev.cmpFire_owned n.isLt o.isLt
    have hother (o : Fin 16) := s.dev.cmpFire_other n.isLt o.isLt
    have hnext := s.dev.cmpFire_next n.isLt
    have hlap := s.dev.cmpFire_lap n.isLt
    have hend := s.dev.cmpFire_end n.isLt
    have hpins := (s.dev.cmpFire n).unpinned_camFollowCmp s.dev
    generalize (s.dev.cmpFire n).camFollowCmp s.dev = f at hexec hpins
    generalize s.dev.cmpFire n = e at htbl hregs hcount howned hother hnext hlap hend hpins
    have hfld (x : Fld) : f.fld x n = e.fld x n := Dev.fld_congr (Dev.regs_of_unpinned hpins) _ _ _
    have hon (x : Fld) : f.on x n = e.on x n := by unfold Dev.on; rw [hfld]
    refine ⟨_, hexec, rfl, rfl, (Dev.tbl_of_unpinned hpins).trans htbl, hregs.of_regs (Dev.regs_of_unpinned hpins), (hfld _).trans hcount, ?_⟩
    dsimp only
    rw [Dev.cmpT_of_unpinned hpins, Dev.cp_of_unpinned hpins, hfld, hon, hon]
    exact ⟨howned, hother, hnext, hlap, hend⟩
  · intro n up s hdue hup
    have hexec := (exec_emulationEdge n s).trans (State.onDev_of hdue rfl)
    refine ⟨_, hexec, rfl, rfl, s.dev.emEmit_regs n.isLt hup, s.dev.emEmit_turns hup, s.dev.emEmit_counts n.isLt hup, s.dev.emEmit_steps n.isLt hup,
      fun hform k hk => ?_⟩
    rw [s.dev.emEmit_levels n.isLt hform, ← hup]
    exact quadNext_spec k _ _ up hk
  · intro n s hrun hen hfenced
    have hok : ∀ hpulse : s.dev.emPulseDue n = true, (s.dev.running && s.dev.emPulseDue n) = true := fun hpulse => by rw [hrun, hpulse]; rfl
    refine ⟨fun x hx hdue => emulationPulseEnd_step (hok ?_) hx hdue, fun x hx hdue => emulationPulseEnd_z (hok ?_) hx hdue⟩
    · simp [Dev.emPulseDue, hen, hfenced, hx, hdue]
    · simp [Dev.emPulseDue, hen, hfenced, hx, hdue]

end Sys2Proof.Machine
end

section
/-! PROOFS. Increment events: the count, its direction, the pacer and the emulation outputs (R151, R152, R153, R155, R159, R168). -/

namespace Sys2Proof.Machine

variable {d e f : Dev} {offs : List Nat} {flds : List Fld} {b c n k stamp : Nat} {inc : Int}

/-! ## Direction -/

/-- A channel without what an increment event moves beside its count. -/
def PsChan.still (x : PsChan) : PsChan := { x with x := 0, e := 0, spdSum := 0, cyc := (0, 0), stallFrom := 0, stalled := false }

theorem PsChan.of_still {α : Type} {x y : PsChan} (π : PsChan → α) (hπ : ∀ x : PsChan, π x.still = π x) (h : x.still = y.still) : π x = π y :=
  (hπ x).symm.trans ((congrArg π h).trans (hπ y))

/-- Pacers that keep their phases and sources. -/
def Dev.samePhase (d e : Dev) : Prop := ∀ c, (e.pc c).p = (d.pc c).p ∧ (e.pc c).src = (d.pc c).src

theorem Dev.samePhase_of_bays (h : e.bays = d.bays) : d.samePhase e := fun c => by
  have hpc : e.pc c = d.pc c := by unfold Dev.pc Dev.bay; rw [h]
  rw [hpc]
  exact ⟨rfl, rfl⟩

theorem Dev.samePhase.trans (h : d.samePhase e) (k : e.samePhase f) : d.samePhase f :=
  fun c => ⟨(k c).1.trans (h c).1, (k c).2.trans (h c).2⟩

theorem Dev.samePhase_setPc {y : Pacer} (hp : y.p = (d.pc b).p) (hsrc : y.src = (d.pc b).src) : d.samePhase (d.setPc b y) := fun c => by
  by_cases hc : c = b
  · subst hc
    rw [d.pc_setPc]
    exact ⟨hp, hsrc⟩
  · have hbay : (d.setPc b y).bay c = d.bay c := d.bay_setBay_other _ hc
    unfold Dev.pc
    rw [hbay]
    exact ⟨rfl, rfl⟩

/-- A turn at a channel: the direction, told, and the pacer whose sense follows it (R153, R159). -/
def Dev.turned (d : Dev) (n : Nat) : Dev :=
  let dir := d.on .PS_STAT_DIR n
  let d := d.setOn .PS_STAT_DIR n 0 (!dir)
  let d := d.unitEvent (d.psBay n) 1 0x0604 n (if dir then 0 else 1) (d.fld .PS_POS_COUNT n)
  match d.pacedBy n with
  | some b => if d.fld .PC_CTL_SENSE b = 2 then d.setPc b (d.pc b).rebase else d
  | none => d

theorem Dev.updateDir_shape (d : Dev) (n : Nat) (inc : Int) : ∃ y : PsChan, y.still = (d.psc n).still ∧
    (d.updateDir n inc = (d.setPsc n y).turned n ∨ d.updateDir n inc = d.setPsc n y) := by
  have hsplit : ∃ (turn : Bool) (y z : PsChan), d.updateDir n inc = (if turn then (d.setPsc n y).turned n else d.setPsc n z) ∧
    y.still = (d.psc n).still ∧ z.still = (d.psc n).still := ⟨_, _, _, rfl, rfl, rfl⟩
  obtain ⟨turn, y, z, heq, hy, hz⟩ := hsplit
  cases turn with
  | true => exact ⟨y, hy, .inl heq⟩
  | false => exact ⟨z, hz, .inr heq⟩

theorem Dev.turned_spec (d : Dev) (hn : n < 8) (hoff : RegName.off .PS_STAT n 0 ∈ offs) : Dev.Moves offs [.PS_STAT_DIR] d (d.turned n) ∧
    (d.turned n).ps = d.ps ∧ (d.turned n).ems = d.ems ∧ d.samePhase (d.turned n) := by
  have hdir := d.writes_setOn (y := .PS_STAT_DIR) (offs := offs) (flds := [.PS_STAT_DIR]) List.mem_cons_self (by decide) hn hoff (!d.on .PS_STAT_DIR n)
  unfold Dev.turned
  dsimp only
  generalize d.setOn .PS_STAT_DIR n 0 (!d.on .PS_STAT_DIR n) = e at hdir
  have htold := e.reported_unitEvent (e.psBay n) 1 0x0604 n (if d.on .PS_STAT_DIR n then 0 else 1) (e.fld .PS_POS_COUNT n)
  generalize e.unitEvent (e.psBay n) 1 0x0604 n (if d.on .PS_STAT_DIR n then 0 else 1) (e.fld .PS_POS_COUNT n) = f at htold
  have hf := hdir.trans htold.writes
  have hphase := Dev.samePhase_of_bays hf.bays
  split
  · split
    · exact ⟨hf.moves.trans (f.moves_setPc _ _), hf.ps, hf.ems, hphase.trans (Dev.samePhase_setPc rfl rfl)⟩
    · exact ⟨hf.moves, hf.ps, hf.ems, hphase⟩
  · exact ⟨hf.moves, hf.ps, hf.ems, hphase⟩

theorem Dev.updateDir_spec (d : Dev) (hn : n < 8) (hoff : RegName.off .PS_STAT n 0 ∈ offs) (inc : Int) :
    Dev.Moves offs [.PS_STAT_DIR] d (d.updateDir n inc) ∧ ((d.updateDir n inc).psc n).still = (d.psc n).still ∧
    (d.updateDir n inc).ems = d.ems ∧ d.samePhase (d.updateDir n inc) := by
  obtain ⟨y, hstill, hturn | hstay⟩ := d.updateDir_shape n inc
  · obtain ⟨hmoves, hps, hems, hphase⟩ := (d.setPsc n y).turned_spec hn hoff
    have hpsc : ((d.setPsc n y).turned n).psc n = y := by unfold Dev.psc; rw [hps]; exact d.psc_setPsc n y
    rw [hturn]
    exact ⟨(d.moves_setPsc n y).trans hmoves, by rw [hpsc, hstill], hems, (Dev.samePhase_of_bays rfl).trans hphase⟩
  · rw [hstay, d.psc_setPsc]
    exact ⟨d.moves_setPsc n y, hstill, rfl, Dev.samePhase_of_bays rfl⟩

/-! ## The phase of a pacer -/

/-- The step of a pacer's phase for an increment of its source (R159). -/
def Dev.phaseStep (d : Dev) (b : Nat) (inc : Int) : Int := (if d.reverseNow b then -inc else inc) * (d.pair .PC_RATLO_FRAC .PC_RATHI_INT b : Int)

theorem Dev.pacerIncrement_shape (d : Dev) (b : Nat) (inc : Int) (stamp : Nat) : ∃ y : Pacer, y.p = (d.pc b).p + d.phaseStep b inc ∧
    (d.pacerIncrement b inc stamp = d.setPc b y ∨
      ∃ z t, z.p = y.p ∧ d.pacerIncrement b inc stamp = ((d.setPc b y).setPc b z).issueTrigger b t) := by
  have hsplit : ∃ (interp : Bool) (y z w : Pacer) (t : Nat), d.pacerIncrement b inc stamp = (if interp then d.setPc b y
      else if z.m + 1 ≤ z.p / one32 then ((d.setPc b z).setPc b w).issueTrigger b t else d.setPc b z) ∧
    y.p = (d.pc b).p + d.phaseStep b inc ∧ z.p = (d.pc b).p + d.phaseStep b inc ∧ w.p = z.p := ⟨_, _, _, _, _, rfl, rfl, rfl, rfl⟩
  obtain ⟨interp, y, z, w, t, heq, hy, hz, hw⟩ := hsplit
  cases interp with
  | true => exact ⟨y, hy, .inl heq⟩
  | false =>
    rw [if_neg Bool.false_ne_true] at heq
    split at heq
    · exact ⟨z, hz, .inr ⟨w, t, hw, heq⟩⟩
    · exact ⟨z, hz, .inl heq⟩

/-- The registers of a trigger. -/
def trigOffs (b : Nat) (offs : List Nat) : Prop := RegName.off .PC_PERIOD b 0 ∈ offs ∧ RegName.off .PT_TRIGDLY b 0 ∈ offs ∧ emOffs offs

theorem Dev.pacerIncrement_spec (d : Dev) (hb : b < 4) (hoffs : trigOffs b offs) (inc : Int) (stamp : Nat) :
    Dev.Moves offs trigFlds d (d.pacerIncrement b inc stamp) ∧ (d.pacerIncrement b inc stamp).ps = d.ps ∧
    ((d.pacerIncrement b inc stamp).pc b).p = (d.pc b).p + d.phaseStep b inc ∧
    ∀ k < 4, d.fld .EM_CFG_SRC k ≠ 8 → (d.pacerIncrement b inc stamp).em k = d.em k := by
  obtain ⟨hperiod, hdelay, hem⟩ := hoffs
  obtain ⟨y, hp, hstay | ⟨z, t, hz, htrig⟩⟩ := d.pacerIncrement_shape b inc stamp
  · rw [hstay, d.pc_setPc]
    exact ⟨d.moves_setPc b y, rfl, hp, fun _ _ _ => rfl⟩
  · have htrigs := ((d.setPc b y).setPc b z).issueTrigger_triggers hb hperiod hdelay hem t
    have hphase : ((((d.setPc b y).setPc b z).issueTrigger b t).pc b).p = z.p :=
      (congrArg Pacer.p (htrigs.pc b) :).trans (congrArg Pacer.p ((d.setPc b y).pc_setPc b z) :)
    rw [htrig]
    exact ⟨((d.moves_setPc b y).trans (Dev.moves_setPc _ b z)).trans htrigs.moves, htrigs.ps, by rw [hphase, hz, hp], htrigs.em⟩

/-! ## An increment event -/

/-- The registers of an increment event at a channel. -/
structure incOffs (n : Nat) (offs : List Nat) : Prop where
  count : ∀ o ∈ countOffs n, o ∈ offs
  trig : ∀ b < 4, trigOffs b offs

/-- The fields that it writes. -/
def incFlds : List Fld := countFlds ++ .PS_STAT_DIR :: trigFlds

/-- The channel after the direction. -/
def PsChan.ticked (x : PsChan) (inc : Int) (tb : Nat) : PsChan :=
  { x with cyc := if x.cyc.1 = tb then (tb, x.cyc.2 + inc) else (tb, inc), spdSum := x.spdSum + inc, stallFrom := tb, stalled := false }

/-- The pacer of a channel takes its increment. -/
def Dev.paceOn (d : Dev) (n : Nat) (inc : Int) (stamp : Nat) : Dev :=
  match d.pacedBy n with
  | some b => d.pacerIncrement b inc stamp
  | none => d

/-- The event before the pacer. -/
def Dev.counts (d : Dev) (n : Nat) (inc : Int) : Dev :=
  let e := (d.loadCount n (d.sfld .PS_POS_COUNT n + inc)).updateDir n inc
  e.setPsc n ((e.psc n).ticked inc e.tb)

theorem Dev.increment_eq (d : Dev) (n : Nat) (inc : Int) (stamp : Nat) : d.increment n inc stamp =
    (((d.counts n inc).paceOn n inc stamp).emulators n (((d.counts n inc).paceOn n inc stamp).psBay n)).foldl (fun d k => d.emulate k inc)
      ((d.counts n inc).paceOn n inc stamp) := rfl

theorem Dev.counts_spec (d : Dev) (hn : n < 8) (hoffs : ∀ o ∈ countOffs n, o ∈ offs) (inc : Int) :
    Dev.Moves offs (countFlds ++ [.PS_STAT_DIR]) d (d.counts n inc) ∧ (d.counts n inc).ems = d.ems ∧ d.samePhase (d.counts n inc) ∧
    (d.counts n inc).fld .PS_POS_COUNT n = enc 32 (d.countOf n (d.sfld .PS_POS_COUNT n + inc)) ∧
    ((d.counts n inc).psc n).still = (d.psc n).still ∧ ((d.counts n inc).psc n).stallFrom = d.tb := by
  have hload := d.loadCount_writes hn hoffs (d.sfld .PS_POS_COUNT n + inc)
  have hcount := d.loadCount_count hn (d.sfld .PS_POS_COUNT n + inc)
  unfold Dev.counts
  dsimp only
  generalize d.loadCount n (d.sfld .PS_POS_COUNT n + inc) = e at hload hcount
  obtain ⟨hmoves, hstill, hems, hphase⟩ := e.updateDir_spec hn (hoffs _ (by simp [countOffs])) inc
  generalize e.updateDir n inc = f at hmoves hstill hems hphase
  have hall := (hload.moves.mono (flds' := countFlds ++ [.PS_STAT_DIR]) fun y hy => List.mem_append_left _ hy).trans (hmoves.mono (by simp))
  rw [f.psc_setPsc]
  refine ⟨hall.trans (f.moves_setPsc n _), hems.trans hload.ems, (Dev.samePhase_of_bays hload.bays).trans hphase,
    (hmoves.same.fld (x := .PS_POS_COUNT) (by decide) hn).trans hcount, ?_, hall.tb⟩
  exact hstill.trans (congrArg PsChan.still (hload.psc n))

theorem Dev.mem_pacedBy (h : d.pacedBy n = some b) : b < 4 := List.mem_range.mp (List.mem_of_find?_eq_some h)

theorem Dev.paceOn_spec (d : Dev) (hoffs : ∀ b < 4, trigOffs b offs) (inc : Int) (stamp : Nat) : Dev.Moves offs trigFlds d (d.paceOn n inc stamp) ∧
    (d.paceOn n inc stamp).ps = d.ps ∧ (∀ b, d.pacedBy n = some b → ((d.paceOn n inc stamp).pc b).p = (d.pc b).p + d.phaseStep b inc) ∧
    ∀ k < 4, d.fld .EM_CFG_SRC k ≠ 8 → (d.paceOn n inc stamp).em k = d.em k := by
  unfold Dev.paceOn
  split
  next b hb =>
    obtain ⟨hmoves, hps, hp, hem⟩ := d.pacerIncrement_spec (Dev.mem_pacedBy hb) (hoffs b (Dev.mem_pacedBy hb)) inc stamp
    exact ⟨hmoves, hps, fun c hc => by obtain rfl : b = c := Option.some.inj (hb.symm.trans hc); exact hp, hem⟩
  next hnone => exact ⟨.refl _ _ d, rfl, fun c hc => absurd (hnone.symm.trans hc) (by simp), fun _ _ _ => rfl⟩

/-- `e` is `d` with an increment event at a channel. -/
structure Dev.Increments (offs : List Nat) (n : Nat) (inc : Int) (d e : Dev) : Prop where
  moves : Dev.Moves offs incFlds d e
  still : (e.psc n).still = (d.psc n).still
  stall : (e.psc n).stallFrom = d.tb
  count : e.fld .PS_POS_COUNT n = enc 32 (d.countOf n (d.sfld .PS_POS_COUNT n + inc))
  phase : ∀ b < 4, d.pacedBy n = some b → d.fld .PC_CTL_SENSE b < 2 → (e.pc b).p = (d.pc b).p +
    (if d.fld .PC_CTL_SENSE b = 1 then -inc else inc) * (d.pair .PC_RATLO_FRAC .PC_RATHI_INT b : Int)
  em : ∀ k ∈ d.emulators n (d.psBay n), (e.em k).k = (d.emFed k inc).k

/-- The sense of a pacer that follows no direction (R159). -/
theorem Dev.reverseNow_of_sense (h : d.fld .PC_CTL_SENSE b < 2) : d.reverseNow b = decide (d.fld .PC_CTL_SENSE b = 1) := by
  unfold Dev.reverseNow
  generalize d.fld .PC_CTL_SENSE b = v at h
  obtain rfl | rfl : v = 0 ∨ v = 1 := by omega
  · rfl
  · rfl

theorem Dev.increment_spec (d : Dev) (hn : n < 8) (hoffs : incOffs n offs) (inc : Int) (stamp : Nat) :
    Dev.Increments offs n inc d (d.increment n inc stamp) := by
  obtain ⟨hcount, htrig⟩ := hoffs
  obtain ⟨hmoves, hems, hphase, hpos, hstill, hstall⟩ := d.counts_spec hn hcount inc
  rw [Dev.increment_eq]
  generalize d.counts n inc = e at hmoves hems hphase hpos hstill hstall
  obtain ⟨hmoves', hps, hp, hem⟩ := e.paceOn_spec htrig inc stamp (n := n)
  generalize e.paceOn n inc stamp = f at hmoves' hps hp hem
  have hfeed := Dev.emulate_foldl_feeds (htrig 0 (by decide)).2.2 (fun _ => inc) (f.emulators n (f.psBay n)) (fun k hk => (Dev.mem_emulators hk).1) f
  have hef := (hmoves.mono (flds' := incFlds) (by decide)).trans (hmoves'.mono (by decide))
  have hpaced : e.pacedBy n = d.pacedBy n := Dev.pacedBy_congr hmoves.same (by decide) (by decide) (fun c => (hphase c).2) n
  have hlist : f.emulators n (f.psBay n) = d.emulators n (d.psBay n) := by
    rw [Dev.psBay_congr hef.same (by decide), Dev.emulators_congr hef.same (by decide) (by decide) (by decide)]
  refine ⟨hef.trans (hfeed.moves.mono (by decide)), ?_, ?_, ?_, fun b hb hpace hsense => ?_, fun k hk => ?_⟩
  · unfold Dev.psc; rw [hfeed.ps, hps]; exact hstill
  · unfold Dev.psc; rw [hfeed.ps, hps]; exact hstall
  · exact (hfeed.moves.same.fld (x := .PS_POS_COUNT) (by decide) hn).trans ((hmoves'.same.fld (x := .PS_POS_COUNT) (by decide) hn).trans hpos)
  · have hpc (g : Dev) (hg : Dev.Feeds offs f g) : g.pc b = f.pc b := by unfold Dev.pc Dev.bay; rw [hg.bays]
    have hsense' : e.fld .PC_CTL_SENSE b = d.fld .PC_CTL_SENSE b := hmoves.same.fld (x := .PC_CTL_SENSE) (by decide) hb
    have hpair : e.pair .PC_RATLO_FRAC .PC_RATHI_INT b = d.pair .PC_RATLO_FRAC .PC_RATHI_INT b := by
      unfold Dev.pair
      rw [hmoves.same.fld (x := .PC_RATLO_FRAC) (by decide) hb, hmoves.same.fld (x := .PC_RATHI_INT) (by decide) hb]
    rw [hpc _ hfeed, hp b (hpaced.trans hpace), (hphase b).1, Dev.phaseStep, Dev.reverseNow_of_sense (by rw [hsense']; exact hsense), hsense', hpair]
    simp only [decide_eq_true_eq]
  · obtain ⟨hlt, hsrc⟩ := Dev.mem_emulators hk
    have hsrc' : e.fld .EM_CFG_SRC k ≠ 8 := by rw [hmoves.same.fld (x := .EM_CFG_SRC) (by decide) hlt, hsrc]; omega
    have hemk : f.em k = d.em k := (hem k hlt hsrc').trans (by unfold Dev.em; rw [hems])
    rw [hlist, Dev.emulate_foldl_em inc _ (fun k hk => (Dev.mem_emulators hk).1) (d.nodup_emulators _ _) hk f,
      Dev.emFed_congr hef.same hlt hemk (by decide) (by decide)]

end Sys2Proof.Machine
end

section
/-! PROOFS. The over-rate sub-windows, SSI frames and stall watches of position channels (R145, R149, R150, R155). -/

namespace Sys2Proof.Machine

variable {d e f : Dev} {offs : List Nat} {flds : List Fld} {n : Nat}

/-! ## Signals and pins -/

theorem Dev.writes_signal (d : Dev) (source unit : Nat) : Dev.Writes offs flds d (d.signal source unit) := (d.reported_signal source unit).writes

/-- A signal says its unit and when it came. -/
theorem Dev.signal_tells (d : Dev) (source unit : Nat) : ∃ g ∈ (d.signal source unit).fc.sigs, g.source = source ∧ g.unit = unit ∧ g.stamp = d.tb :=
  ⟨_, List.mem_append_right _ List.mem_cons_self, rfl, rfl, rfl⟩

/-- A fault of a channel is raised: told unless its flag stood, and signalled. -/
def Dev.raised (d : Dev) (was : Bool) (bay : Option Nat) (code n d0 d1 source : Nat) : Dev :=
  Dev.signal (if was then d else d.unitEvent bay 1 code n d0 d1) source n

section
variable (d : Dev) (was : Bool) (bay : Option Nat) (code n d0 d1 source : Nat)

theorem Dev.raised_writes : Dev.Writes offs flds d (d.raised was bay code n d0 d1 source) :=
  (d.writes_event was bay 1 code n d0 d1).trans (Dev.writes_signal _ source n)

theorem Dev.raised_tells : ∃ g ∈ (d.raised was bay code n d0 d1 source).fc.sigs, g.source = source ∧ g.unit = n ∧ g.stamp = d.tb := by
  rw [← Dev.tb_of_quiet (d.writes_event (offs := []) (flds := []) was bay 1 code n d0 d1).quiet]
  exact Dev.signal_tells _ source n

theorem Dev.raised_first : d.raised false bay code n d0 d1 source = (d.unitEvent bay 1 code n d0 d1).signal source n := rfl

end

/-- A pin changes its level alone. -/
theorem Dev.psPin_spec (d : Dev) (n : Nat) : (d.psPin n).regs = d.regs ∧ (d.psPin n).ground = d.ground ∧ (d.psPin n).fc = d.fc ∧
    (d.psPin n).bays = d.bays ∧ (d.psPin n).ems = d.ems ∧ (d.psPin n).psc n = { d.psc n with out := ((d.psPin n).psc n).out } := by
  unfold Dev.psPin
  dsimp only
  split
  · exact ⟨rfl, rfl, rfl, rfl, rfl, rfl⟩
  · have hpin := (d.setPsc n { d.psc n with out := d.psOut n }).unpinned_pinOut n (d.psOut n)
    generalize (d.setPsc n { d.psc n with out := d.psOut n }).pinOut n (d.psOut n) = e at hpin
    have hpsc : e.psc n = { d.psc n with out := d.psOut n } :=
      (Dev.of_unpinned (fun d => d.psc n) (fun _ => rfl) hpin).trans (d.psc_setPsc n _)
    exact ⟨(Dev.regs_of_unpinned hpin :), (Dev.of_unpinned Dev.ground (fun _ => rfl) hpin :), (Dev.of_unpinned Dev.fc (fun _ => rfl) hpin :),
      (Dev.of_unpinned Dev.bays (fun _ => rfl) hpin :), (Dev.of_unpinned Dev.ems (fun _ => rfl) hpin :), by rw [hpsc]⟩

/-! ## Over-rate sub-windows -/

theorem exec_overrateSubwindow (n : Fin 8) (s : State) : exec (.overrateSubwindow n) s =
    s.onDev (fun d => d.running && decide ((d.psc n).subEnd ≤ d.tb)) fun d => d.subWindowEnd n := rfl
theorem exec_ssiFrameStart (n : Fin 8) (idleLow : Bool) (s : State) : exec (.ssiFrameStart n idleLow) s =
    s.onDev (fun d => d.ssiDue n) fun d => d.ssiStart n idleLow := rfl
theorem exec_ssiWordDecoded (n : Fin 8) (raw : Nat) (s : State) : exec (.ssiWordDecoded n raw) s =
    s.onDev (fun d => d.running && d.ssiEndDue n) fun d => (d.ssiDecode n raw).psPin n := rfl
theorem exec_stallTimeout (n : Fin 8) (s : State) : exec (.stallTimeout n) s =
    s.onDev (fun d => d.running && d.stallDue n) fun d => d.stallFire n := rfl

/-- The bad sub-windows in a row, with the one that ends. -/
def PsChan.badRow (x : PsChan) : Nat := if x.subBad then x.badRun + 1 else 0

/-- The channel in its next sub-window. -/
def PsChan.nextSub (x : PsChan) (now : Nat) : PsChan :=
  { x with subEnd := x.subEnd + 2000, subBad := false, badRun := if x.badRow = 100 then 0 else x.badRow, lastBad := if x.subBad then some now else x.lastBad }

theorem PsChan.badRow_of_bad {x : PsChan} (h : x.subBad = true) : x.badRow = x.badRun + 1 := if_pos h
theorem PsChan.badRow_of_good {x : PsChan} (h : x.subBad = false) : x.badRow = 0 := if_neg (by simp [h])
theorem PsChan.nextSub_badRun {x : PsChan} {now : Nat} (h : x.badRow ≠ 100) : (x.nextSub now).badRun = x.badRow := if_neg h

/-- The bad sub-window counts. -/
def Dev.subCounted (d : Dev) (n : Nat) : Dev :=
  let e := d.setPsc n ((d.psc n).nextSub d.now)
  if (d.psc n).subBad then e.bump .PS_ERRCNT_OVRATE n 0 else e

/-- CHATTER sets, is told, and is signalled (R145). -/
def Dev.chatters (d : Dev) (n : Nat) : Dev :=
  let e := d.setOn .PS_STAT_CHATTER n 0 true
  e.raised (d.on .PS_STAT_CHATTER n) (e.psBay n) 0x0600 n (e.fld .PS_POS_COUNT n) (e.fld .PS_ERRCNT_OVRATE n) srcPsChatter

theorem Dev.subWindowEnd_eq (d : Dev) (n : Nat) :
    d.subWindowEnd n = if (d.psc n).badRow = 100 then (d.subCounted n).chatters n else d.subCounted n := rfl

/-- The registers of a sub-window. -/
def subOffs (n : Nat) : List Nat := [RegName.off .PS_ERRCNT n 0, RegName.off .PS_STAT n 0]

theorem Dev.subCounted_spec (d : Dev) (hn : n < 8) : Dev.Moves (subOffs n) [.PS_ERRCNT_OVRATE] d (d.subCounted n) ∧
    (d.subCounted n).psc n = (d.psc n).nextSub d.now ∧
    (d.subCounted n).fld .PS_ERRCNT_OVRATE n =
      if (d.psc n).subBad then min (d.fld .PS_ERRCNT_OVRATE n + 1) 255 else d.fld .PS_ERRCNT_OVRATE n := by
  have hput := (d.setPsc n ((d.psc n).nextSub d.now)).writes_bump (y := .PS_ERRCNT_OVRATE) (offs := subOffs n) (flds := [.PS_ERRCNT_OVRATE])
    List.mem_cons_self (by decide) hn (by simp [subOffs]) 1
  have hpsc := d.psc_setPsc n ((d.psc n).nextSub d.now)
  have hmove : Dev.Moves (subOffs n) [.PS_ERRCNT_OVRATE] d (d.setPsc n ((d.psc n).nextSub d.now)) := d.moves_setPsc n _
  unfold Dev.subCounted
  dsimp only
  split
  · exact ⟨hmove.trans hput.moves, (hput.psc n).trans hpsc, Dev.fld_bump _ .PS_ERRCNT_OVRATE n 0 1 (by decide)⟩
  · exact ⟨hmove, hpsc, rfl⟩

theorem Dev.chatters_spec (d : Dev) (hn : n < 8) : Dev.Writes (subOffs n) [.PS_STAT_CHATTER] d (d.chatters n) ∧
    (d.chatters n).on .PS_STAT_CHATTER n = true ∧ (∃ g ∈ (d.chatters n).fc.sigs, g.source = srcPsChatter ∧ g.unit = n ∧ g.stamp = d.tb) ∧
    (d.on .PS_STAT_CHATTER n = false → ∃ f : Dev, d.chatters n =
      (f.unitEvent (f.psBay n) 1 0x0600 n (f.fld .PS_POS_COUNT n) (f.fld .PS_ERRCNT_OVRATE n)).signal srcPsChatter n) := by
  have hset := d.writes_setOn (y := .PS_STAT_CHATTER) (offs := subOffs n) (flds := [.PS_STAT_CHATTER]) List.mem_cons_self (by decide) hn
    (by simp [subOffs]) true
  have hon : (d.setOn .PS_STAT_CHATTER n 0 true).on .PS_STAT_CHATTER n = true := d.on_setOn .PS_STAT_CHATTER n 0 true (by decide) (by decide)
  unfold Dev.chatters
  dsimp only
  generalize d.setOn .PS_STAT_CHATTER n 0 true = e at hset hon
  have hraised (flds : List Fld) := e.raised_writes (offs := subOffs n) (flds := flds) (d.on .PS_STAT_CHATTER n) (e.psBay n) 0x0600 n
    (e.fld .PS_POS_COUNT n) (e.fld .PS_ERRCNT_OVRATE n) srcPsChatter
  refine ⟨hset.trans (hraised _), ((hraised []).same.on (x := .PS_STAT_CHATTER) (by decide) hn).trans hon, ?_,
    fun hoff => ⟨e, by rw [hoff, Dev.raised_first]⟩⟩
  rw [← Dev.tb_of_quiet hset.quiet]
  exact e.raised_tells _ _ _ _ _ _ _

/-- The hundredth bad sub-window in a row. -/
theorem Dev.subWindowEnd_chatters (hrow : (d.psc n).badRow = 100) : d.subWindowEnd n = (d.subCounted n).chatters n := by
  rw [Dev.subWindowEnd_eq, if_pos hrow]

theorem Dev.subWindowEnd_quiet (hrow : (d.psc n).badRow ≠ 100) : d.subWindowEnd n = d.subCounted n := by
  rw [Dev.subWindowEnd_eq, if_neg hrow]

/-- What every end of a sub-window leaves. -/
theorem Dev.subWindowEnd_spec (d : Dev) (hn : n < 8) : d.regsBut (subOffs n) (d.subWindowEnd n) ∧ (d.subWindowEnd n).psc n = (d.psc n).nextSub d.now ∧
    (d.subWindowEnd n).fld .PS_ERRCNT_OVRATE n =
      if (d.psc n).subBad then min (d.fld .PS_ERRCNT_OVRATE n + 1) 255 else d.fld .PS_ERRCNT_OVRATE n := by
  obtain ⟨hmoves, hpsc, hcount⟩ := d.subCounted_spec hn
  by_cases hrow : (d.psc n).badRow = 100
  · obtain ⟨hput, -, -, -⟩ := (d.subCounted n).chatters_spec hn
    rw [Dev.subWindowEnd_chatters hrow]
    exact ⟨hmoves.regs.trans hput.regs, (hput.psc n).trans hpsc, (hput.same.fld (x := .PS_ERRCNT_OVRATE) (by decide) hn).trans hcount⟩
  · rw [Dev.subWindowEnd_quiet hrow]
    exact ⟨hmoves.regs, hpsc, hcount⟩

theorem Dev.subWindowEnd_chatter_of_ne (hn : n < 8) (hrow : (d.psc n).badRow ≠ 100) :
    (d.subWindowEnd n).fld .PS_STAT_CHATTER n = d.fld .PS_STAT_CHATTER n := by
  rw [Dev.subWindowEnd_quiet hrow]
  exact (d.subCounted_spec hn).1.same.fld (x := .PS_STAT_CHATTER) (by decide) hn

theorem Dev.subWindowEnd_chatter (d : Dev) (hn : n < 8) (hrow : (d.psc n).badRow = 100) : (d.subWindowEnd n).on .PS_STAT_CHATTER n = true ∧
    (∃ g ∈ (d.subWindowEnd n).fc.sigs, g.source = srcPsChatter ∧ g.unit = n ∧ g.stamp = d.tb) ∧
    (d.on .PS_STAT_CHATTER n = false → ∃ f : Dev, d.subWindowEnd n =
      (f.unitEvent (f.psBay n) 1 0x0600 n (f.fld .PS_POS_COUNT n) (f.fld .PS_ERRCNT_OVRATE n)).signal srcPsChatter n) := by
  obtain ⟨hmoves, -, -⟩ := d.subCounted_spec hn
  obtain ⟨-, hon, htell, hfirst⟩ := (d.subCounted n).chatters_spec hn
  rw [Dev.subWindowEnd_chatters hrow]
  rw [hmoves.tb] at htell
  rw [hmoves.same.on (x := .PS_STAT_CHATTER) (by decide) hn] at hfirst
  exact ⟨hon, htell, hfirst⟩

/-! ## Stall watches -/

theorem Dev.stallFire_eq (d : Dev) (n : Nat) : d.stallFire n =
    let e := (d.setPsc n { d.psc n with stalled := true }).setOn .PS_STAT_STALL n 0 true
    e.raised (d.on .PS_STAT_STALL n) (e.psBay n) 0x0601 n (e.fld .PS_POS_COUNT n) (e.fld .PS_STALL_TIMEOUT n) srcPsStall := rfl

/-- STALL sets, is told, and is signalled (R155). -/
theorem Dev.stallFire_spec (d : Dev) (hn : n < 8) : d.regsBut [RegName.off .PS_STAT n 0] (d.stallFire n) ∧
    (d.stallFire n).on .PS_STAT_STALL n = true ∧ (∃ g ∈ (d.stallFire n).fc.sigs, g.source = srcPsStall ∧ g.unit = n ∧ g.stamp = d.tb) ∧
    ((d.stallFire n).psc n).stalled = true ∧ (d.stallFire n).fld .PS_POS_COUNT n = d.fld .PS_POS_COUNT n ∧
    (d.on .PS_STAT_STALL n = false → ∃ f : Dev, d.stallFire n =
      (f.unitEvent (d.psBay n) 1 0x0601 n (d.fld .PS_POS_COUNT n) (d.fld .PS_STALL_TIMEOUT n)).signal srcPsStall n) := by
  have hput := (d.setPsc n { d.psc n with stalled := true }).writes_setOn (y := .PS_STAT_STALL) (offs := [RegName.off .PS_STAT n 0])
    (flds := [.PS_STAT_STALL]) List.mem_cons_self (by decide) hn List.mem_cons_self true
  have hon := (d.setPsc n { d.psc n with stalled := true }).on_setOn .PS_STAT_STALL n 0 true (by decide) (by decide)
  have hset : Dev.Moves [RegName.off .PS_STAT n 0] [.PS_STAT_STALL] d _ := (d.moves_setPsc n { d.psc n with stalled := true }).trans hput.moves
  have hpsc := (hput.psc n).trans (d.psc_setPsc n _)
  rw [Dev.stallFire_eq]
  dsimp only
  generalize (d.setPsc n { d.psc n with stalled := true }).setOn .PS_STAT_STALL n 0 true = e at hput hon hset hpsc
  have hpos : e.fld .PS_POS_COUNT n = d.fld .PS_POS_COUNT n := hset.same.fld (x := .PS_POS_COUNT) (by decide) hn
  rw [Dev.psBay_congr hset.same (by decide) n, hpos, hset.same.fld (x := .PS_STALL_TIMEOUT) (by decide) hn]
  have hraised (flds : List Fld) := e.raised_writes (offs := [RegName.off .PS_STAT n 0]) (flds := flds) (d.on .PS_STAT_STALL n) (d.psBay n) 0x0601 n
    (d.fld .PS_POS_COUNT n) (d.fld .PS_STALL_TIMEOUT n) srcPsStall
  refine ⟨hset.regs.trans (hraised []).regs, ((hraised []).same.on (x := .PS_STAT_STALL) (by decide) hn).trans hon, ?_, ?_,
    ((hraised []).same.fld (x := .PS_POS_COUNT) (by decide) hn).trans hpos, fun hoff => ⟨e, by rw [hoff, Dev.raised_first]⟩⟩
  · rw [← hset.tb]
    exact e.raised_tells _ _ _ _ _ _ _
  · rw [(hraised []).psc n, hpsc]

theorem Dev.stallDue_of_stalled (h : (d.psc n).stalled = true) : d.stallDue n = false := by
  simp [Dev.stallDue, h]

/-! ## SSI frames -/

theorem Dev.ssiDue_of_running {x : Nat × Bool} (h : (d.psc n).ssi = some x) : d.ssiDue n = false := by
  simp [Dev.ssiDue, h]

/-- A frame starts. -/
def PsChan.clocked (x : PsChan) (tb period : Nat) (idle : Bool) : PsChan := { x with ssi := some (tb, idle), ssiNext := tb + 20 * period }

theorem Dev.ssiStart_spec (d : Dev) (n : Nat) (idle : Bool) : (d.ssiStart n idle).regs = d.regs ∧
    (d.ssiStart n idle).psc n = (d.psc n).clocked d.tb (d.fld .PS_SSIT_PERIOD n) idle ∧
    (d.ssiStart n idle).out = .ssiClock n d.tb (2 * (d.fld .PS_SSI_CLKDIV n + 1)) (d.fld .PS_SSI_BITS n) (d.fld .PS_SSI_SDLY n) :: d.out :=
  ⟨rfl, d.psc_setPsc n _, rfl⟩

/-- The word of a frame (R150). -/
def Dev.ssiWord (d : Dev) (n raw : Nat) : Nat :=
  if d.on .PS_SSI_GRAY n then grayDecode (d.fld .PS_SSI_BITS n) (raw % 2 ^ d.fld .PS_SSI_BITS n) else raw % 2 ^ d.fld .PS_SSI_BITS n

/-- The step of a word from the reference. -/
def Dev.ssiStep (d : Dev) (n w prev : Nat) : Int :=
  sgn (d.fld .PS_SSI_BITS n) ((w + 2 ^ d.fld .PS_SSI_BITS n - prev) % 2 ^ d.fld .PS_SSI_BITS n)

/-- A step that is too far (R150). -/
def Dev.ssiFar (d : Dev) (n : Nat) (v : Int) : Bool := decide ((d.fld .PS_SSIT_MAXSTEP n : Int) < (if v < 0 then -v else v))

/-- An SSI error: counted, told and signalled. -/
def Dev.ssiBad (d : Dev) (n raw : Nat) (idle : Bool) : Dev :=
  let e := ((d.setPsc n { d.psc n with lastBad := some d.now }).setOn .PS_STAT_SSIERR n 0 true).bump .PS_ERRCNT_SSIERR n 0
  e.raised (d.on .PS_STAT_SSIERR n) (e.psBay n) 0x0605 n (raw % 2 ^ d.fld .PS_SSI_BITS n) (if idle then 0 else 1) srcPsInput

/-- A good word: the first sets the reference, a later one counts its step. -/
def Dev.ssiGood (d : Dev) (n w stamp : Nat) (prev : Option Nat) (v : Int) : Dev :=
  let e := d.setPsc n { d.psc n with ssiPrev := some w }
  if prev.isNone then e else e.increment n v stamp

/-- The frame is over. -/
def Dev.ssiOver (d : Dev) (n : Nat) : Dev := d.setPsc n { d.psc n with ssi := none }

theorem Dev.ssiDecode_eq {raw stamp : Nat} {idle : Bool} (h : (d.psc n).ssi = some (stamp, idle)) : d.ssiDecode n raw =
    if d.psFenced n then d.ssiOver n
    else if idle || d.ssiFar n (d.ssiStep n (d.ssiWord n raw) ((d.psc n).ssiPrev.getD (d.ssiWord n raw))) then (d.ssiOver n).ssiBad n raw idle
    else (d.ssiOver n).ssiGood n (d.ssiWord n raw) stamp (d.psc n).ssiPrev (d.ssiStep n (d.ssiWord n raw) ((d.psc n).ssiPrev.getD (d.ssiWord n raw))) := by
  unfold Dev.ssiDecode
  dsimp only
  rw [h]
  rfl

/-- The registers of channels that inputs change, and those of the pacers and emulation outputs that follow. -/
def edgeOffs : List Nat :=
  ((List.finRange 8).flatMap fun k => [RegName.off .PS_STAT k 0, RegName.off .PS_POS k 0, RegName.off .PS_ERRCNT k 0, RegName.off .PS_ZLAT k 0]) ++
    ((List.finRange 4).flatMap fun b => [RegName.off .PC_PERIOD b 0, RegName.off .PT_TRIGDLY b 0, RegName.off .EM_LOST b 0, RegName.off .EM_STAT b 0])

theorem edgeOffs_channel : ∀ n < 8, RegName.off .PS_STAT n 0 ∈ edgeOffs ∧ RegName.off .PS_POS n 0 ∈ edgeOffs ∧ RegName.off .PS_ERRCNT n 0 ∈ edgeOffs ∧
    RegName.off .PS_ZLAT n 0 ∈ edgeOffs := by decide

theorem edgeOffs_pacing : ∀ b < 4, RegName.off .PC_PERIOD b 0 ∈ edgeOffs ∧ RegName.off .PT_TRIGDLY b 0 ∈ edgeOffs ∧ RegName.off .EM_LOST b 0 ∈ edgeOffs ∧
    RegName.off .EM_STAT b 0 ∈ edgeOffs := by decide

theorem incOffs_edgeOffs (hn : n < 8) : incOffs n edgeOffs := by
  obtain ⟨hstat, hpos, -, -⟩ := edgeOffs_channel n hn
  refine ⟨by simp [countOffs, hstat, hpos], fun b hb => ?_⟩
  obtain ⟨hperiod, hdelay, -, -⟩ := edgeOffs_pacing b hb
  exact ⟨hperiod, hdelay, fun k hk => (edgeOffs_pacing k hk).2.2⟩

/-- The fields of an SSI error. -/
def ssiFlds : List Fld := [.PS_STAT_SSIERR, .PS_ERRCNT_SSIERR]

theorem Dev.ssiBad_spec (d : Dev) (hn : n < 8) (raw : Nat) (idle : Bool) : Dev.Moves edgeOffs ssiFlds d (d.ssiBad n raw idle) ∧
    (d.ssiBad n raw idle).on .PS_STAT_SSIERR n = true ∧ (d.ssiBad n raw idle).fld .PS_ERRCNT_SSIERR n = min (d.fld .PS_ERRCNT_SSIERR n + 1) 255 ∧
    (d.ssiBad n raw idle).psc n = { d.psc n with lastBad := some d.now } ∧
    ∃ g ∈ (d.ssiBad n raw idle).fc.sigs, g.source = srcPsInput ∧ g.unit = n := by
  obtain ⟨hstat, -, hcnt, -⟩ := edgeOffs_channel n hn
  have hmove : Dev.Moves edgeOffs ssiFlds d (d.setPsc n { d.psc n with lastBad := some d.now }) := d.moves_setPsc n _
  have hpsc := d.psc_setPsc n { d.psc n with lastBad := some d.now }
  have hregs : (d.setPsc n { d.psc n with lastBad := some d.now }).regs = d.regs := rfl
  unfold Dev.ssiBad
  dsimp only
  generalize d.setPsc n { d.psc n with lastBad := some d.now } = e at hmove hpsc hregs
  have hset := e.writes_setOn (y := .PS_STAT_SSIERR) (offs := edgeOffs) (flds := [.PS_STAT_SSIERR]) List.mem_cons_self (by decide) hn hstat true
  have hon := e.on_setOn .PS_STAT_SSIERR n 0 true (by decide) (by decide)
  generalize e.setOn .PS_STAT_SSIERR n 0 true = f at hset hon
  have hbump := f.writes_bump (y := .PS_ERRCNT_SSIERR) (offs := edgeOffs) (flds := [.PS_ERRCNT_SSIERR]) List.mem_cons_self (by decide) hn hcnt 1
  have hcount := f.fld_bump .PS_ERRCNT_SSIERR n 0 1 (by decide)
  generalize f.bump .PS_ERRCNT_SSIERR n 0 = g at hbump hcount
  have hraised (flds : List Fld) := g.raised_writes (offs := edgeOffs) (flds := flds) (d.on .PS_STAT_SSIERR n) (g.psBay n) 0x0605 n
    (raw % 2 ^ d.fld .PS_SSI_BITS n) (if idle then 0 else 1) srcPsInput
  obtain ⟨z, hz, hsource, hunit, -⟩ := g.raised_tells (d.on .PS_STAT_SSIERR n) (g.psBay n) 0x0605 n (raw % 2 ^ d.fld .PS_SSI_BITS n)
    (if idle then 0 else 1) srcPsInput
  generalize g.raised (d.on .PS_STAT_SSIERR n) (g.psBay n) 0x0605 n (raw % 2 ^ d.fld .PS_SSI_BITS n) (if idle then 0 else 1) srcPsInput = r
    at hraised hz
  refine ⟨hmove.trans (((hset.mono (by decide)).trans (hbump.mono (by decide))).trans (hraised _)).moves, ?_, ?_, ?_, z, hz, hsource, hunit⟩
  · exact ((hbump.trans (hraised _)).same.on (x := .PS_STAT_SSIERR) (by decide) hn).trans hon
  · rw [(hraised []).same.fld (x := .PS_ERRCNT_SSIERR) (by decide) hn, hcount, hset.same.fld (x := .PS_ERRCNT_SSIERR) (by decide) hn,
      Dev.fld_congr hregs]
    rfl
  · rw [(hraised []).psc, hbump.psc, hset.psc, hpsc]

/-- The first good word. -/
theorem Dev.ssiGood_first (d : Dev) (n w stamp : Nat) (v : Int) :
    d.ssiGood n w stamp none v = d.setPsc n { d.psc n with ssiPrev := some w } := rfl

/-- The count after an increment depends on registers alone. -/
theorem Dev.countNext_congr (hn : n < 8) (h : e.regs = d.regs) (v : Int) :
    e.countOf n (e.sfld .PS_POS_COUNT n + v) = d.countOf n (d.sfld .PS_POS_COUNT n + v) := by
  have hsame : Dev.sameFlds [] d e := Dev.sameFlds_of_regs h
  rw [Dev.countOf_congr hsame hn (by decide) (by decide) (by decide), hsame.sfld (x := .PS_POS_COUNT) (by decide) hn]

/-- A later good word. -/
theorem Dev.ssiGood_spec (d : Dev) (hn : n < 8) (w stamp prev : Nat) (v : Int) : d.regsBut edgeOffs (d.ssiGood n w stamp (some prev) v) ∧
    ((d.ssiGood n w stamp (some prev) v).psc n).still = { d.psc n with ssiPrev := some w }.still ∧
    ((d.ssiGood n w stamp (some prev) v).psc n).stallFrom = d.tb ∧
    (d.ssiGood n w stamp (some prev) v).fld .PS_POS_COUNT n = enc 32 (d.countOf n (d.sfld .PS_POS_COUNT n + v)) := by
  have hregs : (d.setPsc n { d.psc n with ssiPrev := some w }).regs = d.regs := rfl
  have htb : (d.setPsc n { d.psc n with ssiPrev := some w }).tb = d.tb := rfl
  have hpsc := d.psc_setPsc n { d.psc n with ssiPrev := some w }
  have hgood : d.ssiGood n w stamp (some prev) v = (d.setPsc n { d.psc n with ssiPrev := some w }).increment n v stamp := rfl
  rw [hgood]
  generalize d.setPsc n { d.psc n with ssiPrev := some w } = e at hregs htb hpsc
  obtain ⟨hmoves, hstill, hstall, hcount, -, -⟩ := e.increment_spec hn (incOffs_edgeOffs hn) v stamp
  rw [Dev.countNext_congr hn hregs] at hcount
  exact ⟨(Dev.regsBut_of_regs hregs).trans hmoves.regs, by rw [hstill, hpsc], hstall.trans htb, hcount⟩

/-- What a frame that ends leaves whatever its word. -/
theorem Dev.ssiDecode_ends (d : Dev) (hn : n < 8) {raw stamp : Nat} {idle : Bool} (h : (d.psc n).ssi = some (stamp, idle)) :
    d.regsBut edgeOffs (d.ssiDecode n raw) ∧ ((d.ssiDecode n raw).psc n).ssi = none := by
  have hover : (d.ssiOver n).psc n = { d.psc n with ssi := none } := d.psc_setPsc n _
  have hregs : (d.ssiOver n).regs = d.regs := rfl
  have hstart : d.regsBut edgeOffs (d.ssiOver n) := Dev.regsBut_of_regs hregs
  rw [Dev.ssiDecode_eq h]
  generalize d.ssiOver n = e at hover hstart
  split
  · exact ⟨hstart, by rw [hover]⟩
  · split
    · obtain ⟨hmoves, -, -, hpsc, -⟩ := e.ssiBad_spec hn raw idle
      exact ⟨hstart.trans hmoves.regs, by rw [hpsc, hover]⟩
    · cases (d.psc n).ssiPrev with
      | none =>
        rw [Dev.ssiGood_first, Dev.psc_setPsc, hover]
        exact ⟨hstart.trans (Dev.regsBut_of_regs rfl), rfl⟩
      | some prev =>
        obtain ⟨hmoves, hstill, -, -⟩ := e.ssiGood_spec hn (d.ssiWord n raw) stamp prev (d.ssiStep n (d.ssiWord n raw) ((some prev).getD (d.ssiWord n raw)))
        exact ⟨hstart.trans hmoves, (PsChan.of_still PsChan.ssi (fun _ => rfl) hstill).trans (by rw [hover])⟩

/-- The step of a first word is 0, and none is too far. -/
theorem Dev.ssiFar_first (d : Dev) (n w : Nat) : d.ssiFar n (d.ssiStep n w w) = false := by
  have hstep : d.ssiStep n w w = 0 := by
    unfold Dev.ssiStep
    rw [Nat.add_sub_cancel_left, Nat.mod_self]
    exact if_pos (Nat.two_pow_pos _)
  rw [hstep]
  exact decide_eq_false (by simp)

theorem Dev.ssiFar_iff (d : Dev) (n : Nat) (v : Int) : d.ssiFar n v = true ↔ (d.fld .PS_SSIT_MAXSTEP n : Int) < v ∨ v < -(d.fld .PS_SSIT_MAXSTEP n : Int) := by
  unfold Dev.ssiFar
  rw [decide_eq_true_iff]
  split <;> omega

section
variable {raw stamp : Nat} {idle : Bool} (h : (d.psc n).ssi = some (stamp, idle))
include h

theorem Dev.ssiDecode_fenced (hfenced : d.psFenced n = true) : d.ssiDecode n raw = d.ssiOver n := by
  rw [Dev.ssiDecode_eq h, if_pos hfenced]

theorem Dev.ssiDecode_bad (hfenced : d.psFenced n = false)
    (hbad : idle = true ∨ d.ssiFar n (d.ssiStep n (d.ssiWord n raw) ((d.psc n).ssiPrev.getD (d.ssiWord n raw))) = true) :
    d.ssiDecode n raw = (d.ssiOver n).ssiBad n raw idle := by
  rw [Dev.ssiDecode_eq h, if_neg (by simp [hfenced]), if_pos (by simpa using hbad)]

theorem Dev.ssiDecode_good (hfenced : d.psFenced n = false) (hidle : idle = false)
    (hnear : d.ssiFar n (d.ssiStep n (d.ssiWord n raw) ((d.psc n).ssiPrev.getD (d.ssiWord n raw))) = false) : d.ssiDecode n raw =
    (d.ssiOver n).ssiGood n (d.ssiWord n raw) stamp (d.psc n).ssiPrev (d.ssiStep n (d.ssiWord n raw) ((d.psc n).ssiPrev.getD (d.ssiWord n raw))) := by
  rw [Dev.ssiDecode_eq h, if_neg (by simp [hfenced]), if_neg (by simp [hidle, hnear])]

end

/-- The channel after its frame. -/
theorem Dev.ssiOver_spec (d : Dev) (n : Nat) : (d.ssiOver n).regs = d.regs ∧ (d.ssiOver n).tb = d.tb ∧ (d.ssiOver n).psc n = { d.psc n with ssi := none } :=
  ⟨rfl, rfl, d.psc_setPsc n _⟩

/-- A word on a fenced channel, and a first good one, leave every register. -/
theorem Dev.ssiDecode_quiet {raw stamp : Nat} {idle : Bool} (h : (d.psc n).ssi = some (stamp, idle)) :
    (d.psFenced n = true → (d.ssiDecode n raw).regs = d.regs ∧ ((d.ssiDecode n raw).psc n).ssiPrev = (d.psc n).ssiPrev) ∧
    (d.psFenced n = false → (d.psc n).ssiPrev = none → idle = false →
      (d.ssiDecode n raw).regs = d.regs ∧ ((d.ssiDecode n raw).psc n).ssiPrev = some (d.ssiWord n raw)) := by
  obtain ⟨hregs, -, hpsc⟩ := d.ssiOver_spec n
  refine ⟨fun hfenced => ?_, fun hfenced hfirst hidle => ?_⟩
  · rw [Dev.ssiDecode_fenced h hfenced]
    exact ⟨hregs, by rw [hpsc]⟩
  · have hnear : d.ssiFar n (d.ssiStep n (d.ssiWord n raw) ((d.psc n).ssiPrev.getD (d.ssiWord n raw))) = false := by
      rw [hfirst]; exact d.ssiFar_first n _
    rw [Dev.ssiDecode_good h hfenced hidle hnear, hfirst, Dev.ssiGood_first, Dev.psc_setPsc]
    exact ⟨hregs, rfl⟩

/-- A word that is an error leaves the reference. -/
theorem Dev.ssiDecode_error {raw stamp : Nat} {idle : Bool} (hn : n < 8) (h : (d.psc n).ssi = some (stamp, idle)) (hfenced : d.psFenced n = false)
    (hbad : idle = true ∨ d.ssiFar n (d.ssiStep n (d.ssiWord n raw) ((d.psc n).ssiPrev.getD (d.ssiWord n raw))) = true) :
    (d.ssiDecode n raw).on .PS_STAT_SSIERR n = true ∧ (d.ssiDecode n raw).fld .PS_ERRCNT_SSIERR n = min (d.fld .PS_ERRCNT_SSIERR n + 1) 255 ∧
    ((d.ssiDecode n raw).psc n).ssiPrev = (d.psc n).ssiPrev ∧ (d.ssiDecode n raw).fld .PS_POS_COUNT n = d.fld .PS_POS_COUNT n ∧
    ∃ g ∈ (d.ssiDecode n raw).fc.sigs, g.source = srcPsInput ∧ g.unit = n := by
  obtain ⟨hregs, -, hover⟩ := d.ssiOver_spec n
  rw [Dev.ssiDecode_bad h hfenced hbad]
  obtain ⟨hmoves, hon, hcount, hpsc, htell⟩ := (d.ssiOver n).ssiBad_spec hn raw idle
  rw [Dev.fld_congr hregs] at hcount
  exact ⟨hon, hcount, by rw [hpsc, hover], (hmoves.same.fld (x := .PS_POS_COUNT) (by decide) hn).trans (Dev.fld_congr hregs _ _ _), htell⟩

/-- A later good word counts its step. -/
theorem Dev.ssiDecode_counts {raw stamp prev : Nat} (hn : n < 8) (h : (d.psc n).ssi = some (stamp, false)) (hfenced : d.psFenced n = false)
    (hprev : (d.psc n).ssiPrev = some prev) (hnear : d.ssiFar n (d.ssiStep n (d.ssiWord n raw) prev) = false) :
    ((d.ssiDecode n raw).psc n).ssiPrev = some (d.ssiWord n raw) ∧ ((d.ssiDecode n raw).psc n).stallFrom = d.tb ∧
    (d.ssiDecode n raw).fld .PS_POS_COUNT n = enc 32 (d.countOf n (d.sfld .PS_POS_COUNT n + d.ssiStep n (d.ssiWord n raw) prev)) := by
  have hgood := Dev.ssiDecode_good (raw := raw) h hfenced rfl (by rw [hprev]; exact hnear)
  rw [hprev, Option.getD_some] at hgood
  obtain ⟨hregs, htb, -⟩ := d.ssiOver_spec n
  rw [hgood]
  generalize d.ssiOver n = e at hregs htb
  obtain ⟨-, hstill, hstall, hcount⟩ := e.ssiGood_spec hn (d.ssiWord n raw) stamp prev (d.ssiStep n (d.ssiWord n raw) prev)
  rw [Dev.countNext_congr hn hregs] at hcount
  exact ⟨PsChan.of_still PsChan.ssiPrev (fun _ => rfl) hstill, hstall.trans htb, hcount⟩

end Sys2Proof.Machine
end

section
/-! PROOFS. Speed windows and the pre-warning (R154, R163, R194). -/

namespace Sys2Proof.Machine

variable {d e f : Dev} {offs : List Nat} {flds : List Fld} {b c n : Nat}

theorem exec_speedWindowEnd (n : Fin 8) (s : State) : exec (.speedWindowEnd n) s =
    s.onDev (fun d => d.running && decide ((d.psc n).spdEnd ≤ d.tb)) fun d => (d.speedWindowEnd n).preWarn n := rfl

/-! ## The registers of a speed window -/

/-- The registers and fields of a speed window. -/
def speedOffs (n : Nat) : List Nat := [RegName.off .PS_SPEED n 0, RegName.off .PS_SPDTBLO n 0, RegName.off .PS_SPDTBHI n 0]
def speedFlds : List Fld := [.PS_SPEED_SUM, .PS_SPDTBLO_TB, .PS_SPDTBHI_TB]

theorem Dev.speedWindowEnd_eq (d : Dev) (n : Nat) : d.speedWindowEnd n =
    let e := (d.setFld .PS_SPEED_SUM n 0 (enc 32 (d.psc n).spdSum)).setPair .PS_SPDTBLO_TB .PS_SPDTBHI_TB n 0 (d.psc n).spdEnd
    e.setPsc n { d.psc n with spdSum := 0, spdEnd := (d.psc n).spdEnd + e.fld .PS_SPDWIN_WIN n * 2000 } := rfl

theorem Dev.writes_setPair (d : Dev) {lo hi : Fld} {j : Nat} (hlo : lo ∈ flds) (hhi : hi ∈ flds) (hknown : lo.clear [] = true ∧ hi.clear [] = true)
    (hj : j < lo.reg.info.count1 ∧ j < hi.reg.info.count1) (hoff : lo.reg.off j 0 ∈ offs ∧ hi.reg.off j 0 ∈ offs) (v : Nat) :
    Dev.Writes offs flds d (d.setPair lo hi j 0 v) :=
  (d.writes_setFld hlo hknown.1 hj.1 hoff.1 _).trans (Dev.writes_setFld _ hhi hknown.2 hj.2 hoff.2 _)

/-- The instant read back. -/
theorem Dev.pair_spdTb (d : Dev) (n v : Nat) :
    (d.setPair .PS_SPDTBLO_TB .PS_SPDTBHI_TB n 0 v).pair .PS_SPDTBLO_TB .PS_SPDTBHI_TB n = v % 2 ^ 64 := by
  have hne : RegName.off .PS_SPDTBLO n 0 ≠ RegName.off .PS_SPDTBHI n 0 := by simp only [RegName.off, RegName.info]; omega
  have hlo : (d.setPair .PS_SPDTBLO_TB .PS_SPDTBHI_TB n 0 v).fld .PS_SPDTBLO_TB n = v % 2 ^ 32 % 2 ^ 32 :=
    (Dev.fld_setFld_reg _ .PS_SPDTBHI_TB .PS_SPDTBLO_TB n 0 n 0 _ hne).trans (d.fld_setFld .PS_SPDTBLO_TB n 0 _ (by decide))
  have hhi : (d.setPair .PS_SPDTBLO_TB .PS_SPDTBHI_TB n 0 v).fld .PS_SPDTBHI_TB n = v / 2 ^ 32 % 2 ^ 32 :=
    Dev.fld_setFld _ .PS_SPDTBHI_TB n 0 _ (by decide)
  unfold Dev.pair
  rw [hlo, hhi]
  omega

theorem Dev.speedWindowEnd_spec (d : Dev) (hn : n < 8) : Dev.Moves (speedOffs n) speedFlds d (d.speedWindowEnd n) ∧
    (d.speedWindowEnd n).fld .PS_SPEED_SUM n = enc 32 (d.psc n).spdSum ∧
    (d.speedWindowEnd n).pair .PS_SPDTBLO_TB .PS_SPDTBHI_TB n = (d.psc n).spdEnd % 2 ^ 64 ∧
    (d.speedWindowEnd n).psc n = { d.psc n with spdSum := 0, spdEnd := (d.psc n).spdEnd + d.fld .PS_SPDWIN_WIN n * 2000 } ∧
    (d.speedWindowEnd n).bays = d.bays := by
  have hsum := d.writes_setFld (y := .PS_SPEED_SUM) (offs := speedOffs n) (flds := speedFlds) (by decide) (by decide) hn (by simp [speedOffs])
    (enc 32 (d.psc n).spdSum)
  have hspeed : (d.setFld .PS_SPEED_SUM n 0 (enc 32 (d.psc n).spdSum)).fld .PS_SPEED_SUM n = enc 32 (d.psc n).spdSum :=
    (d.fld_setFld .PS_SPEED_SUM n 0 _ (by decide)).trans (Nat.mod_eq_of_lt (enc_lt 32 _))
  rw [Dev.speedWindowEnd_eq]
  dsimp only
  generalize d.setFld .PS_SPEED_SUM n 0 (enc 32 (d.psc n).spdSum) = e at hsum hspeed
  have hset (flds : List Fld) (hlo : .PS_SPDTBLO_TB ∈ flds) (hhi : .PS_SPDTBHI_TB ∈ flds) := e.writes_setPair (offs := speedOffs n) (flds := flds)
    hlo hhi (by decide) (j := n) (by exact ⟨hn, hn⟩) (by simp [speedOffs]) (d.psc n).spdEnd
  have hpair := e.pair_spdTb n (d.psc n).spdEnd
  generalize e.setPair .PS_SPDTBLO_TB .PS_SPDTBHI_TB n 0 (d.psc n).spdEnd = f at hset hpair
  have hboth := hsum.trans (hset speedFlds (by decide) (by decide))
  have hwin : f.fld .PS_SPDWIN_WIN n = d.fld .PS_SPDWIN_WIN n := hboth.same.fld (x := .PS_SPDWIN_WIN) (by decide) hn
  rw [f.psc_setPsc, hwin]
  exact ⟨hboth.moves.trans (f.moves_setPsc n _),
    ((hset [.PS_SPDTBLO_TB, .PS_SPDTBHI_TB] (by decide) (by decide)).same.fld (x := .PS_SPEED_SUM) (by decide) hn).trans hspeed, hpair, rfl, hboth.bays⟩

/-! ## What the pre-warning reads -/

/-- The same port registers, tables and assignment. -/
structure Dev.SamePorts (d e : Dev) : Prop where
  words : ∀ o, 0x100000 ≤ o → o < 0x300000 → e.word o = d.word o
  assign : d.SameAssign e
  tbl : e.tbl = d.tbl

/-- The fields that give a port's minimum period (R191). -/
def periodFlds : List Fld :=
  [.HP_PROF_LRATE, .HP_PROF_SRDIV, .HP_PROF_LANES, .HP_PROF_NOZZLES, .HP_PROF_CODEW, .HP_PROF_CFGFMT, .HP_PROF_CFGREP, .HP_GRP_NCH, .HP_GRP_GLOG2,
   .HP_LANE_CFGN, .WV_CTL_WA, .WV_CTL_WB, .WV_CTL_BANK, .HP_GSTEP_BOFF, .HP_GSTEP_GSTEP, .HP_LATCH_STRB, .RI_FMT_WIDTH]

theorem periodFlds_ports : ∀ x ∈ periodFlds, ∀ xx < 32, 0x100000 ≤ x.reg.off xx 0 ∧ x.reg.off xx 0 < 0x300000 := by decide

section
variable (h : d.SamePorts e) {xx : Nat} (hxx : xx < 32)
include h

theorem Dev.SamePorts.wvLen : e.wvLen = d.wvLen := by
  funext xx bank w
  unfold Dev.wvLen Dev.tb16 Dev.tb8
  rw [h.tbl]

include hxx

theorem Dev.SamePorts.fld {x : Fld} (hx : x ∈ periodFlds) : e.fld x xx = d.fld x xx :=
  Dev.fld_of_word (h.words _ (periodFlds_ports x hx xx hxx).1 (periodFlds_ports x hx xx hxx).2)

theorem Dev.SamePorts.tfOf : e.tfOf xx = d.tfOf xx := by
  unfold Dev.tfOf
  rw [h.fld hxx (x := .HP_PROF_LRATE) (by decide)]

theorem Dev.SamePorts.twoCh : e.twoCh xx = d.twoCh xx := by
  unfold Dev.twoCh Dev.on
  rw [h.fld hxx (x := .HP_GRP_NCH) (by decide)]

theorem Dev.SamePorts.usedWaves : e.usedWaves xx = d.usedWaves xx := by
  unfold Dev.usedWaves
  rw [h.twoCh hxx, h.fld hxx (x := .WV_CTL_WA) (by decide), h.fld hxx (x := .WV_CTL_WB) (by decide)]

theorem Dev.SamePorts.loadFrames : e.loadFrames xx = d.loadFrames xx := by
  unfold Dev.loadFrames Dev.perLane Dev.lanesOf
  rw [h.fld hxx (x := .HP_PROF_LANES) (by decide), h.fld hxx (x := .HP_PROF_NOZZLES) (by decide), h.fld hxx (x := .HP_PROF_CODEW) (by decide)]

theorem Dev.SamePorts.tspan : e.tspan e xx = d.tspan d xx := by
  unfold Dev.tspan Dev.spcOf Dev.tsOf
  rw [h.usedWaves hxx, h.twoCh hxx, h.tfOf hxx, h.wvLen, h.fld hxx (x := .WV_CTL_BANK) (by decide), h.fld hxx (x := .HP_GSTEP_BOFF) (by decide),
    h.fld hxx (x := .HP_GSTEP_GSTEP) (by decide), h.fld hxx (x := .HP_GRP_GLOG2) (by decide), h.fld hxx (x := .HP_PROF_SRDIV) (by decide)]

theorem Dev.SamePorts.tcfg : e.tcfg xx = d.tcfg xx := by
  unfold Dev.tcfg Dev.cfgCount Dev.on
  rw [h.tfOf hxx, h.fld hxx (x := .HP_PROF_CFGREP) (by decide), h.fld hxx (x := .HP_PROF_CFGFMT) (by decide), h.fld hxx (x := .HP_LANE_CFGN) (by decide)]

theorem Dev.SamePorts.pmin : e.pmin e xx = d.pmin d xx := by
  unfold Dev.pmin
  rw [h.usedWaves hxx, h.wvLen, h.tfOf hxx, h.loadFrames hxx, h.tspan hxx, h.tcfg hxx, h.fld hxx (x := .WV_CTL_BANK) (by decide),
    h.fld hxx (x := .HP_LATCH_STRB) (by decide), h.fld hxx (x := .RI_FMT_WIDTH) (by decide)]

end

theorem Dev.SamePorts.maxrate (h : d.SamePorts e) (b : Nat) : e.maxrate b = d.maxrate b := by
  have hports : e.portsOf b = d.portsOf b := List.filter_congr fun xx _ => by rw [h.assign.portBay xx]
  have hpmin : e.pminBay e b = d.pminBay d b := by
    unfold Dev.pminBay
    rw [hports]
    refine List.foldl_ext _ _ _ fun m xx hxx => ?_
    rw [h.pmin (List.mem_range.mp (List.mem_filter.mp hxx).1)]
  unfold Dev.maxrate
  rw [hpmin]

/-- Registers beside those of ports and of the assignment. -/
def offsBesidePorts (offs : List Nat) : Prop := ∀ o ∈ offs, 0xA0 ≤ o ∧ (o < 0x100000 ∨ 0x300000 ≤ o)

theorem Dev.regsBut.samePorts (h : d.regsBut offs e) (hoffs : offsBesidePorts offs) (htbl : e.tbl = d.tbl) : d.SamePorts e := by
  refine ⟨fun o hlo hhi => h o (fun hin => ?_) fun hreport => ?_, h.sameAssign fun o ho => (hoffs o ho).1, htbl⟩
  · have hrange := hoffs o hin
    omega
  · simp only [reports, RegName.off, RegName.info, List.mem_cons, List.not_mem_nil, or_false] at hreport
    omega

/-! ## The pre-warning -/

/-- PREWARN of a bay at a speed (R194). -/
def Dev.warns (d : Dev) (n b hz : Nat) : Bool :=
  if d.bayModes = true ∧ d.present b = true ∧ d.fld .PC_CTL_CHAN b = n ∧ d.psBay n = some b ∧ d.on .HP_OSCTL_PWEN b = true then
    if (95 * d.maxrate b + 99) / 100 ≤ hz then true else if hz < 93 * d.maxrate b / 100 then false else d.on .HP_BAYSTAT_PREWARN b
  else d.on .HP_BAYSTAT_PREWARN b

theorem Dev.warns_congr {hz : Nat} (hboot : e.boot = d.boot) (hports : d.SamePorts e) (hsame : Dev.sameFlds flds d e)
    (hchan : Fld.clear .PC_CTL_CHAN flds = true) (hpwen : Fld.clear .HP_OSCTL_PWEN flds = true) (hb : b < 4)
    (hon : e.on .HP_BAYSTAT_PREWARN b = d.on .HP_BAYSTAT_PREWARN b) : e.warns n b hz = d.warns n b hz := by
  unfold Dev.warns Dev.bayModes Dev.running
  rw [hboot, hports.assign.present, hports.assign.psBay, hports.maxrate, hsame.fld hchan hb, hsame.on hpwen hb, hon]

/-- The pre-warning of one bay. -/
def Dev.warnBay (d : Dev) (n b : Nat) : Dev :=
  if d.bayModes && d.present b && d.fld .PC_CTL_CHAN b == n && d.psBay n == some b && d.on .HP_OSCTL_PWEN b then
    if (95 * d.maxrate b + 99) / 100 ≤ d.pcSpeed b then
      if d.on .HP_BAYSTAT_PREWARN b then d else (d.setOn .HP_BAYSTAT_PREWARN b 0 true).bayEvent b 1 0x0A00 0xFF (d.pcSpeed b) (d.maxrate b)
    else if d.pcSpeed b < 93 * d.maxrate b / 100 then d.setOn .HP_BAYSTAT_PREWARN b 0 false
    else d
  else d

theorem Dev.preWarn_eq (d : Dev) (n : Nat) : d.preWarn n = forN 4 (fun b d => d.warnBay n b) d := rfl

theorem Dev.warnBay_spec (d : Dev) (n : Nat) (hb : b < 4) : Dev.Writes [RegName.off .HP_BAYSTAT b 0] [.HP_BAYSTAT_PREWARN] d (d.warnBay n b) ∧
    (d.warnBay n b).on .HP_BAYSTAT_PREWARN b = d.warns n b (d.pcSpeed b) := by
  have hput (v : Bool) := d.writes_setOn (y := .HP_BAYSTAT_PREWARN) (offs := [RegName.off .HP_BAYSTAT b 0]) (flds := [.HP_BAYSTAT_PREWARN])
    List.mem_cons_self (by decide) hb List.mem_cons_self v
  have hon (v : Bool) := d.on_setOn .HP_BAYSTAT_PREWARN b 0 v (by decide) (by decide)
  have hcond : ((d.bayModes && d.present b && d.fld .PC_CTL_CHAN b == n && d.psBay n == some b && d.on .HP_OSCTL_PWEN b) = true) =
      (d.bayModes = true ∧ d.present b = true ∧ d.fld .PC_CTL_CHAN b = n ∧ d.psBay n = some b ∧ d.on .HP_OSCTL_PWEN b = true) := by
    simp [and_assoc]
  unfold Dev.warnBay Dev.warns
  simp only [hcond]
  split
  · split
    · split
      next hstood => exact ⟨.refl _ _ d, hstood⟩
      next =>
        have htold := (d.setOn .HP_BAYSTAT_PREWARN b 0 true).reported_bayEvent b 1 0x0A00 0xFF (d.pcSpeed b) (d.maxrate b)
        exact ⟨(hput true).trans htold.writes, ((htold.writes (offs := []) (flds := [])).same.on (x := .HP_BAYSTAT_PREWARN) (by decide) hb).trans (hon true)⟩
    · split
      · exact ⟨hput false, hon false⟩
      · exact ⟨.refl _ _ d, rfl⟩
  · exact ⟨.refl _ _ d, rfl⟩

/-- The registers of the pre-warning. -/
def warnOffs : List Nat := (List.finRange 4).map fun b => RegName.off .HP_BAYSTAT b 0

theorem warnOffs_mem : ∀ b < 4, RegName.off .HP_BAYSTAT b 0 ∈ warnOffs := by decide
theorem warnOffs_besidePorts : offsBesidePorts warnOffs := by unfold offsBesidePorts; decide

theorem Dev.pcSpeed_congr (h : Dev.sameFlds flds d e) (hbays : e.bays = d.bays)
    (hclear : ∀ x ∈ [Fld.PC_CTL_CHAN, .PS_SPEED_SUM, .PC_RATLO_FRAC, .PC_RATHI_INT, .PS_SPDWIN_WIN], x.clear flds = true) (hb : b < 4) :
    e.pcSpeed b = d.pcSpeed b := by
  have hchan : e.fld .PC_CTL_CHAN b = d.fld .PC_CTL_CHAN b := h.fld (hclear _ (by decide)) hb
  have hlt : d.fld .PC_CTL_CHAN b < 8 := d.fld_lt .PC_CTL_CHAN b 0
  have hsum : e.sfld .PS_SPEED_SUM (d.fld .PC_CTL_CHAN b) = d.sfld .PS_SPEED_SUM (d.fld .PC_CTL_CHAN b) := h.sfld (hclear _ (by decide)) hlt
  have hwin : e.fld .PS_SPDWIN_WIN (d.fld .PC_CTL_CHAN b) = d.fld .PS_SPDWIN_WIN (d.fld .PC_CTL_CHAN b) := h.fld (hclear _ (by decide)) hlt
  have hlo : e.fld .PC_RATLO_FRAC b = d.fld .PC_RATLO_FRAC b := h.fld (hclear _ (by decide)) hb
  have hhi : e.fld .PC_RATHI_INT b = d.fld .PC_RATHI_INT b := h.fld (hclear _ (by decide)) hb
  unfold Dev.pcSpeed Dev.pair Dev.pc Dev.bay
  dsimp only
  rw [hbays, hchan, hsum, hwin, hlo, hhi]

/-- The bays below `k` after the pre-warning, and the others. -/
theorem Dev.warnBays_spec (d : Dev) (n : Nat) (k : Nat) (hk : k ≤ 4) :
    Dev.Writes warnOffs [.HP_BAYSTAT_PREWARN] d (forN k (fun b d => d.warnBay n b) d) ∧
    ∀ c < 4, (forN k (fun b d => d.warnBay n b) d).on .HP_BAYSTAT_PREWARN c =
      if c < k then d.warns n c (d.pcSpeed c) else d.on .HP_BAYSTAT_PREWARN c := by
  induction k with
  | zero => exact ⟨.refl _ _ d, fun c _ => rfl⟩
  | succ k ih =>
    obtain ⟨hall, hon⟩ := ih (by omega)
    rw [forN_succ]
    generalize forN k (fun b d => d.warnBay n b) d = e at hall hon
    obtain ⟨hstep, hlast⟩ := e.warnBay_spec n (b := k) (by omega)
    have hspeed : e.pcSpeed k = d.pcSpeed k := Dev.pcSpeed_congr hall.same hall.bays (by decide) (by omega)
    have hwarns : e.warns n k (e.pcSpeed k) = d.warns n k (d.pcSpeed k) := by
      rw [hspeed]
      exact Dev.warns_congr (Dev.of_quiet Dev.boot (fun _ => rfl) hall.quiet) (hall.regs.samePorts warnOffs_besidePorts hall.tbl) hall.same
        (by decide) (by decide) (by omega) ((hon k (by omega)).trans (if_neg (by omega)))
    refine ⟨hall.trans ⟨hstep.regs.mono fun o ho => ?_, hstep.same, hstep.quiet⟩, fun c hc => ?_⟩
    · rw [List.mem_singleton.mp ho]
      exact warnOffs_mem k (by omega)
    · by_cases hck : c = k
      · subst hck
        rw [hlast, hwarns, if_pos (by omega)]
      · have hoff : RegName.off .HP_BAYSTAT c 0 ∉ [RegName.off .HP_BAYSTAT k 0] := by
          simp only [RegName.off, RegName.info, List.mem_singleton]; omega
        have hword := hstep.regs _ hoff (paceRegs_not_report .HP_BAYSTAT (by decide) c hc)
        rw [Dev.on_of_word (x := .HP_BAYSTAT_PREWARN) hword, hon c hc]
        exact if_congr (by omega) rfl rfl

/-- A speed window that ends, with its pre-warning. -/
structure Dev.WindowEnds (n : Nat) (d e : Dev) : Prop where
  speed : e.fld .PS_SPEED_SUM n = enc 32 (d.psc n).spdSum
  stamp : e.pair .PS_SPDTBLO_TB .PS_SPDTBHI_TB n = (d.psc n).spdEnd % 2 ^ 64
  psc : e.psc n = { d.psc n with spdSum := 0, spdEnd := (d.psc n).spdEnd + d.fld .PS_SPDWIN_WIN n * 2000 }
  count : e.fld .PS_POS_COUNT n = d.fld .PS_POS_COUNT n
  warn : ∀ b < 4, e.on .HP_BAYSTAT_PREWARN b = d.warns n b (e.pcSpeed b)
  regs : d.regsBut (speedOffs n ++ warnOffs) e

theorem Dev.speedWindowEnd_ends (d : Dev) (hn : n < 8) : Dev.WindowEnds n d ((d.speedWindowEnd n).preWarn n) := by
  obtain ⟨hmoves, hspeed, hstamp, hpsc, -⟩ := d.speedWindowEnd_spec hn
  obtain ⟨hwarned, hon⟩ := (d.speedWindowEnd n).warnBays_spec n 4 (le_refl 4)
  rw [← Dev.preWarn_eq] at hwarned hon
  generalize (d.speedWindowEnd n).preWarn n = f at hwarned hon
  generalize d.speedWindowEnd n = e at hmoves hspeed hstamp hpsc hwarned hon
  have hbeside : offsBesidePorts (speedOffs n) := by
    simp only [offsBesidePorts, speedOffs, RegName.off, RegName.info, List.mem_cons, List.not_mem_nil, or_false]
    omega
  refine ⟨(hwarned.same.fld (x := .PS_SPEED_SUM) (by decide) hn).trans hspeed, ?_, (hwarned.psc n).trans hpsc, ?_, fun b hb => ?_, ?_⟩
  · rw [← hstamp]
    unfold Dev.pair
    rw [hwarned.same.fld (x := .PS_SPDTBLO_TB) (by decide) hn, hwarned.same.fld (x := .PS_SPDTBHI_TB) (by decide) hn]
  · exact (hwarned.same.fld (x := .PS_POS_COUNT) (by decide) hn).trans (hmoves.same.fld (x := .PS_POS_COUNT) (by decide) hn)
  · rw [hon b hb, if_pos hb, Dev.pcSpeed_congr hwarned.same hwarned.bays (by decide) hb]
    exact Dev.warns_congr (Dev.of_ground Dev.boot (fun _ => rfl) hmoves.ground) (hmoves.regs.samePorts hbeside hmoves.tbl) hmoves.same (by decide)
      (by decide) hb (hmoves.same.on (x := .HP_BAYSTAT_PREWARN) (by decide) hb)
  · exact (hmoves.regs.mono fun o ho => List.mem_append_left _ ho).trans (hwarned.regs.mono fun o ho => List.mem_append_right _ ho)

/-! ## Settled -/

theorem overrateSubwindow_ends (n : Fin 8) {s : State} (hrun : s.dev.running = true) (hdue : (s.dev.psc n).subEnd ≤ s.dev.tb) :
    exec (.overrateSubwindow n) s = .next { s with dev := s.dev.subWindowEnd n } :=
  (exec_overrateSubwindow n s).trans (State.onDev_of (by simp [hrun, hdue]) rfl)

/-- Settles O37: the words of SSI frames and the ends of windows, each through what it does to its channel; every raised fault signals its source. -/
theorem channelWindows : Obligations.ChannelWindows := by
  unfold Obligations.ChannelWindows
  refine ⟨?_, ?_, ?_, ?_, ?_⟩
  · intro n s hrun hdue
    obtain ⟨hregs, hpsc, hcount⟩ := s.dev.subWindowEnd_spec n.isLt
    refine ⟨_, overrateSubwindow_ends n hrun hdue, rfl, rfl, by rw [hpsc]; rfl, by rw [hpsc]; rfl, hregs, hcount, ?_, ?_, ?_⟩
    · intro hgood
      have hrow : (s.dev.psc n).badRow ≠ 100 := by rw [PsChan.badRow_of_good hgood]; decide
      exact ⟨by rw [hpsc, PsChan.nextSub_badRun hrow, PsChan.badRow_of_good hgood], Dev.subWindowEnd_chatter_of_ne n.isLt hrow⟩
    · intro hbad hfew
      have hrow : (s.dev.psc n).badRow ≠ 100 := by rw [PsChan.badRow_of_bad hbad]; omega
      exact ⟨by rw [hpsc, PsChan.nextSub_badRun hrow, PsChan.badRow_of_bad hbad], Dev.subWindowEnd_chatter_of_ne n.isLt hrow⟩
    · intro hbad hmany
      have hrow : (s.dev.psc n).badRow = 100 := (PsChan.badRow_of_bad hbad).trans (by omega)
      obtain ⟨hon, htell, hfirst⟩ := s.dev.subWindowEnd_chatter n.isLt hrow
      exact ⟨hon, by rw [hpsc]; exact if_pos hrow, htell, hfirst⟩
  · intro n idle s hdue
    obtain ⟨hregs, hpsc, hout⟩ := s.dev.ssiStart_spec n idle
    have hssi : ((s.dev.ssiStart n idle).psc n).ssi = some (s.dev.tb, idle) := by rw [hpsc]; rfl
    exact ⟨_, (exec_ssiFrameStart n idle s).trans (State.onDev_of hdue rfl), rfl, hregs, hssi, by rw [hpsc]; rfl, Dev.ssiDue_of_running hssi, hout⟩
  · intro n raw stamp w idle s hrun hdue hssi hw
    have hexec := (exec_ssiWordDecoded n raw s).trans (State.onDev_of (by rw [hrun, hdue]; rfl) rfl)
    obtain ⟨hregs, hends⟩ := s.dev.ssiDecode_ends n.isLt hssi (raw := raw)
    obtain ⟨hfenced, hfirst⟩ := Dev.ssiDecode_quiet hssi (raw := raw)
    have herror := Dev.ssiDecode_error n.isLt hssi (raw := raw)
    have hcounts := fun prev (hidle : idle = false) => Dev.ssiDecode_counts (d := s.dev) (raw := raw) (prev := prev) n.isLt (hidle ▸ hssi)
    have hword : s.dev.ssiWord n raw = w := hw.symm
    rw [hword] at hfirst herror hcounts
    obtain ⟨hpin, -, hfc, -, -, hpsc⟩ := (s.dev.ssiDecode n raw).psPin_spec n
    generalize (s.dev.ssiDecode n raw).psPin n = f at hexec hpin hfc hpsc
    generalize s.dev.ssiDecode n raw = e at hregs hends hfenced hfirst herror hcounts hpin hfc hpsc
    have hfld (x : Fld) : f.fld x n = e.fld x n := Dev.fld_congr hpin _ _ _
    have hon : f.on .PS_STAT_SSIERR n = e.on .PS_STAT_SSIERR n := by unfold Dev.on; rw [hfld]
    have hprev : (f.psc n).ssiPrev = (e.psc n).ssiPrev := by rw [hpsc]
    have hstall : (f.psc n).stallFrom = (e.psc n).stallFrom := by rw [hpsc]
    refine ⟨_, hexec, rfl, by rw [hpsc]; exact hends, hregs.of_regs hpin, ?_⟩
    dsimp only
    rw [hprev, hon, hfc, hstall, hfld, hfld, hpin]
    refine ⟨hfenced, hfirst, fun hopen hnone hidle => ?_, fun prev v hopen hsome hv => ⟨fun hbad => ?_, fun hidle hle hge => ?_⟩⟩
    · obtain ⟨herr, -, hkept, -⟩ := herror hopen (.inl hidle)
      exact ⟨herr, hkept.trans hnone⟩
    · have hstep : s.dev.ssiStep n w ((s.dev.psc n).ssiPrev.getD w) = v := by rw [hsome, hv]; rfl
      rw [hstep, Dev.ssiFar_iff] at herror
      obtain ⟨herr, hcnt, hkept, hpos, htell⟩ := herror hopen hbad
      exact ⟨herr, hcnt, hkept.trans hsome, hpos, htell⟩
    · have hstep : s.dev.ssiStep n w prev = v := hv.symm
      have hnear : s.dev.ssiFar n v = false := by
        rw [← Bool.not_eq_true, Dev.ssiFar_iff]
        omega
      obtain ⟨hnext, hfrom, hcnt⟩ := hcounts prev hidle hopen hsome (by rw [hstep]; exact hnear)
      rw [hstep] at hcnt
      exact ⟨hnext, hfrom, hcnt⟩
  · intro n s hrun hdue
    have hends := s.dev.speedWindowEnd_ends n.isLt
    have hexec := (exec_speedWindowEnd n s).trans (State.onDev_of (by simp [hrun, hdue]) rfl)
    generalize (s.dev.speedWindowEnd n).preWarn n = e at hends hexec
    obtain ⟨hspeed, hstamp, hpsc, hcount, hwarn, hregs⟩ := hends
    exact ⟨_, hexec, rfl, rfl, hspeed, hstamp, by rw [hpsc], by rw [hpsc], hcount, fun b => hwarn b b.isLt, hregs⟩
  · intro n s hrun hdue
    obtain ⟨hregs, hon, htell, hstalled, hcount, hfirst⟩ := s.dev.stallFire_spec n.isLt
    exact ⟨_, (exec_stallTimeout n s).trans (State.onDev_of (by rw [hrun, hdue]; rfl) rfl), rfl, rfl, hon, htell, Dev.stallDue_of_stalled hstalled, hcount,
      hfirst, hregs⟩

end Sys2Proof.Machine
end

section
/-! PROOFS. The levels of a channel's inputs: before the filter, and those that it accepts (R143, R145). -/

namespace Sys2Proof.Machine

variable {d e f : Dev} {offs : List Nat} {flds : List Fld} {n k : Nat}

/-! ## Loops over inputs -/

/-- A store in which some of the first entries are set. -/
theorem forN_set (p : Nat → Bool) (v : Nat) (m : Store Nat) (n k : Nat) :
    Store.get (fun _ => 0) (forN n (fun k m => if p k then Store.set (fun _ => 0) m k v else m) m) k =
      if k < n ∧ p k = true then v else Store.get (fun _ => 0) m k := by
  induction n with
  | zero => exact (if_neg (by omega)).symm
  | succ n ih =>
    rw [forN_succ]
    by_cases hp : p n = true
    · rw [if_pos hp, Store.get_set, ih]
      by_cases hk : k = n
      · subst hk
        rw [if_pos rfl, if_pos ⟨Nat.lt_succ_self k, hp⟩]
      · rw [if_neg hk]
        exact if_congr ⟨fun h => ⟨by omega, h.2⟩, fun h => ⟨by omega, h.2⟩⟩ rfl rfl
    · rw [if_neg hp, ih]
      refine if_congr ⟨fun h => ⟨by omega, h.2⟩, fun h => ⟨?_, h.2⟩⟩ rfl rfl
      have hne : k ≠ n := fun heq => hp (heq ▸ h.2)
      omega

/-- A number given by its bits. -/
theorem forN_bits (b : Nat → Nat) (hb : ∀ k, b k < 2) (n : Nat) : forN n (fun k acc => acc + 2 ^ k * b k) 0 < 2 ^ n ∧
    ∀ k < n, forN n (fun k acc => acc + 2 ^ k * b k) 0 / 2 ^ k % 2 = b k := by
  have hmask : (fun k acc => acc + 2 ^ k * b k) = fun k acc => if decide (b k = 1) then acc + 2 ^ k else acc := by
    funext k acc
    have hlt := hb k
    obtain h | h : b k = 0 ∨ b k = 1 := by omega
    · simp [h]
    · simp [h]
  rw [hmask]
  obtain ⟨hlt, hbits⟩ := forN_mask (fun k => decide (b k = 1)) n
  refine ⟨hlt, fun k hk => (hbits k hk).trans ?_⟩
  have hbk := hb k
  by_cases hone : b k = 1
  · rw [if_pos (decide_eq_true hone), hone]
  · rw [if_neg (by simpa using hone)]
    omega

theorem bit_eq_iff (a b k : Nat) : a / 2 ^ k % 2 = b / 2 ^ k % 2 ↔ Nat.testBit a k = Nat.testBit b k := by
  rw [Nat.testBit_eq_decide_div_mod_eq, Nat.testBit_eq_decide_div_mod_eq, decide_eq_decide]
  omega

theorem bit_xor_eq_iff (a b c k : Nat) : Nat.xor a c / 2 ^ k % 2 = Nat.xor b c / 2 ^ k % 2 ↔ Nat.testBit a k = Nat.testBit b k := by
  rw [bit_eq_iff, show Nat.xor a c = a ^^^ c from rfl, show Nat.xor b c = b ^^^ c from rfl, Nat.testBit_xor, Nat.testBit_xor]
  cases Nat.testBit a k <;> cases Nat.testBit b k <;> cases Nat.testBit c k <;> decide

theorem xor_lt_eight {a b : Nat} (ha : a < 8) (hb : b < 8) : Nat.xor a b < 8 := Nat.xor_lt_two_pow (n := 3) ha hb

/-! ## Samples -/

/-- The levels before the filter, after inversion. -/
def Dev.sampled (d : Dev) (n raw : Nat) : Dev := d.rawLevels n (Nat.xor (raw % 8) (d.fld .PS_CFG_INV n))

/-- `e` is `d` with the inputs of a channel sampled: some fields of its status, and the channel itself. -/
structure Dev.Inputs (offs : List Nat) (flds : List Fld) (d e : Dev) : Prop where
  regs : d.regsBut offs e
  same : Dev.sameFlds flds d e
  ems : e.ems = d.ems
  bays : e.bays = d.bays
  tb : e.tb = d.tb
  tbl : e.tbl = d.tbl
  fs : e.fs = d.fs

theorem Dev.Inputs.trans (h : Dev.Inputs offs flds d e) (k : Dev.Inputs offs flds e f) : Dev.Inputs offs flds d f :=
  ⟨h.regs.trans k.regs, h.same.trans k.same, k.ems.trans h.ems, k.bays.trans h.bays, k.tb.trans h.tb, k.tbl.trans h.tbl, k.fs.trans h.fs⟩

theorem Dev.Inputs.mono {offs' : List Nat} {flds' : List Fld} (h : Dev.Inputs offs flds d e) (hoffs : ∀ o ∈ offs, o ∈ offs')
    (hsub : ∀ y ∈ flds, y ∈ flds') : Dev.Inputs offs' flds' d e :=
  ⟨h.regs.mono hoffs, h.same.mono hsub, h.ems, h.bays, h.tb, h.tbl, h.fs⟩

theorem Dev.Writes.inputs (h : Dev.Writes offs flds d e) : Dev.Inputs offs flds d e := ⟨h.regs, h.same, h.ems, h.bays, Dev.tb_of_quiet h.quiet, h.tbl, h.fs⟩

/-- The channels, and the pins as they are noted, may change alone. -/
def Dev.unsampled (d : Dev) : Dev := { d with ps := [], boot := { d.boot with pins := [] } }

theorem Dev.of_unsampled {α : Type} (π : Dev → α) (hπ : ∀ d : Dev, π d.unsampled = π d) (h : e.unsampled = d.unsampled) : π e = π d :=
  (hπ e).symm.trans ((congrArg π h).trans (hπ d))

theorem Dev.inputs_of_unsampled (h : e.unsampled = d.unsampled) : Dev.Inputs offs flds d e :=
  ⟨Dev.regsBut_of_regs (Dev.of_unsampled Dev.regs (fun _ => rfl) h), Dev.sameFlds_of_regs (Dev.of_unsampled Dev.regs (fun _ => rfl) h),
    Dev.of_unsampled Dev.ems (fun _ => rfl) h, Dev.of_unsampled Dev.bays (fun _ => rfl) h, Dev.of_unsampled Dev.tb (fun _ => rfl) h,
    Dev.of_unsampled Dev.tbl (fun _ => rfl) h, Dev.of_unsampled Dev.fs (fun _ => rfl) h⟩

theorem Dev.unsampled_setPsc (d : Dev) (n : Nat) (x : PsChan) : (d.setPsc n x).unsampled = d.unsampled := rfl
theorem Dev.unsampled_notePins (d : Dev) (n pins : Nat) : (d.notePins n pins).unsampled = d.unsampled := rfl

/-- The inputs whose level before the filter changes are seen from now. -/
def PsChan.seen (x : PsChan) (old r tb : Nat) : PsChan :=
  { x with rawFrom := forN 3 (fun k m => if old / 2 ^ k % 2 != r / 2 ^ k % 2 then Store.set (fun _ => 0) m k tb else m) x.rawFrom }

theorem Dev.rawLevels_eq (d : Dev) (n r : Nat) :
    d.rawLevels n r = (d.setPsc n ((d.psc n).seen (d.fld .PS_STAT_RAW n) r d.tb)).setFld .PS_STAT_RAW n 0 r := rfl

theorem Dev.rawLevels_spec (d : Dev) (hn : n < 8) {r : Nat} (hr : r < 8) : Dev.Inputs [RegName.off .PS_STAT n 0] [.PS_STAT_RAW] d (d.rawLevels n r) ∧
    (d.rawLevels n r).fld .PS_STAT_RAW n = r ∧ (d.rawLevels n r).psc n = (d.psc n).seen (d.fld .PS_STAT_RAW n) r d.tb := by
  rw [Dev.rawLevels_eq]
  have hmove : Dev.Inputs [RegName.off .PS_STAT n 0] [.PS_STAT_RAW] d (d.setPsc n ((d.psc n).seen (d.fld .PS_STAT_RAW n) r d.tb)) := Dev.inputs_of_unsampled (d.unsampled_setPsc _ _)
  have hpsc := d.psc_setPsc n ((d.psc n).seen (d.fld .PS_STAT_RAW n) r d.tb)
  generalize d.setPsc n ((d.psc n).seen (d.fld .PS_STAT_RAW n) r d.tb) = e at hmove hpsc
  have hput := e.writes_setFld (y := .PS_STAT_RAW) (offs := [RegName.off .PS_STAT n 0]) (flds := [.PS_STAT_RAW]) List.mem_cons_self (by decide) hn List.mem_cons_self r
  exact ⟨hmove.trans hput.inputs, (e.fld_setFld .PS_STAT_RAW n 0 r (by decide)).trans (Nat.mod_eq_of_lt hr), (hput.psc n).trans hpsc⟩

theorem PsChan.rawFrom_seen (x : PsChan) (old r tb : Nat) (hk : k < 3) : Store.get (fun _ => 0) (x.seen old r tb).rawFrom k =
    if old / 2 ^ k % 2 = r / 2 ^ k % 2 then Store.get (fun _ => 0) x.rawFrom k else tb := by
  refine (forN_set (fun k => old / 2 ^ k % 2 != r / 2 ^ k % 2) tb x.rawFrom 3 k).trans ?_
  by_cases h : old / 2 ^ k % 2 = r / 2 ^ k % 2
  · rw [if_pos h, if_neg (by simp [h])]
  · rw [if_neg h, if_pos ⟨hk, by simpa using h⟩]

/-! ## The filter -/

/-- The level that an input has after the filter. -/
def Dev.accepted (d : Dev) (n i k : Nat) : Nat :=
  if d.fld .PS_STAT_RAW n / 2 ^ k % 2 = i / 2 ^ k % 2 && d.filtered n k then i / 2 ^ k % 2 else d.fld .PS_STAT_IN n / 2 ^ k % 2

theorem Dev.accept_eq (d : Dev) (n i : Nat) : d.accept n i = forN 3 (fun k acc => acc + 2 ^ k * d.accepted n i k) 0 := rfl

theorem Dev.accept_spec (d : Dev) (n i : Nat) : d.accept n i < 8 ∧ ∀ k < 3, d.accept n i / 2 ^ k % 2 = d.accepted n i k := by
  have hbits := forN_bits (d.accepted n i) (fun k => by unfold Dev.accepted; split <;> exact Nat.mod_lt _ (by decide)) 3
  rw [← Dev.accept_eq] at hbits
  exact hbits

/-- An input takes the level that it is to accept once it has been seen at it for long enough (R143). -/
theorem Dev.accept_bit (d : Dev) (hn : n < 8) {r : Nat} (hr : r < 8) (i : Nat) (hk : k < 3) :
    ((d.rawLevels n r).accept n i / 2 ^ k % 2 == 1) =
      if r / 2 ^ k % 2 = i / 2 ^ k % 2 ∧ (if d.fld .PS_STAT_RAW n / 2 ^ k % 2 = r / 2 ^ k % 2 then d.filtered n k = true else d.fld .PS_CFG_FILT n = 0)
      then (r / 2 ^ k % 2 == 1) else d.fbit .PS_STAT_IN n 0 k := by
  obtain ⟨hin, hraw, hpsc⟩ := d.rawLevels_spec hn hr
  rw [((d.rawLevels n r).accept_spec n i).2 k hk]
  unfold Dev.accepted Dev.filtered
  rw [hraw, hpsc, PsChan.rawFrom_seen _ _ _ _ hk, hin.tb, hin.same.fld (x := .PS_CFG_FILT) (by decide) hn, hin.same.fld (x := .PS_STAT_IN) (by decide) hn]
  have hwait : (if d.fld .PS_STAT_RAW n / 2 ^ k % 2 = r / 2 ^ k % 2 then Store.get (fun _ => 0) (d.psc n).rawFrom k else d.tb) + d.fld .PS_CFG_FILT n ≤ d.tb ↔
      if d.fld .PS_STAT_RAW n / 2 ^ k % 2 = r / 2 ^ k % 2 then
        decide (Store.get (fun _ => 0) (d.psc n).rawFrom k + d.fld .PS_CFG_FILT n ≤ d.tb) = true else d.fld .PS_CFG_FILT n = 0 := by
    split
    · rw [decide_eq_true_iff]
    · omega
  by_cases hboth : r / 2 ^ k % 2 = i / 2 ^ k % 2 ∧
      (if d.fld .PS_STAT_RAW n / 2 ^ k % 2 = r / 2 ^ k % 2 then Store.get (fun _ => 0) (d.psc n).rawFrom k else d.tb) + d.fld .PS_CFG_FILT n ≤ d.tb
  · rw [if_pos (by simpa using hboth), if_pos ⟨hboth.1, hwait.mp hboth.2⟩, hboth.1]
  · rw [if_neg (by simpa using hboth), if_neg fun h => hboth ⟨h.1, hwait.mpr h.2⟩]
    rfl

/-! ## The inputs taken -/

/-- An input that changes after the filter. -/
def inputChanged (o i k : Nat) : Bool := o / 2 ^ k % 2 != i / 2 ^ k % 2

/-- The cycle from which an input has been seen at its level. -/
def Dev.seenFrom (d : Dev) (n k : Nat) : Nat := Store.get (fun _ => 0) (d.psc n).rawFrom k

/-- The inputs that change are checked for over-rate, those of `seen` giving when (R145). -/
def Dev.ratesChecked (d : Dev) (n o i : Nat) (seen : Nat → Nat) : Dev := forN 3 (fun k d => if inputChanged o i k then d.overrate n k (seen k) else d) d

/-- The levels after the filter are shown, and a decoder other than that of Hall channels starts from them. -/
def Dev.taken (d : Dev) (n o i : Nat) : Dev :=
  let e := (d.setFld .PS_STAT_IN n 0 i).ratesChecked n o i (d.seenFrom n)
  if e.fld .PS_CFG_TYPE n = 2 then e else e.setPsc n { e.psc n with hallLast := hallStart i }

theorem Dev.ratesChecked_spec (d : Dev) (n o i : Nat) (seen : Nat → Nat) : (d.ratesChecked n o i seen).unsampled = d.unsampled ∧
    ((d.ratesChecked n o i seen).psc n).hallLast = (d.psc n).hallLast := by
  refine ⟨forN_keeps (π := Dev.unsampled) (fun k d => ?_) 3 d, forN_keeps (π := fun d => (d.psc n).hallLast) (fun k d => ?_) 3 d⟩
  · split <;> rfl
  · split
    · unfold Dev.overrate
      dsimp only
      rw [Dev.psc_setPsc]
    · rfl

theorem Dev.taken_spec (d : Dev) (hn : n < 8) (o : Nat) {i : Nat} (hi : i < 8) : Dev.Inputs [RegName.off .PS_STAT n 0] [.PS_STAT_IN] d (d.taken n o i) ∧
    (d.taken n o i).fld .PS_STAT_IN n = i ∧ (d.fld .PS_CFG_TYPE n = 2 → ((d.taken n o i).psc n).hallLast = (d.psc n).hallLast) := by
  have hput := d.writes_setFld (y := .PS_STAT_IN) (offs := [RegName.off .PS_STAT n 0]) (flds := [.PS_STAT_IN]) List.mem_cons_self (by decide) hn List.mem_cons_self i
  have hin := (d.fld_setFld .PS_STAT_IN n 0 i (by decide)).trans (Nat.mod_eq_of_lt hi)
  unfold Dev.taken
  dsimp only
  generalize d.setFld .PS_STAT_IN n 0 i = e at hput hin
  obtain ⟨hkeep, hlast⟩ := e.ratesChecked_spec n o i (d.seenFrom n)
  generalize e.ratesChecked n o i (d.seenFrom n) = f at hkeep hlast
  have hall : Dev.Inputs [RegName.off .PS_STAT n 0] [.PS_STAT_IN] d f := hput.inputs.trans (Dev.inputs_of_unsampled hkeep)
  have hin' : f.fld .PS_STAT_IN n = i := (Dev.fld_congr (Dev.of_unsampled Dev.regs (fun _ => rfl) hkeep) _ _ _).trans hin
  split
  · exact ⟨hall, hin', fun _ => hlast.trans (congrArg PsChan.hallLast (hput.psc n))⟩
  next htype =>
    refine ⟨hall.trans (Dev.inputs_of_unsampled (f.unsampled_setPsc n _)), hin', fun htwo => absurd ?_ htype⟩
    exact (hall.same.fld (x := .PS_CFG_TYPE) (by decide) hn).trans htwo

end Sys2Proof.Machine
end

section
/-! PROOFS. The rising edge of Z: the count that it latches, and the count that it loads (R152, R156, R169). -/

namespace Sys2Proof.Machine

variable {d e f : Dev} {offs : List Nat} {flds : List Fld} {n k : Nat}

theorem exec_zEdge (n : Fin 8) (s : State) : exec (.zEdge n) s =
    s.onDev (fun d => d.running && (d.psBay n).isSome && decide (d.fld .PS_CFG_TYPE n < 2)) fun d => d.zEdge n := rfl

/-! ## A count that is loaded in a cycle with increments -/

/-- A two's complement number of a field is encoded as it was. -/
theorem sgn_enc_sgn (w v : Nat) (hv : v < 2 ^ w) : sgn w (enc w (sgn w v)) = sgn w v := by
  have henc : enc w (sgn w v) = v := by
    unfold enc sgn
    split
    · rw [Int.emod_eq_of_lt (by omega) (by omega), Int.toNat_natCast]
    · rw [Int.sub_emod_right, Int.emod_eq_of_lt (by omega) (by omega), Int.toNat_natCast]
  rw [henc]

theorem Dev.preload_again (hfree : d.psFenced n = false) (hcyc : (d.psc n).cyc.1 = d.tb) (hsome : (d.psc n).cyc.2 ≠ 0)
    (htb : (d.loadCount n (d.sfld .PS_PREVAL_VAL n)).tb = d.tb) : d.preload n =
      (d.loadCount n (d.sfld .PS_PREVAL_VAL n)).loadCount n ((d.loadCount n (d.sfld .PS_PREVAL_VAL n)).sfld .PS_POS_COUNT n + (d.psc n).cyc.2) := by
  unfold Dev.preload
  dsimp only
  rw [if_neg (by simp [hfree]), htb, if_pos (by simp [hcyc, hsome])]

/-- The increments of the same cycle add to a count that wraps. -/
theorem Dev.preload_cycle (hn : n < 8) (hfree : d.psFenced n = false) (hcyc : (d.psc n).cyc.1 = d.tb) (hwrap : d.on .PS_CFG_WRAP n = true) :
    (d.preload n).fld .PS_POS_COUNT n = enc 32 (d.sfld .PS_PREVAL_VAL n + (d.psc n).cyc.2) := by
  have hcount (g : Dev) (hg : g.on .PS_CFG_WRAP n = true) (v : Int) : (g.loadCount n v).fld .PS_POS_COUNT n = enc 32 v :=
    (g.loadCount_count hn v).trans (congrArg (enc 32) (if_pos hg))
  by_cases hsome : (d.psc n).cyc.2 = 0
  · rw [Dev.preload_eq d hn (.inr hsome), if_neg (by simp [hfree]), hcount d hwrap, hsome, add_zero]
  · have hload := d.loadCount_writes hn (fun _ ho => ho) (d.sfld .PS_PREVAL_VAL n)
    have hpos := hcount d hwrap (d.sfld .PS_PREVAL_VAL n)
    rw [Dev.preload_again hfree hcyc hsome (Dev.tb_of_quiet hload.quiet)]
    generalize d.loadCount n (d.sfld .PS_PREVAL_VAL n) = e at hload hpos
    have hvalue : e.sfld .PS_POS_COUNT n = d.sfld .PS_PREVAL_VAL n := by
      unfold Dev.sfld at hpos ⊢
      rw [hpos]
      exact sgn_enc_sgn 32 _ (d.fld_lt .PS_PREVAL_VAL n 0)
    rw [hcount e ((hload.same.on (x := .PS_CFG_WRAP) (by decide) hn).trans hwrap), hvalue]

/-! ## Z rises -/

/-- The latched count is shown. -/
def Dev.zShown (d : Dev) (n : Nat) : Dev := (d.setFld .PS_ZLAT_COUNT n 0 (d.fld .PS_POS_COUNT n)).setOn .PS_STAT_ZSEEN n 0 true

/-- The emulation outputs that follow the source's Z raise theirs at the next count. -/
def Dev.zMarked (d : Dev) (n : Nat) : Dev :=
  (d.emulators n (d.psBay n)).foldl (fun d k => if d.fld .EM_CFG_ZMODE k = 2 then d.setEm k { d.em k with zNext := true } else d) d

/-- The count latched, and loaded with ZMODE 2. -/
def Dev.zLatched (d : Dev) (n : Nat) : Dev :=
  if d.fld .PS_CFG_ZMODE n = 0 then d else if d.fld .PS_CFG_ZMODE n = 2 then (d.zShown n).preload n else d.zShown n

theorem Dev.zRise_eq (d : Dev) (n : Nat) : d.zRise n = if d.psFenced n then d else (d.zLatched n).zMarked n := rfl

/-- A quantity that no step of a fold changes. -/
theorem foldl_keeps {α β γ : Type} {π : α → β} {g : α → γ → α} (h : ∀ a c, π (g a c) = π a) (l : List γ) (a : α) : π (l.foldl g a) = π a := by
  induction l generalizing a with
  | nil => rfl
  | cons c l ih => rw [List.foldl_cons, ih, h]

theorem Dev.zMarked_keeps (d : Dev) (n : Nat) : (d.zMarked n).regs = d.regs ∧ (d.zMarked n).ground = d.ground := by
  refine ⟨foldl_keeps (π := Dev.regs) (fun d k => ?_) _ d, foldl_keeps (π := Dev.ground) (fun d k => ?_) _ d⟩
  · split <;> rfl
  · split <;> rfl

/-- The registers and fields of Z. -/
def zOffs (n : Nat) : List Nat := [RegName.off .PS_STAT n 0, RegName.off .PS_POS n 0, RegName.off .PS_ZLAT n 0]
def zFlds : List Fld := [.PS_ZLAT_COUNT, .PS_STAT_ZSEEN] ++ countFlds

theorem Dev.zShown_spec (d : Dev) (hn : n < 8) : Dev.Writes (zOffs n) [.PS_ZLAT_COUNT, .PS_STAT_ZSEEN] d (d.zShown n) ∧
    (d.zShown n).fld .PS_ZLAT_COUNT n = d.fld .PS_POS_COUNT n ∧ (d.zShown n).on .PS_STAT_ZSEEN n = true := by
  have hput := d.writes_setFld (y := .PS_ZLAT_COUNT) (offs := zOffs n) (flds := [.PS_ZLAT_COUNT, .PS_STAT_ZSEEN]) (by decide) (by decide) hn
    (by simp [zOffs]) (d.fld .PS_POS_COUNT n)
  have hlat : (d.setFld .PS_ZLAT_COUNT n 0 (d.fld .PS_POS_COUNT n)).fld .PS_ZLAT_COUNT n = d.fld .PS_POS_COUNT n :=
    (d.fld_setFld .PS_ZLAT_COUNT n 0 _ (by decide)).trans (Nat.mod_eq_of_lt (d.fld_lt .PS_POS_COUNT n 0))
  unfold Dev.zShown
  generalize d.setFld .PS_ZLAT_COUNT n 0 (d.fld .PS_POS_COUNT n) = e at hput hlat
  have hseen (flds : List Fld) (hin : .PS_STAT_ZSEEN ∈ flds) := e.writes_setOn (y := .PS_STAT_ZSEEN) (offs := zOffs n) (flds := flds) hin (by decide) hn
    (by simp [zOffs]) true
  exact ⟨hput.trans (hseen _ (by decide)), ((hseen [.PS_STAT_ZSEEN] (by decide)).same.fld (x := .PS_ZLAT_COUNT) (by decide) hn).trans hlat,
    e.on_setOn .PS_STAT_ZSEEN n 0 true (by decide) (by decide)⟩

theorem countOffs_zOffs (n : Nat) : ∀ o ∈ countOffs n, o ∈ zOffs n := by simp [countOffs, zOffs]

theorem Dev.zLatched_writes (d : Dev) (hn : n < 8) : Dev.Writes (zOffs n) zFlds d (d.zLatched n) := by
  obtain ⟨hshown, -, -⟩ := d.zShown_spec hn
  unfold Dev.zLatched
  split
  · exact .refl _ _ d
  · split
    · exact (hshown.mono (by decide)).trans (((d.zShown n).preload_writes hn (countOffs_zOffs n)).mono (by decide))
    · exact hshown.mono (by decide)

theorem Dev.zRise_moves (d : Dev) (hn : n < 8) : Dev.Moves (zOffs n) zFlds d (d.zRise n) := by
  obtain ⟨hregs, hground⟩ := (d.zLatched n).zMarked_keeps n
  rw [Dev.zRise_eq]
  split
  · exact .refl _ _ d
  · exact (d.zLatched_writes hn).moves.trans (Dev.moves_of_regs hregs hground)

/-- The registers after Z. -/
theorem Dev.zRise_regs (hfree : d.psFenced n = false) : (d.zRise n).regs = (d.zLatched n).regs := by
  rw [Dev.zRise_eq, if_neg (by simp [hfree])]
  exact ((d.zLatched n).zMarked_keeps n).1

theorem Dev.zRise_regs_of_idle (h : d.fld .PS_CFG_ZMODE n = 0 ∨ d.psFenced n = true) : (d.zRise n).regs = d.regs := by
  by_cases hfenced : d.psFenced n = true
  · rw [Dev.zRise_eq, if_pos hfenced]
  · have hzero := h.resolve_right hfenced
    rw [Dev.zRise_regs (by simpa using hfenced), Dev.zLatched, if_pos hzero]

/-- What Z makes of the count, the latch and the pre-load. -/
structure Dev.ZLatches (n : Nat) (d e : Dev) : Prop where
  latch : e.fld .PS_ZLAT_COUNT n = d.fld .PS_POS_COUNT n
  seen : e.on .PS_STAT_ZSEEN n = true
  load : d.fld .PS_CFG_ZMODE n = 2 → ((d.psc n).cyc.1 ≠ d.tb ∨ (d.psc n).cyc.2 = 0) →
    e.fld .PS_POS_COUNT n = enc 32 (d.countOf n (d.sfld .PS_PREVAL_VAL n))
  adds : d.fld .PS_CFG_ZMODE n = 2 → (d.psc n).cyc.1 = d.tb → d.on .PS_CFG_WRAP n = true →
    e.fld .PS_POS_COUNT n = enc 32 (d.sfld .PS_PREVAL_VAL n + (d.psc n).cyc.2)
  keep : d.fld .PS_CFG_ZMODE n ≠ 2 → e.fld .PS_POS_COUNT n = d.fld .PS_POS_COUNT n

theorem Dev.zRise_latches (d : Dev) (hn : n < 8) (hmode : d.fld .PS_CFG_ZMODE n ≠ 0) (hfree : d.psFenced n = false) : Dev.ZLatches n d (d.zRise n) := by
  have hregs := Dev.zRise_regs hfree
  have hlatched : d.zLatched n = if d.fld .PS_CFG_ZMODE n = 2 then (d.zShown n).preload n else d.zShown n := if_neg hmode
  obtain ⟨hput, hlat, hseen⟩ := d.zShown_spec hn
  rw [hlatched] at hregs
  generalize d.zRise n = f at hregs
  generalize d.zShown n = e at hregs hput hlat hseen
  have hfree' : e.psFenced n = false := (Dev.psFenced_congr hput.same (by decide) n).trans hfree
  have hpre : e.sfld .PS_PREVAL_VAL n = d.sfld .PS_PREVAL_VAL n := hput.same.sfld (x := .PS_PREVAL_VAL) (by decide) hn
  have htb : e.tb = d.tb := Dev.tb_of_quiet hput.quiet
  have hload := e.preload_writes hn (countOffs_zOffs n)
  have hfld (x : Fld) (hx : x.clear countFlds = true) (hi : n < x.reg.info.count1) : f.fld x n = e.fld x n := by
    rw [Dev.fld_congr hregs]
    split
    · exact hload.same.fld hx hi
    · rfl
  refine ⟨(hfld .PS_ZLAT_COUNT (by decide) hn).trans hlat, ?_, fun htwo hcyc => ?_, fun htwo hcyc hwrap => ?_, fun htwo => ?_⟩
  · have hz := hfld .PS_STAT_ZSEEN (by decide) hn
    unfold Dev.on at hseen ⊢
    rw [hz]
    exact hseen
  · rw [if_pos htwo] at hregs
    rw [Dev.fld_congr hregs, e.preload_eq hn (by rw [hput.psc, htb]; exact hcyc), if_neg (by simp [hfree']), e.loadCount_count hn, hpre,
      Dev.countOf_congr hput.same hn (by decide) (by decide) (by decide)]
  · rw [if_pos htwo] at hregs
    rw [Dev.fld_congr hregs, Dev.preload_cycle hn hfree' (by rw [hput.psc, htb]; exact hcyc)
      ((hput.same.on (x := .PS_CFG_WRAP) (by decide) hn).trans hwrap), hpre, hput.psc]
  · rw [if_neg htwo] at hregs
    rw [Dev.fld_congr hregs]
    exact hput.same.fld (x := .PS_POS_COUNT) (by decide) hn

/-! ## The filtered edge -/

/-- The cycle from which Z has been high. -/
def Dev.zFrom (d : Dev) (n : Nat) : Nat :=
  if d.fbit .PS_STAT_RAW n 0 2 then Store.get (fun _ => 0) (d.psc n).rawFrom 2 else d.tb - d.fld .PS_CFG_FILT n

/-- Z is high after the filter, and a decoder starts from the levels. -/
def Dev.zInput (d : Dev) (n : Nat) : Dev :=
  let e := d.setFbit .PS_STAT_IN n 0 2 true
  let e := e.notePins n (Nat.xor (e.fld .PS_STAT_IN n) (e.fld .PS_CFG_INV n))
  e.setPsc n { e.psc n with hallLast := hallStart (e.fld .PS_STAT_IN n) }

/-- Z is high before the filter, from a cycle on, and is checked for over-rate. -/
def Dev.zSeen (d : Dev) (n t : Nat) : Dev :=
  let e := d.setPsc n { d.psc n with rawFrom := Store.set (fun _ => 0) (d.psc n).rawFrom 2 t }
  (e.setFbit .PS_STAT_RAW n 0 2 true).overrate n 2 t

theorem Dev.zEdge_eq (d : Dev) (n : Nat) : d.zEdge n = ((d.zInput n).zSeen n (d.zFrom n)).zRise n := rfl

theorem Dev.zInput_spec (d : Dev) (hn : n < 8) : Dev.Inputs [RegName.off .PS_STAT n 0] [.PS_STAT_IN, .PS_STAT_RAW] d (d.zInput n) ∧
    (d.zInput n).fbit .PS_STAT_IN n 0 2 = true ∧ ((d.zInput n).psc n).cyc = (d.psc n).cyc := by
  have hput := d.writes_setFbit (y := .PS_STAT_IN) (offs := [RegName.off .PS_STAT n 0]) (flds := [.PS_STAT_IN, .PS_STAT_RAW]) (by decide) (by decide) hn
    List.mem_cons_self 2 true
  have hbit := d.fbit_setFbit_true (x := .PS_STAT_IN) (i := n) (j := 0) (n := 2) (by decide) (by decide)
  unfold Dev.zInput
  dsimp only
  generalize d.setFbit .PS_STAT_IN n 0 2 true = e at hput hbit
  have hpsc : (e.notePins n (Nat.xor (e.fld .PS_STAT_IN n) (e.fld .PS_CFG_INV n))).psc n = e.psc n := rfl
  have hregs : (e.notePins n (Nat.xor (e.fld .PS_STAT_IN n) (e.fld .PS_CFG_INV n))).regs = e.regs := rfl
  have hnote := e.unsampled_notePins n (Nat.xor (e.fld .PS_STAT_IN n) (e.fld .PS_CFG_INV n))
  generalize e.notePins n (Nat.xor (e.fld .PS_STAT_IN n) (e.fld .PS_CFG_INV n)) = f at hpsc hnote hregs
  refine ⟨hput.inputs.trans (Dev.inputs_of_unsampled ((f.unsampled_setPsc n _).trans hnote)), ?_, ?_⟩
  · rw [← hbit]
    exact congrArg (fun v => v / 2 ^ 2 % 2 == 1) (Dev.fld_congr hregs .PS_STAT_IN n 0)
  · rw [f.psc_setPsc, hpsc, hput.psc]

theorem Dev.overrate_spec (d : Dev) (n k t : Nat) : (d.overrate n k t).unsampled = d.unsampled ∧ ((d.overrate n k t).psc n).cyc = (d.psc n).cyc := by
  unfold Dev.overrate
  dsimp only
  rw [Dev.psc_setPsc]
  exact ⟨rfl, rfl⟩

theorem Dev.zSeen_spec (d : Dev) (hn : n < 8) (t : Nat) : Dev.Inputs [RegName.off .PS_STAT n 0] [.PS_STAT_RAW] d (d.zSeen n t) ∧
    ((d.zSeen n t).psc n).cyc = (d.psc n).cyc := by
  have hmove := d.unsampled_setPsc n { d.psc n with rawFrom := Store.set (fun _ => 0) (d.psc n).rawFrom 2 t }
  have hpsc := d.psc_setPsc n { d.psc n with rawFrom := Store.set (fun _ => 0) (d.psc n).rawFrom 2 t }
  unfold Dev.zSeen
  dsimp only
  generalize d.setPsc n { d.psc n with rawFrom := Store.set (fun _ => 0) (d.psc n).rawFrom 2 t } = e at hmove hpsc
  have hput := e.writes_setFbit (y := .PS_STAT_RAW) (offs := [RegName.off .PS_STAT n 0]) (flds := [.PS_STAT_RAW]) List.mem_cons_self (by decide) hn
    List.mem_cons_self 2 true
  obtain ⟨hkeep, hcyc⟩ := (e.setFbit .PS_STAT_RAW n 0 2 true).overrate_spec n 2 t
  exact ⟨((Dev.inputs_of_unsampled hmove).trans hput.inputs).trans (Dev.inputs_of_unsampled hkeep), by rw [hcyc, hput.psc, hpsc]⟩

/-- Z reads nothing that its input changed. -/
theorem Dev.ZLatches.of_inputs (hin : Dev.Inputs offs [.PS_STAT_IN, .PS_STAT_RAW] d e) (hcyc : (e.psc n).cyc = (d.psc n).cyc) (hn : n < 8)
    (h : Dev.ZLatches n e f) : Dev.ZLatches n d f := by
  have hpos : e.fld .PS_POS_COUNT n = d.fld .PS_POS_COUNT n := hin.same.fld (x := .PS_POS_COUNT) (by decide) hn
  have hmode : e.fld .PS_CFG_ZMODE n = d.fld .PS_CFG_ZMODE n := hin.same.fld (x := .PS_CFG_ZMODE) (by decide) hn
  have hpre : e.sfld .PS_PREVAL_VAL n = d.sfld .PS_PREVAL_VAL n := hin.same.sfld (x := .PS_PREVAL_VAL) (by decide) hn
  have hwrap : e.on .PS_CFG_WRAP n = d.on .PS_CFG_WRAP n := hin.same.on (x := .PS_CFG_WRAP) (by decide) hn
  obtain ⟨hlatch, hseen, hload, hadds, hkeep⟩ := h
  rw [hmode, hcyc, hin.tb, hpre, Dev.countOf_congr hin.same hn (by decide) (by decide) (by decide)] at hload
  rw [hmode, hcyc, hin.tb, hpre, hwrap] at hadds
  rw [hmode, hpos] at hkeep
  exact ⟨hlatch.trans hpos, hseen, hload, hadds, hkeep⟩

/-- A filtered rising edge of Z. -/
structure Dev.ZEdges (n : Nat) (d e : Dev) : Prop where
  regs : d.regsBut (zOffs n) e
  tbl : e.tbl = d.tbl
  fs : e.fs = d.fs
  input : e.fbit .PS_STAT_IN n 0 2 = true
  idle : d.fld .PS_CFG_ZMODE n = 0 ∨ d.psFenced n = true →
    e.fld .PS_POS_COUNT n = d.fld .PS_POS_COUNT n ∧ e.fld .PS_ZLAT_COUNT n = d.fld .PS_ZLAT_COUNT n
  latches : d.fld .PS_CFG_ZMODE n ≠ 0 → d.psFenced n = false → Dev.ZLatches n d e

theorem Dev.zEdge_edges (d : Dev) (hn : n < 8) : Dev.ZEdges n d (d.zEdge n) := by
  obtain ⟨hin, hbit, hcyc⟩ := d.zInput_spec hn
  obtain ⟨hin', hcyc'⟩ := (d.zInput n).zSeen_spec hn (d.zFrom n)
  rw [Dev.zEdge_eq]
  have hbit' : ((d.zInput n).zSeen n (d.zFrom n)).fbit .PS_STAT_IN n 0 2 = true := (hin'.same.fbit (x := .PS_STAT_IN) (by decide) hn 2).trans hbit
  have hall := hin.trans (hin'.mono (fun _ ho => ho) (by decide))
  have hcyc'' := hcyc'.trans hcyc
  generalize (d.zInput n).zSeen n (d.zFrom n) = e at hbit' hall hcyc''
  have hmoves := e.zRise_moves hn
  have hmode : e.fld .PS_CFG_ZMODE n = d.fld .PS_CFG_ZMODE n := hall.same.fld (x := .PS_CFG_ZMODE) (by decide) hn
  have hfence : e.psFenced n = d.psFenced n := Dev.psFenced_congr hall.same (by decide) n
  refine ⟨(hall.regs.mono (by simp [zOffs])).trans hmoves.regs, hmoves.tbl.trans hall.tbl, hmoves.fs.trans hall.fs,
    (hmoves.same.fbit (x := .PS_STAT_IN) (by decide) hn 2).trans hbit', fun hidle => ?_, fun hne hfree => ?_⟩
  · have hregs := Dev.zRise_regs_of_idle (d := e) (n := n) (by rw [hmode, hfence]; exact hidle)
    rw [Dev.fld_congr hregs, Dev.fld_congr hregs]
    exact ⟨hall.same.fld (x := .PS_POS_COUNT) (by decide) hn, hall.same.fld (x := .PS_ZLAT_COUNT) (by decide) hn⟩
  · exact (e.zRise_latches hn (by rw [hmode]; exact hne) (hfence.trans hfree)).of_inputs hall hcyc'' hn

end Sys2Proof.Machine
end

section
/-! PROOFS. Quadrature, step/direction and Hall channels (R146, R147, R148, R151, R156). -/

namespace Sys2Proof.Machine

variable {d e f : Dev} {offs : List Nat} {flds : List Fld} {n o i k stamp : Nat} {v : Int}

/-! ## What a decoder delivers -/

/-- An increment that a decoder delivers; a fenced channel delivers none (R156). -/
def Dev.delivers (d : Dev) (n stamp : Nat) (v : Int) : Dev := if v = 0 || d.psFenced n then d else d.increment n v stamp

/-- A count of `v` at a channel, with what follows it on a channel that is not fenced. -/
structure Dev.Counted (n : Nat) (v : Int) (d e : Dev) : Prop where
  count : e.fld .PS_POS_COUNT n = if d.psFenced n then d.fld .PS_POS_COUNT n else enc 32 (d.countOf n (d.sfld .PS_POS_COUNT n + v))
  phase : d.psFenced n = false → ∀ b < 4, d.pacedBy n = some b → d.fld .PC_CTL_SENSE b < 2 → (e.pc b).p = (d.pc b).p +
    (if d.fld .PC_CTL_SENSE b = 1 then -v else v) * (d.pair .PC_RATLO_FRAC .PC_RATHI_INT b : Int)
  em : d.psFenced n = false → ∀ k ∈ d.emulators n (d.psBay n), (e.em k).k = (d.emFed k v).k

/-- A channel comes to its count by `v`, which may be none. -/
structure Dev.Comes (n : Nat) (v : Int) (d e : Dev) : Prop where
  kept : v = 0 → e.fld .PS_POS_COUNT n = d.fld .PS_POS_COUNT n
  counted : v ≠ 0 → Dev.Counted n v d e

theorem Dev.delivers_zero (d : Dev) (n stamp : Nat) : d.delivers n stamp 0 = d := rfl

theorem Dev.delivers_fenced (h : d.psFenced n = true) (stamp : Nat) (v : Int) : d.delivers n stamp v = d := if_pos (by simp [h])

theorem Dev.delivers_of_ne (h : d.psFenced n = false) (hv : v ≠ 0) : d.delivers n stamp v = d.increment n v stamp := if_neg (by simp [h, hv])

theorem Dev.delivers_moves (d : Dev) (hn : n < 8) (stamp : Nat) (v : Int) : Dev.Moves edgeOffs incFlds d (d.delivers n stamp v) := by
  unfold Dev.delivers
  split
  · exact .refl _ _ d
  · exact (d.increment_spec hn (incOffs_edgeOffs hn) v stamp).moves

theorem Dev.delivers_comes (d : Dev) (hn : n < 8) (stamp : Nat) (v : Int) : Dev.Comes n v d (d.delivers n stamp v) := by
  refine ⟨fun hv => by rw [hv, Dev.delivers_zero], fun hv => ?_⟩
  by_cases hfenced : d.psFenced n = true
  · rw [Dev.delivers_fenced hfenced]
    exact ⟨(if_pos hfenced).symm, fun hfree => absurd (hfenced.symm.trans hfree) (by decide), fun hfree => absurd (hfenced.symm.trans hfree) (by decide)⟩
  · have hfree : d.psFenced n = false := by simpa using hfenced
    obtain ⟨-, -, -, hcount, hphase, hem⟩ := d.increment_spec hn (incOffs_edgeOffs hn) v stamp
    rw [Dev.delivers_of_ne hfree hv]
    exact ⟨hcount.trans (if_neg hfenced).symm, fun _ => hphase, fun _ => hem⟩

/-- The levels of the inputs, and the counters of their errors, are nothing that a count reads. -/
theorem Dev.Counted.of_inputs (hin : Dev.Inputs offs [.PS_STAT_RAW, .PS_STAT_IN, .PS_ERRCNT_SKIP] d e) (hn : n < 8) (h : Dev.Counted n v e f) :
    Dev.Counted n v d f := by
  have hfence : e.psFenced n = d.psFenced n := Dev.psFenced_congr hin.same (by decide) n
  have hpos : e.fld .PS_POS_COUNT n = d.fld .PS_POS_COUNT n := hin.same.fld (x := .PS_POS_COUNT) (by decide) hn
  have hpc (b : Nat) : e.pc b = d.pc b := by unfold Dev.pc Dev.bay; rw [hin.bays]
  have hpaced : e.pacedBy n = d.pacedBy n := Dev.pacedBy_congr hin.same (by decide) (by decide) (fun b => by rw [hpc]) n
  obtain ⟨hcount, hphase, hem⟩ := h
  rw [hfence, hpos, Dev.countOf_congr hin.same hn (by decide) (by decide) (by decide), hin.same.sfld (x := .PS_POS_COUNT) (by decide) hn] at hcount
  rw [hfence] at hphase hem
  refine ⟨hcount, fun hfree b hb hpace hsense => ?_, fun hfree k hk => ?_⟩
  · have hsense' : e.fld .PC_CTL_SENSE b = d.fld .PC_CTL_SENSE b := hin.same.fld (x := .PC_CTL_SENSE) (by decide) hb
    have hpair : e.pair .PC_RATLO_FRAC .PC_RATHI_INT b = d.pair .PC_RATLO_FRAC .PC_RATHI_INT b := by
      unfold Dev.pair
      rw [hin.same.fld (x := .PC_RATLO_FRAC) (by decide) hb, hin.same.fld (x := .PC_RATHI_INT) (by decide) hb]
    rw [hphase hfree b hb (hpaced.trans hpace) (by rw [hsense']; exact hsense), hpc, hsense', hpair]
  · rw [Dev.psBay_congr hin.same (by decide), Dev.emulators_congr hin.same (by decide) (by decide) (by decide)] at hem
    have hemk : e.em k = d.em k := by unfold Dev.em; rw [hin.ems]
    rw [hem hfree k hk, Dev.emFed_congr hin.same (Dev.mem_emulators hk).1 hemk (by decide) (by decide)]

theorem Dev.Comes.of_inputs (hin : Dev.Inputs offs [.PS_STAT_RAW, .PS_STAT_IN, .PS_ERRCNT_SKIP] d e) (hn : n < 8) (h : Dev.Comes n v e f) : Dev.Comes n v d f :=
  ⟨fun hv => (h.kept hv).trans (hin.same.fld (x := .PS_POS_COUNT) (by decide) hn), fun hv => (h.counted hv).of_inputs hin hn⟩

/-- A pin changes nothing of a count. -/
theorem Dev.Comes.pinned (h : Dev.Comes n v d e) (hregs : f.regs = e.regs) (hbays : f.bays = e.bays) (hems : f.ems = e.ems) : Dev.Comes n v d f := by
  have hpos : f.fld .PS_POS_COUNT n = e.fld .PS_POS_COUNT n := Dev.fld_congr hregs _ _ _
  have hpc (b : Nat) : f.pc b = e.pc b := by unfold Dev.pc Dev.bay; rw [hbays]
  have hem (k : Nat) : f.em k = e.em k := by unfold Dev.em; rw [hems]
  refine ⟨fun hv => hpos.trans (h.kept hv), fun hv => ?_⟩
  obtain ⟨hcount, hphase, hback⟩ := h.counted hv
  exact ⟨hpos.trans hcount, fun hfree b => by rw [hpc]; exact hphase hfree b, fun hfree k => by rw [hem]; exact hback hfree k⟩

/-! ## The decoders -/

def Dev.quadDecode (d : Dev) (n o i stamp : Nat) : Dev :=
  match quadStep (d.fld .PS_CFG_QMODE n) (o % 4) (i % 4) with
  | some v => d.delivers n stamp v
  | none => d.bump .PS_ERRCNT_QERR n 0

/-- The count of a step/direction channel (R147). -/
def stepCount (o i : Nat) : Int := if inputChanged o i 0 && i % 2 == 1 then (if i / 2 % 2 == 1 then 1 else -1) else 0

/-- A Hall state that is none (R148). -/
def Dev.hallBad (d : Dev) (n i : Nat) : Dev :=
  let e := (d.setOn .PS_STAT_HALLBAD n 0 true).setFld .PS_STAT_HALLST n 0 i
  let e := e.setPsc n { e.psc n with lastBad := some e.now }
  e.raised (d.on .PS_STAT_HALLBAD n) (e.psBay n) 0x0602 n i (e.psc n).hallLast srcPsInput

/-- A move between Hall states. -/
def Dev.hallMove (d : Dev) (n i stamp : Nat) : Dev :=
  let last := (d.psc n).hallLast
  let e := d.setPsc n { d.psc n with hallLast := i }
  if last = 0 then e
  else
    let (v, skip) := hallStep last i
    (if skip then e.bump .PS_ERRCNT_SKIP n 0 else e).delivers n stamp v

def Dev.hallDecode (d : Dev) (n o i stamp : Nat) : Dev :=
  if i = o then d else if i = 0 || i = 7 then d.hallBad n i else d.hallMove n i stamp

/-- Decoding by type. -/
def Dev.decodes (d : Dev) (n o i stamp : Nat) : Dev :=
  match d.fld .PS_CFG_TYPE n with
  | 0 => d.quadDecode n o i stamp
  | 1 => d.delivers n stamp (stepCount o i)
  | 2 => d.hallDecode n o i stamp
  | _ => d

/-- The rise of Z that a channel with a Z input sees. -/
def Dev.zFollows (d : Dev) (n o i : Nat) : Dev :=
  if d.fld .PS_CFG_TYPE n < 2 && inputChanged o i 2 && i / 4 % 2 == 1 then d.zRise n else d

/-- The stamp of the increment: the first sample at the new levels (R143). -/
def Dev.edgeStamp (d : Dev) (n o i : Nat) : Nat :=
  forN 3 (fun k t => if inputChanged o i k && (k < 2 || d.fld .PS_CFG_TYPE n == 2) then max t (d.seenFrom n k) else t) 0


theorem Dev.positionEdge_eq (d : Dev) (n raw pins : Nat) : d.positionEdge n raw pins =
    let e := (d.notePins n raw).sampled n raw
    let i := e.accept n (Nat.xor (pins % 8) ((d.notePins n raw).fld .PS_CFG_INV n))
    let o := e.fld .PS_STAT_IN n
    ((e.taken n o i).zFollows n o i).decodes n o i (e.edgeStamp n o i) := by
  unfold Dev.positionEdge
  extract_lets d1 inv d2 i o changed since stamp d3 d4 src d6 dz deliver
  have hz : (d2.taken n o i).zFollows n o i = dz := rfl
  have hs : d2.edgeStamp n o i = stamp := rfl
  change _ = ((d2.taken n o i).zFollows n o i).decodes n o i (d2.edgeStamp n o i)
  rw [hz, hs]
  clear_value dz stamp o i
  unfold Dev.decodes
  generalize dz.fld .PS_CFG_TYPE n = t
  rcases t with _ | _ | _ | t <;> rfl

end Sys2Proof.Machine
end

section
/-! PROOFS. What the decoders of a channel count and show, and an edge from its samples to its count (R143, R146, R147, R148). -/

namespace Sys2Proof.Machine

variable {d e f : Dev} {offs : List Nat} {flds : List Fld} {n o i k stamp : Nat} {v : Int}

/-! ## The decoders -/

/-- The fields of a decoder. -/
def decFlds : List Fld := [.PS_ERRCNT_QERR, .PS_ERRCNT_SKIP, .PS_STAT_HALLBAD, .PS_STAT_HALLST] ++ incFlds

/-- A counter of errors of a channel. -/
theorem Dev.bump_error (d : Dev) (hn : n < 8) {x : Fld} (hx : x = .PS_ERRCNT_QERR ∨ x = .PS_ERRCNT_SKIP) :
    Dev.Writes edgeOffs [x] d (d.bump x n 0) ∧ (d.bump x n 0).fld x n = min (d.fld x n + 1) 255 := by
  obtain ⟨-, -, hoff, -⟩ := edgeOffs_channel n hn
  obtain rfl | rfl := hx
  · exact ⟨d.writes_bump List.mem_cons_self (by decide) hn hoff 1, d.fld_bump .PS_ERRCNT_QERR n 0 1 (by decide)⟩
  · exact ⟨d.writes_bump List.mem_cons_self (by decide) hn hoff 1, d.fld_bump .PS_ERRCNT_SKIP n 0 1 (by decide)⟩

theorem Dev.quadDecode_some (h : quadStep (d.fld .PS_CFG_QMODE n) (o % 4) (i % 4) = some v) : d.quadDecode n o i stamp = d.delivers n stamp v := by
  simp only [Dev.quadDecode, h]

theorem Dev.quadDecode_none (h : quadStep (d.fld .PS_CFG_QMODE n) (o % 4) (i % 4) = none) : d.quadDecode n o i stamp = d.bump .PS_ERRCNT_QERR n 0 := by
  simp only [Dev.quadDecode, h]

theorem Dev.quadDecode_moves (d : Dev) (hn : n < 8) (o i stamp : Nat) : Dev.Moves edgeOffs decFlds d (d.quadDecode n o i stamp) := by
  cases hstep : quadStep (d.fld .PS_CFG_QMODE n) (o % 4) (i % 4) with
  | some v =>
    rw [Dev.quadDecode_some hstep]
    exact (d.delivers_moves hn stamp v).mono fun y hy => List.mem_append_right _ hy
  | none =>
    rw [Dev.quadDecode_none hstep]
    exact (d.bump_error hn (.inl rfl)).1.moves.mono (by decide)

theorem Dev.hallBad_spec (d : Dev) (hn : n < 8) (i : Nat) : Dev.Moves edgeOffs [.PS_STAT_HALLBAD, .PS_STAT_HALLST] d (d.hallBad n i) ∧
    (d.hallBad n i).on .PS_STAT_HALLBAD n = true ∧ ((d.hallBad n i).psc n).hallLast = (d.psc n).hallLast ∧
    ∃ g ∈ (d.hallBad n i).fc.sigs, g.source = srcPsInput ∧ g.unit = n := by
  obtain ⟨hoff, -⟩ := edgeOffs_channel n hn
  have hset := d.writes_setOn (y := .PS_STAT_HALLBAD) (offs := edgeOffs) (flds := [.PS_STAT_HALLBAD, .PS_STAT_HALLST]) (by decide) (by decide) hn hoff true
  have hon := d.on_setOn .PS_STAT_HALLBAD n 0 true (by decide) (by decide)
  unfold Dev.hallBad
  dsimp only
  generalize d.setOn .PS_STAT_HALLBAD n 0 true = e at hset hon
  have hput (flds : List Fld) (hin : .PS_STAT_HALLST ∈ flds) := e.writes_setFld (y := .PS_STAT_HALLST) (offs := edgeOffs) (flds := flds) hin (by decide) hn hoff i
  have hboth := hset.trans (hput _ (by decide))
  have hon' := ((hput [.PS_STAT_HALLST] (by decide)).same.on (x := .PS_STAT_HALLBAD) (by decide) hn).trans hon
  generalize e.setFld .PS_STAT_HALLST n 0 i = e at hboth hon'
  have hlast := congrArg PsChan.hallLast (e.psc_setPsc n { e.psc n with lastBad := some e.now })
  have hmove := e.moves_setPsc n { e.psc n with lastBad := some e.now } (offs := edgeOffs) (flds := [.PS_STAT_HALLBAD, .PS_STAT_HALLST])
  have hon'' : (e.setPsc n { e.psc n with lastBad := some e.now }).on .PS_STAT_HALLBAD n = true := hon'
  generalize e.setPsc n { e.psc n with lastBad := some e.now } = f at hlast hmove hon''
  have hraise (flds : List Fld) := f.raised_writes (d.on .PS_STAT_HALLBAD n) (f.psBay n) 0x0602 n i (f.psc n).hallLast srcPsInput (offs := edgeOffs) (flds := flds)
  obtain ⟨g, hg, hsource, hunit, -⟩ := f.raised_tells (d.on .PS_STAT_HALLBAD n) (f.psBay n) 0x0602 n i (f.psc n).hallLast srcPsInput
  refine ⟨(hboth.moves.trans hmove).trans (hraise _).moves, ((hraise []).same.on (x := .PS_STAT_HALLBAD) (by decide) hn).trans hon'', ?_, g, hg, hsource, hunit⟩
  rw [(hraise []).psc, hlast, hboth.psc]

/-- A move from a Hall state counts its step, and a skip beside it. -/
theorem Dev.hallMove_spec (d : Dev) (hn : n < 8) (i stamp : Nat) : Dev.Moves edgeOffs decFlds d (d.hallMove n i stamp) ∧
    ((d.psc n).hallLast ≠ 0 → Dev.Comes n (hallStep (d.psc n).hallLast i).1 d (d.hallMove n i stamp) ∧
      ((hallStep (d.psc n).hallLast i).2 = true → (d.hallMove n i stamp).fld .PS_ERRCNT_SKIP n = min (d.fld .PS_ERRCNT_SKIP n + 1) 255)) := by
  have hset : Dev.Inputs edgeOffs [.PS_STAT_RAW, .PS_STAT_IN, .PS_ERRCNT_SKIP] d (d.setPsc n { d.psc n with hallLast := i }) :=
    Dev.inputs_of_unsampled (d.unsampled_setPsc n _)
  have hmove := d.moves_setPsc n { d.psc n with hallLast := i } (offs := edgeOffs) (flds := decFlds)
  have hskipped : (d.setPsc n { d.psc n with hallLast := i }).fld .PS_ERRCNT_SKIP n = d.fld .PS_ERRCNT_SKIP n := rfl
  unfold Dev.hallMove
  dsimp only
  generalize d.setPsc n { d.psc n with hallLast := i } = e at hset hmove hskipped
  split
  next hzero => exact ⟨hmove, fun hne => absurd hzero hne⟩
  · obtain ⟨hbump, hcount⟩ := e.bump_error hn (.inr rfl : Fld.PS_ERRCNT_SKIP = .PS_ERRCNT_QERR ∨ Fld.PS_ERRCNT_SKIP = .PS_ERRCNT_SKIP)
    generalize hallStep (d.psc n).hallLast i = step
    obtain ⟨v, skip⟩ := step
    cases skip with
    | false => exact ⟨hmove.trans ((e.delivers_moves hn stamp v).mono fun y hy => List.mem_append_right _ hy),
        fun _ => ⟨(e.delivers_comes hn stamp v).of_inputs hset hn, fun hskip => absurd hskip Bool.false_ne_true⟩⟩
    | true =>
      have hdeliver := (e.bump .PS_ERRCNT_SKIP n 0).delivers_moves hn stamp v
      refine ⟨(hmove.trans (hbump.moves.mono (by decide))).trans (hdeliver.mono fun y hy => List.mem_append_right _ hy), fun _ => ⟨?_, fun _ => ?_⟩⟩
      · exact ((e.bump .PS_ERRCNT_SKIP n 0).delivers_comes hn stamp v).of_inputs (hset.trans (hbump.inputs.mono (fun _ ho => ho) (by decide))) hn
      · rw [← hskipped, ← hcount]
        exact hdeliver.same.fld (x := .PS_ERRCNT_SKIP) (by decide) hn

theorem Dev.hallDecode_bad (hne : i ≠ o) (hbad : i = 0 ∨ i = 7) : d.hallDecode n o i stamp = d.hallBad n i := by
  unfold Dev.hallDecode
  rw [if_neg hne, if_pos (by simpa using hbad)]

theorem Dev.hallDecode_good (hne : i ≠ o) (hgood : i ≠ 0 ∧ i ≠ 7) : d.hallDecode n o i stamp = d.hallMove n i stamp := by
  unfold Dev.hallDecode
  rw [if_neg hne, if_neg (by simpa using hgood)]

theorem Dev.hallDecode_moves (d : Dev) (hn : n < 8) (o i stamp : Nat) : Dev.Moves edgeOffs decFlds d (d.hallDecode n o i stamp) := by
  unfold Dev.hallDecode
  split
  · exact .refl _ _ d
  · split
    · exact (d.hallBad_spec hn i).1.mono (by decide)
    · exact (d.hallMove_spec hn i stamp).1

theorem Dev.decodes_quad (h : d.fld .PS_CFG_TYPE n = 0) : d.decodes n o i stamp = d.quadDecode n o i stamp := by
  simp only [Dev.decodes, h]

theorem Dev.decodes_step (h : d.fld .PS_CFG_TYPE n = 1) : d.decodes n o i stamp = d.delivers n stamp (stepCount o i) := by
  simp only [Dev.decodes, h]

theorem Dev.decodes_hall (h : d.fld .PS_CFG_TYPE n = 2) : d.decodes n o i stamp = d.hallDecode n o i stamp := by
  simp only [Dev.decodes, h]

theorem Dev.decodes_moves (d : Dev) (hn : n < 8) (o i stamp : Nat) : Dev.Moves edgeOffs decFlds d (d.decodes n o i stamp) := by
  unfold Dev.decodes
  split
  · exact d.quadDecode_moves hn o i stamp
  · exact (d.delivers_moves hn stamp _).mono fun y hy => List.mem_append_right _ hy
  · exact d.hallDecode_moves hn o i stamp
  · exact .refl _ _ d

/-! ## Their tables -/

theorem quadStep_of_le {q : Nat} (hq : 2 ≤ q) (o i : Nat) : quadStep q o i = quadStep 2 o i := by
  have hzero : q ≠ 0 := by omega
  have hone : q ≠ 1 := by omega
  simp [quadStep, hzero, hone]

/-- A state of the cycle 00, 10, 11, 01 stays, goes to the next, goes to the previous, or goes two (R146). -/
theorem quadStep_states (q : Nat) (k : Fin 4) :
    quadStep q ([0, 1, 3, 2].getD k 0) ([0, 1, 3, 2].getD k 0) = some 0 ∧
    quadStep q ([0, 1, 3, 2].getD k 0) ([1, 3, 2, 0].getD k 0) =
      some (if q = 0 then (if k.val = 0 then 1 else 0) else if q = 1 then (if k.val % 2 = 0 then 1 else 0) else 1) ∧
    quadStep q ([0, 1, 3, 2].getD k 0) ([2, 0, 1, 3].getD k 0) =
      some (if q = 0 then (if k.val = 3 then -1 else 0) else if q = 1 then (if k.val % 2 = 1 then -1 else 0) else -1) ∧
    quadStep q ([0, 1, 3, 2].getD k 0) ([3, 2, 0, 1].getD k 0) = none := by
  obtain rfl | rfl | hq : q = 0 ∨ q = 1 ∨ 2 ≤ q := by omega
  · revert k; decide
  · revert k; decide
  · simp only [quadStep_of_le hq, if_neg (by omega : ¬ q = 0), if_neg (by omega : ¬ q = 1)]
    revert k; decide

/-- A state of the cycle 1, 3, 2, 6, 4, 5 goes to each of the others (R148). -/
theorem hallStep_states (k : Fin 6) :
    hallStep ([1, 3, 2, 6, 4, 5].getD k 0) ([3, 2, 6, 4, 5, 1].getD k 0) = (1, false) ∧
    hallStep ([1, 3, 2, 6, 4, 5].getD k 0) ([5, 1, 3, 2, 6, 4].getD k 0) = (-1, false) ∧
    hallStep ([1, 3, 2, 6, 4, 5].getD k 0) ([2, 6, 4, 5, 1, 3].getD k 0) = (2, true) ∧
    hallStep ([1, 3, 2, 6, 4, 5].getD k 0) ([4, 5, 1, 3, 2, 6].getD k 0) = (-2, true) ∧
    hallStep ([1, 3, 2, 6, 4, 5].getD k 0) ([6, 4, 5, 1, 3, 2].getD k 0) = (0, true) := by
  revert k; decide

/-! ## From the samples to the count -/

/-- A channel's Z does not rise, or is not looked at. -/
def Dev.zStill (d : Dev) (n o i : Nat) : Prop := d.fld .PS_CFG_TYPE n = 2 ∨ o / 2 ^ 2 % 2 = 1 ∨ i / 2 ^ 2 % 2 = 0

theorem Dev.zFollows_of_still (h : d.zStill n o i) : d.zFollows n o i = d := by
  refine if_neg fun hrise => ?_
  simp only [inputChanged, Bool.and_eq_true, decide_eq_true_eq, bne_iff_ne, beq_iff_eq] at hrise
  unfold Dev.zStill at h
  omega

theorem Dev.zFollows_moves (d : Dev) (hn : n < 8) (o i : Nat) : Dev.Moves edgeOffs zFlds d (d.zFollows n o i) := by
  obtain ⟨hstat, hpos, -, hlat⟩ := edgeOffs_channel n hn
  unfold Dev.zFollows
  split
  · obtain ⟨hregs, hsame, hground⟩ := d.zRise_moves hn
    exact ⟨hregs.mono (by simp [zOffs, hstat, hpos, hlat]), hsame, hground⟩
  · exact .refl _ _ d

/-- What an edge at a channel does before it counts. -/
structure Dev.Edges (n r i : Nat) (d e : Dev) : Prop where
  regs : d.regsBut edgeOffs e
  tbl : e.tbl = d.tbl
  fs : e.fs = d.fs
  raw : e.fld .PS_STAT_RAW n = r
  input : e.fld .PS_STAT_IN n = i
  counts : d.zStill n (d.fld .PS_STAT_IN n) i → ∃ (c : Dev) (stamp : Nat), Dev.Inputs edgeOffs [.PS_STAT_RAW, .PS_STAT_IN] d c ∧
    (d.fld .PS_CFG_TYPE n = 2 → (c.psc n).hallLast = (d.psc n).hallLast) ∧ e = c.decodes n (d.fld .PS_STAT_IN n) i stamp

/-- The levels of pins after inversion, the device that has sampled them, and the levels that it accepts. -/
def Dev.levelsAt (d : Dev) (n pins : Nat) : Nat := Nat.xor pins (d.fld .PS_CFG_INV n)
def Dev.sampledAt (d : Dev) (n raw : Nat) : Dev := (d.notePins n raw).rawLevels n (d.levelsAt n raw)
def Dev.acceptedAt (d : Dev) (n raw pins : Nat) : Nat := (d.sampledAt n raw).accept n (d.levelsAt n pins)

theorem Dev.levelsAt_lt (d : Dev) (n : Nat) {pins : Nat} (h : pins < 8) : d.levelsAt n pins < 8 := xor_lt_eight h (d.fld_lt .PS_CFG_INV n 0)

theorem Dev.positionEdge_decodes (d : Dev) (n : Nat) {raw pins : Nat} (hraw : raw < 8) (hpins : pins < 8) : d.positionEdge n raw pins =
    (((d.sampledAt n raw).taken n ((d.sampledAt n raw).fld .PS_STAT_IN n) (d.acceptedAt n raw pins)).zFollows n
      ((d.sampledAt n raw).fld .PS_STAT_IN n) (d.acceptedAt n raw pins)).decodes n ((d.sampledAt n raw).fld .PS_STAT_IN n) (d.acceptedAt n raw pins)
      ((d.sampledAt n raw).edgeStamp n ((d.sampledAt n raw).fld .PS_STAT_IN n) (d.acceptedAt n raw pins)) := by
  rw [Dev.positionEdge_eq]
  unfold Dev.sampled
  rw [Nat.mod_eq_of_lt hraw, Nat.mod_eq_of_lt hpins]
  rfl

theorem Dev.sampledAt_spec (d : Dev) (hn : n < 8) {raw : Nat} (hraw : raw < 8) :
    Dev.Inputs [RegName.off .PS_STAT n 0] [.PS_STAT_RAW] d (d.sampledAt n raw) ∧
    (d.sampledAt n raw).fld .PS_STAT_RAW n = d.levelsAt n raw ∧ ((d.sampledAt n raw).psc n).hallLast = (d.psc n).hallLast := by
  obtain ⟨hin, hr, hpsc⟩ := (d.notePins n raw).rawLevels_spec hn (d.levelsAt_lt n hraw)
  exact ⟨(Dev.inputs_of_unsampled (d.unsampled_notePins n raw)).trans hin, hr, by rw [Dev.sampledAt, hpsc]; rfl⟩

theorem Dev.positionEdge_edges (d : Dev) (hn : n < 8) {raw pins : Nat} (hraw : raw < 8) (hpins : pins < 8) :
    Dev.Edges n (d.levelsAt n raw) (d.acceptedAt n raw pins) d (d.positionEdge n raw pins) := by
  obtain ⟨hoff, -⟩ := edgeOffs_channel n hn
  obtain ⟨hsampled, hraw', hlast⟩ := d.sampledAt_spec hn hraw
  have hi : d.acceptedAt n raw pins < 8 := ((d.sampledAt n raw).accept_spec n _).1
  have ho : (d.sampledAt n raw).fld .PS_STAT_IN n = d.fld .PS_STAT_IN n := hsampled.same.fld (x := .PS_STAT_IN) (by decide) hn
  rw [d.positionEdge_decodes n hraw hpins, ho]
  generalize d.acceptedAt n raw pins = i at hi
  generalize (d.sampledAt n raw).edgeStamp n (d.fld .PS_STAT_IN n) i = stamp
  obtain ⟨htaken, hinput, hlast'⟩ := (d.sampledAt n raw).taken_spec hn (d.fld .PS_STAT_IN n) hi
  have htype : (d.sampledAt n raw).fld .PS_CFG_TYPE n = d.fld .PS_CFG_TYPE n := hsampled.same.fld (x := .PS_CFG_TYPE) (by decide) hn
  have hraw'' := (htaken.same.fld (x := .PS_STAT_RAW) (by decide) hn).trans hraw'
  rw [hlast, htype] at hlast'
  generalize d.sampledAt n raw = g at hsampled htaken hinput hlast' hraw''
  generalize g.taken n (d.fld .PS_STAT_IN n) i = c at htaken hinput hlast' hraw''
  have hin : Dev.Inputs edgeOffs [.PS_STAT_RAW, .PS_STAT_IN] d c :=
    (hsampled.mono (by simp [hoff]) (by decide)).trans (htaken.mono (by simp [hoff]) (by decide))
  have hz := c.zFollows_moves hn (d.fld .PS_STAT_IN n) i
  have hdec := (c.zFollows n (d.fld .PS_STAT_IN n) i).decodes_moves hn (d.fld .PS_STAT_IN n) i stamp
  refine ⟨(hin.regs.trans hz.regs).trans hdec.regs, (hdec.tbl.trans hz.tbl).trans hin.tbl, (hdec.fs.trans hz.fs).trans hin.fs,
    (hdec.same.fld (x := .PS_STAT_RAW) (by decide) hn).trans ((hz.same.fld (x := .PS_STAT_RAW) (by decide) hn).trans hraw''),
    (hdec.same.fld (x := .PS_STAT_IN) (by decide) hn).trans ((hz.same.fld (x := .PS_STAT_IN) (by decide) hn).trans hinput), fun hstill => ?_⟩
  have htype' : c.fld .PS_CFG_TYPE n = d.fld .PS_CFG_TYPE n := hin.same.fld (x := .PS_CFG_TYPE) (by decide) hn
  refine ⟨c, stamp, hin, hlast', ?_⟩
  rw [Dev.zFollows_of_still (by unfold Dev.zStill; rw [htype']; exact hstill)]

end Sys2Proof.Machine
end

section
/-! PROOFS. An edge at a channel as the statement about the encoders gives it (R143, R146, R147, R148, R152, R156). -/

namespace Sys2Proof.Machine

variable {d e f : Dev} {n i k r : Nat} {v : Int}

/-! ## The levels that the filter accepts -/

theorem bit_beq_eq_iff (a b k : Nat) : ((a / 2 ^ k % 2 == 1) = (b / 2 ^ k % 2 == 1)) ↔ a / 2 ^ k % 2 = b / 2 ^ k % 2 := by
  rw [Bool.eq_iff_iff, beq_iff_eq, beq_iff_eq]
  omega

theorem Dev.acceptedAt_bit (d : Dev) (hn : n < 8) {raw : Nat} (hraw : raw < 8) (pins : Nat) (hk : k < 3) :
    (d.acceptedAt n raw pins / 2 ^ k % 2 == 1) =
      if Nat.testBit raw k = Nat.testBit pins k ∧
        (if d.fbit .PS_STAT_RAW n 0 k = (d.levelsAt n raw / 2 ^ k % 2 == 1) then d.filtered n k = true else d.fld .PS_CFG_FILT n = 0)
      then (d.levelsAt n raw / 2 ^ k % 2 == 1) else d.fbit .PS_STAT_IN n 0 k := by
  refine ((d.notePins n raw).accept_bit hn (d.levelsAt_lt n hraw) (d.levelsAt n pins) hk).trans (if_congr (and_congr ?_ ?_) rfl rfl)
  · exact bit_xor_eq_iff raw pins (d.fld .PS_CFG_INV n) k
  · exact Iff.of_eq (if_congr (bit_beq_eq_iff _ _ k).symm rfl rfl)

/-! ## What the decoders count -/

section
variable (h : Dev.Edges n r i d e) (hn : n < 8)
include h hn

theorem Dev.Edges.quad (htype : d.fld .PS_CFG_TYPE n = 0) (hstill : d.zStill n (d.fld .PS_STAT_IN n) i)
    (hstep : quadStep (d.fld .PS_CFG_QMODE n) (d.fld .PS_STAT_IN n % 4) (i % 4) = some v) : Dev.Comes n v d e := by
  obtain ⟨c, stamp, hin, -, heq⟩ := h.counts hstill
  rw [heq, Dev.decodes_quad ((hin.same.fld (x := .PS_CFG_TYPE) (by decide) hn).trans htype),
    Dev.quadDecode_some (by rw [hin.same.fld (x := .PS_CFG_QMODE) (by decide) hn]; exact hstep)]
  exact (c.delivers_comes hn stamp v).of_inputs (hin.mono (fun _ ho => ho) (by decide)) hn

theorem Dev.Edges.quad_error (htype : d.fld .PS_CFG_TYPE n = 0) (hstill : d.zStill n (d.fld .PS_STAT_IN n) i)
    (hstep : quadStep (d.fld .PS_CFG_QMODE n) (d.fld .PS_STAT_IN n % 4) (i % 4) = none) :
    e.fld .PS_POS_COUNT n = d.fld .PS_POS_COUNT n ∧ e.fld .PS_ERRCNT_QERR n = min (d.fld .PS_ERRCNT_QERR n + 1) 255 := by
  obtain ⟨c, stamp, hin, -, heq⟩ := h.counts hstill
  obtain ⟨hput, hcount⟩ := c.bump_error hn (.inl rfl : Fld.PS_ERRCNT_QERR = .PS_ERRCNT_QERR ∨ Fld.PS_ERRCNT_QERR = .PS_ERRCNT_SKIP)
  rw [heq, Dev.decodes_quad ((hin.same.fld (x := .PS_CFG_TYPE) (by decide) hn).trans htype),
    Dev.quadDecode_none (by rw [hin.same.fld (x := .PS_CFG_QMODE) (by decide) hn]; exact hstep), hcount,
    hput.same.fld (x := .PS_POS_COUNT) (by decide) hn, hin.same.fld (x := .PS_POS_COUNT) (by decide) hn, hin.same.fld (x := .PS_ERRCNT_QERR) (by decide) hn]
  exact ⟨rfl, rfl⟩

theorem Dev.Edges.step (htype : d.fld .PS_CFG_TYPE n = 1) (hstill : d.zStill n (d.fld .PS_STAT_IN n) i) :
    Dev.Comes n (stepCount (d.fld .PS_STAT_IN n) i) d e := by
  obtain ⟨c, stamp, hin, -, heq⟩ := h.counts hstill
  rw [heq, Dev.decodes_step ((hin.same.fld (x := .PS_CFG_TYPE) (by decide) hn).trans htype)]
  exact (c.delivers_comes hn stamp _).of_inputs (hin.mono (fun _ ho => ho) (by decide)) hn

theorem Dev.Edges.hall (htype : d.fld .PS_CFG_TYPE n = 2) (hne : i ≠ d.fld .PS_STAT_IN n) (hgood : i ≠ 0 ∧ i ≠ 7) (hlast : (d.psc n).hallLast ≠ 0) :
    Dev.Comes n (hallStep (d.psc n).hallLast i).1 d e ∧
      ((hallStep (d.psc n).hallLast i).2 = true → e.fld .PS_ERRCNT_SKIP n = min (d.fld .PS_ERRCNT_SKIP n + 1) 255) := by
  obtain ⟨c, stamp, hin, hsame, heq⟩ := h.counts (.inl htype)
  obtain ⟨-, hmove⟩ := c.hallMove_spec hn i stamp
  rw [hsame htype, hin.same.fld (x := .PS_ERRCNT_SKIP) (by decide) hn] at hmove
  rw [heq, Dev.decodes_hall ((hin.same.fld (x := .PS_CFG_TYPE) (by decide) hn).trans htype), Dev.hallDecode_good hne hgood]
  obtain ⟨hcomes, hskip⟩ := hmove hlast
  exact ⟨hcomes.of_inputs (hin.mono (fun _ ho => ho) (by decide)) hn, hskip⟩

theorem Dev.Edges.hall_bad (htype : d.fld .PS_CFG_TYPE n = 2) (hne : i ≠ d.fld .PS_STAT_IN n) (hbad : i = 0 ∨ i = 7) :
    e.fld .PS_POS_COUNT n = d.fld .PS_POS_COUNT n ∧ e.on .PS_STAT_HALLBAD n = true ∧ (e.psc n).hallLast = (d.psc n).hallLast ∧
      ∃ g ∈ e.fc.sigs, g.source = srcPsInput ∧ g.unit = n := by
  obtain ⟨c, stamp, hin, hsame, heq⟩ := h.counts (.inl htype)
  obtain ⟨hmoves, hon, hlast, htell⟩ := c.hallBad_spec hn i
  rw [heq, Dev.decodes_hall ((hin.same.fld (x := .PS_CFG_TYPE) (by decide) hn).trans htype), Dev.hallDecode_bad hne hbad]
  exact ⟨(hmoves.same.fld (x := .PS_POS_COUNT) (by decide) hn).trans (hin.same.fld (x := .PS_POS_COUNT) (by decide) hn), hon,
    hlast.trans (hsame htype), htell⟩

end

/-- A step is one where the step input rises, up while the direction is high (R147). -/
theorem stepCount_rise {o i : Nat} (ho : o / 2 ^ 0 % 2 = 0) (hi : i / 2 ^ 0 % 2 = 1) : stepCount o i = if i / 2 ^ 1 % 2 = 1 then 1 else -1 := by
  simp only [Nat.pow_zero, Nat.div_one, pow_one] at ho hi ⊢
  simp [stepCount, inputChanged, ho, hi]

theorem stepCount_still {o i : Nat} (h : o / 2 ^ 0 % 2 = 1 ∨ i / 2 ^ 0 % 2 = 0) : stepCount o i = 0 := by
  simp only [Nat.pow_zero, Nat.div_one] at h
  simp only [stepCount, inputChanged, Nat.pow_zero, Nat.div_one, Bool.and_eq_true, bne_iff_ne, beq_iff_eq]
  exact if_neg (by omega)

/-! ## The instructions -/

theorem exec_positionEdge (n raw pins : Fin 8) (s : State) : exec (.positionEdge n raw pins) s =
    .next { s with dev := if !s.dev.running then s.dev.notePins n raw
      else if (s.dev.psBay n).isSome then (s.dev.positionEdge n raw pins).psPin n else (s.dev.notePins n raw).psLevels n raw pins } := rfl

theorem positionEdge_decodes (n raw pins : Fin 8) {s : State} (hrun : s.dev.running = true) (hbay : (s.dev.psBay n).isSome = true) :
    exec (.positionEdge n raw pins) s = .next { s with dev := (s.dev.positionEdge n raw pins).psPin n } := by
  rw [exec_positionEdge, hrun, if_neg (by decide), if_pos hbay]

theorem positionEdge_shows (n raw pins : Fin 8) {s : State} (hrun : s.dev.running = true) (hbay : s.dev.psBay n = none) :
    exec (.positionEdge n raw pins) s = .next { s with dev := (s.dev.notePins n raw).psLevels n raw pins } := by
  rw [exec_positionEdge, hrun, if_neg (by decide), if_neg (by simp [hbay])]

theorem positionEdge_notes (n raw pins : Fin 8) {s : State} (hrun : s.dev.running = false) :
    exec (.positionEdge n raw pins) s = .next { s with dev := s.dev.notePins n raw } := by
  rw [exec_positionEdge, hrun, if_pos (by decide)]

/-- A channel that decodes nothing shows its levels. -/
theorem Dev.psLevels_spec (d : Dev) (hn : n < 8) {raw pins : Nat} (hraw : raw < 8) (hpins : pins < 8) :
    ((d.notePins n raw).psLevels n raw pins).out = d.out ∧ d.regsBut [RegName.off .PS_STAT n 0] ((d.notePins n raw).psLevels n raw pins) ∧
    ((d.notePins n raw).psLevels n raw pins).fld .PS_STAT_IN n = d.levelsAt n pins ∧
    ((d.notePins n raw).psLevels n raw pins).fld .PS_STAT_RAW n = d.levelsAt n raw := by
  have hregs : ((d.notePins n raw).psLevels n raw pins).regs =
      ((d.setFld .PS_STAT_IN n 0 (d.levelsAt n pins)).setFld .PS_STAT_RAW n 0 (d.levelsAt n raw)).regs := by
    unfold Dev.psLevels
    rw [Nat.mod_eq_of_lt hraw, Nat.mod_eq_of_lt hpins]
    rfl
  have hin := d.writes_setFld (y := .PS_STAT_IN) (offs := [RegName.off .PS_STAT n 0]) (flds := [.PS_STAT_IN]) List.mem_cons_self (by decide) hn
    List.mem_cons_self (d.levelsAt n pins)
  have hin' := (d.fld_setFld .PS_STAT_IN n 0 (d.levelsAt n pins) (by decide)).trans (Nat.mod_eq_of_lt (d.levelsAt_lt n hpins))
  have hout : ((d.notePins n raw).psLevels n raw pins).out = d.out := rfl
  generalize (d.notePins n raw).psLevels n raw pins = f at hregs hout
  generalize d.setFld .PS_STAT_IN n 0 (d.levelsAt n pins) = e at hregs hin hin'
  have hraw' := e.writes_setFld (y := .PS_STAT_RAW) (offs := [RegName.off .PS_STAT n 0]) (flds := [.PS_STAT_RAW]) List.mem_cons_self (by decide) hn
    List.mem_cons_self (d.levelsAt n raw)
  refine ⟨hout, (hin.regs.trans hraw'.regs).of_regs hregs, ?_, ?_⟩
  · rw [Dev.fld_congr hregs]
    exact (hraw'.same.fld (x := .PS_STAT_IN) (by decide) hn).trans hin'
  · rw [Dev.fld_congr hregs, e.fld_setFld .PS_STAT_RAW n 0 _ (by decide)]
    exact Nat.mod_eq_of_lt (d.levelsAt_lt n hraw)

/-! ## An edge at a channel in a bay -/

/-- What the statement says of the count of a channel that an edge does not count at, and of one that it counts at by `v`. -/
def Dev.countKept (n : Fin 8) (d e : Dev) : Prop := e.fld .PS_POS_COUNT n = d.fld .PS_POS_COUNT n

def Dev.countMoved (n : Fin 8) (d e : Dev) (v : Int) : Prop :=
  e.fld .PS_POS_COUNT n = (if d.psFenced n then d.fld .PS_POS_COUNT n
    else enc 32 (if d.on .PS_CFG_WRAP n then d.sfld .PS_POS_COUNT n + v
      else clampInt (d.sfld .PS_LIMLO_LIM n) (d.sfld .PS_LIMHI_LIM n) (d.sfld .PS_POS_COUNT n + v))) ∧
  (d.psFenced n = false →
    (∀ b : Fin 4, d.pacedBy n = some b.val → d.fld .PC_CTL_SENSE b < 2 → (e.pc b).p = (d.pc b).p +
      (if d.fld .PC_CTL_SENSE b = 1 then -v else v) * d.pair .PC_RATLO_FRAC .PC_RATHI_INT b) ∧
    ∀ k : Fin 4, k.val ∈ d.emulators n (d.psBay n) → (e.em k).k = ((d.emulate k v).em k).k)

theorem Dev.Counted.moved {n : Fin 8} (h : Dev.Counted n v d f) : Dev.countMoved n d f v := by
  obtain ⟨hcount, hphase, hem⟩ := h
  refine ⟨hcount, fun hfree => ⟨fun b => hphase hfree b b.isLt, fun k hk => ?_⟩⟩
  rw [Dev.emulate_em d k.isLt]
  exact hem hfree k hk

theorem Dev.Comes.moved {n : Fin 8} (h : Dev.Comes n v d f) (hv : v ≠ 0) : Dev.countMoved n d f v := (h.counted hv).moved

/-- The cycle of the Hall states, from each of them on. -/
def hallCycles : List (List Nat) := [[1, 3, 2, 6, 4, 5], [3, 2, 6, 4, 5, 1], [5, 1, 3, 2, 6, 4], [2, 6, 4, 5, 1, 3], [4, 5, 1, 3, 2, 6], [6, 4, 5, 1, 3, 2]]

theorem hallCycles_valid : ∀ (k : Fin 6), ∀ l ∈ hallCycles, l.getD k 0 ≠ 0 ∧ l.getD k 0 ≠ 7 := by decide

/-- `f` is `e` with a pin of the channel as its register gives it. -/
structure Dev.Pinned (n : Nat) (e f : Dev) : Prop where
  regs : f.regs = e.regs
  bays : f.bays = e.bays
  ems : f.ems = e.ems
  sigs : f.fc.sigs = e.fc.sigs
  last : (f.psc n).hallLast = (e.psc n).hallLast

theorem Dev.psPin_pinned (d : Dev) (n : Nat) : Dev.Pinned n d (d.psPin n) := by
  obtain ⟨hregs, -, hfc, hbays, hems, hpsc⟩ := d.psPin_spec n
  exact ⟨hregs, hbays, hems, by rw [hfc], by rw [hpsc]⟩

theorem Dev.Comes.of_pinned (h : Dev.Comes n v d e) (hpin : Dev.Pinned n e f) : Dev.Comes n v d f := h.pinned hpin.regs hpin.bays hpin.ems

theorem Dev.zStill_of_bits (h : d.fbit .PS_STAT_IN n 0 2 = true ∨ (i / 2 ^ 2 % 2 == 1) = false) : d.zStill n (d.fld .PS_STAT_IN n) i := by
  unfold Dev.zStill
  simp only [Dev.fbit, beq_iff_eq, beq_eq_false_iff_ne] at h
  omega

section
variable {n : Fin 8} (h : Dev.Edges n r i d e) (hpin : Dev.Pinned n e f)
include h hpin

/-- A quadrature channel (R146). -/
theorem Dev.Edges.quad_moves (htype : d.fld .PS_CFG_TYPE n = 0) (hstill : d.zStill n (d.fld .PS_STAT_IN n) i) (k : Fin 4)
    (ho : d.fld .PS_STAT_IN n % 4 = [0, 1, 3, 2].getD k 0) :
    (i % 4 = d.fld .PS_STAT_IN n % 4 → Dev.countKept n d f) ∧
    (i % 4 = [1, 3, 2, 0].getD k 0 →
      if d.fld .PS_CFG_QMODE n = 0 then (if k.val = 0 then Dev.countMoved n d f 1 else Dev.countKept n d f)
      else if d.fld .PS_CFG_QMODE n = 1 then (if k.val % 2 = 0 then Dev.countMoved n d f 1 else Dev.countKept n d f) else Dev.countMoved n d f 1) ∧
    (i % 4 = [2, 0, 1, 3].getD k 0 →
      if d.fld .PS_CFG_QMODE n = 0 then (if k.val = 3 then Dev.countMoved n d f (-1) else Dev.countKept n d f)
      else if d.fld .PS_CFG_QMODE n = 1 then (if k.val % 2 = 1 then Dev.countMoved n d f (-1) else Dev.countKept n d f)
      else Dev.countMoved n d f (-1)) ∧
    (i % 4 = [3, 2, 0, 1].getD k 0 → Dev.countKept n d f ∧ f.fld .PS_ERRCNT_QERR n = min (d.fld .PS_ERRCNT_QERR n + 1) 255) := by
  obtain ⟨hsame, hnext, hprev, htwo⟩ := quadStep_states (d.fld .PS_CFG_QMODE n) k
  have hcomes (v : Int) (hstep : quadStep (d.fld .PS_CFG_QMODE n) (d.fld .PS_STAT_IN n % 4) (i % 4) = some v) : Dev.Comes n v d f :=
    (h.quad n.isLt htype hstill hstep).of_pinned hpin
  have herror := h.quad_error n.isLt htype hstill
  rw [ho] at hcomes herror ⊢
  refine ⟨fun hi => ?_, fun hi => ?_, fun hi => ?_, fun hi => ?_⟩
  · exact (hcomes 0 (by rw [hi, hsame])).kept rfl
  · have hc := hcomes _ (by rw [hi, hnext])
    split_ifs at hc ⊢
    exacts [hc.moved (by decide), hc.kept rfl, hc.moved (by decide), hc.kept rfl, hc.moved (by decide)]
  · have hc := hcomes _ (by rw [hi, hprev])
    split_ifs at hc ⊢
    exacts [hc.moved (by decide), hc.kept rfl, hc.moved (by decide), hc.kept rfl, hc.moved (by decide)]
  · rw [hi] at herror
    unfold Dev.countKept
    rw [Dev.fld_congr hpin.regs, Dev.fld_congr hpin.regs]
    exact herror htwo

/-- A step/direction channel (R147). -/
theorem Dev.Edges.step_moves (htype : d.fld .PS_CFG_TYPE n = 1) (hstill : d.zStill n (d.fld .PS_STAT_IN n) i) :
    (d.fbit .PS_STAT_IN n 0 0 = false → (i / 2 ^ 0 % 2 == 1) = true →
      if (i / 2 ^ 1 % 2 == 1) = true then Dev.countMoved n d f 1 else Dev.countMoved n d f (-1)) ∧
    (d.fbit .PS_STAT_IN n 0 0 = true ∨ (i / 2 ^ 0 % 2 == 1) = false → Dev.countKept n d f) := by
  have hcomes := (h.step n.isLt htype hstill).of_pinned hpin
  unfold Dev.fbit
  simp only [beq_iff_eq, beq_eq_false_iff_ne]
  refine ⟨fun ho hi => ?_, fun hstay => ?_⟩
  · rw [stepCount_rise (by omega) hi] at hcomes
    split_ifs at hcomes ⊢
    exacts [hcomes.moved (by decide), hcomes.moved (by decide)]
  · exact hcomes.kept (stepCount_still (by omega))

/-- A Hall channel (R148). -/
theorem Dev.Edges.hall_moves (htype : d.fld .PS_CFG_TYPE n = 2) (hne : i ≠ d.fld .PS_STAT_IN n) (k : Fin 6)
    (hlast : (d.psc n).hallLast = [1, 3, 2, 6, 4, 5].getD k 0) :
    (i = [3, 2, 6, 4, 5, 1].getD k 0 → Dev.countMoved n d f 1) ∧
    (i = [5, 1, 3, 2, 6, 4].getD k 0 → Dev.countMoved n d f (-1)) ∧
    (i = [2, 6, 4, 5, 1, 3].getD k 0 → Dev.countMoved n d f 2 ∧ f.fld .PS_ERRCNT_SKIP n = min (d.fld .PS_ERRCNT_SKIP n + 1) 255) ∧
    (i = [4, 5, 1, 3, 2, 6].getD k 0 → Dev.countMoved n d f (-2) ∧ f.fld .PS_ERRCNT_SKIP n = min (d.fld .PS_ERRCNT_SKIP n + 1) 255) ∧
    (i = [6, 4, 5, 1, 3, 2].getD k 0 → Dev.countKept n d f ∧ f.fld .PS_ERRCNT_SKIP n = min (d.fld .PS_ERRCNT_SKIP n + 1) 255) ∧
    (i = 0 ∨ i = 7 → Dev.countKept n d f ∧ f.on .PS_STAT_HALLBAD n = true ∧ (f.psc n).hallLast = (d.psc n).hallLast ∧
      ∃ g ∈ f.fc.sigs, g.source = srcPsInput ∧ g.unit = n.val) := by
  obtain ⟨hnext, hprev, hskip, hback, hopposite⟩ := hallStep_states k
  have hcomes (l : List Nat) (hl : l ∈ hallCycles) (v : Int) (skip : Bool) (hi : i = l.getD k 0)
      (hstep : hallStep ([1, 3, 2, 6, 4, 5].getD k 0) (l.getD k 0) = (v, skip)) :
      Dev.Comes n v d f ∧ (skip = true → f.fld .PS_ERRCNT_SKIP n = min (d.fld .PS_ERRCNT_SKIP n + 1) 255) := by
    have hc := h.hall n.isLt htype hne (hi ▸ hallCycles_valid k l hl) (hlast ▸ (hallCycles_valid k _ List.mem_cons_self).1)
    rw [hlast, hi, hstep] at hc
    exact ⟨hc.1.of_pinned hpin, fun hs => (Dev.fld_congr hpin.regs _ _ _).trans (hc.2 hs)⟩
  refine ⟨fun hi => ?_, fun hi => ?_, fun hi => ?_, fun hi => ?_, fun hi => ?_, fun hi => ?_⟩
  · exact (hcomes _ (by decide) _ _ hi hnext).1.moved (by decide)
  · exact (hcomes _ (by decide) _ _ hi hprev).1.moved (by decide)
  · obtain ⟨hc, hcount⟩ := hcomes _ (by decide) _ _ hi hskip
    exact ⟨hc.moved (by decide), hcount rfl⟩
  · obtain ⟨hc, hcount⟩ := hcomes _ (by decide) _ _ hi hback
    exact ⟨hc.moved (by decide), hcount rfl⟩
  · obtain ⟨hc, hcount⟩ := hcomes _ (by decide) _ _ hi hopposite
    exact ⟨hc.kept rfl, hcount rfl⟩
  · have hbad := h.hall_bad n.isLt htype hne hi
    unfold Dev.countKept
    rw [Dev.fld_congr hpin.regs, Dev.on_congr hpin.regs, hpin.last, hpin.sigs]
    exact hbad

end
end Sys2Proof.Machine
end

section
/-! PROOFS. The statement about the encoders, clause by clause (R143, R146, R147, R148, R151, R152, R156, R159, R168). -/

namespace Sys2Proof.Machine

/-- Settles O36: an edge samples the levels, takes what the filter accepts and lets Z follow; the decoder of the channel's type then comes to
its count by what its table gives, and an increment event carries that to the pacer and to the emulation outputs. -/
theorem encoderCounts : Obligations.EncoderCounts := by
  unfold Obligations.EncoderCounts
  refine ⟨?_, ?_, fun n raw pins s hrun => positionEdge_notes n raw pins hrun, ?_⟩
  · intro n raw pins s hrun hbay
    have hexec := positionEdge_decodes n raw pins hrun hbay
    have hedges := s.dev.positionEdge_edges n.isLt raw.isLt pins.isLt
    have hpin := (s.dev.positionEdge n raw pins).psPin_pinned n
    obtain ⟨-, hground, -⟩ := (s.dev.positionEdge n raw pins).psPin_spec n
    have hbits := fun k : Fin 3 => s.dev.acceptedAt_bit n.isLt raw.isLt pins k.isLt
    generalize (s.dev.positionEdge n raw pins).psPin n = f at hexec hpin hground
    generalize s.dev.positionEdge n raw pins = e at hedges hpin hground
    generalize s.dev.acceptedAt n raw pins = i at hedges hbits
    have hraw : f.fld .PS_STAT_RAW n = s.dev.levelsAt n raw := (Dev.fld_congr hpin.regs _ _ _).trans hedges.raw
    have hinput : f.fld .PS_STAT_IN n = i := (Dev.fld_congr hpin.regs _ _ _).trans hedges.input
    have hbit (k : Nat) : f.fbit .PS_STAT_IN n 0 k = (i / 2 ^ k % 2 == 1) := congrArg (fun v => v / 2 ^ k % 2 == 1) hinput
    have hrawBit (k : Nat) : f.fbit .PS_STAT_RAW n 0 k = (s.dev.levelsAt n raw / 2 ^ k % 2 == 1) := congrArg (fun v => v / 2 ^ k % 2 == 1) hraw
    refine ⟨_, hexec, rfl, rfl, (Dev.of_ground Dev.tbl (fun _ => rfl) hground).trans hedges.tbl,
      (Dev.of_ground Dev.fs (fun _ => rfl) hground).trans hedges.fs, hraw, hedges.regs.of_regs hpin.regs, fun k => ?_, ?_⟩
    · dsimp only
      rw [hbit, hrawBit]
      exact hbits k
    · dsimp only
      rw [hinput, hbit, hbit, hbit]
      exact ⟨fun htype hz k => hedges.quad_moves hpin htype (Dev.zStill_of_bits hz) k,
        fun htype hz => hedges.step_moves hpin htype (Dev.zStill_of_bits hz),
        fun htype hne k => hedges.hall_moves hpin htype hne k⟩
  · intro n raw pins s hrun hbay
    obtain ⟨hout, hregs, hinput, hraw⟩ := s.dev.psLevels_spec n.isLt raw.isLt pins.isLt
    refine ⟨_, positionEdge_shows n raw pins hrun hbay, rfl, rfl, hout, hregs, hinput, hraw, ?_⟩
    rw [exec_zEdge, State.onDev, hbay, Option.isSome_none, Bool.and_false, Bool.false_and, if_neg Bool.false_ne_true]
  · intro n s hrun hbay htype
    have hexec := (exec_zEdge n s).trans (State.onDev_of (by simp [hrun, hbay, htype]) rfl)
    obtain ⟨hregs, htbl, hfs, hinput, hidle, hlatches⟩ := s.dev.zEdge_edges n.isLt
    refine ⟨_, hexec, rfl, rfl, htbl, hfs, hregs, hinput, hidle, fun hmode hfree => ?_⟩
    obtain ⟨hlatch, hseen, hload, hadds, hkeep⟩ := hlatches hmode hfree
    exact ⟨hlatch, hseen, hload, hadds, hkeep⟩

end Sys2Proof.Machine
end
